-- ==== Sys2Proof/Word.lean ====
section
/-! DEFINITION. The plainest number types of the part: bytes of its frames, its wrapping counters and its timers. -/

namespace Sys2Proof

/-- One byte of a frame. -/
abbrev Byte := BitVec 8

/-- A 32-bit counter; it wraps from 4,294,967,295 to 0 (R12, R89, R119, R142, R189). -/
abbrev Counter := BitVec 32

/-- A timer: stopped, or running with this many milliseconds left.
A timer with 0 left is one whose expiry is due; its expiry is a command of the table. -/
abbrev Timer := Option Nat

/-- One millisecond passes for a timer (the timer convention of scope section 7). -/
def tickTimer (t : Timer) : Timer := t.map (fun n => n - 1)

/-- An integer held within two bounds ("clamped", "saturated", scope section 7). -/
def clampInt (lo hi x : Int) : Int := max lo (min hi x)

/-- One of something for each of two named places cannot be mixed up with a list of two. -/
def boolNat (b : Bool) : Nat := if b then 1 else 0

end Sys2Proof
end

