-- ==== Sys2Proof/Syntax.lean ====
section
/-! DEFINITION. The commands of the part, one constructor for each row of spec/opcode_table.json, with their operands.
An event at a pin or a timer carries the place it happens at. A request of the message link carries its tag and its body.
Operands that a request brings over the line are raw numbers of their field's size: a value outside its range can be written
down, and the request's own rule answers it. -/

namespace Sys2Proof

/-- The two sides (scope section 6). Reader port RA is side A's port, RB side B's. -/
inductive Side where
  | a | b
deriving DecidableEq, Repr

/-- The other side. -/
def Side.other : Side → Side
  | .a => .b
  | .b => .a

/-- The two products (scope section 6). -/
inductive Product where
  | lo | hi
deriving DecidableEq, Repr

/-- The other product. -/
def Product.other : Product → Product
  | .lo => .hi
  | .hi => .lo

/-- A meter belongs to one side and one product (scope section 6). -/
structure Meter where
  side : Side
  product : Product
deriving DecidableEq, Repr

/-- The four nozzles of a side (scope section 6). -/
inductive Nozzle where
  | n1 | n2 | n3 | n4
deriving DecidableEq, Repr

/-- The four regions of the main bank (R176). -/
inductive Region where
  | cal | cfg | price | totals
deriving DecidableEq, Repr

/-- What the read-back at the end of a write attempt finds (R178): the image, the contents the region held before the attempt (which the
image may equal), or contents whose CRC does not match. -/
inductive ReadBack where
  | matched | unchanged | damaged
deriving DecidableEq, Repr

/-- A request's body as its kind reads it (R184, R193): of a length its kind does not allow; of an allowed length that its
presence bytes or its form do not account for; or split into its fields. -/
inductive Body (α : Type) where
  | badLength
  | unreadable
  | fields (x : α)
deriving DecidableEq, Repr

/-- Fields of READ_METER (R13). -/
structure ReadMeterFields where
  meter : Nat
  clear : Nat
deriving DecidableEq, Repr

/-- Fields of SET_CALIBRATION (R14). -/
structure CalibrationFields where
  meter : Nat
  weight : Nat
  maxFlow : Nat
deriving DecidableEq, Repr

/-- Fields of QUOTE (R30). -/
structure QuoteFields where
  grade : Nat
  level : Nat
  form : Nat
  value : Nat
deriving DecidableEq, Repr

/-- Fields of STAGE_PRICE (R35). -/
structure StagePriceFields where
  grade : Nat
  level : Nat
  price : Nat
deriving DecidableEq, Repr

/-- A limit as a request carries it: the kind's code and the value (R53). -/
structure LimitFields where
  kind : Nat
  value : Nat
deriving DecidableEq, Repr

/-- Fields of AUTHORIZE (R53); the set of grades has bit n − 1 for grade n (R193). -/
structure AuthorizeFields where
  side : Nat
  reference : Option Nat
  grades : BitVec 8
  level : Nat
  limit : Option LimitFields
deriving DecidableEq, Repr

/-- Fields of SET_NOZZLE_MAP: a side and a grade or 0 (NONE) for each nozzle (R74). -/
structure NozzleMapFields where
  side : Nat
  n1 : Nat
  n2 : Nat
  n3 : Nat
  n4 : Nat
deriving DecidableEq, Repr

/-- Fields of SET_GRADE (R88). -/
structure GradeFields where
  grade : Nat
  share : Nat
  startDuty : Nat
  trim : Nat
deriving DecidableEq, Repr

/-- A side and a clear option (R89). -/
structure SideClearFields where
  side : Nat
  clear : Nat
deriving DecidableEq, Repr

/-- A side and a sale number (R95, R96). -/
structure SaleFields where
  side : Nat
  number : Nat
deriving DecidableEq, Repr

/-- Fields of READ_READER (R142). -/
structure ReadReaderFields where
  port : Nat
  selector : Nat
  clear : Nat
deriving DecidableEq, Repr

/-- Fields of SET_CLASS: a code and the six fields of R130 (R131). -/
structure ClassFields where
  code : Nat
  direction : Nat
  maxBody : Nat
  weight : Nat
  essential : Nat
  asks : Option Nat
  answer : Nat
deriving DecidableEq, Repr

/-- Fields of SEND_TO_READER (R134). -/
structure SendFields where
  port : Nat
  cls : Nat
  tag : Nat
  body : List Byte
deriving DecidableEq, Repr

/-- Fields of SET_SCHEDULE (R161). -/
structure ScheduleFields where
  nightAt : Option Nat
  wakeAt : Option Nat
deriving DecidableEq, Repr

/-- Fields of SET_CONFIG (R190). -/
structure ConfigFields where
  id : Nat
  value : Int
deriving DecidableEq, Repr

/-- What a reset finds at a side's inputs: the reading of its temperature sensor (R114) and the level of its tamper input (R144). -/
structure FoundAtReset where
  reading : Nat
  tamper : Bool
deriving DecidableEq, Repr

/-- The commands of the part: one constructor for each row of spec/opcode_table.json, in the table's order. -/
inductive Instr where
  /-- POWER_ON_RESET (R158): what the reset finds at the inputs of the sides (R114, R144), and whether a slot erase that the power loss
  cut short left its slot reading ERASED (R105). -/
  | powerOnReset (foundA foundB : FoundAtReset) (cutEraseReadsErased : Bool)
  /-- LOADING_END (R159). -/
  | loadingEnd
  /-- RESTART_RESET (R174): what the reset finds at the inputs of the sides (R114, R144). -/
  | restartReset (foundA foundB : FoundAtReset)
  /-- PHASE_LEVEL_TAKEN (R1): the level taken of phase 1 and of phase 2, of each that is taken at this moment. -/
  | phaseLevelTaken (m : Meter) (phase1 phase2 : Option Bool)
  /-- RATE_WINDOW_EXPIRY (R8). -/
  | rateWindowExpiry (m : Meter)
  /-- NOZZLE_LIFT (R50). -/
  | nozzleLift (side : Side) (nozzle : Nozzle)
  /-- NOZZLE_HANG_UP (R49). -/
  | nozzleHangUp (side : Side) (nozzle : Nozzle)
  /-- PRIME_EXPIRY (R66). -/
  | primeExpiry (product : Product)
  /-- AUTHORIZATION_TIMER_EXPIRY (R54). -/
  | authorizationTimerExpiry (side : Side)
  /-- NO_FLOW_EXPIRY (R58). -/
  | noFlowExpiry (side : Side)
  /-- ENDING_QUIET_EXPIRY (R63). -/
  | endingQuietExpiry (side : Side)
  /-- AFTER_FLOW_EXPIRY (R63). -/
  | afterFlowExpiry (side : Side)
  /-- ESTOP_ASSERT (R68). -/
  | estopAssert
  /-- ESTOP_RELEASE (R69). -/
  | estopRelease
  /-- SUPPLY_FAIL_WARNING (R70). -/
  | supplyFailWarning
  /-- SUPPLY_FAIL_RELEASE (R103). -/
  | supplyFailRelease
  /-- TAMPER_ASSERT (R128). -/
  | tamperAssert (port : Side)
  /-- READER_READY (R123). -/
  | readerReady (port : Side)
  /-- READER_READY_LOSS (R127). -/
  | readerReadyLoss (port : Side)
  /-- LINE_LOW_TIMEOUT (R127), and whether a frame was in reception. -/
  | lineLowTimeout (port : Side) (inFrame : Bool)
  /-- READER_STEP_TIMEOUT (R123). -/
  | readerStepTimeout (port : Side)
  /-- BACKOFF_EXPIRY (R125). -/
  | backoffExpiry (port : Side)
  /-- READER_GAP_TIMEOUT (R139). -/
  | readerGapTimeout (port : Side)
  /-- READER_FRAME_OVERLENGTH (R139). -/
  | readerFrameOverlength (port : Side)
  /-- READER_RECORD_DISCARDED (R140): the arrived record, and whether its CHECK matched. -/
  | readerRecordDiscarded (port : Side) (checkGood : Bool) (cls tag : Nat) (body : List Byte)
  /-- ABILITY (R124): revisions (bit n − 1 for revision n), maximum body, features (bit 0 PARTIAL, bit 1 PROMPT). -/
  | ability (port : Side) (tag : Nat) (revisions : BitVec 8) (maxBody : Nat) (features : BitVec 8)
  /-- ADMIT_ACK (R123). -/
  | admitAck (port : Side) (tag : Nat) (revision : Nat)
  /-- AUTH_GRANT (R146); limit kind 0 NONE, 1 MONEY, 2 VOLUME (R195). -/
  | authGrant (port : Side) (tag : Nat) (reference : Nat) (grades : BitVec 8) (limitKind value : Nat)
  /-- AUTH_CANCEL (R148). -/
  | authCancel (port : Side) (tag : Nat) (reference : Nat)
  /-- SALE_CAPTURE (R152). -/
  | saleCapture (port : Side) (tag : Nat) (number reference amount : Nat)
  /-- READER_RECORD (R141). -/
  | readerRecord (port : Side) (cls tag : Nat) (body : List Byte)
  /-- READER_TRANSMISSION_END (R133). -/
  | readerTransmissionEnd (port : Side)
  /-- COMMITTED_REFILL (R137). -/
  | committedRefill (port : Side)
  /-- EXCESS_REFILL (R137). -/
  | excessRefill (port : Side)
  /-- AGING_SCAN (R136). -/
  | agingScan
  /-- REFRESH_EXPIRY (R109). -/
  | refreshExpiry (side : Side)
  /-- DISPLAY_ECHO (R110): the sum check the head echoes. -/
  | displayEcho (side : Side) (sum : Byte)
  /-- ECHO_TIMEOUT (R110). -/
  | echoTimeout (side : Side)
  /-- TEST_PHASE_EXPIRY (R111). -/
  | testPhaseExpiry (side : Side)
  /-- TEMPERATURE_SAMPLE (R114): the 10-bit reading. -/
  | temperatureSample (side : Side) (reading : Nat)
  /-- SUPPLY_GOOD (R166): the side's supply-good input is asserted. -/
  | supplyGood (side : Side)
  /-- SUPPLY_GOOD_LOSS (R171). -/
  | supplyGoodLoss (side : Side)
  /-- SUPPLY_STAGE_TIMEOUT (R166). -/
  | supplyStageTimeout (side : Side)
  /-- PERMIT_HOLD_EXPIRY (R166). -/
  | permitHoldExpiry
  /-- HEAT_MAXIMUM_EXPIRY (R167). -/
  | heatMaximumExpiry (side : Side)
  /-- CHECK_QUIET_EXPIRY (R168). -/
  | checkQuietExpiry (side : Side)
  /-- ADMIT_STAGE_EXPIRY (R169). -/
  | admitStageExpiry (side : Side)
  /-- VERIFY_WAIT_EXPIRY (R170). -/
  | verifyWaitExpiry (side : Side)
  /-- CLOCK_ADVANCE (R160). -/
  | clockAdvance
  /-- WRITE_ATTEMPT_END (R178): what the read-back found. -/
  | writeAttemptEnd (readBack : ReadBack)
  /-- VERIFY_JOB_END (R179). -/
  | verifyJobEnd
  /-- SLOT_WRITE_END (R180). -/
  | slotWriteEnd
  /-- SLOT_ERASE_END (R180). -/
  | slotEraseEnd
  /-- LINK_GAP_TIMEOUT (R183). -/
  | linkGapTimeout
  /-- LINK_BAD_LENGTH (R183). -/
  | linkBadLength
  /-- LINK_BAD_CHECK (R183). -/
  | linkBadCheck
  /-- NON_REQUEST_FRAME (R183). -/
  | nonRequestFrame (kind : Nat)
  /-- UNKNOWN_KIND_REQUEST (R184). -/
  | unknownKindRequest (kind tag : Nat)
  /-- LINK_FRAME_SENT (R186). -/
  | linkFrameSent
  /-- IDENTIFY (R189). -/
  | identify (tag : Nat) (body : Body Unit)
  /-- READ_STATUS (R188). -/
  | readStatus (tag : Nat) (body : Body Unit)
  /-- READ_COUNTERS (R189): the clear option. -/
  | readCounters (tag : Nat) (body : Body Nat)
  /-- SET_CONFIG (R190). -/
  | setConfig (tag : Nat) (body : Body ConfigFields)
  /-- READ_CONFIG (R190): an identifier, or 0 for all. -/
  | readConfig (tag : Nat) (body : Body Nat)
  /-- READ_METER (R13). -/
  | readMeter (tag : Nat) (body : Body ReadMeterFields)
  /-- SET_CALIBRATION (R14), and whether the calibration switch input is found closed. -/
  | setCalibration (tag : Nat) (switchClosed : Bool) (body : Body CalibrationFields)
  /-- QUOTE (R30). -/
  | quote (tag : Nat) (body : Body QuoteFields)
  /-- STAGE_PRICE (R35). -/
  | stagePrice (tag : Nat) (body : Body StagePriceFields)
  /-- COMMIT_PRICES with a form byte other than AT: NOW is 0 (R36). -/
  | commitPricesNow (tag : Nat) (body : Body Nat)
  /-- COMMIT_PRICES AT (R40): the time of day. -/
  | commitPricesAt (tag : Nat) (body : Body Nat)
  /-- READ_PRICES (R43): the selector. -/
  | readPrices (tag : Nat) (body : Body Nat)
  /-- AUTHORIZE (R53). -/
  | authorize (tag : Nat) (body : Body AuthorizeFields)
  /-- CANCEL_AUTH (R54): the side. -/
  | cancelAuth (tag : Nat) (body : Body Nat)
  /-- SUSPEND (R59): the side. -/
  | suspend (tag : Nat) (body : Body Nat)
  /-- RESUME (R60): the side. -/
  | resume (tag : Nat) (body : Body Nat)
  /-- STOP_FILL (R59): the side. -/
  | stopFill (tag : Nat) (body : Body Nat)
  /-- END_SALE (R61): the side. -/
  | endSale (tag : Nat) (body : Body Nat)
  /-- OPEN_SIDE (R72): the side. -/
  | openSide (tag : Nat) (body : Body Nat)
  /-- CLOSE_SIDE (R72): the side. -/
  | closeSide (tag : Nat) (body : Body Nat)
  /-- READ_SIDE (R73): the side. -/
  | readSide (tag : Nat) (body : Body Nat)
  /-- SET_NOZZLE_MAP (R74). -/
  | setNozzleMap (tag : Nat) (body : Body NozzleMapFields)
  /-- SET_GRADE (R88). -/
  | setGrade (tag : Nat) (body : Body GradeFields)
  /-- READ_BLEND (R89). -/
  | readBlend (tag : Nat) (body : Body SideClearFields)
  /-- LIST_SALES (R95): the side. -/
  | listSales (tag : Nat) (body : Body Nat)
  /-- READ_SALE (R95). -/
  | readSale (tag : Nat) (body : Body SaleFields)
  /-- SETTLE_SALE (R96). -/
  | settleSale (tag : Nat) (body : Body SaleFields)
  /-- READ_TOTALS (R99). -/
  | readTotals (tag : Nat) (body : Body Unit)
  /-- READ_DISPLAY (R119): the side. -/
  | readDisplay (tag : Nat) (body : Body Nat)
  /-- ENABLE_READER (R122): the port. -/
  | enableReader (tag : Nat) (body : Body Nat)
  /-- DISABLE_READER (R129): the port. -/
  | disableReader (tag : Nat) (body : Body Nat)
  /-- CLEAR_TAMPER (R128): the port, and whether its tamper input is found asserted. -/
  | clearTamper (tag : Nat) (tamperAsserted : Bool) (body : Body Nat)
  /-- READ_READER (R142), and whether the port's tamper input is found asserted. -/
  | readReader (tag : Nat) (tamperAsserted : Bool) (body : Body ReadReaderFields)
  /-- SET_CLASS (R131). -/
  | setClass (tag : Nat) (body : Body ClassFields)
  /-- DELETE_CLASS (R132): the code. -/
  | deleteClass (tag : Nat) (body : Body Nat)
  /-- SEND_TO_READER (R134). -/
  | sendToReader (tag : Nat) (body : Body SendFields)
  /-- GO_NIGHT (R163). -/
  | goNight (tag : Nat) (body : Body Unit)
  /-- WAKE (R164). -/
  | wake (tag : Nat) (body : Body Unit)
  /-- SET_CLOCK (R160): the value. -/
  | setClock (tag : Nat) (body : Body Nat)
  /-- SET_SCHEDULE (R161). -/
  | setSchedule (tag : Nat) (body : Body ScheduleFields)
  /-- READ_POWER (R173). -/
  | readPower (tag : Nat) (body : Body Unit)
  /-- RESTART (R174). -/
  | restart (tag : Nat) (body : Body Unit)
  /-- POWER_SIDE (R172): the side. -/
  | powerSide (tag : Nat) (body : Body Nat)
  /-- REGION_READ (R176). -/
  | regionRead (region : Region)
deriving DecidableEq, Repr

end Sys2Proof
end

