-- ==== Sys2Proof/Decode.lean ====
section
/-! DEFINITION. The commands that a word spells by the bits of spec/opcode_table.json. No row of that table gives a command any bits:
the part has no instruction words. The frames that carry the requests and the records stand in Sys2Proof/Machine/Layout.lean and
Sys2Proof/Machine/Requests.lean. -/

namespace Sys2Proof

/-- The command a word of the table spells: none, since the table gives no row any bits. -/
def decodeTableWord (_nbits _w : Nat) : Option Instr := none

end Sys2Proof
end

