-- ==== Sys2Proof/Config.lean ====
section
/-! DEFINITION. The configuration parameters of the part (R190) as data. Their identifiers, ranges and defaults, and the part's
fixed durations and codes, stand in Sys2Proof/Machine/Tables.lean. The spec leaves no constant of the part free (see NOTES.md,
Assumptions): what the outside decides is an operand of a command. -/

namespace Sys2Proof

/-- The configuration parameters, in the order of the table of R190. -/
inductive Param where
  | creepLimit | phaseErrorLimit | reverseLimit | slowDownA | slowDownB | authTimeout | primeDelay | noFlowTimeout
  | quietTime | mainDuty | slowDuty | blendWindow | trimTolerance | alarmBound | blendFaultCount | crossflowLimit
  | stackDepth | refreshInterval | decimalPosition | heaterOn | heaterOff | darkLimit | heaterPermits | readerFittedA
  | readerFittedB | agingInterval | committedCapacity | committedRefill | excessCapacity | autostart | wakeOnNozzle | heatMaximum
deriving DecidableEq, Repr

/-- The values of the configuration parameters as RAM holds them; an off-or-on parameter is 0 or 1 (R190). -/
structure Params where
  /-- creep limit, cL (R16) -/
  creepLimit : Int
  /-- phase error limit (R16) -/
  phaseErrorLimit : Int
  /-- reverse limit, cL (R16) -/
  reverseLimit : Int
  /-- slow-down volume of side A, cL (R25) -/
  slowDownA : Int
  /-- slow-down volume of side B, cL (R25) -/
  slowDownB : Int
  /-- authorization timeout, s; 0 means none (R75) -/
  authTimeout : Int
  /-- prime delay, ms (R75) -/
  primeDelay : Int
  /-- no-flow timeout, s (R75) -/
  noFlowTimeout : Int
  /-- quiet time in ENDING, ms (R75) -/
  quietTime : Int
  /-- main duty (R67) -/
  mainDuty : Int
  /-- slow duty (R67) -/
  slowDuty : Int
  /-- blend window size, cL (R87) -/
  blendWindow : Int
  /-- trim tolerance T1, permille (R87) -/
  trimTolerance : Int
  /-- alarm bound T2, permille (R87) -/
  alarmBound : Int
  /-- blend fault count, windows (R87) -/
  blendFaultCount : Int
  /-- crossflow limit, cL (R87) -/
  crossflowLimit : Int
  /-- stack depth (R94) -/
  stackDepth : Int
  /-- refresh interval, ms (R118) -/
  refreshInterval : Int
  /-- decimal position (R118) -/
  decimalPosition : Int
  /-- heater-on, degrees C (R118) -/
  heaterOn : Int
  /-- heater-off, degrees C (R118) -/
  heaterOff : Int
  /-- dark limit, degrees C (R118) -/
  darkLimit : Int
  /-- heater permit count (R118) -/
  heaterPermits : Int
  /-- reader fitted at RA, off or on (R143) -/
  readerFittedA : Int
  /-- reader fitted at RB, off or on (R143) -/
  readerFittedB : Int
  /-- aging scan interval, s (R143) -/
  agingInterval : Int
  /-- committed bucket capacity (R143) -/
  committedCapacity : Int
  /-- committed refill, tokens per 250 ms (R143) -/
  committedRefill : Int
  /-- excess bucket capacity (R143) -/
  excessCapacity : Int
  /-- AUTOSTART, off or on (R175) -/
  autostart : Int
  /-- wake-on-nozzle, off or on (R175) -/
  wakeOnNozzle : Int
  /-- heat maximum, min (R175) -/
  heatMaximum : Int
deriving DecidableEq, Repr

/-- The value of one parameter. -/
def Params.get (c : Params) : Param → Int
  | .creepLimit => c.creepLimit
  | .phaseErrorLimit => c.phaseErrorLimit
  | .reverseLimit => c.reverseLimit
  | .slowDownA => c.slowDownA
  | .slowDownB => c.slowDownB
  | .authTimeout => c.authTimeout
  | .primeDelay => c.primeDelay
  | .noFlowTimeout => c.noFlowTimeout
  | .quietTime => c.quietTime
  | .mainDuty => c.mainDuty
  | .slowDuty => c.slowDuty
  | .blendWindow => c.blendWindow
  | .trimTolerance => c.trimTolerance
  | .alarmBound => c.alarmBound
  | .blendFaultCount => c.blendFaultCount
  | .crossflowLimit => c.crossflowLimit
  | .stackDepth => c.stackDepth
  | .refreshInterval => c.refreshInterval
  | .decimalPosition => c.decimalPosition
  | .heaterOn => c.heaterOn
  | .heaterOff => c.heaterOff
  | .darkLimit => c.darkLimit
  | .heaterPermits => c.heaterPermits
  | .readerFittedA => c.readerFittedA
  | .readerFittedB => c.readerFittedB
  | .agingInterval => c.agingInterval
  | .committedCapacity => c.committedCapacity
  | .committedRefill => c.committedRefill
  | .excessCapacity => c.excessCapacity
  | .autostart => c.autostart
  | .wakeOnNozzle => c.wakeOnNozzle
  | .heatMaximum => c.heatMaximum

/-- The parameters with one of them replaced. -/
def Params.set (c : Params) (p : Param) (v : Int) : Params :=
  match p with
  | .creepLimit => { c with creepLimit := v }
  | .phaseErrorLimit => { c with phaseErrorLimit := v }
  | .reverseLimit => { c with reverseLimit := v }
  | .slowDownA => { c with slowDownA := v }
  | .slowDownB => { c with slowDownB := v }
  | .authTimeout => { c with authTimeout := v }
  | .primeDelay => { c with primeDelay := v }
  | .noFlowTimeout => { c with noFlowTimeout := v }
  | .quietTime => { c with quietTime := v }
  | .mainDuty => { c with mainDuty := v }
  | .slowDuty => { c with slowDuty := v }
  | .blendWindow => { c with blendWindow := v }
  | .trimTolerance => { c with trimTolerance := v }
  | .alarmBound => { c with alarmBound := v }
  | .blendFaultCount => { c with blendFaultCount := v }
  | .crossflowLimit => { c with crossflowLimit := v }
  | .stackDepth => { c with stackDepth := v }
  | .refreshInterval => { c with refreshInterval := v }
  | .decimalPosition => { c with decimalPosition := v }
  | .heaterOn => { c with heaterOn := v }
  | .heaterOff => { c with heaterOff := v }
  | .darkLimit => { c with darkLimit := v }
  | .heaterPermits => { c with heaterPermits := v }
  | .readerFittedA => { c with readerFittedA := v }
  | .readerFittedB => { c with readerFittedB := v }
  | .agingInterval => { c with agingInterval := v }
  | .committedCapacity => { c with committedCapacity := v }
  | .committedRefill => { c with committedRefill := v }
  | .excessCapacity => { c with excessCapacity := v }
  | .autostart => { c with autostart := v }
  | .wakeOnNozzle => { c with wakeOnNozzle := v }
  | .heatMaximum => { c with heatMaximum := v }

end Sys2Proof
end

