-- ==== Sys2Proof/Machine/Tables.lean ====
section
/-! DEFINITION. What the part fixes: the parameter table of R190 with ranges and defaults, its durations, its kind codes (R194)
and its class codes (R195). Every value here is one the spec states. -/

namespace Sys2Proof

/-- The identifier of a parameter on the link (R190). -/
def Param.id : Param → Nat
  | .creepLimit => 0x01
  | .phaseErrorLimit => 0x02
  | .reverseLimit => 0x03
  | .slowDownA => 0x04
  | .slowDownB => 0x05
  | .authTimeout => 0x06
  | .primeDelay => 0x07
  | .noFlowTimeout => 0x08
  | .quietTime => 0x09
  | .mainDuty => 0x0A
  | .slowDuty => 0x0B
  | .blendWindow => 0x0C
  | .trimTolerance => 0x0D
  | .alarmBound => 0x0E
  | .blendFaultCount => 0x0F
  | .crossflowLimit => 0x10
  | .stackDepth => 0x11
  | .refreshInterval => 0x12
  | .decimalPosition => 0x13
  | .heaterOn => 0x14
  | .heaterOff => 0x15
  | .darkLimit => 0x16
  | .heaterPermits => 0x17
  | .readerFittedA => 0x18
  | .readerFittedB => 0x19
  | .agingInterval => 0x1A
  | .committedCapacity => 0x1B
  | .committedRefill => 0x1C
  | .excessCapacity => 0x1D
  | .autostart => 0x1E
  | .wakeOnNozzle => 0x1F
  | .heatMaximum => 0x20

/-- The parameters in the order of their identifiers. -/
def Param.all : List Param :=
  [.creepLimit, .phaseErrorLimit, .reverseLimit, .slowDownA, .slowDownB, .authTimeout, .primeDelay, .noFlowTimeout, .quietTime, .mainDuty, .slowDuty, .blendWindow, .trimTolerance, .alarmBound, .blendFaultCount, .crossflowLimit] ++
  [.stackDepth, .refreshInterval, .decimalPosition, .heaterOn, .heaterOff, .darkLimit, .heaterPermits, .readerFittedA, .readerFittedB, .agingInterval, .committedCapacity, .committedRefill, .excessCapacity, .autostart, .wakeOnNozzle, .heatMaximum]

/-- The parameter that an identifier names; none for an identifier not in the table (R190). -/
def Param.ofId (n : Nat) : Option Param := Param.all.find? (fun p => p.id == n)

/-- The range of a parameter, lower and upper bound (R190). -/
def Param.range : Param → Int × Int
  | .creepLimit => (1, 100)
  | .phaseErrorLimit => (1, 255)
  | .reverseLimit => (1, 100)
  | .slowDownA => (5, 200)
  | .slowDownB => (5, 200)
  | .authTimeout => (0, 600)
  | .primeDelay => (0, 5000)
  | .noFlowTimeout => (10, 600)
  | .quietTime => (500, 10000)
  | .mainDuty => (1, 15)
  | .slowDuty => (1, 15)
  | .blendWindow => (10, 200)
  | .trimTolerance => (5, 100)
  | .alarmBound => (20, 300)
  | .blendFaultCount => (1, 10)
  | .crossflowLimit => (5, 100)
  | .stackDepth => (1, 2)
  | .refreshInterval => (50, 1000)
  | .decimalPosition => (0, 3)
  | .heaterOn => (-20, 20)
  | .heaterOff => (-18, 30)
  | .darkLimit => (-40, 0)
  | .heaterPermits => (1, 2)
  | .readerFittedA => (0, 1)
  | .readerFittedB => (0, 1)
  | .agingInterval => (1, 60)
  | .committedCapacity => (4, 64)
  | .committedRefill => (1, 8)
  | .excessCapacity => (0, 32)
  | .autostart => (0, 1)
  | .wakeOnNozzle => (0, 1)
  | .heatMaximum => (1, 60)

/-- Whether a parameter is off or on (R190). -/
def Param.isSwitch : Param → Bool
  | .readerFittedA | .readerFittedB | .autostart | .wakeOnNozzle => true
  | _ => false

/-- The default of every parameter (R190). -/
def Params.defaults : Params where
  creepLimit := 10
  phaseErrorLimit := 8
  reverseLimit := 5
  slowDownA := 40
  slowDownB := 40
  authTimeout := 120
  primeDelay := 1000
  noFlowTimeout := 60
  quietTime := 2000
  mainDuty := 15
  slowDuty := 4
  blendWindow := 50
  trimTolerance := 20
  alarmBound := 100
  blendFaultCount := 3
  crossflowLimit := 20
  stackDepth := 2
  refreshInterval := 100
  decimalPosition := 3
  heaterOn := 0
  heaterOff := 5
  darkLimit := -25
  heaterPermits := 1
  readerFittedA := 0
  readerFittedB := 0
  agingInterval := 5
  committedCapacity := 16
  committedRefill := 1
  excessCapacity := 8
  autostart := 1
  wakeOnNozzle := 0
  heatMaximum := 20

namespace Const

/-- Rate window (R8), ms. -/
def rateWindow : Nat := 250
/-- After-flow cap from ENDING entry (R63), ms. -/
def afterFlow : Nat := 10000
/-- Wait for reader-ready (R123), ms. -/
def readyWait : Nat := 3000
/-- Wait for ABILITY after OFFER, and for ADMIT_ACK after ADMIT_CONFIRM (R123), ms. -/
def stepWait : Nat := 2000
/-- Committed bucket refill interval (R137), ms. -/
def committedInterval : Nat := 250
/-- Excess bucket refill interval (R137), ms. -/
def excessInterval : Nat := 1000
/-- Echo expected within (R110), ms. -/
def echoWait : Nat := 20
/-- ALL phase, and AUDIT phase, of a display test (R111, R112), ms. -/
def allPhase : Nat := 1000
/-- BLANK phase of a display test (R111), ms. -/
def blankPhase : Nat := 300
/-- Temperature sample interval (R114), ms. -/
def sampleInterval : Nat := 1000
/-- Wait for supply-good (R166), ms. -/
def supplyWait : Nat := 2000
/-- Supply permit hold after supply-good (R166), ms. -/
def permitHold : Nat := 200
/-- Quiet check of CHECK (R168), ms. -/
def quietCheck : Nat := 3000
/-- ADMIT stage limit (R169), ms. -/
def admitLimit : Nat := 10000
/-- Wait for the shared verification result (R170), ms. -/
def verifyWait : Nat := 2000
/-- The clock's second (R160), ms. -/
def second : Nat := 1000
/-- Slot write and slot erase (R180), ms. -/
def slotWrite : Nat := 4
def slotErase : Nat := 25
/-- Places of the notice queue (R187). -/
def noticePlaces : Nat := 32
/-- Places of a port's transmit queue (R133), of the Conversation Table (R135) and of the Class Table (R130). -/
def transmitPlaces : Nat := 4
def conversationPlaces : Nat := 16
def classPlaces : Nat := 24
/-- LIMIT stop value of volume and of money (R26), and the bound of a limit and of a target (R23, R53). -/
def limitStop : Nat := 999000
/-- Cap of the displayed volume and of money (R20, R21). -/
def figureCap : Nat := 999999
/-- Smallest limit value (R53). -/
def limitFloor : Nat := 100
/-- Bounds of an accumulator (section 1.2), vu. -/
def accLow : Int := -549755813888
def accHigh : Int := 549755813887
/-- Modulus of a total (R97). -/
def totalModulus : Int := 1000000000000
/-- Seconds of a day (scope section 7). -/
def day : Nat := 86400
/-- Part code and revision (R189). -/
def partCode : Nat := 0xD240
def partRevision : Nat := 1
/-- The part's own maximum reader body (R123), and the smallest a reader may state (R124). -/
def partMaxBody : Nat := 200
def leastMaxBody : Nat := 32

end Const

/-! Kind codes of the requests (R194). -/
namespace Kind

def identify : Nat := 0x01
def readStatus : Nat := 0x02
def readCounters : Nat := 0x03
def setConfig : Nat := 0x04
def readConfig : Nat := 0x05
def readMeter : Nat := 0x08
def setCalibration : Nat := 0x09
def quote : Nat := 0x0C
def stagePrice : Nat := 0x10
def commitPrices : Nat := 0x11
def readPrices : Nat := 0x12
def authorize : Nat := 0x18
def cancelAuth : Nat := 0x19
def suspend : Nat := 0x1A
def resume : Nat := 0x1B
def stopFill : Nat := 0x1C
def endSale : Nat := 0x1D
def openSide : Nat := 0x1E
def closeSide : Nat := 0x1F
def readSide : Nat := 0x20
def setNozzleMap : Nat := 0x21
def setGrade : Nat := 0x28
def readBlend : Nat := 0x29
def listSales : Nat := 0x30
def readSale : Nat := 0x31
def settleSale : Nat := 0x32
def readTotals : Nat := 0x33
def readDisplay : Nat := 0x38
def enableReader : Nat := 0x40
def disableReader : Nat := 0x41
def clearTamper : Nat := 0x42
def readReader : Nat := 0x43
def setClass : Nat := 0x44
def deleteClass : Nat := 0x45
def sendToReader : Nat := 0x46
def goNight : Nat := 0x50
def wake : Nat := 0x51
def setClock : Nat := 0x52
def setSchedule : Nat := 0x53
def readPower : Nat := 0x54
def restart : Nat := 0x55
def powerSide : Nat := 0x56

/-- The kinds of the request catalogue. -/
def catalogue : List Nat :=
  [identify, readStatus, readCounters, setConfig, readConfig, readMeter, setCalibration, quote, stagePrice, commitPrices, readPrices] ++
  [authorize, cancelAuth, suspend, resume, stopFill, endSale, openSide, closeSide, readSide, setNozzleMap, setGrade] ++
  [readBlend, listSales, readSale, settleSale, readTotals, readDisplay, enableReader, disableReader, clearTamper, readReader, setClass] ++
  [deleteClass, sendToReader, goNight, wake, setClock, setSchedule, readPower, restart, powerSide]

end Kind

/-! Class codes of the built-in reader record classes (R195). -/
namespace Cls

def offer : Nat := 0x01
def ability : Nat := 0x02
def confirm : Nat := 0x03
def ack : Nat := 0x04
def grant : Nat := 0x10
def cancel : Nat := 0x11
def capture : Nat := 0x12
def authState : Nat := 0x20
def nozzleState : Nat := 0x21
def saleResult : Nat := 0x22

/-- The ten built-in codes, in the order of R195. -/
def builtIn : List Nat := [offer, ability, confirm, ack, grant, cancel, capture, authState, nozzleState, saleResult]

/-- The body length of each built-in class (R195). -/
def length (c : Nat) : Nat :=
  if c = offer ∨ c = ability ∨ c = confirm ∨ c = nozzleState then 3
  else if c = ack then 1
  else if c = grant ∨ c = capture then 9
  else if c = cancel then 4
  else if c = authState then 11
  else if c = saleResult then 22
  else 0

/-- The admission classes (R130). -/
def isAdmission (c : Nat) : Bool := c == offer || c == ability || c == confirm || c == ack

/-- The payment classes, reader to part (R130). -/
def isPayment (c : Nat) : Bool := c == grant || c == cancel || c == capture

end Cls

end Sys2Proof
end

