-- ==== Sys2Proof/Machine/State.lean ====
section
/-! DEFINITION. The state of the part, block by block as scope section 3 lists them, as plain data; the reasons a step can stop;
and the state after reset. -/

namespace Sys2Proof.Machine

/-! ### Things there is one of for each place -/

/-- One of something for each side (or for each reader port). -/
structure PerSide (α : Type) where
  a : α
  b : α
deriving DecidableEq, Repr

def PerSide.get {α : Type} (x : PerSide α) : Side → α
  | .a => x.a
  | .b => x.b

def PerSide.set {α : Type} (x : PerSide α) (i : Side) (v : α) : PerSide α :=
  match i with
  | .a => { x with a := v }
  | .b => { x with b := v }

/-- One of something for each product. -/
structure PerProduct (α : Type) where
  lo : α
  hi : α
deriving DecidableEq, Repr

def PerProduct.get {α : Type} (x : PerProduct α) : Product → α
  | .lo => x.lo
  | .hi => x.hi

def PerProduct.set {α : Type} (x : PerProduct α) (i : Product) (v : α) : PerProduct α :=
  match i with
  | .lo => { x with lo := v }
  | .hi => { x with hi := v }

/-- One of something for each nozzle of a side. -/
structure PerNozzle (α : Type) where
  n1 : α
  n2 : α
  n3 : α
  n4 : α
deriving DecidableEq, Repr

def PerNozzle.get {α : Type} (x : PerNozzle α) : Nozzle → α
  | .n1 => x.n1
  | .n2 => x.n2
  | .n3 => x.n3
  | .n4 => x.n4

def PerNozzle.set {α : Type} (x : PerNozzle α) (i : Nozzle) (v : α) : PerNozzle α :=
  match i with
  | .n1 => { x with n1 := v }
  | .n2 => { x with n2 := v }
  | .n3 => { x with n3 := v }
  | .n4 => { x with n4 := v }

def PerNozzle.map {α β : Type} (f : α → β) (x : PerNozzle α) : PerNozzle β :=
  { n1 := f x.n1, n2 := f x.n2, n3 := f x.n3, n4 := f x.n4 }

/-- The grades, numbered 1 to 8 (scope section 6). -/
inductive Grade where
  | g1 | g2 | g3 | g4 | g5 | g6 | g7 | g8
deriving DecidableEq, Repr

/-- One of something for each grade. -/
structure PerGrade (α : Type) where
  g1 : α
  g2 : α
  g3 : α
  g4 : α
  g5 : α
  g6 : α
  g7 : α
  g8 : α
deriving DecidableEq, Repr

def PerGrade.get {α : Type} (x : PerGrade α) : Grade → α
  | .g1 => x.g1
  | .g2 => x.g2
  | .g3 => x.g3
  | .g4 => x.g4
  | .g5 => x.g5
  | .g6 => x.g6
  | .g7 => x.g7
  | .g8 => x.g8

def PerGrade.set {α : Type} (x : PerGrade α) (i : Grade) (v : α) : PerGrade α :=
  match i with
  | .g1 => { x with g1 := v }
  | .g2 => { x with g2 := v }
  | .g3 => { x with g3 := v }
  | .g4 => { x with g4 := v }
  | .g5 => { x with g5 := v }
  | .g6 => { x with g6 := v }
  | .g7 => { x with g7 := v }
  | .g8 => { x with g8 := v }

/-- The same thing for every grade. -/
def PerGrade.all {α : Type} (v : α) : PerGrade α :=
  { g1 := v, g2 := v, g3 := v, g4 := v, g5 := v, g6 := v, g7 := v, g8 := v }

/-- The price levels 1 and 2 (scope section 6). -/
inductive Level where
  | l1 | l2
deriving DecidableEq, Repr

/-- One of something for each price level. -/
structure PerLevel (α : Type) where
  l1 : α
  l2 : α
deriving DecidableEq, Repr

def PerLevel.get {α : Type} (x : PerLevel α) : Level → α
  | .l1 => x.l1
  | .l2 => x.l2

def PerLevel.set {α : Type} (x : PerLevel α) (i : Level) (v : α) : PerLevel α :=
  match i with
  | .l1 => { x with l1 := v }
  | .l2 => { x with l2 := v }

/-! ### Meter Inputs -/

/-- The four closed rate windows, oldest first (R8), vu. -/
structure Windows where
  w1 : Int
  w2 : Int
  w3 : Int
  w4 : Int
deriving DecidableEq, Repr

/-- A meter channel (section 1, opening list). -/
structure MeterChannel where
  /-- Taken level of phase 1 and of phase 2; none until first taken (R1). -/
  level1 : Option Bool
  level2 : Option Bool
  lastPair : Option (Bool × Bool)
  /-- Sale and creep accumulators, vu, 40 bits and saturating (R3). -/
  sale : Int
  creep : Int
  creepFired : Bool
  windows : Windows
  openWindow : Int
  rate : Nat
  overspeedRun : Nat
  forward : Counter
  reverse : Counter
  phaseErrors : Counter
  /-- Edge weight W and maximum flow (section 1.7). -/
  weight : Nat
  maxFlow : Nat
  windowTimer : Timer
deriving DecidableEq, Repr

/-- What Meter Inputs holds for each side. -/
structure SideMeters where
  fillErrors : Nat
  pulserRaised : Bool
  reverseRaised : Bool
  nightLeak : Bool
deriving DecidableEq, Repr

/-! ### Pricing Unit -/

/-- A price bank: a unit price for every grade at every level; 0 is not sold (section 3). -/
abbrev Bank := PerGrade (PerLevel Nat)

/-- The retained bank with its generation (section 3). -/
structure RetainedBank where
  generation : Nat
  bank : Bank
deriving DecidableEq, Repr

/-- The price state (section 3). -/
structure Prices where
  active : Bank
  generation : Nat
  retained : Option RetainedBank
  staged : Bank
  sideGeneration : PerSide Nat
  schedule : Option Nat
deriving DecidableEq, Repr

inductive LimitKind where
  | money | volume
deriving DecidableEq, Repr

/-- A limit: its kind and its value in cents or cL (R52). -/
structure Limit where
  kind : LimitKind
  value : Nat
deriving DecidableEq, Repr

/-- The part of the sale figures fixed at STARTING entry (R18). -/
structure Opened where
  price : Nat
  level : Level
  generation : Nat
  limit : Option Limit
  target : Option Nat
  slowPoint : Option Nat
deriving DecidableEq, Repr

/-- The closing part of the sale figures (R27 to R29). -/
structure Closing where
  lo : Int
  hi : Int
  overrun : Option Nat
  payable : Nat
deriving DecidableEq, Repr

/-- The sale figures of a side (section 2). -/
structure Figures where
  volume : Int
  displayed : Nat
  money : Nat
  opened : Option Opened
  slowPassed : Bool
  targetReached : Bool
  limitReached : Bool
  closing : Option Closing
  clamped : Bool
deriving DecidableEq, Repr

/-! ### Fill Controllers -/

/-- The side states, in the order of the table of section 4. -/
inductive SideState where
  | closed | idle | calling | authorized | starting | flowing | slowing | held | ending
deriving DecidableEq, Repr

/-- The fault kinds in the order of their codes (R193). -/
inductive FaultKind where
  | pulser | reverse | overspeed | crossflow | blend | display | estop | supply | sensor | store
deriving DecidableEq, Repr

/-- The closure reasons in the order R47's chapter lists them; FAULT carries its kind (R47). -/
inductive ClosureReason where
  | command | night | supply | cold | display | leak | price | calibration | estop | fault (kind : FaultKind) | powerFail
deriving DecidableEq, Repr

/-- The closure set: each reason once, and the kind that FAULT carries (R47). -/
structure Closures where
  command : Bool
  night : Bool
  supply : Bool
  cold : Bool
  display : Bool
  leak : Bool
  price : Bool
  calibration : Bool
  estop : Bool
  fault : Option FaultKind
  powerFail : Bool
deriving DecidableEq, Repr

/-- A nozzle as the side records it: hung, up, or up and spent (R49, R73). -/
inductive NozzlePosition where
  | hung | up | spent
deriving DecidableEq, Repr

/-- The counted nozzle and the grade it took when its lift was counted; none is NONE (R49). -/
structure Counted where
  nozzle : Nozzle
  grade : Option Grade
deriving DecidableEq, Repr

inductive Source where
  | link | reader
deriving DecidableEq, Repr

inductive AuthPhase where
  | waiting | inUse
deriving DecidableEq, Repr

/-- An authorization (R52). -/
structure Auth where
  source : Source
  reference : Option Nat
  grades : BitVec 8
  level : Level
  limit : Option Limit
  phase : AuthPhase
  acceptedAt : Option Nat
deriving DecidableEq, Repr

/-- The stop reasons, in the order of R91. -/
inductive StopReason where
  | target | limit | noFlow | commandStop | readerCancel | suspend
deriving DecidableEq, Repr

/-- The end reasons (R91). -/
inductive EndReason where
  | hungUp | commandEnd | cancelled | fault (kind : FaultKind) | powerFail
deriving DecidableEq, Repr

/-- The sale context of the current or most recent sale (R55). -/
structure SaleContext where
  number : Nat
  nozzle : Nozzle
  grade : Grade
  source : Source
  reference : Option Nat
  limit : Option Limit
  level : Level
  start : Option Nat
  stop : Option StopReason
  ended : Option EndReason
  /-- Set from STARTING entry to the sale close. -/
  running : Bool
deriving DecidableEq, Repr

/-- A Fill Controller (section 4, opening list). -/
structure Fill where
  state : SideState
  closures : Closures
  nozzles : PerNozzle NozzlePosition
  counted : Option Counted
  map : PerNozzle (Option Grade)
  slot : Option Auth
  sale : Option SaleContext
  /-- The side's demand on each product's motor (R65). -/
  demand : PerProduct Bool
  /-- The display test of the running STARTING has been reported done (R56). -/
  testDone : Bool
  authTimer : Timer
  noFlowTimer : Timer
  quietTimer : Timer
  afterFlowTimer : Timer
deriving DecidableEq, Repr

inductive MotorState where
  | off | priming | running
deriving DecidableEq, Repr

/-- A product's motor (section 4.8). Its demand count is the number of sides that hold demand. -/
structure Motor where
  state : MotorState
  relay : Bool
  primeTimer : Timer
deriving DecidableEq, Repr

/-! ### Blend Controllers -/

/-- An entry of the grade table (section 5): share h in permille, start duty and trim enable. -/
structure GradeEntry where
  share : Nat
  startDuty : Nat
  trim : Bool
deriving DecidableEq, Repr

inductive WindowKind where
  | settling | ordinary
deriving DecidableEq, Repr

/-- An open blend window: its kind, the accumulators at its opening, and the size taken then, vu (R79, R80). -/
structure BlendWindow where
  kind : WindowKind
  lo : Int
  hi : Int
  size : Int
deriving DecidableEq, Repr

/-- T, s and e of an evaluated window (R81). -/
structure BlendResult where
  total : Int
  share : Int
  error : Int
deriving DecidableEq, Repr

/-- A Blend Controller (section 5, opening list). -/
structure Blend where
  copy : Option GradeEntry
  trimmed : Option Product
  duty : Option Nat
  /-- The duty ceiling of the FLOWING run (R78). -/
  ceiling : Nat
  window : Option BlendWindow
  alarmCount : Nat
  crossflowRaised : Bool
  lastResult : Option BlendResult
  evaluated : Counter
  stepsUp : Counter
  stepsDown : Counter
  atLimit : Counter
  alarms : Counter
deriving DecidableEq, Repr

/-! ### Sale Register -/

/-- The flags of a sale record (R91). -/
structure SaleFlags where
  clamped : Bool
  crossflow : Bool
  restored : Bool
  deliveryPending : Bool
  undeliverable : Bool
deriving DecidableEq, Repr

/-- A sale record (R91). -/
structure SaleRecord where
  number : Nat
  side : Side
  nozzle : Nozzle
  grade : Grade
  level : Level
  price : Nat
  generation : Nat
  volume : Nat
  money : Nat
  lo : Int
  hi : Int
  share : Option Nat
  source : Source
  reference : Option Nat
  limit : Option Limit
  stop : Option StopReason
  ended : EndReason
  overrun : Option Nat
  payable : Nat
  flags : SaleFlags
  start : Option Nat
  endTime : Option Nat
deriving DecidableEq, Repr

/-- The 28 totals (R97). -/
structure Totals where
  gradeVolume : PerGrade Int
  gradeMoney : PerGrade (PerLevel Int)
  meterVolume : PerSide (PerProduct Int)
deriving DecidableEq, Repr

/-- The Sale Register (section 6, opening list); the stack depth is a parameter. -/
structure Register where
  queues : PerSide (List SaleRecord)
  next : PerSide Nat
  totals : Totals
  totalsValid : Bool
  warning : Bool
deriving DecidableEq, Repr

/-! ### Display Controllers -/

inductive ControllerState where
  | unpowered | standby | testing | showing | shutting
deriving DecidableEq, Repr

inductive FrameMode where
  | off | normal | all | blank
deriving DecidableEq, Repr

/-- A display frame (R107). -/
structure Frame where
  mode : FrameMode
  money : Nat
  volume : Nat
  price : Nat
  decimal : Nat
  grade : Nat
  preset : Bool
  card : Bool
  stop : Bool
  fault : Bool
  cold : Bool
deriving DecidableEq, Repr

/-- A frame in flight and its attempt, first or retry (R110). -/
structure Transfer where
  frame : Frame
  retry : Bool
deriving DecidableEq, Repr

inductive TestKind where
  | fill | check
deriving DecidableEq, Repr

inductive TestPhase where
  | all | blank | audit
deriving DecidableEq, Repr

/-- A display test (R111, R112). The frame of its phase is due until it is sent; a phase timer that has expired in the last phase
leaves the test waiting for the transfer in flight. -/
structure DisplayTest where
  kind : TestKind
  phase : TestPhase
  due : Bool
  timer : Timer
deriving DecidableEq, Repr

/-- The figures of the sale held on the display (R113). -/
structure HoldSource where
  money : Nat
  volume : Nat
  price : Nat
  grade : Nat
deriving DecidableEq, Repr

/-- The last frame whose transfer ended, and whether it was confirmed (R109, R119). -/
structure EndedFrame where
  frame : Frame
  confirmed : Bool
deriving DecidableEq, Repr

/-- A Display Controller (section 7, opening list). -/
structure Display where
  controller : ControllerState
  last : Option EndedFrame
  transfer : Option Transfer
  sendOwed : Bool
  test : Option DisplayTest
  hold : Option HoldSource
  reading : Nat
  /-- The temperature; none while the sensor fault mark is set (R114). -/
  temperature : Option Int
  thermostat : Bool
  stageHeat : Bool
  heatWant : Bool
  dark : Bool
  sent : Counter
  retries : Counter
  failed : Counter
  stray : Counter
  refreshTimer : Timer
  echoTimer : Timer
  sampleTimer : Timer
deriving DecidableEq, Repr

/-- The heater permit arbiter (R117): the sides holding a permit in the order they took it, and the waiting list.
The permit count is a parameter. -/
structure Arbiter where
  holders : List Side
  waiting : List Side
deriving DecidableEq, Repr

/-! ### Reader Isolation Switch and Payment Path -/

inductive PortState where
  | disabled | negotiating | admitted | backoff | failed | tampered
deriving DecidableEq, Repr

inductive PortStep where
  | readyWait | abilityWait | ackWait
deriving DecidableEq, Repr

/-- Why a port changed its state (R121). -/
inductive PortReason where
  | enabled | admitted | noReady | timeout | wrongRecord | noRevision | terms | lineLost | flood | tamper | cleared | disabled
  | night
deriving DecidableEq, Repr

/-- Agreed terms (R124); features bit 0 PARTIAL, bit 1 PROMPT. -/
structure Terms where
  revision : Nat
  maxBody : Nat
  features : BitVec 8
deriving DecidableEq, Repr

/-- Why the part refuses a record or removes an authorization, as AUTH_STATE codes it (R195). -/
inductive PaymentReason where
  | grades | range | night | alreadyAuthorized | closed | stackFull | unknown | amount | partialCapture | expired | cancelled
deriving DecidableEq, Repr

/-- The kinds of AUTH_STATE with the fields each carries besides the reference (R145). -/
inductive AuthStateKind where
  | accepted
  | refused (reason : PaymentReason)
  | started (sale : Nat)
  | cancelled
  | stopped (sale : Nat)
  | removed (reason : PaymentReason)
  | captured (sale amount : Nat)
  | captureRefused (sale : Nat) (reason : PaymentReason)
deriving DecidableEq, Repr

/-- An AUTH_STATE record (R145). -/
structure AuthStateRecord where
  kind : AuthStateKind
  reference : Nat
deriving DecidableEq, Repr

/-- A NOZZLE_STATE record (R149). -/
structure NozzleStateRecord where
  nozzle : Nozzle
  grade : Option Grade
  up : Bool
deriving DecidableEq, Repr

/-- A SALE_RESULT record (R151). -/
structure SaleResult where
  number : Nat
  reference : Nat
  grade : Grade
  price : Nat
  volume : Nat
  money : Nat
  payable : Nat
  overrun : Bool
  empty : Bool
  restored : Bool
deriving DecidableEq, Repr

/-- A record the host has queued for a reader (R134). -/
structure HostRecord where
  cls : Nat
  tag : Nat
  body : List Byte
deriving DecidableEq, Repr

/-- A record in transmission on a reader line (R133). -/
inductive ReaderTx where
  | offer
  | confirm (terms : Terms)
  | authState (record : AuthStateRecord)
  | saleResult (result : SaleResult)
  | nozzleState (record : NozzleStateRecord)
  | host (record : HostRecord)
deriving DecidableEq, Repr

/-- The empty result place when it is full: its result, and whether that result is in transmission (R150). -/
structure EmptyPlace where
  result : SaleResult
  sending : Bool
deriving DecidableEq, Repr

/-- A receiver of bytes: hunting, or in a frame with the bytes taken so far (R139, R183). -/
inductive Receiver where
  | hunting
  | inFrame (taken : List Byte)
deriving DecidableEq, Repr

/-- The counters of a port (R142). -/
structure PortCounters where
  received : Counter
  forwarded : Counter
  consumed : Counter
  sent : Counter
  discarded : Counter
  expired : Counter
  frame : Counter
  state : Counter
  cls : Counter
  length : Counter
  rate : Counter
  unasked : Counter
deriving DecidableEq, Repr

/-- A port context (section 8, opening list) with its empty result place (section 9). -/
structure Port where
  state : PortState
  step : Option PortStep
  stepTimer : Timer
  backoffTimer : Timer
  failures : Nat
  terms : Option Terms
  /-- The terms an ADMIT_CONFIRM states, from ABILITY until ADMIT_ACK (R123). -/
  offered : Option Terms
  /-- The admission record the current step calls for and has not yet started (R133). -/
  owed : Option ReaderTx
  committed : Nat
  excess : Nat
  redMark : Bool
  redRun : Nat
  committedTimer : Timer
  excessTimer : Timer
  tx : Option ReaderTx
  pendingAuth : Option AuthStateRecord
  pendingNozzle : Option NozzleStateRecord
  queue : List HostRecord
  emptyPlace : Option EmptyPlace
  receiver : Receiver
  lineLowTimer : Timer
  /-- The reader-ready and tamper inputs. -/
  readyInput : Bool
  tamperInput : Bool
  counters : PortCounters
deriving DecidableEq, Repr

inductive Direction where
  | readerToLink | linkToReader | both
deriving DecidableEq, Repr

/-- A configurable entry of the Class Table (R130). -/
structure ClassEntry where
  code : Nat
  direction : Direction
  maxBody : Nat
  weight : Nat
  essential : Bool
  asks : Option Nat
  answer : Bool
deriving DecidableEq, Repr

/-- An entry of the Conversation Table (R135). -/
structure Conversation where
  port : Side
  tag : Nat
  answer : Nat
  age : Bool
deriving DecidableEq, Repr

/-! ### Power Sequencer -/

inductive PartMode where
  | loading | night | waking | run | nightPending
deriving DecidableEq, Repr

inductive PowerState where
  | off | supply | heat | check | admitStage | verify | up | downFault
deriving DecidableEq, Repr

/-- The causes a POWER_STAGE notice carries, in the order of R157. -/
inductive PowerCause where
  | reset | autostart | wake | schedule | nozzle | goNight | permit | supplyGood | supplyTimeout | warm | skipped | heatExpired
  | checked | admitted | admitExpired | verified | verifyExpired | supplyLost | powerSide | lastClose
deriving DecidableEq, Repr

/-- The outcome of one comparison (R179). -/
inductive Comparison where
  | isMatch | mismatch
deriving DecidableEq, Repr

/-- The shared verification result (section 10, opening list). -/
inductive Verification where
  | none
  | running
  | made (cal price : Comparison)
  | unverified
deriving DecidableEq, Repr

inductive ResetCause where
  | powerOn | restart
deriving DecidableEq, Repr

/-- What the Power Sequencer holds for each side. -/
structure SidePower where
  state : PowerState
  supplyOn : Bool
  shutting : Bool
  bringUp : Bool
  stageTimer : Timer
  quietTimer : Timer
  quietEdge : Bool
  /-- The check test of the running CHECK stage has been reported (R168). -/
  testReported : Bool
  attended : Bool
  cold : Bool
  /-- The supply-good input. -/
  supplyGood : Bool
deriving DecidableEq, Repr

/-- What the Power Sequencer holds once; NIGHT_AT and WAKE_AT are the schedule. -/
structure Power where
  mode : PartMode
  holder : Option Side
  holdTimer : Timer
  waiting : List Side
  verification : Verification
  nightAt : Option Nat
  wakeAt : Option Nat
  /-- What the last reset was, for POWER_ON (R159). -/
  resetCause : ResetCause
deriving DecidableEq, Repr

/-- The clock (R160). -/
structure Clock where
  value : BitVec 32
  valid : Bool
  second : Timer
deriving DecidableEq, Repr

/-! ### Store Controller -/

/-- A region state; a region not yet read is reported INVALID (R182). -/
inductive RegionState where
  | unread | valid | invalid | failed
deriving DecidableEq, Repr

/-- What a region of the main bank holds: an image with its CRC, or contents whose CRC does not match (R176). -/
inductive Stored (α : Type) where
  | image (x : α)
  | unreadable
deriving DecidableEq, Repr

/-- A region: its state and its contents. -/
structure RegionCell (α : Type) where
  state : RegionState
  stored : Stored α
deriving DecidableEq, Repr

/-- W and maximum flow of a meter. -/
structure Calibration where
  weight : Nat
  maxFlow : Nat
deriving DecidableEq, Repr

/-- The contents of the CAL region (R176). -/
structure CalImage where
  meters : PerSide (PerProduct Calibration)
  audit : Nat
deriving DecidableEq, Repr

/-- The contents of the CFG region (R176). -/
structure CfgImage where
  params : Params
  maps : PerSide (PerNozzle (Option Grade))
  grades : PerGrade GradeEntry
  classes : List ClassEntry
  nightAt : Option Nat
  wakeAt : Option Nat
deriving DecidableEq, Repr

/-- The contents of the PRICE region (R176). -/
structure PriceImage where
  generation : Nat
  bank : Bank
deriving DecidableEq, Repr

/-- The contents of the TOTALS region (R176). -/
structure TotalsImage where
  totals : Totals
  next : PerSide Nat
deriving DecidableEq, Repr

inductive JobKind where
  | calWrite | cfgWrite | priceWrite | totalsWrite | verify
deriving DecidableEq, Repr

/-- The image of a running write job (R177). -/
inductive Image where
  | cal (x : CalImage)
  | cfg (x : CfgImage)
  | price (x : PriceImage)
  | totals (x : TotalsImage)
deriving DecidableEq, Repr

/-- A waiting job, and whether the request in service waits on it (R177). -/
structure WaitingJob where
  kind : JobKind
  serves : Bool
deriving DecidableEq, Repr

/-- The running job: its image where it writes, and its attempt, first or rewrite (section 11). -/
structure RunningJob where
  kind : JobKind
  serves : Bool
  image : Option Image
  rewrite : Bool
  timer : Timer
deriving DecidableEq, Repr

inductive SlotState where
  | erased | written | erasing
deriving DecidableEq, Repr

/-- What a save slot holds (R180): nothing, a save whose CRC matches, or a save cut short. -/
inductive SlotContents where
  | empty
  | saved (records : List SaleRecord)
  | cutShort
deriving DecidableEq, Repr

structure SaveSlot where
  state : SlotState
  contents : SlotContents
deriving DecidableEq, Repr

inductive SaveOpKind where
  | write | erase
deriving DecidableEq, Repr

/-- An operation of the save bank (R180). -/
structure SaveOp where
  kind : SaveOpKind
  side : Side
deriving DecidableEq, Repr

/-- The running operation, with the records a write has taken (R100). -/
structure RunningSave where
  op : SaveOp
  records : List SaleRecord
  timer : Timer
deriving DecidableEq, Repr

/-- The Store Controller (section 11, opening list) with the contents of its two banks. -/
structure Store where
  cal : RegionCell CalImage
  cfg : RegionCell CfgImage
  price : RegionCell PriceImage
  totals : RegionCell TotalsImage
  running : Option RunningJob
  waiting : List WaitingJob
  slots : PerSide SaveSlot
  saving : Option RunningSave
  saveWaiting : List SaveOp
  audit : Nat
  /-- Whether the CFG defaults are in use (R159, R190). -/
  cfgDefaults : Bool
deriving DecidableEq, Repr

/-! ### Message Link -/

/-- The statuses in the order of their codes (R185). -/
inductive Status where
  | ok | busy | unknownKind | badLength | badValue | wrongState | calLocked | stackFull | alreadyAuthorized | notFound | convFull
  | readerBusy | priceBusy | night | storeFault | classRefused
deriving DecidableEq, Repr

/-- A field of a body: its size in bytes and its value, sent most significant byte first, in two's complement (R193). -/
structure Field where
  size : Nat
  value : Int
deriving DecidableEq, Repr

/-- A reply: the kind and tag of its request, its status, and the fields after the status (R185). -/
structure Reply where
  kind : Nat
  tag : Nat
  status : Status
  fields : List Field
deriving DecidableEq, Repr

/-- Why an authorization left the slot before IN_USE (R54). -/
inductive RemovalReason where
  | expired | cancelled | closed | night | linkLost
deriving DecidableEq, Repr

/-- The events of AUTH_EVENT (R52). -/
inductive AuthEvent where
  | accepted | inUse | ended | removed (reason : RemovalReason)
deriving DecidableEq, Repr

/-- The first condition of an allowed lift that failed (R51). -/
inductive LiftRefusal where
  | grade | price | dark | save
deriving DecidableEq, Repr

/-- Who settled a sale, and what a reader captured (R96). -/
inductive Settler where
  | link
  | reader (amount : Nat)
deriving DecidableEq, Repr

/-- The notices (R187, R194), each with the fields its rule names. -/
inductive Notice where
  | sideState (side : Side) (state : SideState) (closures : Closures) (counted : Option Counted) (sale : Option Nat)
  | nozzle (side : Side) (nozzle : Nozzle) (grade : Option Grade) (up : Bool)
  | gradeRefused (side : Side) (nozzle : Nozzle) (grade : Option Grade) (reason : LiftRefusal)
  | authEvent (side : Side) (source : Source) (reference : Option Nat) (event : AuthEvent)
  | saleClosed (record : SaleRecord) (empty : Bool)
  | saleSettled (side : Side) (number : Nat) (settler : Settler)
  | priceAdopted (generation : Nat) (sideA sideB : Bool) (retained : Option Nat)
  | fault (side : Option Side) (kind : FaultKind) (meter : Option Meter) (sale : Option Nat) (region : Option Region)
      (reading : Option Nat)
  | nightFlow (side : Side) (meter : Meter) (creep : Int)
  | readerState (port : Side) (state : PortState) (reason : PortReason) (failures : Nat) (terms : Option Terms)
  | readerRecord (port : Side) (cls tag : Nat) (body : List Byte)
  | powerStage (mode : PartMode) (powerA powerB : PowerState) (side : Option Side) (cause : PowerCause)
      (attendedA coldA attendedB coldB : Bool)
  | powerOn (cause : ResetCause) (cal cfg price totals : RegionState) (cfgDefaults clockValid : Bool) (restoredA restoredB : Nat)
  | saveLost (side : Side)
  | noticesLost (count : Nat)
deriving DecidableEq, Repr

/-- A change that POWER_STAGE tells (R157): of the part mode, with its cause, or another one, with the notice of it, formed as the change
left the part. -/
inductive PowerChange where
  | mode (cause : PowerCause)
  | stage (notice : Notice)
deriving DecidableEq, Repr

/-- A frame in transmission on the message link (R186). -/
inductive LinkTx where
  | reply (r : Reply)
  | busyReply (r : Reply)
  | notice (n : Notice)
deriving DecidableEq, Repr

/-- The request in service (R184): its kind and tag, the fields its reply will carry when its store job completes, and whether it
is an accepted RESTART, which stays in service until the reset. -/
structure Service where
  kind : Nat
  tag : Nat
  fields : List Field
  restart : Bool
deriving DecidableEq, Repr

/-- The status latches (R188). -/
structure Latches where
  faultA : Bool
  faultB : Bool
  leak : Bool
  nightFlow : Bool
  storeFault : Bool
  tamperA : Bool
  tamperB : Bool
  noticesLost : Bool
  admittedA : Bool
  admittedB : Bool
  upA : Bool
  upB : Bool
  supplyGoodA : Bool
  supplyGoodB : Bool
deriving DecidableEq, Repr

/-- The link counters (R189). -/
structure LinkCounters where
  received : Counter
  gap : Counter
  badLength : Counter
  badCheck : Counter
  unknownKind : Counter
  busy : Counter
  overflow : Counter
  repliesSent : Counter
  noticesSent : Counter
deriving DecidableEq, Repr

/-- The Message Link (section 12, opening list). -/
structure Link where
  receiver : Receiver
  gapTimer : Timer
  service : Option Service
  replySlot : Option Reply
  busySlot : Option Reply
  notices : List Notice
  lost : Nat
  tx : Option LinkTx
  latches : Latches
  counters : LinkCounters
deriving DecidableEq, Repr

/-! ### The whole part -/

/-- The state of the part. Nothing in it is a function. -/
structure State where
  meters : PerSide (PerProduct MeterChannel)
  sideMeters : PerSide SideMeters
  prices : Prices
  figures : PerSide Figures
  fill : PerSide Fill
  motors : PerProduct Motor
  valves : PerSide (PerProduct Nat)
  blend : PerSide Blend
  grades : PerGrade GradeEntry
  register : Register
  display : PerSide Display
  arbiter : Arbiter
  ports : PerSide Port
  classes : List ClassEntry
  conversations : List Conversation
  agingTimer : Timer
  power : Power
  sidePower : PerSide SidePower
  clock : Clock
  store : Store
  link : Link
  params : Params
  /-- The emergency-stop and the supply-fail warning inputs. -/
  estopInput : Bool
  supplyFailInput : Bool
  /-- The model's own: the changes of the event being taken that POWER_STAGE is to tell, in their order; none between events
  (DESIGN CHOICE, safe; notes/assumptions/37.md). -/
  changes : List PowerChange
  /-- The model's own: the commands waiting, first in first out. -/
  pending : List Instr
deriving DecidableEq, Repr

/-- The reasons a step can stop the machine. There are none: every event the spec describes takes the part to a next state, and
nothing in the spec halts it. -/
inductive Fault where
deriving DecidableEq, Repr

/-- The reasons a command has no meaning. -/
inductive Refusal where
  /-- Raised by an arm of exec whose command has no meaning yet. It is safe: nothing is claimed of the command. -/
  | notModelled (mnemonic : String)
deriving DecidableEq, Repr

/-! ### Reset values -/

/-- Both sides alike. -/
def PerSide.both {α : Type} (v : α) : PerSide α := { a := v, b := v }
/-- Both products alike. -/
def PerProduct.both {α : Type} (v : α) : PerProduct α := { lo := v, hi := v }
/-- All nozzles alike. -/
def PerNozzle.all {α : Type} (v : α) : PerNozzle α := { n1 := v, n2 := v, n3 := v, n4 := v }

/-- A bank in which no grade is sold (R45). -/
def Bank.zero : Bank := PerGrade.all { l1 := 0, l2 := 0 }

/-- W and maximum flow of a CAL region that is invalid (R16). -/
def Calibration.default : Calibration := { weight := 10000, maxFlow := 6000 }

/-- The grade table entry after a CFG region invalid at load (R88). -/
def GradeEntry.default : GradeEntry := { share := 0, startDuty := 8, trim := true }

/-- A meter channel after reset (R17). -/
def MeterChannel.reset : MeterChannel :=
  { level1 := none, level2 := none, lastPair := none, sale := 0, creep := 0, creepFired := false
    windows := { w1 := 0, w2 := 0, w3 := 0, w4 := 0 }, openWindow := 0, rate := 0, overspeedRun := 0
    forward := 0, reverse := 0, phaseErrors := 0
    weight := Calibration.default.weight, maxFlow := Calibration.default.maxFlow
    windowTimer := some Const.rateWindow }

/-- The sale figures after reset (R32). -/
def Figures.reset : Figures :=
  { volume := 0, displayed := 0, money := 0, opened := none, slowPassed := false, targetReached := false
    limitReached := false, closing := none, clamped := false }

/-- The empty closure set. -/
def Closures.empty : Closures :=
  { command := false, night := false, supply := false, cold := false, display := false, leak := false, price := false
    calibration := false, estop := false, fault := none, powerFail := false }

/-- A Fill Controller after reset, over the nozzle switches as they stand (R76). -/
def Fill.reset (nozzles : PerNozzle NozzlePosition) : Fill :=
  { state := .closed, closures := { Closures.empty with night := true }, nozzles := nozzles, counted := none
    map := PerNozzle.all none, slot := none, sale := none, demand := PerProduct.both false, testDone := false
    authTimer := none, noFlowTimer := none, quietTimer := none, afterFlowTimer := none }

/-- A Blend Controller after reset (R90). -/
def Blend.reset : Blend :=
  { copy := none, trimmed := none, duty := none, ceiling := 0, window := none, alarmCount := 0, crossflowRaised := false
    lastResult := none, evaluated := 0, stepsUp := 0, stepsDown := 0, atLimit := 0, alarms := 0 }

/-- The totals, all 0 (R106). -/
def Totals.zero : Totals :=
  { gradeVolume := PerGrade.all 0, gradeMoney := PerGrade.all { l1 := 0, l2 := 0 }
    meterVolume := PerSide.both (PerProduct.both 0) }

/-- The Sale Register before load (R106). -/
def Register.reset : Register :=
  { queues := PerSide.both [], next := PerSide.both 1, totals := Totals.zero, totalsValid := false, warning := false }

/-- The temperature of a reading; none for a sensor fault (R114). -/
def temperatureOf (r : Nat) : Option Int :=
  if 1 ≤ r ∧ r ≤ 1022 then some ((r * 165 / 1023 : Nat) - 40) else none

/-- A Display Controller after reset, with the sample taken at reset by the default heater-on and dark limit (R120). -/
def Display.reset (r : Nat) : Display :=
  { controller := .unpowered, last := none, transfer := none, sendOwed := false, test := none, hold := none
    reading := r, temperature := temperatureOf r
    thermostat := (temperatureOf r).any (fun t => decide (t < Params.defaults.heaterOn))
    stageHeat := false, heatWant := false
    dark := (temperatureOf r).any (fun t => decide (t < Params.defaults.darkLimit))
    sent := 0, retries := 0, failed := 0, stray := 0
    refreshTimer := none, echoTimer := none, sampleTimer := some Const.sampleInterval }

/-- Counters of a port, all 0. -/
def PortCounters.zero : PortCounters :=
  { received := 0, forwarded := 0, consumed := 0, sent := 0, discarded := 0, expired := 0, frame := 0, state := 0, cls := 0
    length := 0, rate := 0, unasked := 0 }

/-- A port after reset, over its two inputs as they stand (R144). -/
def Port.reset (ready tamper : Bool) : Port :=
  { state := .disabled, step := none, stepTimer := none, backoffTimer := none, failures := 0, terms := none, offered := none
    owed := none, committed := 0, excess := 0, redMark := false, redRun := 0, committedTimer := none, excessTimer := none
    tx := none, pendingAuth := none, pendingNozzle := none, queue := [], emptyPlace := none, receiver := .hunting
    lineLowTimer := none, readyInput := ready, tamperInput := tamper, counters := PortCounters.zero }

/-- What the Power Sequencer holds for a side after reset (R175); its supply-good input reads false at reset (R191). -/
def SidePower.reset : SidePower :=
  { state := .off, supplyOn := false, shutting := false, bringUp := false, stageTimer := none, quietTimer := none
    quietEdge := false, testReported := false, attended := false, cold := false, supplyGood := false }

/-- The latches after reset: the latch-high items clear, the latch-low items loaded from conditions that are all false (R191). -/
def Latches.reset : Latches :=
  { faultA := false, faultB := false, leak := false, nightFlow := false, storeFault := false, tamperA := false, tamperB := false
    noticesLost := false, admittedA := false, admittedB := false, upA := false, upB := false, supplyGoodA := false
    supplyGoodB := false }

/-- The link counters, all 0. -/
def LinkCounters.zero : LinkCounters :=
  { received := 0, gap := 0, badLength := 0, badCheck := 0, unknownKind := 0, busy := 0, overflow := 0, repliesSent := 0
    noticesSent := 0 }

/-- The notice of the change of part mode that a reset makes (R157, R158). It names no side, whichever sides the reset takes to OFF
(DESIGN CHOICE, unsafe; notes/assumptions/76.md). -/
def resetNotice : Notice := .powerStage .loading .off .off .none .reset false false false false

/-- The Message Link after reset (R191): the notice queue is empty, the notice of the reset itself being in transmission. -/
def Link.reset : Link :=
  { receiver := .hunting, gapTimer := none, service := none, replySlot := none, busySlot := none, notices := [], lost := 0
    tx := some (.notice resetNotice), latches := Latches.reset, counters := LinkCounters.zero }

/-- What a reset leaves of a region: its contents, not yet read (R182). -/
def RegionCell.reset {α : Type} (stored : Stored α) : RegionCell α := { state := .unread, stored := stored }

/-- What is in the non-volatile banks (section 11). -/
structure NonVolatile where
  cal : Stored CalImage
  cfg : Stored CfgImage
  price : Stored PriceImage
  totals : Stored TotalsImage
  slots : PerSide SlotContents
deriving DecidableEq, Repr

/-- The Store Controller after reset (R182): slots are reported WRITTEN until they are read. -/
def Store.reset (nv : NonVolatile) : Store :=
  { cal := RegionCell.reset nv.cal, cfg := RegionCell.reset nv.cfg, price := RegionCell.reset nv.price
    totals := RegionCell.reset nv.totals, running := none, waiting := []
    slots := { a := { state := .written, contents := nv.slots.a }, b := { state := .written, contents := nv.slots.b } }
    saving := none, saveWaiting := [], audit := 0, cfgDefaults := true }

/-- What a reset does not change: the non-volatile banks, the inputs, and, for a RESTART, the clock. -/
structure Kept where
  nonVolatile : NonVolatile
  nozzles : PerSide (PerNozzle NozzlePosition)
  ready : PerSide Bool
  tamper : PerSide Bool
  estop : Bool
  supplyFail : Bool
  clock : Clock
  cause : ResetCause
  readings : PerSide Nat
  pending : List Instr
deriving DecidableEq, Repr

/-- The part after a reset, every block at the values its chapter states (R17, R32, R45, R76, R90, R106, R120, R144, R156, R175,
R182, R191). -/
def State.afterReset (k : Kept) : State :=
  { meters := PerSide.both (PerProduct.both MeterChannel.reset)
    sideMeters := PerSide.both { fillErrors := 0, pulserRaised := false, reverseRaised := false, nightLeak := false }
    prices :=
      { active := Bank.zero, generation := 0, retained := none, staged := Bank.zero, sideGeneration := PerSide.both 0
        schedule := none }
    figures := PerSide.both Figures.reset
    fill := { a := Fill.reset k.nozzles.a, b := Fill.reset k.nozzles.b }
    motors := PerProduct.both { state := .off, relay := false, primeTimer := none }
    valves := PerSide.both (PerProduct.both 0)
    blend := PerSide.both Blend.reset
    grades := PerGrade.all GradeEntry.default
    register := Register.reset
    display := { a := Display.reset k.readings.a, b := Display.reset k.readings.b }
    arbiter := { holders := [], waiting := [] }
    ports := { a := Port.reset k.ready.a k.tamper.a, b := Port.reset k.ready.b k.tamper.b }
    classes := []
    conversations := []
    agingTimer := some (Params.defaults.agingInterval.toNat * 1000)
    power :=
      { mode := .loading, holder := none, holdTimer := none, waiting := [], verification := .none, nightAt := none
        wakeAt := none, resetCause := k.cause }
    sidePower := PerSide.both SidePower.reset
    clock := k.clock
    store := Store.reset k.nonVolatile
    link := Link.reset
    params := Params.defaults
    estopInput := k.estop
    supplyFailInput := k.supplyFail
    changes := []
    pending := k.pending }

/-- The clock after power-on reset (R160). -/
def Clock.reset : Clock := { value := 0, valid := false, second := none }

/-- A store that has never been written: no region's CRC matches, and both slots hold no save. -/
def NonVolatile.blank : NonVolatile :=
  { cal := .unreadable, cfg := .unreadable, price := .unreadable, totals := .unreadable, slots := PerSide.both .empty }

/-- The machine right after power-on reset. What the spec does not give is a DESIGN CHOICE of notes/assumptions: a store never
written, every nozzle hung, no input asserted, and both sensors at 20 degrees C (reading 372). -/
def State.reset : State :=
  State.afterReset
    { nonVolatile := NonVolatile.blank, nozzles := PerSide.both (PerNozzle.all .hung), ready := PerSide.both false
      tamper := PerSide.both false, estop := false, supplyFail := false, clock := Clock.reset, cause := .powerOn
      readings := PerSide.both 372, pending := [] }

end Sys2Proof.Machine
end

