-- ==== Sys2Proof/Machine/Operands.lean ====
section
/-! DEFINITION. The operands of requests read as what they name (R193): sides, meters, grades, levels, limits, off-or-on values;
and the numbers of the things named. -/

namespace Sys2Proof.Machine

/-- A side or port is one byte, 0 for A or RA and 1 for B or RB (R193). -/
def sideOf : Nat → Option Side
  | 0 => some .a
  | 1 => some .b
  | _ => none

def Side.number : Side → Nat
  | .a => 0
  | .b => 1

/-- A meter identifier, coded from 0 in the order A-LO, A-HI, B-LO, B-HI (R193, section 1). -/
def meterOf : Nat → Option Meter
  | 0 => some { side := .a, product := .lo }
  | 1 => some { side := .a, product := .hi }
  | 2 => some { side := .b, product := .lo }
  | 3 => some { side := .b, product := .hi }
  | _ => none

def meterNumber (m : Meter) : Nat :=
  match m.side, m.product with
  | .a, .lo => 0
  | .a, .hi => 1
  | .b, .lo => 2
  | .b, .hi => 3

/-- A grade 1 to 8. -/
def gradeOf : Nat → Option Grade
  | 1 => some .g1
  | 2 => some .g2
  | 3 => some .g3
  | 4 => some .g4
  | 5 => some .g5
  | 6 => some .g6
  | 7 => some .g7
  | 8 => some .g8
  | _ => none

def Grade.number : Grade → Nat
  | .g1 => 1
  | .g2 => 2
  | .g3 => 3
  | .g4 => 4
  | .g5 => 5
  | .g6 => 6
  | .g7 => 7
  | .g8 => 8

/-- A grade, or NONE, by the grade number or 0 (R193). -/
def gradeOrNoneNumber (g : Option Grade) : Nat := g.elim 0 Grade.number

/-- A grade or NONE as a request carries it; none outside 0 to 8 (R74). -/
def gradeOrNoneOf (n : Nat) : Option (Option Grade) := if n = 0 then some none else (gradeOf n).map some

/-- A price level is coded by its number (R193). -/
def levelOf : Nat → Option Level
  | 1 => some .l1
  | 2 => some .l2
  | _ => none

def Level.number : Level → Nat
  | .l1 => 1
  | .l2 => 2

def nozzleNumber : Nozzle → Nat
  | .n1 => 1
  | .n2 => 2
  | .n3 => 3
  | .n4 => 4

/-- The nozzles, lowest number first. -/
def allNozzles : List Nozzle := [.n1, .n2, .n3, .n4]

/-- An off-or-on value, 0 for off and 1 for on (R193). -/
def switchOf : Nat → Option Bool
  | 0 => some false
  | 1 => some true
  | _ => none

/-- A limit kind, coded from 0 in the order MONEY, VOLUME of R52 (R193). -/
def limitKindOf : Nat → Option LimitKind
  | 0 => some .money
  | 1 => some .volume
  | _ => none

/-- Whether a set of grades names a grade: bit n − 1 for grade n (R193). -/
def inGrades (set : BitVec 8) (g : Grade) : Bool := set.getLsbD (Grade.number g - 1)

/-- A direction of a class, coded in the order of R130 (R193). -/
def directionOf : Nat → Option Direction
  | 0 => some .readerToLink
  | 1 => some .linkToReader
  | 2 => some .both
  | _ => none

/-- Whether a direction takes records from the reader to the link. -/
def Direction.fromReader : Direction → Bool
  | .linkToReader => false
  | _ => true

/-- Whether a direction takes records from the link to the reader. -/
def Direction.toReader : Direction → Bool
  | .readerToLink => false
  | _ => true

/-- A limit as AUTHORIZE carries it: none is no limit, an unknown kind is not readable; the value is clamped (R53). -/
def limitOf (l : LimitFields) : Option Limit :=
  (limitKindOf l.kind).map fun k => { kind := k, value := max Const.limitFloor (min l.value Const.limitStop) }

end Sys2Proof.Machine
end

