-- ==== Sys2Proof/Machine/Flags.lean ====
section
/-! DEFINITION. The flags and sets the part tests: side states, the closure set (R47), the status latches (R188) and the flags of
a sale record. -/

namespace Sys2Proof.Machine

/-- The fill states (section 4, glossary). -/
def SideState.isFill : SideState → Bool
  | .starting | .flowing | .slowing | .held | .ending => true
  | .closed | .idle | .calling | .authorized => false

/-- The fill states before ENDING, in which a fault or a hang-up ends the fill (R61, R62). -/
def SideState.beforeEnding : SideState → Bool
  | .starting | .flowing | .slowing | .held => true
  | .ending | .closed | .idle | .calling | .authorized => false

/-- FLOWING or SLOWING, in which valves are open (R67). -/
def SideState.isOpen : SideState → Bool
  | .flowing | .slowing => true
  | _ => false

/-- The closure set with a reason added; FAULT takes the newer kind (R47). -/
def Closures.add (c : Closures) : ClosureReason → Closures
  | .command => { c with command := true }
  | .night => { c with night := true }
  | .supply => { c with supply := true }
  | .cold => { c with cold := true }
  | .display => { c with display := true }
  | .leak => { c with leak := true }
  | .price => { c with price := true }
  | .calibration => { c with calibration := true }
  | .estop => { c with estop := true }
  | .fault k => { c with fault := some k }
  | .powerFail => { c with powerFail := true }

/-- The closure set is empty. -/
def Closures.isEmpty (c : Closures) : Bool := c == Closures.empty

/-- The closure that a fill fault adds: ESTOP for fault ESTOP, FAULT with its kind otherwise (R62). -/
def faultClosure (k : FaultKind) : ClosureReason :=
  match k with
  | .estop => .estop
  | k => .fault k

/-- The closures that OPEN_SIDE leaves (R72): COMMAND, FAULT, POWER_FAIL, LEAK and DISPLAY go; ESTOP goes when the input is
released; COLD goes when the display is not DARK. That POWER_FAIL goes while the warning stands, and what may follow against R102's
inference that no record then joins a queue, is the model's choice between the two rules (DESIGN CHOICE, unsafe;
notes/assumptions/48.md). -/
def Closures.opened (c : Closures) (estopInput dark : Bool) : Closures :=
  { c with command := false, fault := none, powerFail := false, leak := false, display := false
           estop := c.estop && estopInput, cold := c.cold && dark }

/-- A FAULT notice of a side sets that side's fault latch (R188). -/
def Latches.setFault (l : Latches) : Side → Latches
  | .a => { l with faultA := true }
  | .b => { l with faultB := true }

/-- A tamper assertion sets its port's latch (R188). -/
def Latches.setTamper (l : Latches) : Side → Latches
  | .a => { l with tamperA := true }
  | .b => { l with tamperB := true }

/-- The conditions of the fourteen items, read from the part as it stands (R188). -/
def latchConditions (s : State) : Latches :=
  { faultA := s.fill.a.closures.fault.isSome || s.fill.a.closures.estop
    faultB := s.fill.b.closures.fault.isSome || s.fill.b.closures.estop
    leak := s.fill.a.closures.leak || s.fill.b.closures.leak
    nightFlow := s.sideMeters.a.nightLeak || s.sideMeters.b.nightLeak
    storeFault :=
      s.store.cal.state == .failed || s.store.cfg.state == .failed || s.store.price.state == .failed
        || s.store.totals.state == .failed
    tamperA := s.ports.a.state == .tampered
    tamperB := s.ports.b.state == .tampered
    noticesLost := decide (0 < s.link.lost)
    admittedA := s.ports.a.state == .admitted
    admittedB := s.ports.b.state == .admitted
    upA := s.sidePower.a.state == .up
    upB := s.sidePower.b.state == .up
    supplyGoodA := s.sidePower.a.supplyGood
    supplyGoodB := s.sidePower.b.supplyGood }

/-- The latches follow their conditions: a latch-high item is set while its condition is true, a latch-low item is cleared while
its condition is false (R188). -/
def Latches.follow (l c : Latches) : Latches :=
  { faultA := l.faultA || c.faultA, faultB := l.faultB || c.faultB, leak := l.leak || c.leak
    nightFlow := l.nightFlow || c.nightFlow, storeFault := l.storeFault || c.storeFault
    tamperA := l.tamperA || c.tamperA, tamperB := l.tamperB || c.tamperB, noticesLost := l.noticesLost || c.noticesLost
    admittedA := l.admittedA && c.admittedA, admittedB := l.admittedB && c.admittedB, upA := l.upA && c.upA, upB := l.upB && c.upB
    supplyGoodA := l.supplyGoodA && c.supplyGoodA, supplyGoodB := l.supplyGoodB && c.supplyGoodB }

/-- A region not yet read is reported INVALID (R182). -/
def RegionState.reported : RegionState → RegionState
  | .unread => .invalid
  | r => r

/-- Whether the region has been read at load (R176). -/
def RegionState.isRead : RegionState → Bool
  | .unread => false
  | _ => true

end Sys2Proof.Machine
end

