-- ==== Sys2Proof/Machine/Access.lean ====
section
/-! DEFINITION. The updates of one block of the state. Every later operation writes the state through these. -/

namespace Sys2Proof.Machine

/-- A meter channel of the state. -/
def State.meter (s : State) (m : Meter) : MeterChannel := (s.meters.get m.side).get m.product

def State.setMeter (s : State) (m : Meter) (c : MeterChannel) : State :=
  { s with meters := s.meters.set m.side ((s.meters.get m.side).set m.product c) }

def State.setSideMeters (s : State) (i : Side) (x : SideMeters) : State := { s with sideMeters := s.sideMeters.set i x }

def State.setPrices (s : State) (x : Prices) : State := { s with prices := x }

def State.setFigures (s : State) (i : Side) (x : Figures) : State := { s with figures := s.figures.set i x }

def State.setFill (s : State) (i : Side) (x : Fill) : State := { s with fill := s.fill.set i x }

def State.setMotor (s : State) (p : Product) (x : Motor) : State := { s with motors := s.motors.set p x }

/-- Both valve duties of a side. -/
def State.setValves (s : State) (i : Side) (x : PerProduct Nat) : State := { s with valves := s.valves.set i x }

def State.setBlend (s : State) (i : Side) (x : Blend) : State := { s with blend := s.blend.set i x }

def State.setRegister (s : State) (x : Register) : State := { s with register := x }

def State.setDisplay (s : State) (i : Side) (x : Display) : State := { s with display := s.display.set i x }

def State.setArbiter (s : State) (x : Arbiter) : State := { s with arbiter := x }

def State.setPort (s : State) (i : Side) (x : Port) : State := { s with ports := s.ports.set i x }

def State.setPower (s : State) (x : Power) : State := { s with power := x }

def State.setSidePower (s : State) (i : Side) (x : SidePower) : State := { s with sidePower := s.sidePower.set i x }

def State.setStore (s : State) (x : Store) : State := { s with store := x }

def State.setLink (s : State) (x : Link) : State := { s with link := x }

/-- A change joins those of the event that POWER_STAGE is to tell (R157). -/
def State.addChange (s : State) (x : PowerChange) : State := { s with changes := s.changes ++ [x] }

/-- The state of a side. -/
def State.sideState (s : State) (i : Side) : SideState := (s.fill.get i).state

/-- A side is in a fill state. -/
def State.filling (s : State) (i : Side) : Bool := (s.sideState i).isFill

/-- Some side is in a fill state. -/
def State.anyFilling (s : State) : Bool := s.filling .a || s.filling .b

/-- The clock as recorded with an authorization or a sale: absent while it is invalid (R160). -/
def State.stamp (s : State) : Option Nat := if s.clock.valid then some s.clock.value.toNat else none

end Sys2Proof.Machine
end

