-- ==== Sys2Proof/Machine/LinkOps.lean ====
section
/-! DEFINITION. The operations of the Message Link that every block shares: queuing a notice (R187), taking a request into service
and answering it (R184, R185), and starting the next frame (R186). -/

namespace Sys2Proof.Machine

/-- The discarding of a notice: the lost count becomes `count` and the notices lost latch is set (R187). -/
def Link.discardNotice (l : Link) (count : Nat) : Link :=
  { l with lost := count, latches := { l.latches with noticesLost := true } }

/-- Queuing a notice (R187). -/
def Link.enqueue (l : Link) (n : Notice) : Link :=
  if Const.noticePlaces ≤ l.notices.length then l.discardNotice (min (l.lost + 1) 65535)
  else if l.lost = 0 then { l with notices := l.notices ++ [n] }
  else if l.notices.length + 1 < Const.noticePlaces then { l with notices := l.notices ++ [Notice.noticesLost l.lost, n], lost := 0 }
  else Link.discardNotice { l with notices := l.notices ++ [Notice.noticesLost l.lost] } 1

/-- A block queues a notice (R187). -/
def notify (n : Notice) (s : State) : State := s.setLink (s.link.enqueue n)

/-- A FAULT notice: it also sets the fault latch of the side it names (R188). -/
def notifyFault (side : Option Side) (kind : FaultKind) (meter : Option Meter) (sale : Option Nat) (region : Option Region)
    (reading : Option Nat) (s : State) : State :=
  let l := s.link.enqueue (.fault side kind meter sale region reading)
  s.setLink { l with latches := side.elim l.latches l.latches.setFault }

/-- The answer to the request in service is placed in the reply slot (R184). -/
def answer (status : Status) (fields : List Field) (s : State) : State :=
  s.setLink { s.link with
    replySlot := s.link.service.elim s.link.replySlot
      (fun r => some { kind := r.kind, tag := r.tag, status := status, fields := fields }) }

/-- A refusal carries the status alone (R185). -/
def refuse (status : Status) (s : State) : State := answer status [] s

/-- A frame taken with a good CHECK is counted, and the receiver hunts again (R183). -/
def Link.frameTaken (l : Link) : Link :=
  { l with receiver := .hunting, gapTimer := none, counters := { l.counters with received := l.counters.received + 1 } }

/-- A request that arrives while another is in service is answered BUSY, or dropped where the busy-reply slot is full (R184). -/
def Link.busy (l : Link) (kind tag : Nat) : Link :=
  match l.busySlot with
  | none =>
    { l with busySlot := some { kind := kind, tag := tag, status := .busy, fields := [] }
             counters := { l.counters with busy := l.counters.busy + 1 } }
  | some _ => { l with counters := { l.counters with overflow := l.counters.overflow + 1 } }

/-- A request enters service (R184). -/
def Link.enterService (l : Link) (kind tag : Nat) : Link :=
  { l with service := some { kind := kind, tag := tag, fields := [], restart := false } }

/-- The arrival of a request: BUSY while another is in service; otherwise it enters service, its body length is checked, and its
owner's rule takes it (R184). -/
def request {α : Type} (kind tag : Nat) (body : Body α) (take : α → State → State) (s : State) : State :=
  let l := s.link.frameTaken
  match l.service with
  | some _ => s.setLink (l.busy kind tag)
  | none =>
    let s := s.setLink (l.enterService kind tag)
    match body with
    | .badLength => refuse .badLength s
    | .unreadable => refuse .badValue s
    | .fields x => take x s

/-- A request that carries a side or port: outside A and B it gives BAD_VALUE (R193 and the owner's rule). -/
def withSide (take : Side → State → State) (n : Nat) (s : State) : State :=
  match sideOf n with
  | none => refuse .badValue s
  | some i => take i s

/-- The frame the transmitter starts next: the reply, then the busy reply, then the oldest notice (R186). -/
def Link.startNext (l : Link) : Link :=
  match l.tx with
  | some _ => l
  | none =>
    match l.replySlot with
    | some r => { l with replySlot := none, tx := some (.reply r) }
    | none =>
      match l.busySlot with
      | some r => { l with busySlot := none, tx := some (.busyReply r) }
      | none =>
        match l.notices with
        | n :: rest => { l with notices := rest, tx := some (.notice n) }
        | [] => l

/-- The fields of a request whose reply will come at the end of its store job (R184). -/
def Link.hold (l : Link) (fields : List Field) : Link :=
  { l with service := l.service.map (fun r => { r with fields := fields }) }

end Sys2Proof.Machine
end

