-- ==== Sys2Proof/Machine/StoreOps.lean ====
section
/-! DEFINITION. The operations of the Store Controller that every block shares: queuing a main bank job (R177), starting the next
job (R177, R181), and the save bank's queue (R180, R181). -/

namespace Sys2Proof.Machine

/-- Queuing a main bank job: it joins a waiting job of its kind, or is added at the tail (R177). A request that waits on it waits on
the job of its kind that is then waiting. -/
def joinJob (k : JobKind) (serves : Bool) : List WaitingJob → List WaitingJob
  | [] => [{ kind := k, serves := serves }]
  | j :: rest => if j.kind = k then { j with serves := j.serves || serves } :: rest else j :: joinJob k serves rest

/-- A block queues a job that no request waits on (R177). -/
def queueJob (k : JobKind) (s : State) : State :=
  s.setStore { s.store with waiting := joinJob k false s.store.waiting }

/-- An accepted store-backed request queues its job and stays in service until that job completes; its reply will carry the
fields given (R177, R184). -/
def serveByJob (k : JobKind) (fields : List Field) (s : State) : State :=
  (s.setStore { s.store with waiting := joinJob k true s.store.waiting }).setLink (s.link.hold fields)

/-- The RAM image of the CAL region (R176). -/
def calImage (s : State) : CalImage :=
  let c (m : MeterChannel) : Calibration := { weight := m.weight, maxFlow := m.maxFlow }
  { meters := { a := { lo := c s.meters.a.lo, hi := c s.meters.a.hi }, b := { lo := c s.meters.b.lo, hi := c s.meters.b.hi } }
    audit := s.store.audit }

/-- The RAM image of the CFG region (R176). -/
def cfgImage (s : State) : CfgImage :=
  { params := s.params, maps := { a := s.fill.a.map, b := s.fill.b.map }, grades := s.grades, classes := s.classes
    nightAt := s.power.nightAt, wakeAt := s.power.wakeAt }

/-- The RAM image of the PRICE region (R176). -/
def priceImage (s : State) : PriceImage := { generation := s.prices.generation, bank := s.prices.active }

/-- The RAM image of the TOTALS region (R176). -/
def totalsImage (s : State) : TotalsImage := { totals := s.register.totals, next := s.register.next }

/-- The image a write job takes at its start; VERIFY writes nothing (R177, R179). -/
def imageFor (s : State) : JobKind → Option Image
  | .calWrite => some (.cal (calImage s))
  | .cfgWrite => some (.cfg (cfgImage s))
  | .priceWrite => some (.price (priceImage s))
  | .totalsWrite => some (.totals (totalsImage s))
  | .verify => none

/-- The duration of one attempt (section 11), ms. -/
def JobKind.duration : JobKind → Nat
  | .cfgWrite => 40
  | .verify => 5
  | .calWrite | .priceWrite | .totalsWrite => 30

/-- The job the main bank may start next: the oldest waiting one; while the supply-fail warning is asserted a waiting
TOTALS_WRITE alone (R177, R181). -/
def nextJob (supplyFail : Bool) (waiting : List WaitingJob) : Option WaitingJob :=
  if supplyFail then waiting.find? (fun j => j.kind = .totalsWrite) else waiting.head?

/-- The main bank starts a job when loading has ended and none is running (R177, R181). -/
def startMain (s : State) : Store :=
  if s.power.mode = .loading ∨ s.store.running.isSome then s.store
  else
    match nextJob s.supplyFailInput s.store.waiting with
    | none => s.store
    | some j =>
      { s.store with
        waiting := s.store.waiting.erase j
        running := some { kind := j.kind, serves := j.serves, image := imageFor s j.kind, rewrite := false
                          timer := some j.kind.duration } }

/-- An erase of this slot is running. -/
def Store.eraseRunning (t : Store) (i : Side) : Bool :=
  t.saving.any (fun r => decide (r.op = { kind := .erase, side := i }))

/-- A write of this slot is running. -/
def Store.writeRunning (t : Store) (i : Side) : Bool :=
  t.saving.any (fun r => decide (r.op = { kind := .write, side := i }))

/-- Queuing an erase: not added for a slot that already has an erase waiting or running (R180). -/
def Store.queueErase (t : Store) (i : Side) : Store :=
  if t.eraseRunning i ∨ ({ kind := .erase, side := i } : SaveOp) ∈ t.saveWaiting then t
  else { t with saveWaiting := t.saveWaiting ++ [{ kind := .erase, side := i }] }

/-- The save work of one side at the warning (R100, R101): an erase first where the slot is not ERASED, then the write of a queue
that is not empty. -/
def Store.saveWork (t : Store) (i : Side) (queueEmpty : Bool) : Store :=
  let t := if (t.slots.get i).state = .erased then t else t.queueErase i
  if queueEmpty then t else { t with saveWaiting := t.saveWaiting ++ [{ kind := .write, side := i }] }

/-- The save bank at the warning: its waiting operations are removed and the save work of A and then of B is queued (R101, R181). -/
def Store.warned (t : Store) (emptyA emptyB : Bool) : Store :=
  (({ t with saveWaiting := [] } : Store).saveWork .a emptyA).saveWork .b emptyB

/-- The save bank at the release: waiting writes are removed, and each slot that is not ERASED is queued for erase (R103, R181), A's
before B's (DESIGN CHOICE, unsafe; notes/assumptions/59.md). -/
def Store.released (t : Store) : Store :=
  let t := { t with saveWaiting := t.saveWaiting.filter (fun o => o.kind = .erase) }
  let t := if t.slots.a.state = .erased then t else t.queueErase .a
  if t.slots.b.state = .erased then t else t.queueErase .b

/-- The save bank starts the oldest waiting operation whenever none is running (R180): a write takes the queue as it stands and
makes the slot WRITTEN, an erase makes it ERASING. -/
def Store.startSave (t : Store) (queues : PerSide (List SaleRecord)) : Store :=
  match t.saving, t.saveWaiting with
  | none, o :: rest =>
    match o.kind with
    | .write =>
      { t with
        saveWaiting := rest
        saving := some { op := o, records := queues.get o.side, timer := some Const.slotWrite }
        slots := t.slots.set o.side { state := .written, contents := .cutShort } }
    | .erase =>
      { t with
        saveWaiting := rest
        saving := some { op := o, records := [], timer := some Const.slotErase }
        slots := t.slots.set o.side { t.slots.get o.side with state := .erasing } }
  | _, _ => t

/-- Both banks start what they can (R177, R180). -/
def startBanks (s : State) : State := s.setStore ((startMain s).startSave s.register.queues)

end Sys2Proof.Machine
end

