-- ==== Sys2Proof/Machine/PriceOps.lean ====
section
/-! DEFINITION. The Pricing Unit: banks and generations (section 3), and the volume and money arithmetic (section 2). -/

namespace Sys2Proof.Machine

/-! ### Banks and generations -/

/-- The price of a grade at a level in a bank. -/
def bankPrice (b : Bank) (g : Grade) (l : Level) : Nat := (b.get g).get l

/-- A bank with one price replaced. -/
def setBankPrice (b : Bank) (g : Grade) (l : Level) (p : Nat) : Bank := b.set g ((b.get g).set l p)

/-- The number after a generation: 1 after 0, and 1 after 65,535 (R34). -/
def nextGeneration (n : Nat) : Nat := if 65535 ≤ n then 1 else n + 1

/-- The active bank as it is read: every price reads 0 while the generation is 0 (R34). -/
def Prices.activeBank (p : Prices) : Bank := if p.generation = 0 then Bank.zero else p.active

/-- The price of a grade at a level in the bank whose generation is given; 0 in generation 0 and where no bank has it (R34, R42). -/
def Prices.lookup (p : Prices) (generation : Nat) (g : Grade) (l : Level) : Nat :=
  if generation = 0 then 0
  else if generation = p.generation then bankPrice p.active g l
  else
    match p.retained with
    | some r => if generation = r.generation then bankPrice r.bank g l else 0
    | none => 0

/-- Some side's generation is the one given (R38, R41). -/
def Prices.uses (p : Prices) (generation : Nat) : Bool :=
  p.sideGeneration.a == generation || p.sideGeneration.b == generation

/-- A commit's change of the banks and the adoptions of the sides not in a fill state (R37, R38). -/
def Prices.commit (p : Prices) (fillingA fillingB : Bool) : Prices :=
  let n := nextGeneration p.generation
  let sides : PerSide Nat :=
    { a := if fillingA then p.sideGeneration.a else n, b := if fillingB then p.sideGeneration.b else n }
  { active := p.staged, generation := n, staged := p.staged, sideGeneration := sides, schedule := none
    retained :=
      if sides.a = p.generation ∨ sides.b = p.generation then some { generation := p.generation, bank := p.active } else none }

/-- A commit without its store job: the banks change, the sides not in a fill state adopt, and PRICE_ADOPTED is queued (R37,
R38). -/
def commitBanks (s : State) : State :=
  let p := s.prices.commit (s.filling .a) (s.filling .b)
  notify (.priceAdopted p.generation (!s.filling .a) (!s.filling .b) (p.retained.map (·.generation))) (s.setPrices p)

/-- The adoption of the active generation by one side; the retained bank goes when no side holds its number (R41). -/
def Prices.adopt (p : Prices) (i : Side) : Prices :=
  let q := { p with sideGeneration := p.sideGeneration.set i p.generation }
  { q with retained := q.retained.bind (fun r => if q.uses r.generation then some r else none) }

/-- The adoption step of a sale close (R41). -/
def adoptAtClose (i : Side) (s : State) : State :=
  if s.prices.sideGeneration.get i = s.prices.generation then s
  else
    let p := s.prices.adopt i
    notify (.priceAdopted p.generation (i == .a) (i == .b) (p.retained.map (·.generation))) (s.setPrices p)

/-! ### Arithmetic -/

/-- The displayed volume of a side volume, before the cap (R20). -/
def wholeCentilitres (v : Int) : Nat := (v / 100000).toNat

/-- The displayed volume (R20). -/
def displayedVolume (v : Int) : Nat := if v ≤ 0 then 0 else min (wholeCentilitres v) Const.figureCap

/-- Money before the cap (R21). -/
def uncappedMoney (vc p : Nat) : Nat := (vc * p + 500) / 1000

/-- The money of a displayed volume at a unit price (R21). -/
def moneyOf (vc p : Nat) : Nat := min (uncappedMoney vc p) Const.figureCap

/-- The volume target of a MONEY limit before the cap (R23). -/
def uncappedTarget (l p : Nat) : Nat := (l * 1000 + 499) / p

/-- The volume target of a MONEY limit (R23). -/
def moneyTarget (l p : Nat) : Nat := min (uncappedTarget l p) Const.limitStop

/-- The volume target of a limit (R23, R24). -/
def targetOf (l : Limit) (p : Nat) : Nat :=
  match l.kind with
  | .money => moneyTarget l.value p
  | .volume => l.value

/-- The slow point of a target: absent when the target is not above the slow-down volume (R25). -/
def slowPointOf (target slowDown : Nat) : Option Nat := if slowDown < target then some (target - slowDown) else none

/-- The figures at STARTING entry (R18). -/
def openFigures (price : Nat) (level : Level) (generation : Nat) (limit : Option Limit) (slowDown : Nat) : Figures :=
  let target := limit.map (fun l => targetOf l price)
  { Figures.reset with
    opened := some { price := price, level := level, generation := generation, limit := limit, target := target
                     slowPoint := target.bind (fun t => slowPointOf t slowDown) } }

/-- The unit price of the figures; 0 before any sale. -/
def Figures.price (f : Figures) : Nat := f.opened.elim 0 (·.price)

/-- The running part of the figures, from both sale accumulators as they stand (R19, R26). -/
def Figures.recompute (f : Figures) (lo hi : Int) : Figures :=
  let v := lo + hi
  let vc := displayedVolume v
  let m := moneyOf vc f.price
  { f with
    volume := v, displayed := vc, money := m
    slowPassed := (f.opened.bind (·.slowPoint)).any (fun x => decide (x ≤ vc))
    targetReached := (f.opened.bind (·.target)).any (fun x => decide (x ≤ vc))
    limitReached := decide (Const.limitStop ≤ vc ∨ Const.limitStop ≤ m) }

/-- The recorded meter volumes before they are held in range: rounding toward −∞ (R28). -/
def flooredVolume (v : Int) : Int := v / 100000

/-- The recorded LO and HI volumes of a sale (R28). -/
def recordedVolumes (vc : Nat) (lo hi : Int) : Int × Int :=
  let cap : Int := Const.figureCap
  let l := flooredVolume lo
  let h := flooredVolume hi
  if vc = 0 ∨ vc = Const.figureCap then (clampInt (-cap) cap l, clampInt (-cap) cap h)
  else if cap < l then (cap, l + h - cap)
  else if cap < h then (l + h - cap, cap)
  else (l, h)

/-- The overrun of a closed sale (R29). -/
def overrunOf (limit : Option Limit) (vc m : Nat) : Option Nat :=
  match limit with
  | none => none
  | some l =>
    match l.kind with
    | .money => if l.value < m then some (m - l.value) else none
    | .volume => if l.value < vc then some (vc - l.value) else none

/-- The payable amount of a closed sale (R29). -/
def payableOf (limit : Option Limit) (vc m p : Nat) : Nat :=
  match limit with
  | none => m
  | some l =>
    match l.kind with
    | .money => if l.value < m then l.value else m
    | .volume => if l.value < vc then moneyOf l.value p else m

/-- The figures finalized at the sale close (R22, R27). -/
def Figures.finalize (f : Figures) (lo hi : Int) : Figures :=
  let g := f.recompute lo hi
  let pair := recordedVolumes g.displayed lo hi
  let limit := g.opened.bind (·.limit)
  { g with
    closing := some { lo := pair.1, hi := pair.2, overrun := overrunOf limit g.displayed g.money
                      payable := payableOf limit g.displayed g.money g.price }
    clamped := decide (Const.figureCap < wholeCentilitres g.volume ∨ Const.figureCap < uncappedMoney g.displayed g.price
                 ∨ pair ≠ (flooredVolume lo, flooredVolume hi)) }

/-- The slow-down volume of a side in force (R25). -/
def slowDown (s : State) : Side → Nat
  | .a => s.params.slowDownA.toNat
  | .b => s.params.slowDownB.toNat

end Sys2Proof.Machine
end

