-- ==== Sys2Proof/Machine/BlendOps.lean ====
section
/-! DEFINITION. The computations of the Blend Controllers (section 5): the products a grade needs, the trimmed duty, the windows,
the share and the alarm. -/

namespace Sys2Proof.Machine

/-- A blended grade (R77). -/
def GradeEntry.blended (g : GradeEntry) : Bool := g.share != 0 && g.share != 1000

/-- The products a grade needs: LO for a share of 0, HI for a share of 1000, both for a blended grade (R55, R77). -/
def GradeEntry.needs (g : GradeEntry) : Product → Bool
  | .lo => g.share != 1000
  | .hi => g.share != 0

/-- The trimmed product of a blended grade (R77). -/
def GradeEntry.trimmedProduct (g : GradeEntry) : Option Product :=
  if g.blended then (if g.share ≤ 500 then some .hi else some .lo) else none

/-- The products that the sale of a side needs, by its grade copy. -/
def Blend.needs (b : Blend) (p : Product) : Bool := b.copy.any (fun g => g.needs p)

/-- The side's sale is of a blended grade. -/
def Blend.isBlended (b : Blend) : Bool := b.copy.any GradeEntry.blended

/-- The unused product of a pure grade (section 5.8). -/
def Blend.unused (b : Blend) : Option Product :=
  b.copy.bind fun g => if g.share = 0 then some .hi else if g.share = 1000 then some .lo else none

/-- The Blend Controller at STARTING entry; the counters run on (R77). -/
def Blend.start (b : Blend) (g : GradeEntry) : Blend :=
  { b with copy := some g, trimmed := g.trimmedProduct, duty := none, window := none, alarmCount := 0, lastResult := none
           crossflowRaised := false }

/-- The window size in vu (R80). -/
def windowSize (c : Params) : Int := c.blendWindow * 100000

/-- The Blend Controller at an entry of the side to FLOWING: for a blended grade the trimmed duty is given and lowered to the
main duty, and a settling window opens (R78, R79). -/
def Blend.enterFlowing (b : Blend) (mainDuty : Nat) (size lo hi : Int) : Blend :=
  match b.copy with
  | none => b
  | some g =>
    if g.blended then
      { b with duty := some (min (b.duty.getD g.startDuty) mainDuty), ceiling := mainDuty, alarmCount := 0
               window := some { kind := .settling, lo := lo, hi := hi, size := size } }
    else b

/-- The measured share of a closed window, in permille, rounded half up (R81). -/
def shareOf (hi total : Int) : Int := (2000 * hi + total) / (2 * total)

/-- The trimmed duty stepped up, or a trim at limit from the duty ceiling (R82). -/
def Blend.stepUp (b : Blend) (d : Nat) : Blend :=
  if b.ceiling ≤ d then { b with atLimit := b.atLimit + 1 } else { b with duty := some (d + 1), stepsUp := b.stepsUp + 1 }

/-- The trimmed duty stepped down, or a trim at limit from 1 (R82). -/
def Blend.stepDown (b : Blend) (d : Nat) : Blend :=
  if d ≤ 1 then { b with atLimit := b.atLimit + 1 } else { b with duty := some (d - 1), stepsDown := b.stepsDown + 1 }

/-- The trim of an evaluated window with error `e` and tolerance `t1` (R82). -/
def Blend.trim (b : Blend) (t1 e : Int) : Blend :=
  match b.copy, b.trimmed, b.duty with
  | some g, some p, some d =>
    if g.trim ∧ t1 < |e| then
      -- too much HI lowers a HI valve and raises a LO valve
      if decide (0 < e) = decide (p = .hi) then b.stepDown d else b.stepUp d
    else b
  | _, _, _ => b

/-- The alarm of an evaluated window with error `e` and bound `bound`: a settling window leaves the count (R83). -/
def Blend.alarm (b : Blend) (kind : WindowKind) (bound e : Int) : Blend :=
  match kind with
  | .settling => b
  | .ordinary =>
    if bound < |e| then { b with alarmCount := b.alarmCount + 1, alarms := b.alarms + 1 } else { b with alarmCount := 0 }

/-- The evaluation of a closed window at the update that closed it, and the ordinary window that opens after it (R79, R81). -/
def Blend.evaluate (b : Blend) (c : Params) (w : BlendWindow) (lo hi : Int) : Blend :=
  let total := (lo - w.lo) + (hi - w.hi)
  let s := shareOf (hi - w.hi) total
  let e := s - (b.copy.elim 0 (fun g => (g.share : Int)))
  let b := { b with lastResult := some { total := total, share := s, error := e }, evaluated := b.evaluated + 1 }
  let b := (b.trim c.trimTolerance e).alarm w.kind (max c.alarmBound c.trimTolerance) e
  { b with window := some { kind := .ordinary, lo := lo, hi := hi, size := windowSize c } }

/-- The closed window is an alarm window that brings the alarm count to the blend fault count: BLEND is raised (R83). -/
def Blend.raisesBlend (before after : Blend) (c : Params) : Bool :=
  after.alarms != before.alarms && decide (c.blendFaultCount ≤ (after.alarmCount : Int))

/-- The window closes at this update: T has reached its size (R80). -/
def BlendWindow.closes (w : BlendWindow) (lo hi : Int) : Bool := decide (w.size ≤ (lo - w.lo) + (hi - w.hi))

/-- The final share of a blended sale at its close: absent where V is not above 0 (R85). -/
def finalShare (lo hi : Int) : Option Nat :=
  if 0 < lo + hi then some (clampInt 0 1000 (shareOf hi (lo + hi))).toNat else none

/-- The duties of a side's two valves in a side state (R67). -/
def valveDuties (st : SideState) (b : Blend) (c : Params) : PerProduct Nat :=
  let main := c.mainDuty.toNat
  let slow := c.slowDuty.toNat
  let duty (p : Product) : Nat :=
    if b.needs p then
      match st with
      | .flowing => if b.isBlended ∧ b.trimmed = some p then b.duty.getD 0 else main
      | .slowing => slow
      | _ => 0
    else 0
  { lo := duty .lo, hi := duty .hi }

end Sys2Proof.Machine
end

