-- ==== Sys2Proof/Machine/DisplayOps.lean ====
section
/-! DEFINITION. The Display Controllers (section 7): frames, sending, tests, and the heater permit arbiter. -/

namespace Sys2Proof.Machine

/-! ### Frames -/

/-- A frame whose number fields are 0 (R107). That its indicators are unlit and its decimal position is 0 is the model's: R107 tables them
for NORMAL frames alone (DESIGN CHOICE, unsafe; notes/assumptions/55.md). -/
def plainFrame (m : FrameMode) : Frame :=
  { mode := m, money := 0, volume := 0, price := 0, decimal := 0, grade := 0, preset := false, card := false, stop := false
    fault := false, cold := false }

/-- The decimal position of every NORMAL frame (R107). -/
def decimalPosition (s : State) : Nat := s.params.decimalPosition.toNat

/-- The AUDIT frame: the audit counter in the volume field (R112). -/
def auditFrame (s : State) : Frame :=
  { plainFrame .normal with volume := s.store.audit, decimal := decimalPosition s }

/-- The figures a NORMAL frame shows: the running sale in a fill state, the hold source otherwise, or zeros (R107). R107's row of the fill
states asks for a test that is done: that an ENDING side whose test failed or was abandoned shows its sale too is the model's (DESIGN
CHOICE, unsafe; notes/assumptions/65.md). -/
def shownFigures (s : State) (i : Side) : HoldSource :=
  if s.filling i then
    { money := (s.figures.get i).money, volume := (s.figures.get i).displayed, price := (s.figures.get i).price
      grade := ((s.fill.get i).sale).elim 0 (fun c => c.grade.number) }
  else ((s.display.get i).hold).getD { money := 0, volume := 0, price := 0, grade := 0 }

/-- The NORMAL frame of a side (R107). -/
def normalFrame (s : State) (i : Side) : Frame :=
  let f := s.fill.get i
  let h := shownFigures s i
  { mode := .normal, money := h.money, volume := h.volume, price := h.price, decimal := decimalPosition s, grade := h.grade
    preset := f.slot.any (fun a => a.limit.isSome)
    card := f.slot.any (fun a => a.source == .reader)
    stop := f.state == .held || f.state == .ending
    fault := f.closures.fault.isSome || f.closures.estop
    cold := (s.display.get i).dark }

/-- The frame of a test's phase (R111, R112). -/
def testFrame (s : State) : TestPhase → Frame
  | .all => plainFrame .all
  | .blank => plainFrame .blank
  | .audit => auditFrame s

/-- The duration of a test's phase (R111, R112), ms. -/
def TestPhase.duration : TestPhase → Nat
  | .blank => Const.blankPhase
  | .all | .audit => Const.allPhase

/-- The last phase of a test (R111, R112). -/
def TestKind.lastPhase : TestKind → TestPhase
  | .fill => .blank
  | .check => .audit

/-- The phase after a phase (R111, R112). -/
def TestPhase.next : TestPhase → TestPhase
  | .all => .blank
  | .blank | .audit => .audit

/-- The current frame of a side's controller (R107, R108). BLANK in STANDBY, the phase's frame in TESTING and OFF in SHUTTING are the
model's: R108 states the frame of UNPOWERED and R107 that of SHOWING (DESIGN CHOICE, unsafe; notes/assumptions/49.md). -/
def currentFrame (s : State) (i : Side) : Frame :=
  match (s.display.get i).controller with
  | .unpowered | .shutting => plainFrame .off
  | .standby => plainFrame .blank
  | .showing => normalFrame s i
  | .testing => testFrame s ((s.display.get i).test.elim .all (·.phase))

/-! ### Frame bytes (R196) -/

/-- Two decimal digits as one byte. -/
def bcd (n : Nat) : Byte := BitVec.ofNat 8 ((n / 10 % 10) * 16 + n % 10)

/-- Six BCD digits. -/
def sixDigits (n : Nat) : List Byte := [bcd (n / 10000), bcd (n / 100), bcd n]

def FrameMode.code : FrameMode → Nat
  | .off => 0
  | .normal => 1
  | .all => 2
  | .blank => 3

/-- The first twelve bytes of a display frame (R196). -/
def Frame.bytes (f : Frame) : List Byte :=
  let indicators := boolNat f.preset + 2 * boolNat f.card + 4 * boolNat f.stop + 8 * boolNat f.fault + 16 * boolNat f.cold
  [BitVec.ofNat 8 f.mode.code] ++ sixDigits f.money ++ sixDigits f.volume ++
    [BitVec.ofNat 8 (f.decimal * 16 + f.price / 10000 % 10), bcd (f.price / 100), bcd f.price] ++
    [BitVec.ofNat 8 f.grade, BitVec.ofNat 8 indicators]

/-- The sum check: the sum of the first twelve bytes modulo 256 (R192). -/
def Frame.sumCheck (f : Frame) : Byte := f.bytes.foldl (· + ·) 0

/-! ### Sending and controller states -/

/-- A frame is sent, first or retry: it is in flight, the echo timer starts, and it is counted (R109, R110). -/
def Display.send (d : Display) (f : Frame) (retry : Bool) : Display :=
  { d with transfer := some { frame := f, retry := retry }, echoTimer := some Const.echoWait, sent := d.sent + 1 }

/-- Entry to SHOWING: the test is over, the current frame is to be sent, and the refresh timer runs (R108, R109). Where a transfer is
in flight the frame waits under the send owed mark (DESIGN CHOICE, unsafe; notes/assumptions/50.md). -/
def Display.toShowing (d : Display) (refresh : Nat) : Display :=
  { d with controller := .showing, test := none, sendOwed := true, refreshTimer := some refresh }

/-- Entry to UNPOWERED: a transfer in flight and a running test are abandoned and the send owed mark is cleared (R108). -/
def Display.toUnpowered (d : Display) : Display :=
  { d with controller := .unpowered, transfer := none, test := none, sendOwed := false, refreshTimer := none, echoTimer := none }

/-- Entry to STANDBY: one BLANK frame is to be sent (R108). -/
def Display.toStandby (d : Display) : Display := { d with controller := .standby, sendOwed := true }

/-- Entry to SHUTTING: a running test is abandoned and the OFF frame is to be sent (R108). That the send owed mark is cleared is the
model's (DESIGN CHOICE, unsafe; notes/assumptions/50.md). -/
def Display.toShutting (d : Display) : Display :=
  { d with controller := .shutting, test := none, sendOwed := false, refreshTimer := none }

/-- A test starts from STANDBY or SHOWING; the send owed mark is cleared (R108, R111, R112). -/
def Display.startTest (d : Display) (k : TestKind) : Display :=
  match d.controller with
  | .standby | .showing =>
    { d with controller := .testing, sendOwed := false, refreshTimer := none
             test := some { kind := k, phase := .all, due := true, timer := none } }
  | _ => d

/-- The refresh interval in force (R109). -/
def refreshInterval (s : State) : Nat := s.params.refreshInterval.toNat

/-- The side has changed its state: a fill test that has not been done is abandoned when the side leaves STARTING (R111); otherwise a
SHOWING controller owes a frame (R109), but at STARTING entry, whose fill test goes first (R111; DEDUCED, unsafe;
notes/assumptions/54.md). -/
def Display.sideChanged (d : Display) (old new : SideState) (refresh : Nat) : Display :=
  match d.controller with
  | .showing => if new = .starting then d else { d with sendOwed := true }
  | .testing =>
    if old = .starting ∧ d.test.any (fun t => t.kind = .fill) then d.toShowing refresh else d
  | _ => d

/-- What a controller with no transfer in flight sends: the OFF frame in SHUTTING, the frame of a test's phase that is due, or the
frame that is owed (R108, R109, R111). -/
def startDisplay (i : Side) (s : State) : Display :=
  let d := s.display.get i
  match d.transfer with
  | some _ => d
  | none =>
    match d.controller with
    | .shutting => d.send (plainFrame .off) false
    | .testing =>
      match d.test with
      | some t =>
        if t.due then
          { d with test := some { t with due := false, timer := some t.phase.duration } }.send (testFrame s t.phase) false
        else d
      | none => d
    | .standby | .showing =>
      if d.sendOwed then { d with sendOwed := false }.send (currentFrame s i) false else d
    | .unpowered => d

/-- A frame that has become due is sent at once where no transfer is in flight; otherwise it waits for the transfer's end (R108,
R109, R111). -/
def sendDue (i : Side) (s : State) : State := s.setDisplay i (startDisplay i s)

/-! ### Heating -/

/-- heater-off', the larger of heater-off and heater-on + 2 (R115). -/
def heaterOff (c : Params) : Int := max c.heaterOff (c.heaterOn + 2)

/-- The permit count (R117). -/
def permitCount (s : State) : Nat := s.params.heaterPermits.toNat

/-- A waiting side takes a free permit, head of the list first (R117). -/
def Arbiter.fillPermits (a : Arbiter) (count : Nat) : Arbiter :=
  match a.waiting with
  | i :: rest => if a.holders.length < count then { holders := a.holders ++ [i], waiting := rest } else a
  | [] => a

/-- A side's heat want begins: it takes a free permit, or joins the tail of the waiting list (R117). -/
def Arbiter.want (a : Arbiter) (count : Nat) (i : Side) : Arbiter :=
  if a.holders.length < count then { a with holders := a.holders ++ [i] } else { a with waiting := a.waiting ++ [i] }

/-- A side's heat want ends: its permit is released to the head of the waiting list, or it leaves the list (R117). -/
def Arbiter.unwant (a : Arbiter) (count : Nat) (i : Side) : Arbiter :=
  if i ∈ a.holders then Arbiter.fillPermits { a with holders := a.holders.filter (· ≠ i) } count
  else { a with waiting := a.waiting.filter (· ≠ i) }

/-- The permit count has become `count`: raised, the head of the list takes the new permit; lowered to 1 while both sides hold
one, the side whose permit was taken later gives it up and waits (R117). -/
def Arbiter.setCount (a : Arbiter) (count : Nat) : Arbiter :=
  if count < a.holders.length then
    { holders := a.holders.take count, waiting := a.waiting ++ a.holders.drop count }
  else a.fillPermits count

/-- The heat want of a side as its four conditions give it (R115). -/
def heatWanted (s : State) (i : Side) : Bool :=
  let d := s.display.get i
  (d.thermostat || d.stageHeat) && d.temperature.isSome && d.controller != .unpowered && !s.supplyFailInput

/-- The heat want is evaluated again, and a change is handed to the arbiter (R115, R117). -/
def updateHeat (i : Side) (s : State) : State :=
  let d := s.display.get i
  let w := heatWanted s i
  if w = d.heatWant then s
  else
    (s.setDisplay i { d with heatWant := w }).setArbiter
      (if w then s.arbiter.want (permitCount s) i else s.arbiter.unwant (permitCount s) i)

/-- The heater output of a side (R115). -/
def heaterOn (s : State) (i : Side) : Bool := (s.display.get i).heatWant && decide (i ∈ s.arbiter.holders)

/-- The controller of a side becomes UNPOWERED, which ends its heat want (R108, R115). -/
def unpowerDisplay (i : Side) (s : State) : State :=
  updateHeat i (s.setDisplay i (s.display.get i).toUnpowered)

end Sys2Proof.Machine
end

