-- ==== Sys2Proof/Machine/FillOps.lean ====
section
/-! DEFINITION. The Fill Controllers and the Valve and Motor Drivers (section 4): the side state, the closure set, the
authorization slot, STARTING entry, stops, fill faults and the motors. -/

namespace Sys2Proof.Machine

/-! ### Changing the side state -/

/-- The no-flow timer across a change of side state: it starts at entry to FLOWING or SLOWING from another state, runs on between
the two, and stops when the side leaves both (R58). -/
def noFlowAfter (old new : SideState) (t : Timer) (c : Params) : Timer :=
  if new.isOpen then (if old.isOpen then t else some (c.noFlowTimeout.toNat * 1000)) else none

/-- The Blend Controller across a change of side state: an open window is discarded on leaving FLOWING (R84), and an entry to
FLOWING opens a window (R78, R79). -/
def blendAfter (s : State) (i : Side) (new : SideState) : Blend :=
  let b : Blend := { s.blend.get i with window := none }
  if new = .flowing then
    b.enterFlowing s.params.mainDuty.toNat (windowSize s.params) (s.meters.get i).lo.sale (s.meters.get i).hi.sale
  else b

/-- A side goes to a state: its timers, its Blend Controller, its valves and its Display Controller follow (R58, R63, R67, R78,
R79, R84, R109, R111). Going to the state it is in changes nothing. -/
def enterState (i : Side) (new : SideState) (s : State) : State :=
  let f := s.fill.get i
  if f.state = new then s
  else
    let b := blendAfter s i new
    sendDue i ((((s.setFill i
      { f with
        state := new
        noFlowTimer := noFlowAfter f.state new f.noFlowTimer s.params
        quietTimer := if new = .ending then some s.params.quietTime.toNat else none
        afterFlowTimer := if new = .ending then some Const.afterFlow else none }).setBlend i b).setValves i
      (valveDuties new b s.params)).setDisplay i ((s.display.get i).sideChanged f.state new (refreshInterval s)))

/-- The state that a side's nozzle record implies: CALLING with a counted nozzle up with a grade, IDLE otherwise (R47). -/
def Fill.impliedState (f : Fill) : SideState := if f.counted.any (fun c => c.grade.isSome) then .calling else .idle

/-- The side goes to the state its nozzle record implies (R47, R54). -/
def enterImplied (i : Side) (s : State) : State := enterState i (s.fill.get i).impliedState s

/-- The sale number that a SIDE_STATE notice carries while a sale context is open (R48). -/
def openSale (f : Fill) : Option Nat := f.sale.bind (fun c => if c.running then some c.number else none)

/-- A SIDE_STATE notice of a side as it stands (R48). -/
def reportState (i : Side) (s : State) : State :=
  let f := s.fill.get i
  notify (.sideState i f.state f.closures f.counted (openSale f)) s

/-! ### The reader's pending places -/

/-- An AUTH_STATE is made pending only while the port is ADMITTED; a newer one replaces it (R145). -/
def pendAuthState (i : Side) (k : AuthStateKind) (reference : Nat) (s : State) : State :=
  let p := s.ports.get i
  s.setPort i { p with
    pendingAuth := if p.state = .admitted then some { kind := k, reference := reference } else p.pendingAuth }

/-- A NOZZLE_STATE is made pending while the port is ADMITTED (R149). -/
def pendNozzleState (i : Side) (n : Nozzle) (g : Option Grade) (up : Bool) (s : State) : State :=
  let p := s.ports.get i
  s.setPort i { p with
    pendingNozzle := if p.state = .admitted then some { nozzle := n, grade := g, up := up } else p.pendingNozzle }

/-! ### The authorization slot -/

/-- The reason AUTH_STATE REMOVED carries; LINK_LOST is left unanswered (R145). -/
def RemovalReason.toReader : RemovalReason → Option PaymentReason
  | .expired => some .expired
  | .cancelled => some .cancelled
  | .closed => some .closed
  | .night => some .night
  | .linkLost => none

/-- A WAITING authorization is removed from the slot: AUTH_EVENT REMOVED is queued and the timer stops. Where `tell` is set and the
source is READER, AUTH_STATE REMOVED is made pending (R54, R145, R147). A slot without a WAITING one is left as it is. -/
def removeWaiting (i : Side) (why : RemovalReason) (tell : Bool) (s : State) : State :=
  let f := s.fill.get i
  match f.slot with
  | some a =>
    match a.phase with
    | .inUse => s
    | .waiting =>
      let s := notify (.authEvent i a.source a.reference (.removed why)) (s.setFill i { f with slot := none, authTimer := none })
      match tell, a.source, why.toReader with
      | true, .reader, some r => pendAuthState i (.removed r) (a.reference.getD 0) s
      | _, _, _ => s
  | none => s

/-- A WAITING authorization is removed and the side goes to the state its nozzle record implies (R54). -/
def withdrawWaiting (i : Side) (why : RemovalReason) (tell : Bool) (s : State) : State :=
  let waiting := (s.fill.get i).slot.any (fun a => a.phase = .waiting)
  let s := removeWaiting i why tell s
  if waiting ∧ s.sideState i = .authorized then enterImplied i s else s

/-! ### The closure set -/

/-- A side in a waiting state goes to CLOSED, and a WAITING authorization is removed with reason CLOSED; a side in a fill state
stays (R47). -/
def closeIfWaiting (i : Side) (s : State) : State :=
  if s.filling i then s else enterState i .closed (removeWaiting i .closed true s)

/-- A closure reason is added to a side (R47). -/
def addClosure (i : Side) (r : ClosureReason) (s : State) : State :=
  let f := s.fill.get i
  closeIfWaiting i (s.setFill i { f with closures := f.closures.add r })

/-- The closure set of a side becomes `c`, reasons having been removed: a CLOSED side whose set is empty leaves CLOSED (R47). -/
def setClosures (i : Side) (c : Closures) (s : State) : State :=
  let s := s.setFill i { s.fill.get i with closures := c }
  if s.sideState i = .closed ∧ c.isEmpty then enterImplied i s else s

/-- A closure reason is added to both sides. -/
def addClosureBoth (r : ClosureReason) (s : State) : State := addClosure .b r (addClosure .a r s)

/-! ### Motors -/

/-- A raise at a product's motor (R65): an OFF motor begins to prime, or runs at once with a prime delay of 0. -/
def Motor.raise (m : Motor) (delay : Nat) : Motor :=
  match m.state with
  | .off =>
    if delay = 0 then { state := .running, relay := true, primeTimer := none }
    else { state := .priming, relay := true, primeTimer := some delay }
  | .priming | .running => m

/-- A motor switched off (R66). -/
def Motor.stopped : Motor := { state := .off, relay := false, primeTimer := none }

/-- The demand count of a product: the number of sides that hold demand on it (R65). -/
def demandCount (s : State) (p : Product) : Nat :=
  boolNat (s.fill.a.demand.get p) + boolNat (s.fill.b.demand.get p)

/-- A side takes demand on a product (R65). -/
def raiseDemand (i : Side) (p : Product) (s : State) : State :=
  let f := s.fill.get i
  (s.setFill i { f with demand := f.demand.set p true }).setMotor p ((s.motors.get p).raise s.params.primeDelay.toNat)

/-- The drivers refuse every raise while either input is asserted (R65). -/
def raiseRefused (s : State) : Bool := s.estopInput || s.supplyFailInput

/-- A side gives up its demand on a product; the motor goes OFF when the count reaches 0 (R66). -/
def dropDemand (i : Side) (p : Product) (s : State) : State :=
  let f := s.fill.get i
  if f.demand.get p then
    let s := s.setFill i { f with demand := f.demand.set p false }
    if demandCount s p = 0 then s.setMotor p Motor.stopped else s
  else s

/-- A side gives up its demand on both products (R64, R68). -/
def dropBoth (i : Side) (s : State) : State := dropDemand i .hi (dropDemand i .lo s)

/-! ### Stops, ends and faults -/

/-- The sale context of a side changed. -/
def setSale (i : Side) (change : SaleContext → SaleContext) (s : State) : State :=
  let f := s.fill.get i
  s.setFill i { f with sale := f.sale.map change }

/-- A stop: the side goes to HELD with a stop reason (R57 to R59). -/
def hold (i : Side) (r : StopReason) (s : State) : State :=
  enterState i .held (setSale i (fun c => { c with stop := some r }) s)

/-- The side goes to ENDING with an end reason (R61). A recorded stop reason stays, SUSPEND too: that a suspended hold ended so is
still held suspended at its close is the model's reading of R91 (DESIGN CHOICE, unsafe; notes/assumptions/46.md). -/
def endFill (i : Side) (r : EndReason) (s : State) : State :=
  enterState i .ending (setSale i (fun c => { c with ended := some r }) s)

/-- The sale number of the context of a side. -/
def saleNumber (s : State) (i : Side) : Option Nat := ((s.fill.get i).sale).map (·.number)

/-- A fill fault reaches a side: in STARTING, FLOWING, SLOWING or HELD it ends the fill, closes the side and queues a FAULT notice;
in any other state it changes nothing (R62). -/
def fillFault (i : Side) (k : FaultKind) (m : Option Meter) (s : State) : State :=
  if (s.sideState i).beforeEnding then
    notifyFault (some i) k m (saleNumber s i) none none (endFill i (.fault k) (addClosure i (faultClosure k) s))
  else s

/-! ### Leaving STARTING and RESUME -/

/-- The state that the latest figures give a fill that may flow (R56, R60): HELD with TARGET or LIMIT, else SLOWING or FLOWING by
the slow point. -/
def chooseFlow (i : Side) (s : State) : State :=
  let g := s.figures.get i
  if g.targetReached then hold i .target s
  else if g.limitReached then hold i .limit s
  else
    let target := g.opened.bind (·.target)
    let slow := g.opened.bind (·.slowPoint)
    if target.isSome ∧ (slow.isNone ∨ g.slowPassed) then enterState i .slowing s else enterState i .flowing s

/-- The motor of every product that the sale of a side needs is RUNNING (R56). -/
def motorsReady (s : State) (i : Side) : Bool :=
  let b := s.blend.get i
  (!b.needs .lo || s.motors.lo.state == .running) && (!b.needs .hi || s.motors.hi.state == .running)

/-- A side in STARTING leaves it when the display test is done and its motors run (R56). -/
def tryLeaveStarting (i : Side) (s : State) : State :=
  if s.sideState i = .starting ∧ (s.fill.get i).testDone ∧ motorsReady s i then chooseFlow i s else s

/-! ### STARTING entry -/

/-- The sale number after a number (R93). -/
def nextSaleNumber (n : Nat) : Nat := if 9999 ≤ n then 1 else n + 1

/-- The next sale number advanced past the numbers of queued records, at most one for each record (R93). -/
def freeNumber (numbers : List Nat) : Nat → Nat → Nat
  | 0, n => n
  | k + 1, n => if n ∈ numbers then freeNumber numbers k (nextSaleNumber n) else n

/-- The number the side's next sale takes (R93). -/
def takenNumber (s : State) (i : Side) : Nat :=
  let q := (s.register.queues.get i).map (·.number)
  freeNumber q q.length (s.register.next.get i)

/-- The sale accumulators of a side are set to 0, and its fill phase error count and raised marks are cleared (R4, R10). -/
def zeroSale (i : Side) (s : State) : State :=
  let m := s.meters.get i
  ({ s with meters := s.meters.set i { lo := { m.lo with sale := 0 }, hi := { m.hi with sale := 0 } } }).setSideMeters i
    { s.sideMeters.get i with fillErrors := 0, pulserRaised := false, reverseRaised := false }

/-- The creep accumulators of a side are set to 0 and their alarms armed (R5). -/
def zeroCreep (i : Side) (s : State) : State :=
  let m := s.meters.get i
  { s with
    meters := s.meters.set i
      { lo := { m.lo with creep := 0, creepFired := false }, hi := { m.hi with creep := 0, creepFired := false } } }

/-- Motor demand is raised for the products the sale needs (R55, R65). -/
def raiseNeeded (i : Side) (s : State) : State :=
  let b := s.blend.get i
  let s := if b.needs .lo then raiseDemand i .lo s else s
  if b.needs .hi then raiseDemand i .hi s else s

/-- The sale context opened at STARTING entry (R55). -/
def openContext (s : State) (i : Side) (a : Auth) (n : Nozzle) (g : Grade) : SaleContext :=
  { number := takenNumber s i, nozzle := n, grade := g, source := a.source, reference := a.reference, limit := a.limit
    level := a.level, start := s.stamp, stop := none, ended := none, running := true }

/-- STARTING entry of a side under the authorization in its slot (R55): the sale is numbered and its context opened, the figures
are opened, the accumulators zeroed, the authorization becomes IN_USE, the fill test starts, and motor demand is raised, or the
side takes fault ESTOP where the drivers refuse. -/
def startSale (i : Side) (a : Auth) (n : Nozzle) (g : Grade) (s : State) : State :=
  let c := openContext s i a n g
  let generation := s.prices.sideGeneration.get i
  let price := s.prices.lookup generation g a.level
  let f := s.fill.get i
  let s := zeroSale i ((s.setRegister { s.register with next := s.register.next.set i (nextSaleNumber c.number) }).setFigures i
    (openFigures price a.level generation a.limit (slowDown s i)))
  let s := (s.setFill i { f with slot := some { a with phase := .inUse }, authTimer := none, sale := some c, testDone := false }).setBlend i
    ((s.blend.get i).start (s.grades.get g))
  let s := notify (.authEvent i a.source a.reference .inUse) (enterState i .starting s)
  let s := if a.source = .reader then pendAuthState i (.started c.number) (a.reference.getD 0) s else s
  let s := sendDue i (s.setDisplay i ((s.display.get i).startTest .fill))
  if raiseRefused s then fillFault i .estop none s else tryLeaveStarting i (raiseNeeded i s)

/-- The first condition of an allowed lift that fails; none for an allowed lift (R51). -/
def liftRefusal (s : State) (i : Side) (a : Auth) (g : Grade) : Option LiftRefusal :=
  if !inGrades a.grades g then some .grade
  else if s.prices.lookup (s.prices.sideGeneration.get i) g a.level = 0 then some .price
  else if (s.display.get i).dark then some .dark
  else if (s.store.slots.get i).state ≠ .erased then some .save
  else none

/-- The lift of the counted nozzle is tested: allowed, the side enters STARTING; refused, it goes to or stays in AUTHORIZED with
GRADE_REFUSED (R50, R51). -/
def testLift (i : Side) (a : Auth) (c : Counted) (s : State) : State :=
  match c.grade with
  | none => notify (.gradeRefused i c.nozzle none .grade) (enterState i .authorized s)
  | some g =>
    match liftRefusal s i a g with
    | none => startSale i a c.nozzle g s
    | some r => notify (.gradeRefused i c.nozzle (some g) r) (enterState i .authorized s)

/-- An accepted authorization enters the slot WAITING, its timer starts unless the timeout is 0, and the side moves: from IDLE to
AUTHORIZED; from CALLING by the test of the counted nozzle's lift (R52, R53, R147). -/
def acceptAuth (i : Side) (a : Auth) (s : State) : State :=
  let f := s.fill.get i
  let t := s.params.authTimeout.toNat
  let s := notify (.authEvent i a.source a.reference .accepted)
    (s.setFill i { f with slot := some a, authTimer := if t = 0 then none else some (t * 1000) })
  let s := if a.source = .reader then pendAuthState i .accepted (a.reference.getD 0) s else s
  match f.state, f.counted with
  | .calling, some c => testLift i a c s
  | _, _ => enterState i .authorized s

/-! ### Counted lifts and hang-ups -/

/-- The notices of a counted lift or hang-up, to the host and to the side's reader (R49, R149). -/
def reportNozzle (i : Side) (c : Counted) (up : Bool) (s : State) : State :=
  pendNozzleState i c.nozzle c.grade up (notify (.nozzle i c.nozzle c.grade up) s)

/-- A counted lift: the nozzle becomes the counted nozzle with the grade the map gives it (R49), and the side moves by R50. -/
def countLift (i : Side) (n : Nozzle) (s : State) : State :=
  let f := s.fill.get i
  let c : Counted := { nozzle := n, grade := f.map.get n }
  let s := reportNozzle i c true (s.setFill i { f with counted := some c })
  match f.state with
  | .idle => if c.grade.isSome then enterState i .calling s else s
  | .authorized => f.slot.elim s (fun a => testLift i a c s)
  | _ => s

/-- The lowest-numbered nozzle that is up and not spent (R49). -/
def firstUp (p : PerNozzle NozzlePosition) : Option Nozzle := allNozzles.find? (fun n => p.get n = .up)

/-- The side moves at a counted hang-up by R50, or its fill ends by R61. -/
def moveAtHangUp (i : Side) (s : State) : State :=
  if (s.sideState i).beforeEnding then endFill i .hungUp s
  else if s.sideState i = .calling then enterState i .idle s
  else s

/-- A nozzle still up is counted at the hang-up of the counted nozzle (R49). A CALLING side that it takes back to CALLING has changed
its state twice with its closure set as it was: each change has its SIDE_STATE notice (R48). -/
def countAgain (i : Side) (old : SideState) (n : Nozzle) (s : State) : State :=
  if old = .calling ∧ ((s.fill.get i).map.get n).isSome then reportState i (countLift i n (reportState i s)) else countLift i n s

/-- A counted hang-up: the side moves, then the lowest-numbered nozzle still up becomes the counted nozzle (R49, R50, R61). -/
def countHangUp (i : Side) (c : Counted) (s : State) : State :=
  let f := s.fill.get i
  let s := moveAtHangUp i (reportNozzle i c false
    (s.setFill i { f with counted := none, nozzles := f.nozzles.set c.nozzle .hung }))
  match firstUp (s.fill.get i).nozzles with
  | some n => countAgain i f.state n s
  | none => s

end Sys2Proof.Machine
end

