-- ==== Sys2Proof/Machine/PortOps.lean ====
section
/-! DEFINITION. The Reader Isolation Switch (section 8) and what the Payment Path does at a port's changes (section 9): port states,
admission, the check list, the Conversation Table, the rate meter and the transmitter. -/

namespace Sys2Proof.Machine

/-! ### Port states -/

/-- The reader supply output is on, the receiver runs (R121). -/
def PortState.running : PortState → Bool
  | .negotiating | .admitted => true
  | .disabled | .backoff | .failed | .tampered => false

/-- The READER_STATE notice of a change of port state (R121). -/
def notifyPort (i : Side) (r : PortReason) (s : State) : State :=
  let p := s.ports.get i
  notify (.readerState i p.state r p.failures p.terms) s

/-- A port changes its state and reports it (R121). -/
def changePort (i : Side) (r : PortReason) (p : Port) (s : State) : State := notifyPort i r (s.setPort i p)

/-- The port with its step, backoff, admission record and transmission ended (R125, R128, R129, R133). -/
def Port.quiet (p : Port) : Port :=
  { p with step := none, stepTimer := none, backoffTimer := none, offered := none, owed := none, tx := none
           receiver := .hunting, lineLowTimer := none }

/-- NEGOTIATING from its first step: READY_WAIT with 3 s, which ends at once where reader-ready is asserted; then OFFER is to be
sent (R123). -/
def Port.negotiate (p : Port) : Port :=
  let q := { p.quiet with state := .negotiating }
  if p.readyInput then { q with step := some .abilityWait, owed := some .offer }
  else { q with step := some .readyWait, stepTimer := some Const.readyWait }

/-- The end of READY_WAIT at a later assertion of reader-ready (R123). -/
def Port.readyFound (p : Port) : Port := { p with step := some .abilityWait, stepTimer := none, owed := some .offer }

/-- The backoff after the F-th consecutive failure, ms (R125). -/
def backoffTime (f : Nat) : Nat := min (2 ^ (f - 1)) 32 * 1000

/-- A failed attempt: F rises, and the port enters FAILED at 8 and BACKOFF otherwise (R125). -/
def Port.attemptFailed (p : Port) : Port :=
  let f := p.failures + 1
  if 8 ≤ f then { p.quiet with state := .failed, failures := f }
  else { p.quiet with state := .backoff, failures := f, backoffTimer := some (backoffTime f) }

/-- The attempt of a port fails for a reason (R123, R125). -/
def failAttempt (i : Side) (r : PortReason) (s : State) : State := changePort i r (s.ports.get i).attemptFailed s

/-- A start request (R122). -/
def startRequest (i : Side) (s : State) : State :=
  let p := s.ports.get i
  match p.state with
  | .disabled | .failed => changePort i .enabled (Port.negotiate { p with failures := 0 }) s
  | .backoff => changePort i .enabled p.negotiate s
  | .negotiating | .admitted | .tampered => s

/-! ### Leaving ADMITTED -/

/-- What an exit from ADMITTED does to the port itself: the transmission is abandoned, the queue and the pending records are
discarded and counted, the refill timers stop and the terms go (R126). An empty result in transmission stays in its place
(R150), as one that has not started (DESIGN CHOICE, unsafe; notes/assumptions/80.md). -/
def Port.exited (p : Port) : Port :=
  { p.quiet with
    queue := [], pendingAuth := none, pendingNozzle := none, terms := none, committedTimer := none, excessTimer := none
    emptyPlace := p.emptyPlace.map (fun e => { e with sending := false })
    counters :=
      { p.counters with discarded := p.counters.discarded + BitVec.ofNat 32 (p.queue.length + boolNat p.tx.isSome) } }

/-- The Conversation Table without the entries of a port (R126). -/
def dropPort (i : Side) (t : List Conversation) : List Conversation := t.filter (fun c => c.port ≠ i)

/-- The Conversation Table without the entries that expect a class (R131, R132). -/
def dropExpected (code : Nat) (t : List Conversation) : List Conversation := t.filter (fun c => c.answer ≠ code)

/-- The payment path at an exit from ADMITTED: a WAITING READER authorization is removed with reason LINK_LOST (R153). -/
def readerLost (i : Side) (s : State) : State :=
  if (s.fill.get i).slot.any (fun a => a.source == .reader) then withdrawWaiting i .linkLost false s else s

/-- A port goes to a state other than ADMITTED. Leaving ADMITTED has the effects of R126 and R153; `change` gives the port its new
state. -/
def leavePort (i : Side) (r : PortReason) (change : Port → Port) (s : State) : State :=
  let p := s.ports.get i
  if p.state = .admitted then
    readerLost i (changePort i r (change p.exited) { s with conversations := dropPort i s.conversations })
  else changePort i r (change p) s

/-- Line loss by the port state (R127). -/
def lineLoss (i : Side) (s : State) : State :=
  let p := s.ports.get i
  match p.state, p.step with
  | .admitted, _ =>
    leavePort i .lineLost
      (fun q => { q with state := .backoff, failures := 1, backoffTimer := some (backoffTime 1) }) s
  | .negotiating, some .abilityWait => failAttempt i .lineLost s
  | .negotiating, some .ackWait => failAttempt i .lineLost s
  | _, _ => s

/-- A disable acts in every state except TAMPERED and DISABLED (R129). -/
def disablePort (i : Side) (r : PortReason) (s : State) : State :=
  match (s.ports.get i).state with
  | .disabled | .tampered => s
  | .negotiating | .admitted | .backoff | .failed =>
    leavePort i r (fun q => { q.quiet with state := .disabled, failures := 0 }) s

/-- A sale record whose pending delivery is dropped by tamper (R155). -/
def SaleRecord.undeliverable (r : SaleRecord) : SaleRecord :=
  { r with flags := { r.flags with deliveryPending := false, undeliverable := true } }

/-- The pending deliveries of a side's sales are dropped: flagged records become UNDELIVERABLE and the empty result place is
emptied (R155). -/
def dropDeliveries (i : Side) (s : State) : State :=
  let p := s.ports.get i
  let queue := (s.register.queues.get i).map (fun r => if r.flags.deliveryPending then r.undeliverable else r)
  (s.setRegister { s.register with queues := s.register.queues.set i queue }).setPort i
    { p with
      emptyPlace := none
      counters := { p.counters with discarded := p.counters.discarded + BitVec.ofNat 32 (boolNat p.emptyPlace.isSome) } }

/-- The assertion of a port's tamper input (R128, R155); every assertion sets the latch (R188). -/
def tamperPort (i : Side) (s : State) : State :=
  let s := s.setLink { s.link with latches := s.link.latches.setTamper i }
  if (s.ports.get i).state = .tampered then s
  else dropDeliveries i (leavePort i .tamper (fun q => { q.quiet with state := .tampered }) s)

/-- A flooding reader is put through admission again: F is kept, the supply stays on (R138). -/
def floodPort (i : Side) (s : State) : State :=
  leavePort i .flood (fun q => Port.negotiate { q with redRun := 0, redMark := false }) s

/-! ### Admission -/

/-- The part's own revisions {1, 2} and features {PARTIAL, PROMPT} as sets (R123, R195). -/
def partRevisions : BitVec 8 := 3
def partFeatures : BitVec 8 := 3

/-- The highest revision of a set; none of an empty one (R124). -/
def highestRevision (set : BitVec 8) : Option Nat :=
  ([8, 7, 6, 5, 4, 3, 2, 1].find? (fun n => set.getLsbD (n - 1)))

/-- The judgement of an ABILITY: the agreed terms, or the reason the attempt fails (R124). -/
def agreedTerms (revisions : BitVec 8) (maxBody : Nat) (features : BitVec 8) : Except PortReason Terms :=
  match highestRevision (revisions &&& partRevisions) with
  | none => .error .noRevision
  | some r =>
    if maxBody < Const.leastMaxBody then .error .terms
    else .ok { revision := r, maxBody := min Const.partMaxBody maxBody, features := features &&& partFeatures }

/-- An ABILITY taken by the admission step (R123, R124). -/
def takeAbility (i : Side) (revisions : BitVec 8) (maxBody : Nat) (features : BitVec 8) (s : State) : State :=
  let p := s.ports.get i
  match agreedTerms revisions maxBody features with
  | .error r => failAttempt i r s
  | .ok t =>
    s.setPort i { p with step := some .ackWait, stepTimer := none, offered := some t, owed := some (.confirm t) }

/-- Entry to ADMITTED with the agreed terms: F is 0, the buckets are full, the red run is 0, the refill timers start (R123,
R137). -/
def Port.admitOn (p : Port) (t : Terms) (c : Params) : Port :=
  { p with
    state := .admitted, step := none, stepTimer := none, failures := 0, terms := some t, offered := none, owed := none
    committed := c.committedCapacity.toNat, excess := c.excessCapacity.toNat, redMark := false, redRun := 0
    committedTimer := some Const.committedInterval, excessTimer := some Const.excessInterval }

/-! ### The Class Table -/

/-- The configurable entry of a code (R130). -/
def lookupClass (t : List ClassEntry) (code : Nat) : Option ClassEntry := t.find? (fun e => e.code = code)

/-- The table with an entry set, kept in the order of the codes (R131, R142). -/
def insertClass (e : ClassEntry) : List ClassEntry → List ClassEntry
  | [] => [e]
  | x :: rest =>
    if x.code = e.code then e :: rest
    else if e.code < x.code then e :: x :: rest
    else x :: insertClass e rest

/-- The table without an entry (R132). -/
def removeClass (code : Nat) (t : List ClassEntry) : List ClassEntry := t.filter (fun e => e.code ≠ code)

/-- An entry takes answers from the reader: ANSWER with READER_TO_LINK (R130, R131). -/
def ClassEntry.answers (e : ClassEntry) : Bool := e.answer && e.direction.fromReader

/-! ### The check list -/

/-- The reasons for which a record is discarded, in the order of the checks (R140). -/
inductive DropReason where
  | frame | state | cls | length | rate | unasked
deriving DecidableEq, Repr

/-- One more of a dropped counter (R140). -/
def PortCounters.drop (c : PortCounters) : DropReason → PortCounters
  | .frame => { c with frame := c.frame + 1 }
  | .state => { c with state := c.state + 1 }
  | .cls => { c with cls := c.cls + 1 }
  | .length => { c with length := c.length + 1 }
  | .rate => { c with rate := c.rate + 1 }
  | .unasked => { c with unasked := c.unasked + 1 }

/-- The limit of check 1: the agreed maximum body in ADMITTED, and 200 in NEGOTIATING (R140). -/
def Port.bodyLimit (p : Port) : Nat :=
  if p.state = .admitted then p.terms.elim Const.partMaxBody (·.maxBody) else Const.partMaxBody

/-- The admission class that the current step expects (R140). -/
def Port.expects (p : Port) : Option Nat :=
  match p.step with
  | some .abilityWait => some Cls.ability
  | some .ackWait => some Cls.ack
  | some .readyWait => none
  | none => none

/-- Check 2 fails (R140). -/
def Port.wrongState (p : Port) (cls : Nat) : Bool :=
  if p.state = .negotiating then p.expects != some cls else Cls.isAdmission cls

/-- The class is one a reader may send: check 3 passes (R140). -/
def readerSide (t : List ClassEntry) (cls : Nat) : Bool :=
  cls == Cls.ability || cls == Cls.ack || Cls.isPayment cls || (lookupClass t cls).any (fun e => e.direction.fromReader)

/-- Check 4 fails: a body longer than the class's maximum, or of another length than a built-in class's (R140, R195). -/
def wrongLength (t : List ClassEntry) (cls len : Nat) : Bool :=
  if cls ∈ Cls.builtIn then len != Cls.length cls else (lookupClass t cls).any (fun e => decide (e.maxBody < len))

/-- Weight and ESSENTIAL of a class (R130, R137). -/
def classRate (t : List ClassEntry) (cls : Nat) : Nat × Bool :=
  if cls ∈ Cls.builtIn then (1, true) else (lookupClass t cls).elim (1, true) (fun e => (e.weight, e.essential))

/-- What the rate meter makes of a record (R137). -/
inductive Colour where
  | green | yellow | red
deriving DecidableEq, Repr

/-- The colour of a record of weight `w` (R137). -/
def Port.colour (p : Port) (w : Nat) : Colour := if w ≤ p.committed then .green else if w ≤ p.excess then .yellow else .red

/-- Check 5: the port with the tokens taken or the red mark set, and whether the record passes (R137). -/
def Port.meterRecord (p : Port) (w : Nat) (essential : Bool) : Port × Bool :=
  match p.colour w with
  | .green => ({ p with committed := p.committed - w }, true)
  | .yellow => if essential then ({ p with excess := p.excess - w }, true) else (p, false)
  | .red => ({ p with redMark := true }, false)

/-- The entry that a record of an ANSWER class answers (R135). -/
def Conversation.matches (c : Conversation) (port : Side) (tag cls : Nat) : Bool :=
  c.port == port && c.tag == tag && c.answer == cls

/-- The class is ANSWER and no conversation matches: check 6 fails (R140). -/
def unasked (s : State) (i : Side) (cls tag : Nat) : Bool :=
  decide (cls ∉ Cls.builtIn) && (lookupClass s.classes cls).any (fun e => e.answer) && !(s.conversations.any (fun c => c.matches i tag cls))

/-- The check list (R140): the port as the checks leave it, and the first check that fails. -/
def judge (s : State) (i : Side) (checkGood : Bool) (cls tag len : Nat) : Port × Option DropReason :=
  let p := s.ports.get i
  if !checkGood ∨ p.bodyLimit < len then (p, some .frame)
  else if p.wrongState cls then (p, some .state)
  else if !readerSide s.classes cls then (p, some .cls)
  else if wrongLength s.classes cls len then (p, some .length)
  else if Cls.isAdmission cls then (p, none)
  else
    let r := classRate s.classes cls
    match p.meterRecord r.1 r.2 with
    | (q, false) => (q, some .rate)
    | (q, true) => if unasked s i cls tag then (q, some .unasked) else (q, none)

/-- The receiver has taken a frame in full: it hunts again, and the frame is counted (R139). -/
def Port.frameTaken (p : Port) : Port :=
  { p with receiver := .hunting, counters := { p.counters with received := p.counters.received + 1 } }

/-- An abandoned frame is counted received and FRAME (R139). -/
def Port.frameAbandoned (p : Port) : Port :=
  { p.frameTaken with counters := p.frameTaken.counters.drop .frame }

/-- A discarded record: counted by reason; in NEGOTIATING a discard at checks 2 to 4 fails the attempt (R123, R140). -/
def discardRecord (i : Side) (r : DropReason) (s : State) : State :=
  let p := s.ports.get i
  let s := s.setPort i { p with counters := p.counters.drop r }
  if p.state = .negotiating ∧ r ≠ .frame then failAttempt i .wrongRecord s else s

/-- A record arrives at a port whose receiver runs, and the check list judges it; `accept` is its disposal (R139 to R141). An idle
receiver takes nothing (R121). -/
def arrive (i : Side) (checkGood : Bool) (cls tag len : Nat) (accept : State → State) (s : State) : State :=
  let p := s.ports.get i
  if p.state.running then
    let s := s.setPort i p.frameTaken
    match judge s i checkGood cls tag len with
    | (q, none) => accept (s.setPort i q)
    | (q, some r) => discardRecord i r (s.setPort i q)
  else s

/-- A record consumed by the admission step or the payment path is counted (R141). -/
def countConsumed (i : Side) (s : State) : State :=
  let p := s.ports.get i
  s.setPort i { p with counters := { p.counters with consumed := p.counters.consumed + 1 } }

/-- A configurable record is forwarded: counted, its conversation removed where it is an answer, and its notice queued (R135,
R141). -/
def forwardRecord (i : Side) (cls tag : Nat) (body : List Byte) (s : State) : State :=
  let p := s.ports.get i
  let answer := (lookupClass s.classes cls).any (fun e => e.answer)
  let s := s.setPort i { p with counters := { p.counters with forwarded := p.counters.forwarded + 1 } }
  notify (.readerRecord i cls tag body)
    { s with
      conversations :=
        if answer then s.conversations.filter (fun c => !c.matches i tag cls) else s.conversations }

/-! ### Conversations -/

/-- The entry of a port and tag (R134, R135). -/
def hasConversation (t : List Conversation) (i : Side) (tag : Nat) : Bool := t.any (fun c => c.port == i && c.tag == tag)

/-- The entry is made or refreshed (R135). -/
def askConversation (i : Side) (tag answer : Nat) (t : List Conversation) : List Conversation :=
  if hasConversation t i tag then
    t.map (fun c => if c.port = i ∧ c.tag = tag then { c with answer := answer, age := true } else c)
  else t ++ [{ port := i, tag := tag, answer := answer, age := true }]

/-- The aging of the table: flagged entries lose the flag, the others go (R136). -/
def ageConversations (t : List Conversation) : List Conversation :=
  (t.filter (fun c => c.age)).map (fun c => { c with age := false })

/-- The number of entries of a port that an aging scan removes (R136). -/
def expiredCount (i : Side) (t : List Conversation) : Nat := (t.filter (fun c => !c.age && c.port == i)).length

/-! ### The rate meter's timers -/

/-- A bucket refilled and held at its capacity (R137). -/
def refill (tokens amount capacity : Nat) : Nat := min (tokens + amount) capacity

/-- A bucket whose capacity has been set: cut to a lower capacity, left by a higher one (R137). -/
def cutBuckets (c : Params) (p : Port) : Port :=
  { p with committed := min p.committed c.committedCapacity.toNat, excess := min p.excess c.excessCapacity.toNat }

/-- The red-run test of an ADMITTED port (R138). -/
def redRunTest (i : Side) (s : State) : State :=
  let p := s.ports.get i
  if p.state = .admitted then
    let run := if p.redMark then p.redRun + 1 else 0
    let s := s.setPort i { p with redRun := run, redMark := false }
    if 3 ≤ run then floodPort i s else s
  else s

/-! ### The transmitter -/

/-- The SALE_RESULT of a queued record (R151). -/
def resultOf (r : SaleRecord) : SaleResult :=
  { number := r.number, reference := r.reference.getD 0, grade := r.grade, price := r.price, volume := r.volume
    money := r.money, payable := r.payable, overrun := r.overrun.isSome, empty := false, restored := r.flags.restored }

/-- The SALE_RESULT of an empty record: payable 0, with EMPTY (R150, R151). -/
def emptyResultOf (r : SaleRecord) : SaleResult := { resultOf r with payable := 0, empty := true }

/-- The oldest record of a side's queue that carries DELIVERY_PENDING (R151). -/
def pendingDelivery (s : State) (i : Side) : Option SaleRecord :=
  (s.register.queues.get i).find? (fun r => r.flags.deliveryPending)

/-- The port of an ADMITTED side with its next record in transmission, in the order of R133. A record leaves its place when its
transmission starts, but for a SALE_RESULT (R151). -/
def Port.startNext (p : Port) (delivery : Option SaleRecord) : Port :=
  match p.pendingAuth with
  | some a => { p with pendingAuth := none, tx := some (.authState a) }
  | none =>
    match delivery with
    | some r => { p with tx := some (.saleResult (resultOf r)) }
    | none =>
      match p.emptyPlace with
      | some e => { p with tx := some (.saleResult e.result), emptyPlace := some { e with sending := true } }
      | none =>
        match p.pendingNozzle with
        | some n => { p with pendingNozzle := none, tx := some (.nozzleState n) }
        | none =>
          match p.queue with
          | r :: rest => { p with queue := rest, tx := some (.host r) }
          | [] => p

/-- The transmitter of a port starts a record when none is in transmission and the port state allows (R133). -/
def startReader (s : State) (i : Side) : Port :=
  let p := s.ports.get i
  match p.tx, p.state with
  | none, .negotiating => { p with tx := p.owed, owed := none }
  | none, .admitted => p.startNext (pendingDelivery s i)
  | _, _ => p

/-- The end of an admission record starts the step timer of its step (R123, R133). -/
def Port.stepStarted (p : Port) (t : ReaderTx) : Port :=
  match t, p.step with
  | .offer, some .abilityWait => { p with stepTimer := some Const.stepWait }
  | .confirm _, some .ackWait => { p with stepTimer := some Const.stepWait }
  | _, _ => p

/-- The record of a SALE_RESULT that has been sent has its DELIVERY_PENDING cleared (R151). -/
def clearDelivery (number : Nat) (q : List SaleRecord) : List SaleRecord :=
  q.map (fun r => if r.number = number then { r with flags := { r.flags with deliveryPending := false } } else r)

/-- The end of a transmission: counted sent, handed to the admission step or to the payment path (R133, R151). -/
def readerSent (i : Side) (s : State) : State :=
  let p := s.ports.get i
  match p.tx with
  | none => s
  | some t =>
    let p := Port.stepStarted { p with tx := none, counters := { p.counters with sent := p.counters.sent + 1 } } t
    match t with
    | .saleResult r =>
      if r.empty then
        s.setPort i { p with emptyPlace := p.emptyPlace.bind (fun e => if e.sending then none else some e) }
      else
        (s.setRegister { s.register with
          queues := s.register.queues.set i (clearDelivery r.number (s.register.queues.get i)) }).setPort i p
    | _ => s.setPort i p

end Sys2Proof.Machine
end

