-- ==== Sys2Proof/Machine/SaleOps.lean ====
section
/-! DEFINITION. The Sale Register (section 6) and the sale close (R64): records, totals, the hand-over to the payment path (R150),
and the restore of the save slots (R104, R105). -/

namespace Sys2Proof.Machine

/-! ### Totals -/

/-- A contribution added to a total, modulo 10^12 (R97). -/
def addTotal (t x : Int) : Int := (t + x) % Const.totalModulus

/-- The totals with a record's three kinds of contribution added (R97). -/
def Totals.add (t : Totals) (r : SaleRecord) : Totals :=
  let m := t.meterVolume.get r.side
  { gradeVolume := t.gradeVolume.set r.grade (addTotal (t.gradeVolume.get r.grade) r.volume)
    gradeMoney :=
      t.gradeMoney.set r.grade
        ((t.gradeMoney.get r.grade).set r.level (addTotal ((t.gradeMoney.get r.grade).get r.level) r.money))
    meterVolume := t.meterVolume.set r.side { lo := addTotal m.lo r.lo, hi := addTotal m.hi r.hi } }

/-- A record whose totals are owed: closed by POWER_FAIL, with RESTORED clear (R98). -/
def SaleRecord.owed (r : SaleRecord) : Bool := decide (r.ended = .powerFail) && !r.flags.restored

/-- A record whose deferred totals have been applied (R98). -/
def SaleRecord.restore (r : SaleRecord) : SaleRecord := { r with flags := { r.flags with restored := true } }

/-- The totals with the owed records of a queue applied (R103, R104). -/
def Totals.addOwed (t : Totals) (q : List SaleRecord) : Totals := (q.filter SaleRecord.owed).foldl Totals.add t

/-- A queue whose owed records have been applied (R103, R104). -/
def restoreOwed (q : List SaleRecord) : List SaleRecord := q.map (fun r => if r.owed then r.restore else r)

/-! ### The queue -/

/-- The record of a number in a side's queue (R95, R96). -/
def findSale (s : State) (i : Side) (n : Nat) : Option SaleRecord :=
  (s.register.queues.get i).find? (fun r => r.number = n)

/-- The removal of a record: it leaves its queue, those behind it move up, and SALE_SETTLED is queued (R96, R152). -/
def removeSale (i : Side) (n : Nat) (who : Settler) (s : State) : State :=
  notify (.saleSettled i n who) (s.setRegister { s.register with
    queues := s.register.queues.set i ((s.register.queues.get i).filter (fun r => r.number ≠ n)) })

/-! ### The sale close -/

/-- The CROSSFLOW flag of a record: a pure grade whose unused meter's sale accumulator is not 0 (R86). -/
def crossflowFlag (b : Blend) (lo hi : Int) : Bool :=
  match b.unused with
  | some .lo => lo != 0
  | some .hi => hi != 0
  | none => false

/-- The sale record formed at a close, from the sale context, the closing figures and the Blend Controller (R64, R91). -/
def formRecord (s : State) (i : Side) (c : SaleContext) : SaleRecord :=
  let g := s.figures.get i
  let b := s.blend.get i
  let lo := (s.meters.get i).lo.sale
  let hi := (s.meters.get i).hi.sale
  { number := c.number, side := i, nozzle := c.nozzle, grade := c.grade, level := c.level
    price := g.price, generation := g.opened.elim 0 (·.generation)
    volume := g.displayed, money := g.money
    lo := g.closing.elim 0 (·.lo), hi := g.closing.elim 0 (·.hi)
    share := if b.isBlended then finalShare lo hi else none
    source := c.source, reference := c.reference, limit := c.limit, stop := c.stop, ended := c.ended.getD .commandEnd
    overrun := g.closing.bind (·.overrun), payable := g.closing.elim 0 (·.payable)
    flags := { clamped := g.clamped, crossflow := crossflowFlag b lo hi, restored := false, deliveryPending := false
               undeliverable := false }
    start := c.start, endTime := s.stamp }

/-- The Sale Register takes a handed record: an empty one is reported and dropped; another joins the tail of its queue, is
reported, and has its totals applied unless it ended by POWER_FAIL. A TOTALS_WRITE is queued in either case (R92, R98). -/
def takeRecord (r : SaleRecord) (s : State) : State :=
  let g := s.register
  let s :=
    if r.volume = 0 then notify (.saleClosed r true) s
    else
      notify (.saleClosed r false) (s.setRegister { g with
        queues := g.queues.set r.side (g.queues.get r.side ++ [r])
        totals := if r.ended = .powerFail then g.totals else g.totals.add r })
  queueJob .totalsWrite s

/-- The newest record of a queue takes its delivery flag: DELIVERY_PENDING, or UNDELIVERABLE at a TAMPERED port (R150). -/
def flagDelivery (tampered : Bool) (number : Nat) (q : List SaleRecord) : List SaleRecord :=
  q.map (fun r =>
    if r.number = number then
      (if tampered then r.undeliverable else { r with flags := { r.flags with deliveryPending := true } })
    else r)

/-- A port's empty result place takes a result; one that was there and not yet started is discarded (R150). -/
def Port.placeEmpty (p : Port) (x : SaleResult) : Port :=
  { p with
    emptyPlace := some { result := x, sending := false }
    counters := { p.counters with
      discarded := p.counters.discarded + BitVec.ofNat 32 (boolNat (p.emptyPlace.any (fun e => !e.sending))) } }

/-- The hand-over of a READER sale's record to the side's port (R150). At a TAMPERED port an empty result is dropped without being counted
discarded (DESIGN CHOICE, unsafe; notes/assumptions/56.md). -/
def handOver (r : SaleRecord) (s : State) : State :=
  let i := r.side
  let p := s.ports.get i
  let tampered := decide (p.state = .tampered)
  if r.volume = 0 then (if tampered then s else s.setPort i (p.placeEmpty (emptyResultOf r)))
  else
    s.setRegister { s.register with
      queues := s.register.queues.set i (flagDelivery tampered r.number (s.register.queues.get i)) }

/-- The authorization leaves the slot with AUTH_EVENT ENDED (R52, R64). -/
def endAuth (i : Side) (s : State) : State :=
  let f := s.fill.get i
  match f.slot with
  | some a => notify (.authEvent i a.source a.reference .ended) (s.setFill i { f with slot := none, authTimer := none })
  | none => s

/-- The counted nozzle still up becomes spent, and the side has no counted nozzle (R49, R64). -/
def Fill.spend (f : Fill) : Fill :=
  match f.counted with
  | some c => { f with nozzles := f.nozzles.set c.nozzle .spent, counted := none }
  | none => f

/-- Steps 1 to 3 of the close over the side's sale context: the figures are final, the record is handed to the Sale Register and,
for a READER sale, to the port; the display holds its figures (R64, R113). -/
def closeRecord (i : Side) (c : SaleContext) (s : State) : State :=
  let m := s.meters.get i
  let s := s.setFigures i ((s.figures.get i).finalize m.lo.sale m.hi.sale)
  let r := formRecord s i c
  let s := takeRecord r s
  let s := if r.source = .reader then handOver r s else s
  s.setDisplay i { s.display.get i with
    hold := some { money := r.money, volume := r.volume, price := r.price, grade := r.grade.number } }

/-- Steps 4 to 6 of the close (R64), and the zeroing of the creep accumulators (R5). -/
def closeSide (i : Side) (s : State) : State :=
  let s := adoptAtClose i (dropBoth i (endAuth i s))
  let f := Fill.spend (s.fill.get i)
  let s := s.setFill i { f with sale := f.sale.map (fun c => { c with running := false }) }
  zeroCreep i (enterState i (if (s.fill.get i).closures.isEmpty then .idle else .closed) s)

/-- The sale close of a side in a fill state (R64). `why` is the end reason that a close at once sets; without it the recorded end
reason stands. -/
def closeSale (i : Side) (why : Option EndReason) (s : State) : State :=
  match (s.fill.get i).sale with
  | none => closeSide i s
  | some c =>
    let c := { c with ended := why.orElse (fun _ => c.ended) }
    closeSide i (closeRecord i c (setSale i (fun _ => c) s))

/-! ### Across the supply-fail warning -/

/-- The deferred totals are applied at the release of the warning (R103). -/
def applyDeferred (s : State) : State :=
  let g := s.register
  let s' := s.setRegister { g with
    totals := (g.totals.addOwed g.queues.a).addOwed g.queues.b
    queues := { a := restoreOwed g.queues.a, b := restoreOwed g.queues.b } }
  if g.queues.a.any SaleRecord.owed || g.queues.b.any SaleRecord.owed then queueJob .totalsWrite s' else s'

/-- The Sale Register takes the assertion of the warning, and the save bank takes its work (R100, R101, R181). -/
def takeWarning (s : State) : State :=
  (s.setRegister { s.register with warning := true }).setStore
    (s.store.warned (s.register.queues.a.isEmpty) (s.register.queues.b.isEmpty))

/-! ### Loading -/

/-- The slot as it is read at LOADING: without a save it reads ERASED, otherwise WRITTEN (R180). -/
def SaveSlot.read (t : SaveSlot) : SaveSlot :=
  { t with state := if t.contents = .empty then .erased else .written }

/-- The records of a slot return to its side's queue, its owed totals are applied, the display holds the newest, and the slot is
queued for erase (R104, R113). -/
def restoreRecords (i : Side) (q : List SaleRecord) (s : State) : State :=
  let g := s.register
  let s' := (s.setRegister { g with
    queues := g.queues.set i (restoreOwed q), totals := g.totals.addOwed q }).setStore (s.store.queueErase i)
  let s' := s'.setDisplay i { s'.display.get i with
    hold :=
      match q.getLast? with
      | some r => some { money := r.money, volume := r.volume, price := r.price, grade := r.grade.number }
      | none => (s'.display.get i).hold }
  if q.any SaleRecord.owed then queueJob .totalsWrite s' else s'

/-- A side's slot is examined at the end of the reads: restored, or reported lost and erased (R104, R105). -/
def examineSlot (i : Side) (s : State) : State :=
  let t := (s.store.slots.get i).read
  let s := s.setStore { s.store with slots := s.store.slots.set i t }
  match t.contents with
  | .empty => s
  | .saved q => restoreRecords i q s
  | .cutShort => notify (.saveLost i) (s.setStore (s.store.queueErase i))

/-- The stack depth is raised to the longest restored queue, with a CFG_WRITE (R104): once, after both slots have been examined, so that the
CFG_WRITE is queued behind a TOTALS_WRITE of either (DESIGN CHOICE, unsafe; notes/assumptions/81.md). -/
def raiseDepth (s : State) : State :=
  let n := max (s.register.queues.a.length) (s.register.queues.b.length)
  if s.params.stackDepth < n then queueJob .cfgWrite { s with params := { s.params with stackDepth := n } } else s

end Sys2Proof.Machine
end

