-- ==== Sys2Proof/Machine/PowerOps.lean ====
section
/-! DEFINITION. The Power Sequencer (section 10): the supply permit, the stages of a bring-up, night entry and waking, the shared
verification result and the failures of a side. -/

namespace Sys2Proof.Machine

/-! ### Modes, power states and what is told of them -/

/-- The POWER_STAGE notice of the part as it stands: the mode, both power states, the side that changed, if one did, the cause, and both
sides' flags (R157). -/
def powerNotice (side : Option Side) (c : PowerCause) (s : State) : Notice :=
  .powerStage s.power.mode s.sidePower.a.state s.sidePower.b.state side c s.sidePower.a.attended s.sidePower.a.cold
    s.sidePower.b.attended s.sidePower.b.cold

/-- What the Power Sequencer holds for a side is changed. -/
def editSide (i : Side) (change : SidePower → SidePower) (s : State) : State := s.setSidePower i (change (s.sidePower.get i))

/-- The part mode changes, with a cause. -/
def setMode (m : PartMode) (c : PowerCause) (s : State) : State := (s.setPower { s.power with mode := m }).addChange (.mode c)

/-- The power state of a side changes, with a cause, and with it what `change` says of the rest. Every change has a notice of its own (R157),
which carries the part as the change leaves it (DESIGN CHOICE, unsafe; notes/assumptions/34.md). -/
def setStage (i : Side) (p : PowerState) (c : PowerCause) (change : SidePower → SidePower) (s : State) : State :=
  let s := editSide i (fun q => { change q with state := p }) s
  s.addChange (.stage (powerNotice (some i) c s))

/-- ATTENDED is cleared where it is set. Its clearing has a notice with the cause ADMITTED (R157, R169), which names no side (DESIGN CHOICE,
unsafe; notes/assumptions/58.md). -/
def clearAttended (i : Side) (s : State) : State :=
  if (s.sidePower.get i).attended then
    let s := editSide i (fun p => { p with attended := false }) s
    s.addChange (.stage (powerNotice none .admitted s))
  else s

/-- A power state of a side that is at rest: UP or DOWN_FAULT (R170). -/
def PowerState.settled : PowerState → Bool
  | .up | .downFault => true
  | .off | .supply | .heat | .check | .admitStage | .verify => false

/-- In WAKING with both sides UP or DOWN_FAULT the mode becomes RUN, with the cause of the side that came there (R170). -/
def runTest (c : PowerCause) (s : State) : State :=
  if s.power.mode = .waking ∧ s.sidePower.a.state.settled ∧ s.sidePower.b.state.settled then setMode .run c s else s

/-- The stage timer and the quiet timer stop (R162, R171). -/
def SidePower.stopTimers (p : SidePower) : SidePower := { p with stageTimer := none, quietTimer := none }

/-! ### UP and VERIFY -/

/-- A side goes to UP: NIGHT leaves its closure set and the bring-up mark is cleared (R170). -/
def enterUp (i : Side) (c : PowerCause) (s : State) : State :=
  let s := setStage i .up c (fun p => { p with bringUp := false, stageTimer := none }) s
  runTest c (setClosures i { (s.fill.get i).closures with night := false } s)

/-- VERIFY entry: the side consults the shared verification result (R170). -/
def enterVerify (i : Side) (c : PowerCause) (s : State) : State :=
  let s := setStage i .verify c (fun p => { p with stageTimer := none }) s
  match s.power.verification with
  | .none =>
    editSide i (fun p => { p with stageTimer := some Const.verifyWait })
      (queueJob .verify (s.setPower { s.power with verification := .running }))
  | .running => editSide i (fun p => { p with stageTimer := some Const.verifyWait }) s
  | .made _ _ => enterUp i .verified s
  | .unverified => enterUp i .verified s

/-- A side that waits in VERIFY goes to UP (R170). -/
def upIfWaiting (c : PowerCause) (i : Side) (s : State) : State :=
  if (s.sidePower.get i).state = .verify then enterUp i c s else s

/-- The outcome of the comparison of the CAL region with RAM (R179). -/
def calOutcome (s : State) : Comparison := if s.store.cal.stored = .image (calImage s) then .isMatch else .mismatch

/-- The outcome of the comparison of the PRICE region with RAM (R179). -/
def priceOutcome (s : State) : Comparison := if s.store.price.stored = .image (priceImage s) then .isMatch else .mismatch

/-- The result is made from its two outcomes while it is RUNNING; its closures are added to both sides, and the sides waiting in
VERIFY go UP (R170), side A first (DESIGN CHOICE, unsafe; notes/assumptions/79.md). -/
def makeResult (cal price : Comparison) (s : State) : State :=
  if s.power.verification = .running then
    let s := s.setPower { s.power with verification := .made cal price }
    let s := if price = .mismatch ∨ s.prices.generation = 0 then addClosureBoth .price s else s
    let s := if cal = .mismatch then addClosureBoth .calibration s else s
    upIfWaiting .verified .b (upIfWaiting .verified .a s)
  else s

/-- The wait for the result expires: UNVERIFIED, PRICE and CALIBRATION on both sides, and the waiting sides go UP (R170). -/
def verifyExpired (s : State) : State :=
  let s := s.setPower { s.power with verification := .unverified }
  upIfWaiting .verifyExpired .b (upIfWaiting .verifyExpired .a (addClosureBoth .calibration (addClosureBoth .price s)))

/-! ### CHECK and ADMIT -/

/-- The side's reader-fitted flag (R143). -/
def readerFitted (s : State) : Side → Bool
  | .a => s.params.readerFittedA != 0
  | .b => s.params.readerFittedB != 0

/-- ADMIT entry (R169). A stage that ends at once because the port is ADMITTED already has the cause ADMITTED (DESIGN CHOICE, unsafe;
notes/assumptions/52.md). -/
def enterAdmit (i : Side) (s : State) : State :=
  let s := setStage i .admitStage .checked id s
  if readerFitted s i then
    if (s.ports.get i).state = .admitted then enterVerify i .admitted s
    else editSide i (fun p => { p with stageTimer := some Const.admitLimit }) (startRequest i s)
  else enterVerify i .skipped s

/-- The end of CHECK: LEAK where an edge or the night-leak latch shows one, the latch cleared, the creep accumulators zeroed
(R168). -/
def endCheck (i : Side) (s : State) : State :=
  let s := if (s.sidePower.get i).quietEdge || (s.sideMeters.get i).nightLeak then addClosure i .leak s else s
  enterAdmit i (zeroCreep i (s.setSideMeters i { s.sideMeters.get i with nightLeak := false }))

/-- CHECK ends when the check test has been reported and the quiet timer has expired (R168). -/
def tryEndCheck (i : Side) (s : State) : State :=
  let p := s.sidePower.get i
  if p.state = .check ∧ p.testReported ∧ p.quietTimer = none then endCheck i s else s

/-- CHECK entry: the check test is asked for and the quiet timer starts (R168). -/
def enterCheck (i : Side) (c : PowerCause) (s : State) : State :=
  let s := setStage i .check c
    (fun p => { p with stageTimer := none, quietTimer := some Const.quietCheck, quietEdge := false, testReported := false }) s
  sendDue i (s.setDisplay i ((s.display.get i).startTest .check))

/-- The check test of a side has been reported, done or failed (R112, R168). -/
def reportCheck (i : Side) (s : State) : State := tryEndCheck i (editSide i (fun p => { p with testReported := true }) s)

/-! ### HEAT and SUPPLY -/

/-- The stage heat mark of a side changes, and its heat want follows (R115). -/
def setStageHeat (i : Side) (on : Bool) (s : State) : State :=
  updateHeat i (s.setDisplay i { s.display.get i with stageHeat := on })

/-- The side is warm for the HEAT stage: the sensor fault mark is set, or T ≥ heater-off' (R167), by the parameters in force at HEAT entry
and not those of the last sample (R115; DESIGN CHOICE, unsafe; notes/assumptions/69.md). -/
def warm (s : State) (i : Side) : Bool := (s.display.get i).temperature.all (fun t => decide (heaterOff s.params ≤ t))

/-- HEAT entry, by the supply-good that ends SUPPLY (R166, R167). -/
def enterHeat (i : Side) (s : State) : State :=
  let s := setStage i .heat .supplyGood (fun p => { p with stageTimer := none }) s
  if warm s i then enterCheck i .skipped s
  else
    editSide i (fun p => { p with stageTimer := some (s.params.heatMaximum.toNat * 60000) }) (setStageHeat i true s)

/-- The end of HEAT (R167). -/
def endHeat (i : Side) (c : PowerCause) (s : State) : State := enterCheck i c (setStageHeat i false s)

/-- The hold at HEAT's expiry: COLD where the display is DARK, the COLD flag otherwise (R167). -/
def heatExpired (i : Side) (s : State) : State :=
  endHeat i .heatExpired
    (if (s.display.get i).dark then addClosure i .cold s else editSide i (fun p => { p with cold := true }) s)

/-- Supply-good taken in the SUPPLY stage (R166). -/
def takeSupplyGood (i : Side) (s : State) : State :=
  let s := setClosures i { (s.fill.get i).closures with supply := false } s
  let s := updateHeat i (sendDue i (s.setDisplay i (s.display.get i).toStandby))
  enterHeat i (s.setPower { s.power with holdTimer := some Const.permitHold })

/-- A side takes the supply permit: SUPPLY entry; supply-good found asserted ends the stage at once (R166). -/
def takePermit (i : Side) (s : State) : State :=
  let s := setStage i .supply .permit (fun p => { p with supplyOn := true, stageTimer := some Const.supplyWait })
    (s.setPower { s.power with holder := some i, waiting := s.power.waiting.erase i })
  if (s.sidePower.get i).supplyGood then takeSupplyGood i s else s

/-- A free permit goes to the head of its waiting list (R166). -/
def grantPermit (s : State) : State :=
  match s.power.holder, s.power.waiting with
  | none, i :: _ => takePermit i s
  | _, _ => s

/-- A side leaves the permit and its list without handing it on (R162, R166). -/
def leavePermit (i : Side) (s : State) : State :=
  let w := s.power.waiting.filter (· ≠ i)
  if s.power.holder = some i then s.setPower { s.power with holder := none, holdTimer := none, waiting := w }
  else s.setPower { s.power with waiting := w }

/-- A side joins the tail of the permit's waiting list (R165). -/
def joinPermit (i : Side) (s : State) : State := s.setPower { s.power with waiting := s.power.waiting ++ [i] }

/-! ### Beginning a bring-up -/

/-- A bring-up of a side begins; a side whose shut has not ended joins the list when it ends (R165). The change to OFF is told by what begins
it: POWER_SIDE, or a change of the mode (R157). -/
def beginBringUp (i : Side) (s : State) : State :=
  let s := clearAttended i (editSide i (fun p => { p with cold := false }) s)
  let s := addClosure i .night (editSide i (fun p => { p with state := .off, bringUp := true }) s)
  if (s.sidePower.get i).shutting then s else joinPermit i s

/-- WAKING entry from NIGHT or LOADING (R164, R165). -/
def wakingEntry (c : PowerCause) (s : State) : State :=
  let s := setMode .waking c (s.setPower { s.power with verification := .none })
  grantPermit (beginBringUp .b (beginBringUp .a s))

/-- WAKE in NIGHT_PENDING: back to RUN, or to WAKING with the OFF sides beginning their bring-ups (R164). -/
def cancelNight (s : State) : State :=
  let offA := decide (s.sidePower.a.state = .off)
  let offB := decide (s.sidePower.b.state = .off)
  if offA || offB then
    let s := setMode .waking .wake (s.setPower { s.power with verification := .none })
    let s := if offA then beginBringUp .a s else s
    let s := if offB then beginBringUp .b s else s
    grantPermit s
  else setMode .run .wake s

/-! ### The end of a side's supply -/

/-- The supply enable goes off: the controller is UNPOWERED and the reader port disabled (R108, R129). -/
def supplyOff (i : Side) (s : State) : State :=
  disablePort i .disabled (unpowerDisplay i (editSide i (fun p => { p with supplyOn := false, shutting := false }) s))

/-- The dark report ends the shut of a side; a bring-up begun meanwhile joins the permit's list (R162, R165). -/
def darkReport (i : Side) (s : State) : State :=
  if (s.sidePower.get i).shutting then
    let s := supplyOff i s
    if (s.sidePower.get i).bringUp then grantPermit (joinPermit i s) else s
  else s

/-- The shut of a side whose supply enable is on (R162). -/
def beginShut (i : Side) (s : State) : State :=
  if (s.sidePower.get i).supplyOn then
    let s := editSide i (fun p => { p with shutting := true }) s
    if (s.display.get i).controller = .unpowered then darkReport i s
    else sendDue i (s.setDisplay i (s.display.get i).toShutting)
  else s

/-- Steps 3 to 5 of night entry for a side, without handing the permit on (R162, R163). The event changes the mode, whose one notice tells the
power state as well (R157). -/
def stopSide (i : Side) (r : PortReason) (s : State) : State :=
  let s := setStageHeat i false (disablePort i r s)
  let s := editSide i (fun p => { p.stopTimers with state := .off, bringUp := false }) s
  beginShut i (leavePermit i s)

/-! ### Night -/

/-- Steps 1 and 2 of night entry for a side (R162). -/
def nightClose (i : Side) (s : State) : State := addClosure i .night (removeWaiting i .night true s)

/-- NIGHT entry (R162), of side A first (DESIGN CHOICE, unsafe; notes/assumptions/79.md). -/
def nightEntry (c : PowerCause) (s : State) : State :=
  let s := stopSide .b .night (nightClose .b (stopSide .a .night (nightClose .a s)))
  grantPermit (setMode .night c s)

/-- In NIGHT_PENDING, a close that leaves no side in a fill state enters NIGHT (R64, R163). -/
def nightIfLast (s : State) : State :=
  if s.power.mode = .nightPending ∧ !s.anyFilling then nightEntry .lastClose s else s

/-- A side whose bring-up is running is stopped by GO_NIGHT (R163). -/
def stopBringUp (i : Side) (s : State) : State :=
  let p := s.sidePower.get i
  if p.bringUp ∧ p.state ≠ .up then stopSide i .disabled s else s

/-- GO_NIGHT in WAKING or RUN, or the schedule's (R163), on side A first (DESIGN CHOICE, unsafe; notes/assumptions/79.md). -/
def goNight (c : PowerCause) (s : State) : State :=
  let s := withdrawWaiting .b .night true (withdrawWaiting .a .night true s)
  if s.anyFilling then grantPermit (setMode .nightPending c (stopBringUp .b (stopBringUp .a s)))
  else nightEntry c s

/-! ### The reader and the failures of a side -/

/-- The Power Sequencer takes a port's entry to ADMITTED: it ends the ADMIT stage, and ATTENDED is cleared (R169). -/
def portAdmitted (i : Side) (s : State) : State :=
  let s := clearAttended i s
  if (s.sidePower.get i).state = .admitStage then enterVerify i .admitted s else s

/-- A port enters ADMITTED with its agreed terms (R123, R154, R169). -/
def admitPort (i : Side) (t : Terms) (s : State) : State :=
  portAdmitted i (changePort i .admitted ((s.ports.get i).admitOn t s.params) s)

/-- A side goes to DOWN_FAULT: its supply goes off, its timers stop, and the permit it holds is handed on (R166, R171). -/
def downFault (i : Side) (c : PowerCause) (s : State) : State :=
  let s := setStageHeat i false (supplyOff i (addClosure i .supply s))
  let s := setStage i .downFault c (fun p => { p.stopTimers with bringUp := false }) s
  grantPermit (runTest c (leavePermit i s))

/-- The loss of supply-good is taken by a side in HEAT, CHECK, ADMIT, VERIFY or UP (R71, R171). NIGHT entry by the close of the last sale in
NIGHT_PENDING follows the whole of it (DESIGN CHOICE, unsafe; notes/assumptions/57.md). -/
def supplyLost (i : Side) (s : State) : State :=
  let n := saleNumber s i
  if s.filling i then
    nightIfLast (downFault i .supplyLost (notifyFault (some i) .supply none n none none
      (closeSale i (some (.fault .supply)) s)))
  else downFault i .supplyLost (notifyFault (some i) .supply none none none none s)

/-- The states in which the loss of supply-good is taken (R171), and in which a reader has its supply (R122). -/
def PowerState.powered : PowerState → Bool
  | .heat | .check | .admitStage | .verify | .up => true
  | .off | .supply | .downFault => false

end Sys2Proof.Machine
end

