-- ==== Sys2Proof/Machine/MeterOps.lean ====
section
/-! DEFINITION. Meter Inputs (section 1): decoding, weighing, creep, rate and faults; and what a volume update does at the side's
Fill Controller and Blend Controller (R19, R57, R80 to R86). -/

namespace Sys2Proof.Machine

/-! ### Decoding -/

/-- The place of a phase pair in the forward order 00, 01, 11, 10 (R2). -/
def pairIndex (p : Bool × Bool) : Nat :=
  match p with
  | (false, false) => 0
  | (false, true) => 1
  | (true, true) => 2
  | (true, false) => 3

/-- What a new pair is decoded as (R2). -/
inductive Decoded where
  | forward | reverse | error
deriving DecidableEq, Repr

/-- The decoding of a new pair against the last; none for an equal pair, which no taking forms (R2). -/
def decodePair (last new : Bool × Bool) : Option Decoded :=
  match (pairIndex new + 4 - pairIndex last) % 4 with
  | 1 => some .forward
  | 2 => some .error
  | 3 => some .reverse
  | _ => none

/-- The pair of a channel once both phases have been taken (R1). -/
def MeterChannel.pair (c : MeterChannel) : Option (Bool × Bool) :=
  match c.level1, c.level2 with
  | some x, some y => some (x, y)
  | _, _ => none

/-- The channel with the levels taken at this moment (R1). -/
def MeterChannel.take (c : MeterChannel) (phase1 phase2 : Option Bool) : MeterChannel :=
  { c with level1 := phase1.orElse (fun _ => c.level1), level2 := phase2.orElse (fun _ => c.level2) }

/-! ### Weighing -/

/-- A weighed edge added to an accumulator, which saturates (R3). -/
def addVu (acc x : Int) : Int := clampInt Const.accLow Const.accHigh (acc + x)

/-- The limit of a parameter in cL as vu. -/
def limitVu (x : Int) : Int := x * 100000

/-- An edge is counted (R12). -/
def MeterChannel.countEdge (c : MeterChannel) (forward : Bool) : MeterChannel :=
  if forward then { c with forward := c.forward + 1 } else { c with reverse := c.reverse + 1 }

/-- The signed weight of an edge (R3). -/
def MeterChannel.signed (c : MeterChannel) (forward : Bool) : Int := if forward then (c.weight : Int) else -(c.weight : Int)

/-! ### Volume updates -/

/-- REVERSE at a volume update: the meter's accumulator has fallen to the limit and the mark is clear (R11). -/
def reverseDue (s : State) (m : Meter) : Bool :=
  decide ((s.meter m).sale ≤ -(limitVu s.params.reverseLimit)) && !(s.sideMeters.get m.side).reverseRaised

/-- The stop conditions of a volume update at a FLOWING or SLOWING side (R57). -/
def stopTests (i : Side) (s : State) : State :=
  let g := s.figures.get i
  if (s.sideState i).isOpen then
    if g.targetReached then hold i .target s
    else if g.limitReached then hold i .limit s
    else if s.sideState i = .flowing ∧ g.slowPassed then enterState i .slowing s
    else s
  else s

/-- The trimmed valve takes the trimmed duty (R67, R82). -/
def applyTrim (i : Side) (b : Blend) (s : State) : State :=
  match b.trimmed, b.duty with
  | some p, some d => s.setValves i ((s.valves.get i).set p d)
  | _, _ => s

/-- An open window of a FLOWING side that closes at this update is evaluated; a count of alarm windows that reaches the fault count
raises BLEND, naming the trimmed product's meter (R80 to R83). -/
def windowUpdate (i : Side) (s : State) : State :=
  let b := s.blend.get i
  let m := s.meters.get i
  match b.window with
  | none => s
  | some w =>
    if s.sideState i = .flowing ∧ w.closes m.lo.sale m.hi.sale then
      let b' := b.evaluate s.params w m.lo.sale m.hi.sale
      let s := applyTrim i b' (s.setBlend i b')
      if b.raisesBlend b' s.params then fillFault i .blend (b'.trimmed.map (fun p => { side := i, product := p })) s else s
    else s

/-- CROSSFLOW at a volume update of the unused meter of a pure grade (R86). -/
def crossflowTest (m : Meter) (s : State) : State :=
  let b := s.blend.get m.side
  if b.unused = some m.product ∧ limitVu s.params.crossflowLimit ≤ (s.meter m).sale ∧ !b.crossflowRaised then
    fillFault m.side .crossflow (some m) (s.setBlend m.side { b with crossflowRaised := true })
  else s

/-- A volume update (R19): the figures are computed again; REVERSE is taken before the stop conditions (R11, R57); a window of a
side still FLOWING is tested (R80, R84); then CROSSFLOW (R86). -/
def volumeUpdate (m : Meter) (s : State) : State :=
  let i := m.side
  let ms := s.meters.get i
  let s := s.setFigures i ((s.figures.get i).recompute ms.lo.sale ms.hi.sale)
  let s :=
    if reverseDue s m then
      fillFault i .reverse (some m) (s.setSideMeters i { s.sideMeters.get i with reverseRaised := true })
    else stopTests i s
  crossflowTest m (windowUpdate i s)

/-- A sale edge at the Fill Controller: a forward one restarts the no-flow timer of an open side, either restarts the quiet timer of
ENDING (R58, R63). -/
def saleEdge (i : Side) (forward : Bool) (s : State) : State :=
  let f := s.fill.get i
  s.setFill i { f with
    noFlowTimer := if forward ∧ f.state.isOpen then some (s.params.noFlowTimeout.toNat * 1000) else f.noFlowTimer
    quietTimer := if f.state = .ending then some s.params.quietTime.toNat else f.quietTimer }

/-! ### Creep -/

/-- The power states in which a creep firing sets the night-leak latch (R6). -/
def PowerState.isNightLeak : PowerState → Bool
  | .off | .supply | .heat | .check => true
  | .admitStage | .verify | .up | .downFault => false

/-- A creep alarm fires (R6). -/
def creepFires (m : Meter) (s : State) : State :=
  let i := m.side
  let s := s.setMeter m { s.meter m with creepFired := true }
  if (s.sidePower.get i).state.isNightLeak then
    let x := s.sideMeters.get i
    let s := s.setLink { s.link with latches := { s.link.latches with nightFlow := true } }
    let s := s.setSideMeters i { x with nightLeak := true }
    if x.nightLeak then s else notify (.nightFlow i m (s.meter m).creep) s
  else
    addClosure i .leak (s.setLink { s.link with latches := { s.link.latches with leak := true } })

/-- A creep edge at the Power Sequencer: it sets the quiet edge mark while the quiet timer of CHECK runs (R168). -/
def creepEdge (i : Side) (s : State) : State :=
  let p := s.sidePower.get i
  if p.state = .check ∧ p.quietTimer.isSome then editSide i (fun q => { q with quietEdge := true }) s else s

/-- An edge into the creep accumulator; a change of an armed one is compared with the creep limit (R3, R6). -/
def weighCreep (m : Meter) (x : Int) (s : State) : State :=
  let c := s.meter m
  let v := addVu c.creep x
  let s := creepEdge m.side (s.setMeter m { c with creep := v })
  if v ≠ c.creep ∧ !c.creepFired ∧ limitVu s.params.creepLimit ≤ |v| then creepFires m s else s

/-- An edge into the sale accumulator; one that changes it is a volume update (R3). -/
def weighSale (m : Meter) (forward : Bool) (x : Int) (s : State) : State :=
  let c := s.meter m
  let v := addVu c.sale x
  let s := saleEdge m.side forward (s.setMeter m { c with sale := v })
  if v ≠ c.sale then volumeUpdate m s else s

/-- A decoded edge: counted always; weighed, and added to the open rate window, once the CAL region has been read (R3, R8, R12). -/
def takeEdge (m : Meter) (forward : Bool) (s : State) : State :=
  let c := (s.meter m).countEdge forward
  if s.store.cal.state.isRead then
    let x := c.signed forward
    let s := s.setMeter m { c with openWindow := c.openWindow + x }
    if s.filling m.side then weighSale m forward x s else weighCreep m x s
  else s.setMeter m c

/-- A decoded phase error: counted; in a fill state it raises the fill count, and PULSER beyond the limit (R10, R12). -/
def takeError (m : Meter) (s : State) : State :=
  let i := m.side
  let c := s.meter m
  let s := s.setMeter m { c with phaseErrors := c.phaseErrors + 1 }
  if s.filling i then
    let x := s.sideMeters.get i
    let n := min (x.fillErrors + 1) 65535
    if s.params.phaseErrorLimit < n ∧ !x.pulserRaised then
      fillFault i .pulser (some m) (s.setSideMeters i { x with fillErrors := n, pulserRaised := true })
    else s.setSideMeters i { x with fillErrors := n }
  else s

/-- Levels are taken, and the new pair is decoded against the last (R1, R2). -/
def takeLevels (m : Meter) (phase1 phase2 : Option Bool) (s : State) : State :=
  let c := (s.meter m).take phase1 phase2
  let last := c.lastPair
  let c := { c with lastPair := c.pair.orElse (fun _ => c.lastPair) }
  let s := s.setMeter m c
  match last, c.pair with
  | some x, some y =>
    match decodePair x y with
    | some .forward => takeEdge m true s
    | some .reverse => takeEdge m false s
    | some .error => takeError m s
    | none => s
  | _, _ => s

/-! ### Rate and overspeed -/

/-- The rate of four closed windows (R8), cL/min. -/
def Windows.rate (w : Windows) : Nat := ((w.w1 + w.w2 + w.w3 + w.w4) * 60 / 100000).toNat

/-- The open window closes, and the rate is computed again (R8). -/
def MeterChannel.closeWindow (c : MeterChannel) : MeterChannel :=
  let w : Windows := { w1 := c.windows.w2, w2 := c.windows.w3, w3 := c.windows.w4, w4 := c.openWindow }
  { c with windows := w, openWindow := 0, rate := w.rate, windowTimer := some Const.rateWindow }

/-- A rate window expiry: the rate, then the overspeed run (R8, R9). -/
def rateExpiry (m : Meter) (s : State) : State :=
  let c := (s.meter m).closeWindow
  if (s.sideState m.side).isOpen ∧ c.maxFlow < c.rate then
    if 4 ≤ c.overspeedRun + 1 then fillFault m.side .overspeed (some m) (s.setMeter m { c with overspeedRun := 0 })
    else s.setMeter m { c with overspeedRun := c.overspeedRun + 1 }
  else s.setMeter m { c with overspeedRun := 0 }

end Sys2Proof.Machine
end

