-- ==== Sys2Proof/Machine/Codes.lean ====
section
/-! DEFINITION. The codes of enumerated fields (R193) and the fields that replies and notices are made of: their sizes, presence
bytes and sets. An enumerated field is coded from 0 in the order in which its rule first lists its values. -/

namespace Sys2Proof.Machine

/-! ### Fields -/

/-- An unsigned field of a size in bytes. -/
def num (size n : Nat) : List Field := [{ size := size, value := n }]

/-- A signed field of a size in bytes. -/
def int (size : Nat) (x : Int) : List Field := [{ size := size, value := x }]

/-- A mark, input or other off-or-on value: one byte, 0 or 1 (R193; that marks and inputs are such values is DEDUCED, unsafe;
notes/assumptions/78.md). -/
def flag (b : Bool) : List Field := num 1 (boolNat b)

/-- An optional field: its presence byte, and the field where it is present (R193). Fields that are present or absent together stand
behind one presence byte, which no rule says (DESIGN CHOICE, unsafe; notes/assumptions/66.md). -/
def optional {α : Type} (f : α → List Field) : Option α → List Field
  | none => num 1 0
  | some x => num 1 1 ++ f x

/-- Volumes in cL, money in cents and prices: three bytes (R193). -/
def money3 (n : Nat) : List Field := num 3 n

/-- A counter, a reference or a clock value: four bytes (R193). -/
def counter4 (c : Counter) : List Field := num 4 c.toNat
def ref4 (n : Nat) : List Field := num 4 n

/-- A side, a port, a nozzle, a grade or NONE, a level: one byte (R193). -/
def sideField (i : Side) : List Field := num 1 (Side.number i)
def nozzleField (n : Nozzle) : List Field := num 1 (nozzleNumber n)
def gradeField (g : Option Grade) : List Field := num 1 (gradeOrNoneNumber g)
def levelField (l : Level) : List Field := num 1 l.number
def meterField (m : Meter) : List Field := num 1 (meterNumber m)

/-! ### Enumerations -/

/-- The codes of the statuses (R185). -/
def Status.code : Status → Nat
  | .ok => 0x00
  | .busy => 0x01
  | .unknownKind => 0x02
  | .badLength => 0x03
  | .badValue => 0x04
  | .wrongState => 0x05
  | .calLocked => 0x06
  | .stackFull => 0x07
  | .alreadyAuthorized => 0x08
  | .notFound => 0x09
  | .convFull => 0x0A
  | .readerBusy => 0x0B
  | .priceBusy => 0x0C
  | .night => 0x0D
  | .storeFault => 0x0E
  | .classRefused => 0x0F

/-- Side states in the order of the table of section 4. -/
def SideState.code : SideState → Nat
  | .closed => 0
  | .idle => 1
  | .calling => 2
  | .authorized => 3
  | .starting => 4
  | .flowing => 5
  | .slowing => 6
  | .held => 7
  | .ending => 8

/-- Fault kinds (R193). -/
def FaultKind.code : FaultKind → Nat
  | .pulser => 0
  | .reverse => 1
  | .overspeed => 2
  | .crossflow => 3
  | .blend => 4
  | .display => 5
  | .estop => 6
  | .supply => 7
  | .sensor => 8
  | .store => 9

/-- The closure set: eleven reasons in two bytes, bit c for the reason of code c in the order of section 4.1 (R193). -/
def Closures.bits (c : Closures) : Nat :=
  boolNat c.command + 2 * boolNat c.night + 4 * boolNat c.supply + 8 * boolNat c.cold + 16 * boolNat c.display
    + 32 * boolNat c.leak + 64 * boolNat c.price + 128 * boolNat c.calibration + 256 * boolNat c.estop
    + 512 * boolNat c.fault.isSome + 1024 * boolNat c.powerFail

/-- The closure set alone, as the replies of OPEN_SIDE and CLOSE_SIDE carry it (R72, R193). -/
def closureSet (c : Closures) : List Field := num 2 c.bits

/-- The closure set with the FAULT kind (R48, R73). -/
def closuresField (c : Closures) : List Field := closureSet c ++ optional (fun k => num 1 (FaultKind.code k)) c.fault

def NozzlePosition.code : NozzlePosition → Nat
  | .hung => 0
  | .up => 1
  | .spent => 2

def Source.code : Source → Nat
  | .link => 0
  | .reader => 1

def AuthPhase.code : AuthPhase → Nat
  | .waiting => 0
  | .inUse => 1

def LimitKind.code : LimitKind → Nat
  | .money => 0
  | .volume => 1

def StopReason.code : StopReason → Nat
  | .target => 0
  | .limit => 1
  | .noFlow => 2
  | .commandStop => 3
  | .readerCancel => 4
  | .suspend => 5

/-- End reasons in the order of R91: the fault kinds PULSER to SUPPLY stand between CANCELLED and POWER_FAIL. -/
def EndReason.code : EndReason → Nat
  | .hungUp => 0
  | .commandEnd => 1
  | .cancelled => 2
  | .fault k => 3 + k.code
  | .powerFail => 11

def MotorState.code : MotorState → Nat
  | .off => 0
  | .priming => 1
  | .running => 2

/-- The trimmed product. The order is that of chapter 5's opening list; R77's table has HI before LO (DESIGN CHOICE, unsafe;
notes/assumptions/72.md). -/
def productCode : Product → Nat
  | .lo => 0
  | .hi => 1

def WindowKind.code : WindowKind → Nat
  | .settling => 0
  | .ordinary => 1

/-- The flags of a sale record: five in one byte, in the order of R91. -/
def SaleFlags.bits (f : SaleFlags) : Nat :=
  boolNat f.clamped + 2 * boolNat f.crossflow + 4 * boolNat f.restored + 8 * boolNat f.deliveryPending
    + 16 * boolNat f.undeliverable

def ControllerState.code : ControllerState → Nat
  | .unpowered => 0
  | .standby => 1
  | .testing => 2
  | .showing => 3
  | .shutting => 4

/-- Frame modes in the order of R107, for read-outs; the display frame itself has the codes of R196. -/
def FrameMode.listed : FrameMode → Nat
  | .normal => 0
  | .all => 1
  | .blank => 2
  | .off => 3

def TestKind.code : TestKind → Nat
  | .fill => 0
  | .check => 1

def TestPhase.code : TestPhase → Nat
  | .all => 0
  | .blank => 1
  | .audit => 2

def PortState.code : PortState → Nat
  | .disabled => 0
  | .negotiating => 1
  | .admitted => 2
  | .backoff => 3
  | .failed => 4
  | .tampered => 5

def PortStep.code : PortStep → Nat
  | .readyWait => 0
  | .abilityWait => 1
  | .ackWait => 2

def PortReason.code : PortReason → Nat
  | .enabled => 0
  | .admitted => 1
  | .noReady => 2
  | .timeout => 3
  | .wrongRecord => 4
  | .noRevision => 5
  | .terms => 6
  | .lineLost => 7
  | .flood => 8
  | .tamper => 9
  | .cleared => 10
  | .disabled => 11
  | .night => 12

def Direction.code : Direction → Nat
  | .readerToLink => 0
  | .linkToReader => 1
  | .both => 2

def PartMode.code : PartMode → Nat
  | .loading => 0
  | .night => 1
  | .waking => 2
  | .run => 3
  | .nightPending => 4

def PowerState.code : PowerState → Nat
  | .off => 0
  | .supply => 1
  | .heat => 2
  | .check => 3
  | .admitStage => 4
  | .verify => 5
  | .up => 6
  | .downFault => 7

/-- Causes in the order of R157. -/
def PowerCause.code : PowerCause → Nat
  | .reset => 0
  | .autostart => 1
  | .wake => 2
  | .schedule => 3
  | .nozzle => 4
  | .goNight => 5
  | .permit => 6
  | .supplyGood => 7
  | .supplyTimeout => 8
  | .warm => 9
  | .skipped => 10
  | .heatExpired => 11
  | .checked => 12
  | .admitted => 13
  | .admitExpired => 14
  | .verified => 15
  | .verifyExpired => 16
  | .supplyLost => 17
  | .powerSide => 18
  | .lastClose => 19

def Comparison.code : Comparison → Nat
  | .isMatch => 0
  | .mismatch => 1

def ResetCause.code : ResetCause → Nat
  | .powerOn => 0
  | .restart => 1

/-- A region state; a region not yet read is reported INVALID (R182). -/
def RegionState.code (r : RegionState) : Nat :=
  match r.reported with
  | .valid => 0
  | .invalid => 1
  | .failed => 2
  | .unread => 1

def SlotState.code : SlotState → Nat
  | .erased => 0
  | .written => 1
  | .erasing => 2

def regionCode : Region → Nat
  | .cal => 0
  | .cfg => 1
  | .price => 2
  | .totals => 3

/-- Removal reasons in the order of R54. -/
def RemovalReason.code : RemovalReason → Nat
  | .expired => 0
  | .cancelled => 1
  | .closed => 2
  | .night => 3
  | .linkLost => 4

/-- Lift refusals in the order of R51. -/
def LiftRefusal.code : LiftRefusal → Nat
  | .grade => 0
  | .price => 1
  | .dark => 2
  | .save => 3

/-! ### Compound fields -/

/-- A limit: its kind and value (R52, R91). -/
def limitField (l : Limit) : List Field := num 1 l.kind.code ++ money3 l.value

/-- Agreed terms: revision, features and maximum body (section 8, opening list). -/
def termsField (t : Terms) : List Field := num 1 t.revision ++ num 1 t.features.toNat ++ num 1 t.maxBody

/-- Every field of a sale record (R91). The overrun is its amount alone, behind its presence byte: its kind is that of the record's limit
(R29; DESIGN CHOICE, unsafe; notes/assumptions/63.md). -/
def recordFields (r : SaleRecord) : List Field :=
  num 2 r.number ++ sideField r.side ++ nozzleField r.nozzle ++ num 1 r.grade.number ++ levelField r.level ++ money3 r.price
    ++ num 2 r.generation ++ money3 r.volume ++ money3 r.money ++ int 3 r.lo ++ int 3 r.hi ++ optional (num 2) r.share
    ++ num 1 r.source.code ++ optional ref4 r.reference ++ optional limitField r.limit
    ++ optional (fun x => num 1 (StopReason.code x)) r.stop ++ num 1 r.ended.code ++ optional money3 r.overrun
    ++ money3 r.payable ++ num 1 r.flags.bits ++ optional ref4 r.start ++ optional ref4 r.endTime

/-- Every field of a display frame (R107). The five indicators go as one set byte, as R196 sends them to the head (DESIGN CHOICE, unsafe;
notes/assumptions/68.md). -/
def frameFields (f : Frame) : List Field :=
  num 1 f.mode.listed ++ money3 f.money ++ money3 f.volume ++ money3 f.price ++ num 1 f.decimal ++ num 1 f.grade
    ++ num 1 (boolNat f.preset + 2 * boolNat f.card + 4 * boolNat f.stop + 8 * boolNat f.fault + 16 * boolNat f.cold)

/-- The counted nozzle and its grade (R48, R73). -/
def countedField (c : Counted) : List Field := nozzleField c.nozzle ++ gradeField c.grade

/-- A set of sides: one byte, with bit 0 for A and bit 1 for B (R193). -/
def sideSet (l : List Side) : List Field := num 1 (boolNat (decide (Side.a ∈ l)) + 2 * boolNat (decide (Side.b ∈ l)))

/-- A list of sides in order, with its count first (DESIGN CHOICE, unsafe; notes/assumptions/31.md). -/
def sidesField (l : List Side) : List Field := num 1 l.length ++ (l.map sideField).flatten

end Sys2Proof.Machine
end

