-- ==== Sys2Proof/Machine/Reports.lean ====
section
/-! DEFINITION. The fields that the replies of the reading requests carry, in the order in which their rules list them (R193).
Times left are in milliseconds. -/

namespace Sys2Proof.Machine

/-- The time left on a timer, present while it runs. -/
def timeLeft (size : Nat) (t : Timer) : List Field := optional (num size) t

/-! ### Meters and prices -/

/-- The last phase pair as two bits, phase 1 in bit 1 (R13). The code is the model's: no rule gives one (DESIGN CHOICE, unsafe;
notes/assumptions/44.md). -/
def pairField (p : Bool × Bool) : List Field := num 1 (2 * boolNat p.1 + boolNat p.2)

/-- READ_METER (R13). -/
def meterReport (s : State) (m : Meter) : List Field :=
  let c := s.meter m
  let x := s.sideMeters.get m.side
  meterField m ++ optional pairField c.lastPair ++ int 5 c.sale ++ int 5 c.creep ++ num 4 c.rate ++ num 1 c.overspeedRun
    ++ flag c.creepFired ++ counter4 c.forward ++ counter4 c.reverse ++ counter4 c.phaseErrors ++ num 2 c.weight
    ++ num 2 c.maxFlow ++ num 2 x.fillErrors ++ flag x.pulserRaised ++ flag x.reverseRaised ++ flag x.nightLeak

/-- The grades in order. -/
def allGrades : List Grade := [.g1, .g2, .g3, .g4, .g5, .g6, .g7, .g8]

/-- The 16 prices of a bank (R43), grade by grade, level 1 before level 2. The order is the model's: no rule gives one (DESIGN CHOICE,
unsafe; notes/assumptions/45.md). -/
def bankFields (b : Bank) : List Field :=
  (allGrades.map (fun g => money3 (bankPrice b g .l1) ++ money3 (bankPrice b g .l2))).flatten

/-- What every OK reply of READ_PRICES ends with: the side generations and the schedule (R43). -/
def priceTail (p : Prices) : List Field :=
  num 2 p.sideGeneration.a ++ num 2 p.sideGeneration.b ++ optional (num 3) p.schedule

/-- READ_PRICES ACTIVE (R43). -/
def activeReport (p : Prices) : List Field := num 2 p.generation ++ bankFields p.activeBank ++ priceTail p

/-- READ_PRICES RETAINED (R43). -/
def retainedReport (p : Prices) (r : RetainedBank) : List Field := num 2 r.generation ++ bankFields r.bank ++ priceTail p

/-- READ_PRICES PENDING (R43): the prices, then the generation a commit made now would give. -/
def stagedReport (p : Prices) : List Field := bankFields p.staged ++ num 2 (nextGeneration p.generation) ++ priceTail p

/-! ### Sides -/

/-- The authorization slot with all its fields (R52, R73). -/
def authFields (a : Auth) : List Field :=
  num 1 a.source.code ++ optional ref4 a.reference ++ num 1 a.grades.toNat ++ levelField a.level ++ optional limitField a.limit
    ++ num 1 a.phase.code ++ optional ref4 a.acceptedAt

/-- The sale context (R55, R73). The end time of a close (R64) is a field of the record alone and is not sent here (DESIGN CHOICE, unsafe;
notes/assumptions/64.md). -/
def contextFields (c : SaleContext) : List Field :=
  num 2 c.number ++ nozzleField c.nozzle ++ num 1 c.grade.number ++ num 1 c.source.code ++ optional ref4 c.reference
    ++ optional limitField c.limit ++ levelField c.level ++ optional ref4 c.start
    ++ optional (fun x => num 1 (StopReason.code x)) c.stop ++ optional (fun x => num 1 (EndReason.code x)) c.ended

/-- A motor: its state and demand count (R73). -/
def motorFields (s : State) (p : Product) : List Field := num 1 (s.motors.get p).state.code ++ num 1 (demandCount s p)

/-- READ_SIDE (R73). -/
def sideReport (s : State) (i : Side) : List Field :=
  let f := s.fill.get i
  let g := s.figures.get i
  let v := s.valves.get i
  num 1 f.state.code ++ closuresField f.closures
    ++ optional countedField f.counted
    ++ (allNozzles.map (fun n => num 1 (f.nozzles.get n).code)).flatten
    ++ (allNozzles.map (fun n => gradeField (f.map.get n))).flatten
    ++ optional authFields f.slot ++ timeLeft 3 f.authTimer
    ++ optional contextFields f.sale
    ++ int 6 g.volume ++ money3 g.displayed ++ money3 g.money ++ optional (fun o => money3 (Opened.price o)) g.opened
    ++ optional money3 (g.opened.bind (·.target)) ++ optional money3 (g.opened.bind (·.slowPoint))
    ++ timeLeft 3 f.noFlowTimer ++ timeLeft 2 f.quietTimer ++ timeLeft 2 f.afterFlowTimer
    ++ flag f.demand.lo ++ flag f.demand.hi ++ motorFields s .lo ++ motorFields s .hi ++ num 1 v.lo ++ num 1 v.hi

/-! ### Blend -/

/-- An entry of the grade table (R88). -/
def gradeEntryFields (g : GradeEntry) : List Field := num 2 g.share ++ num 1 g.startDuty ++ flag g.trim

/-- The window with its net volumes as they stand (R80, R89). -/
def windowFields (m : PerProduct MeterChannel) (w : BlendWindow) : List Field :=
  let lo := m.lo.sale - w.lo
  let hi := m.hi.sale - w.hi
  num 1 w.kind.code ++ int 6 lo ++ int 6 hi ++ int 6 (lo + hi)

/-- T, s and e of the last evaluated window (R81). T stays below 20,060,000 vu (R80). -/
def resultFields (r : BlendResult) : List Field := int 4 r.total ++ int 4 r.share ++ int 4 r.error

/-- READ_BLEND (R89). -/
def blendReport (s : State) (i : Side) : List Field :=
  let b := s.blend.get i
  optional gradeEntryFields b.copy ++ optional (fun p => num 1 (productCode p)) b.trimmed ++ optional (num 1) b.duty
    ++ optional (windowFields (s.meters.get i)) b.window ++ num 1 b.alarmCount ++ flag b.crossflowRaised
    ++ optional resultFields b.lastResult ++ counter4 b.evaluated ++ counter4 b.stepsUp ++ counter4 b.stepsDown
    ++ counter4 b.atLimit ++ counter4 b.alarms ++ (allGrades.map (fun g => gradeEntryFields (s.grades.get g))).flatten

/-! ### Sales and totals -/

/-- LIST_SALES (R95). -/
def salesReport (s : State) (i : Side) : List Field :=
  let q := s.register.queues.get i
  num 1 s.params.stackDepth.toNat ++ num 1 q.length
    ++ (q.map (fun r => num 2 r.number ++ num 1 r.source.code ++ num 1 r.flags.bits)).flatten

/-- READ_SALE (R95): every field of the record and its place in the queue, 1 for the oldest. -/
def saleReport (s : State) (i : Side) (r : SaleRecord) : List Field :=
  recordFields r ++ num 1 (((s.register.queues.get i).findIdx (fun x => x.number = r.number)) + 1)

/-- A total, modulo 10^12: five bytes. -/
def totalField (x : Int) : List Field := int 5 x

/-- READ_TOTALS (R99). The monies go grade by grade, level 1 before level 2: no rule gives their order (DESIGN CHOICE, unsafe;
notes/assumptions/45.md). The validity is VALID 0 and INVALID 1, in the order of chapter 6's opening list, where R99 names INVALID first
(DESIGN CHOICE, unsafe; notes/assumptions/71.md). -/
def totalsReport (s : State) : List Field :=
  let t := s.register.totals
  (allGrades.map (fun g => totalField (t.gradeVolume.get g))).flatten
    ++ (allGrades.map (fun g => totalField (t.gradeMoney.get g).l1 ++ totalField (t.gradeMoney.get g).l2)).flatten
    ++ totalField t.meterVolume.a.lo ++ totalField t.meterVolume.a.hi ++ totalField t.meterVolume.b.lo
    ++ totalField t.meterVolume.b.hi
    ++ num 1 (if s.register.totalsValid then 0 else 1) ++ num 1 s.store.totals.state.code
    ++ num 2 s.register.next.a ++ num 2 s.register.next.b

/-! ### Displays -/

/-- READ_DISPLAY (R119). One presence byte stands before the test's kind and phase, one before the last frame and its result, one before
the transfer and its attempt, one before the hold source (DESIGN CHOICE, unsafe; notes/assumptions/66.md). T is an optional field, and the
sensor fault mark is its absence (DESIGN CHOICE, unsafe; notes/assumptions/67.md). -/
def displayReport (s : State) (i : Side) : List Field :=
  let d := s.display.get i
  num 1 d.controller.code
    ++ optional (fun t => num 1 (TestKind.code (DisplayTest.kind t)) ++ num 1 t.phase.code) d.test
    ++ frameFields (currentFrame s i)
    ++ optional (fun e => frameFields (EndedFrame.frame e) ++ num 1 (if e.confirmed then 0 else 1)) d.last
    ++ optional (fun t => frameFields (Transfer.frame t) ++ flag t.retry) d.transfer ++ flag d.sendOwed
    ++ optional (fun h => money3 (HoldSource.money h) ++ money3 h.volume ++ money3 h.price ++ num 1 h.grade) d.hold
    ++ num 2 d.reading ++ optional (int 1) d.temperature
    ++ flag d.thermostat ++ flag d.stageHeat ++ flag d.heatWant ++ flag (heaterOn s i) ++ flag d.dark
    ++ num 1 (permitCount s) ++ sideSet s.arbiter.holders ++ sidesField s.arbiter.waiting
    ++ counter4 d.sent ++ counter4 d.retries ++ counter4 d.failed ++ counter4 d.stray

/-! ### Readers -/

/-- The class code of a record in transmission (R142, R195). -/
def ReaderTx.cls : ReaderTx → Nat
  | .offer => Cls.offer
  | .confirm _ => Cls.confirm
  | .authState _ => Cls.authState
  | .saleResult _ => Cls.saleResult
  | .nozzleState _ => Cls.nozzleState
  | .host r => r.cls

/-- The twelve counters of a port (R142). -/
def portCounterFields (c : PortCounters) : List Field :=
  counter4 c.received ++ counter4 c.forwarded ++ counter4 c.consumed ++ counter4 c.sent ++ counter4 c.discarded
    ++ counter4 c.expired ++ counter4 c.frame ++ counter4 c.state ++ counter4 c.cls ++ counter4 c.length ++ counter4 c.rate
    ++ counter4 c.unasked

/-- READ_READER with the selector PORT (R142). -/
def portReport (s : State) (i : Side) (tamper : Bool) : List Field :=
  let p := s.ports.get i
  num 1 p.state.code ++ optional (fun x => num 1 (PortStep.code x)) p.step ++ num 1 p.failures
    ++ timeLeft 2 (p.stepTimer.orElse (fun _ => p.backoffTimer)) ++ optional termsField p.terms
    ++ num 1 p.committed ++ num 1 p.excess ++ flag p.redMark ++ num 1 p.redRun
    ++ flag p.readyInput ++ flag tamper ++ flag p.state.running
    ++ optional (fun t => num 1 (ReaderTx.cls t)) p.tx ++ flag p.pendingAuth.isSome ++ flag p.pendingNozzle.isSome
    ++ num 1 p.queue.length ++ (p.queue.map (fun r => num 1 r.cls ++ num 1 r.tag)).flatten
    ++ flag (readerFitted s i) ++ portCounterFields p.counters

/-- A built-in class of R130 as a Class Table entry: its direction, its body, its weight and its marks. Where R130 gives no value, the weight
and ESSENTIAL go as 0, ASKS as absent and ANSWER as 0 (DESIGN CHOICE, unsafe; notes/assumptions/32.md, 83.md). -/
def builtInFields (c : Nat) : List Field :=
  let fromReader := c == Cls.ability || c == Cls.ack || Cls.isPayment c
  num 1 c ++ num 1 (if fromReader then Direction.code .readerToLink else Direction.code .linkToReader)
    ++ num 1 (Cls.length c) ++ num 1 (boolNat (Cls.isPayment c)) ++ flag (Cls.isPayment c) ++ num 1 0 ++ flag false

/-- A configurable class (R130). -/
def classFields (e : ClassEntry) : List Field :=
  num 1 e.code ++ num 1 e.direction.code ++ num 1 e.maxBody ++ num 1 e.weight ++ flag e.essential ++ optional (num 1) e.asks
    ++ flag e.answer

/-- READ_READER with the selector CLASSES (R142): the built-in classes, by their codes as R195 lists them (DESIGN CHOICE, unsafe;
notes/assumptions/82.md), and then the configurable ones. -/
def classesReport (s : State) : List Field := (Cls.builtIn.map builtInFields).flatten ++ (s.classes.map classFields).flatten

/-- READ_READER with the selector CONVERSATIONS (R142): the entries, uncounted, and then the whole table's count (DESIGN CHOICE, unsafe;
notes/assumptions/61.md). -/
def conversationsReport (s : State) (i : Side) : List Field :=
  ((s.conversations.filter (fun c => c.port = i)).map (fun c => num 1 c.tag ++ num 1 c.answer ++ flag c.age)).flatten
    ++ num 1 s.conversations.length

/-! ### Power -/

/-- The night-leak latch and what the Power Sequencer holds for a side (R173). Outside CHECK the quiet edge mark is sent as the last
CHECK left it (DESIGN CHOICE, unsafe; notes/assumptions/53.md). -/
def sidePowerFields (s : State) (i : Side) : List Field :=
  let p := s.sidePower.get i
  num 1 p.state.code ++ flag p.bringUp ++ flag p.shutting ++ flag p.supplyOn ++ flag p.supplyGood ++ timeLeft 3 p.stageTimer
    ++ timeLeft 2 p.quietTimer ++ flag p.quietEdge ++ flag p.attended ++ flag p.cold ++ flag (s.sideMeters.get i).nightLeak

/-- The code of the shared verification result, in the order of section 10's list. -/
def Verification.code : Verification → Nat
  | .none => 0
  | .running => 1
  | .made _ _ => 2
  | .unverified => 3

/-- The CAL and the PRICE outcome of a result that is made. -/
def Verification.outcomes : Verification → Option (Comparison × Comparison)
  | .made cal price => some (cal, price)
  | .none | .running | .unverified => Option.none

/-- The shared verification result (section 10), its two outcomes behind one presence byte (R193; DESIGN CHOICE, unsafe;
notes/assumptions/62.md). -/
def verificationFields (v : Verification) : List Field :=
  num 1 v.code ++ optional (fun x => num 1 x.1.code ++ num 1 x.2.code) v.outcomes

/-- Time of day: the clock value modulo 86,400 (R160). -/
def timeOfDay (c : Clock) : Nat := c.value.toNat % Const.day

/-- READ_POWER (R173). The clock validity goes as a flag (DESIGN CHOICE, unsafe; notes/assumptions/77.md). -/
def powerReport (s : State) : List Field :=
  let p := s.power
  num 1 p.mode.code ++ sidePowerFields s .a ++ sidePowerFields s .b ++ optional sideField p.holder ++ timeLeft 1 p.holdTimer
    ++ sidesField p.waiting ++ verificationFields p.verification ++ ref4 s.clock.value.toNat ++ flag s.clock.valid
    ++ optional (num 3) (if s.clock.valid then some (timeOfDay s.clock) else none)
    ++ optional (num 3) p.nightAt ++ optional (num 3) p.wakeAt
    ++ flag (s.params.autostart != 0) ++ flag (s.params.wakeOnNozzle != 0) ++ num 1 s.params.heatMaximum.toNat

/-! ### The link -/

/-- IDENTIFY (R189). The clock validity goes as a flag (DESIGN CHOICE, unsafe; notes/assumptions/77.md). -/
def identityReport (s : State) : List Field :=
  num 2 Const.partCode ++ num 1 Const.partRevision ++ num 4 s.store.audit
    ++ num 1 s.store.cal.state.code ++ num 1 s.store.cfg.state.code ++ num 1 s.store.price.state.code
    ++ num 1 s.store.totals.state.code ++ num 1 s.store.slots.a.state.code ++ num 1 s.store.slots.b.state.code
    ++ flag s.clock.valid ++ num 1 s.power.mode.code

/-- READ_STATUS (R188): fourteen items and the lost count. -/
def statusReport (l : Link) : List Field :=
  let x := l.latches
  flag x.faultA ++ flag x.faultB ++ flag x.leak ++ flag x.nightFlow ++ flag x.storeFault ++ flag x.tamperA ++ flag x.tamperB
    ++ flag x.noticesLost ++ flag x.admittedA ++ flag x.admittedB ++ flag x.upA ++ flag x.upB ++ flag x.supplyGoodA
    ++ flag x.supplyGoodB ++ num 2 l.lost

/-- READ_COUNTERS (R189). -/
def countersReport (c : LinkCounters) : List Field :=
  counter4 c.received ++ counter4 c.gap ++ counter4 c.badLength ++ counter4 c.badCheck ++ counter4 c.unknownKind
    ++ counter4 c.busy ++ counter4 c.overflow ++ counter4 c.repliesSent ++ counter4 c.noticesSent

/-- A parameter as a reply carries it: identifier and signed 32-bit value (R190). -/
def paramFields (c : Params) (p : Param) : List Field := num 1 p.id ++ int 4 (c.get p)

/-- READ_CONFIG of some parameters (R190). -/
def configReport (s : State) (ps : List Param) : List Field :=
  (ps.map (paramFields s.params)).flatten ++ num 1 s.store.cfg.state.code ++ flag s.store.cfgDefaults

end Sys2Proof.Machine
end

