-- ==== Sys2Proof/Machine/Ops.lean ====
section
/-! DEFINITION. The end of every event: what follows from a change without a command of its own. Frames owed to the display heads
are sent, the notices of changed sides and power states are queued, the status latches follow their conditions, the store's banks
and the transmitters start what waits. `event` is how every command is carried out. -/

namespace Sys2Proof.Machine

/-- One SIDE_STATE notice for a side whose state or closure set an event has changed (R48; a side that an event brings back to its
state is reported by countHangUp). -/
def reportSide (i : Side) (old : Fill) (s : State) : State :=
  let f := s.fill.get i
  if f.state = old.state ∧ f.closures = old.closures then s else reportState i s

/-- The side that the one notice of a change of mode names: the side whose power state the event has changed too, where one side's alone has
(R157). Where both have changed none is named (DESIGN CHOICE, unsafe; notes/assumptions/58.md). -/
def changedSide (old new : PerSide SidePower) : Option Side :=
  match decide (old.a.state = new.a.state), decide (old.b.state = new.b.state) with
  | false, true => some .a
  | true, false => some .b
  | _, _ => none

/-- The cause of a change of mode. -/
def PowerChange.modeCause : PowerChange → Option PowerCause
  | .mode c => some c
  | .stage _ => none

/-- The notice of a change other than of the mode. -/
def PowerChange.notice : PowerChange → Option Notice
  | .mode _ => none
  | .stage n => some n

/-- The POWER_STAGE notices of an event (R157): one for each change of a power state and each clearing of ATTENDED, in their order. An event
that changes the mode has one, with the part as the event leaves it; that it carries the cause of the change of mode, and tells a clearing of
ATTENDED too, is the model's (DESIGN CHOICE, unsafe; notes/assumptions/34.md). -/
def powerNotices (old s : State) : List Notice :=
  match s.changes.findSome? PowerChange.modeCause with
  | some c => [powerNotice (changedSide old.sidePower s.sidePower) c s]
  | none => s.changes.filterMap PowerChange.notice

/-- The POWER_STAGE notices of an event are queued (R157). -/
def reportPower (old : State) (s : State) : State := (powerNotices old s).foldl (fun u n => notify n u) s

/-- The status latches follow their conditions (R188). -/
def followLatches (s : State) : State := s.setLink { s.link with latches := s.link.latches.follow (latchConditions s) }

/-- The end of an event that began in `old`. -/
def settle (old : State) (s : State) : State :=
  let s := s.setDisplay .a (startDisplay .a s)
  let s := s.setDisplay .b (startDisplay .b s)
  let s := reportPower old (reportSide .b old.fill.b (reportSide .a old.fill.a s))
  let s := startBanks (followLatches s)
  let s := s.setPort .a (startReader s .a)
  let s := s.setPort .b (startReader s .b)
  { s.setLink s.link.startNext with changes := [] }

/-- An event: its own effect, then the end of the event. -/
def event (f : State → State) (s : State) : Host.Outcome State Fault Refusal := .next (settle s (f s))

end Sys2Proof.Machine
end

