-- ==== Sys2Proof/Machine/Fills.lean ====
section
/-! DEFINITION. The commands of Fill Control (section 4): nozzles, timers, the emergency stop, the supply-fail warning, and the
requests on a side. -/

namespace Sys2Proof.Machine

/-! ### Nozzles -/

/-- A lift that wakes the part: the nozzle is spent, and nothing is counted (R164). -/
def wakingLift (i : Side) (n : Nozzle) (s : State) : State :=
  let f := s.fill.get i
  wakingEntry .nozzle (s.setFill i { f with nozzles := f.nozzles.set n .spent })

/-- A lift recorded, and counted where the side has no counted nozzle (R49). -/
def recordLift (i : Side) (n : Nozzle) (s : State) : State :=
  let f := s.fill.get i
  let s := s.setFill i { f with nozzles := f.nozzles.set n .up }
  if f.counted.isNone then countLift i n s else s

/-- A nozzle switch reports a lift; a nozzle that is not hung cannot be lifted (R49, R164). -/
def nozzleLift (i : Side) (n : Nozzle) (s : State) : State :=
  if (s.fill.get i).nozzles.get n = .hung then
    if s.power.mode = .night ∧ s.params.wakeOnNozzle ≠ 0 then wakingLift i n s else recordLift i n s
  else s

/-- NOZZLE_LIFT (R49 to R51, R164). -/
def execNozzleLift (i : Side) (n : Nozzle) (s : State) : Host.Outcome State Fault Refusal := event (nozzleLift i n) s

/-- A nozzle switch reports a hang-up: of the counted nozzle, or of one not counted (R49). -/
def nozzleHangUp (i : Side) (n : Nozzle) (s : State) : State :=
  let f := s.fill.get i
  if f.nozzles.get n = .hung then s
  else
    match f.counted with
    | some c => if c.nozzle = n then countHangUp i c s else s.setFill i { f with nozzles := f.nozzles.set n .hung }
    | none => s.setFill i { f with nozzles := f.nozzles.set n .hung }

/-- NOZZLE_HANG_UP (R49, R50, R61). -/
def execNozzleHangUp (i : Side) (n : Nozzle) (s : State) : Host.Outcome State Fault Refusal := event (nozzleHangUp i n) s

/-! ### Timers -/

/-- The side's sale needs a product (R55). -/
def startingNeeds (s : State) (i : Side) (p : Product) : Bool := decide (s.sideState i = .starting) && (s.blend.get i).needs p

/-- A prime timer expires: the motor is RUNNING, and the STARTING sides that need it test R56 (R66). -/
def primeExpiry (p : Product) (s : State) : State :=
  let m := s.motors.get p
  if m.primeTimer.isSome then
    let s := s.setMotor p { m with state := .running, primeTimer := none }
    let s := if startingNeeds s .a p then tryLeaveStarting .a s else s
    if startingNeeds s .b p then tryLeaveStarting .b s else s
  else s

/-- PRIME_EXPIRY (R66). -/
def execPrimeExpiry (p : Product) (s : State) : Host.Outcome State Fault Refusal := event (primeExpiry p) s

/-- AUTHORIZATION_TIMER_EXPIRY (R54): the expiry of a stopped timer does not happen. -/
def execAuthorizationTimerExpiry (i : Side) (s : State) : Host.Outcome State Fault Refusal :=
  event (fun s => if (s.fill.get i).authTimer.isSome then withdrawWaiting i .expired true s else s) s

/-- NO_FLOW_EXPIRY (R58). -/
def execNoFlowExpiry (i : Side) (s : State) : Host.Outcome State Fault Refusal :=
  event (fun s => if (s.sideState i).isOpen ∧ (s.fill.get i).noFlowTimer.isSome then hold i .noFlow s else s) s

/-- ENDING_QUIET_EXPIRY (R63). -/
def execEndingQuietExpiry (i : Side) (s : State) : Host.Outcome State Fault Refusal :=
  event (fun s => if s.sideState i = .ending ∧ (s.fill.get i).quietTimer.isSome then nightIfLast (closeSale i none s) else s) s

/-- AFTER_FLOW_EXPIRY (R63). -/
def execAfterFlowExpiry (i : Side) (s : State) : Host.Outcome State Fault Refusal :=
  event (fun s => if s.sideState i = .ending ∧ (s.fill.get i).afterFlowTimer.isSome then nightIfLast (closeSale i none s) else s) s

/-! ### The emergency stop -/

/-- The drivers at the emergency stop: every duty 0, both motors OFF (R68). -/
def driversOff (s : State) : State :=
  { s with motors := PerProduct.both Motor.stopped, valves := PerSide.both (PerProduct.both 0) }

/-- A side at the emergency stop (R68). -/
def stopSideNow (i : Side) (s : State) : State :=
  addClosure i .estop (fillFault i .estop none (if s.filling i then dropBoth i s else s))

/-- The assertion of the emergency-stop input (R68), on side A first (DESIGN CHOICE, unsafe; notes/assumptions/79.md). -/
def estopAssert (s : State) : State :=
  if s.estopInput then s else stopSideNow .b (stopSideNow .a (driversOff { s with estopInput := true }))

/-- ESTOP_ASSERT (R68). -/
def execEstopAssert (s : State) : Host.Outcome State Fault Refusal := event estopAssert s

/-- ESTOP_RELEASE (R69): the input alone changes. -/
def execEstopRelease (s : State) : Host.Outcome State Fault Refusal := event (fun s => { s with estopInput := false }) s

/-! ### The supply-fail warning -/

/-- A side's fill closes at once with POWER_FAIL (R70). -/
def closeAtWarning (i : Side) (s : State) : State := if s.filling i then closeSale i (some .powerFail) s else s

/-- The assertion of the supply-fail warning (R70, R100, R115, R181). While LOADING the Sale Register takes it at the end of loading
(R106). Side A's sale closes first (DESIGN CHOICE, unsafe; notes/assumptions/79.md). -/
def supplyFailWarning (s : State) : State :=
  if s.supplyFailInput then s
  else
    let s := driversOff (closeAtWarning .b (closeAtWarning .a { s with supplyFailInput := true }))
    let s := updateHeat .b (updateHeat .a (addClosureBoth .powerFail s))
    nightIfLast (if s.power.mode = .loading then s else takeWarning s)

/-- SUPPLY_FAIL_WARNING (R70). -/
def execSupplyFailWarning (s : State) : Host.Outcome State Fault Refusal := event supplyFailWarning s

/-- The release of the warning without loss of power (R103, R115, R181). Where both sides' heat wants begin with it, A is taken first
(DESIGN CHOICE, unsafe; notes/assumptions/75.md). -/
def supplyFailRelease (s : State) : State :=
  if s.supplyFailInput then
    let s := updateHeat .b (updateHeat .a { s with supplyFailInput := false })
    if s.power.mode = .loading then s
    else
      let s := applyDeferred (s.setRegister { s.register with warning := false })
      s.setStore s.store.released
  else s

/-- SUPPLY_FAIL_RELEASE (R103). -/
def execSupplyFailRelease (s : State) : Host.Outcome State Fault Refusal := event supplyFailRelease s

/-! ### Authorizations -/

/-- The part mode refuses authorizations: NIGHT or NIGHT_PENDING (R53, R146). -/
def nightMode (s : State) : Bool := decide (s.power.mode = .night ∨ s.power.mode = .nightPending)

/-- The side may take an authorization: IDLE or CALLING (R53, R146). -/
def mayAuthorize (s : State) (i : Side) : Bool := decide (s.sideState i = .idle ∨ s.sideState i = .calling)

/-- The side's queue holds as many records as the stack depth (R53, R146). -/
def stackFull (s : State) (i : Side) : Bool := decide (s.params.stackDepth ≤ ((s.register.queues.get i).length : Int))

/-- The limit of AUTHORIZE: the outer none is a kind that is neither MONEY nor VOLUME (R53). -/
def authorizeLimit : Option LimitFields → Option (Option Limit)
  | none => some none
  | some l => (limitOf l).map some

/-- The taking of AUTHORIZE, its five checks in order (R53). -/
def takeAuthorize (x : AuthorizeFields) (s : State) : State :=
  match sideOf x.side, levelOf x.level, authorizeLimit x.limit with
  | some i, some l, some limit =>
    if x.grades = 0 then refuse .badValue s
    else if nightMode s then refuse .night s
    else if (s.fill.get i).slot.isSome then refuse .alreadyAuthorized s
    else if !mayAuthorize s i then refuse .wrongState s
    else if stackFull s i then refuse .stackFull s
    else
      acceptAuth i { source := .link, reference := x.reference, grades := x.grades, level := l, limit := limit, phase := .waiting
                     acceptedAt := s.stamp } (answer .ok (optional limitField limit) s)
  | _, _, _ => refuse .badValue s

/-- AUTHORIZE (R53). -/
def execAuthorize (tag : Nat) (body : Body AuthorizeFields) (s : State) : Host.Outcome State Fault Refusal :=
  event (request Kind.authorize tag body takeAuthorize) s

/-- The taking of CANCEL_AUTH (R54). -/
def takeCancelAuth (i : Side) (s : State) : State :=
  match (s.fill.get i).slot with
  | none => refuse .notFound s
  | some a =>
    match a.phase with
    | .inUse => refuse .wrongState s
    | .waiting => withdrawWaiting i .cancelled true (answer .ok [] s)

/-- CANCEL_AUTH (R54). -/
def execCancelAuth (tag : Nat) (body : Body Nat) (s : State) : Host.Outcome State Fault Refusal :=
  event (request Kind.cancelAuth tag body (withSide takeCancelAuth)) s

/-! ### Stops and ends by request -/

/-- An OK reply that carries the side state after the request (R59, R60). -/
def answerState (i : Side) (s : State) : State := answer .ok (num 1 (s.sideState i).code) s

/-- The recorded stop reason of a side's sale. -/
def stopReason (s : State) (i : Side) : Option StopReason := (s.fill.get i).sale.bind (fun c => c.stop)

/-- The taking of SUSPEND (R59). -/
def takeSuspend (i : Side) (s : State) : State :=
  if (s.sideState i).isOpen then answerState i (hold i .suspend s) else refuse .wrongState s

/-- SUSPEND (R59). -/
def execSuspend (tag : Nat) (body : Body Nat) (s : State) : Host.Outcome State Fault Refusal :=
  event (request Kind.suspend tag body (withSide takeSuspend)) s

/-- The taking of RESUME (R60). -/
def takeResume (i : Side) (s : State) : State :=
  if s.sideState i = .held ∧ stopReason s i = some .suspend then
    answerState i (chooseFlow i (setSale i (fun c => { c with stop := none }) s))
  else refuse .wrongState s

/-- RESUME (R60). -/
def execResume (tag : Nat) (body : Body Nat) (s : State) : Host.Outcome State Fault Refusal :=
  event (request Kind.resume tag body (withSide takeResume)) s

/-- A final stop of a side in a fill state, by STOP_FILL or a reader cancel (R59). -/
def finalStop (i : Side) (r : StopReason) (s : State) : State :=
  match s.sideState i with
  | .starting => endFill i .cancelled (setSale i (fun c => { c with stop := some r }) s)
  | .flowing | .slowing => hold i r s
  | .held => if stopReason s i = some .suspend then setSale i (fun c => { c with stop := some r }) s else s
  | .ending | .closed | .idle | .calling | .authorized => s

/-- The taking of STOP_FILL (R59). -/
def takeStopFill (i : Side) (s : State) : State :=
  if s.filling i then answerState i (finalStop i .commandStop s) else refuse .wrongState s

/-- STOP_FILL (R59). -/
def execStopFill (tag : Nat) (body : Body Nat) (s : State) : Host.Outcome State Fault Refusal :=
  event (request Kind.stopFill tag body (withSide takeStopFill)) s

/-- The taking of END_SALE (R61). -/
def takeEndSale (i : Side) (s : State) : State :=
  if (s.sideState i).beforeEnding then answer .ok [] (endFill i .commandEnd s) else refuse .wrongState s

/-- END_SALE (R61). -/
def execEndSale (tag : Nat) (body : Body Nat) (s : State) : Host.Outcome State Fault Refusal :=
  event (request Kind.endSale tag body (withSide takeEndSale)) s

/-! ### Opening, closing, reading and mapping -/

/-- The taking of OPEN_SIDE: the reasons it may remove go; with LEAK the creep accumulators are zeroed (R5, R72). -/
def takeOpenSide (i : Side) (s : State) : State :=
  let old := (s.fill.get i).closures
  let c := old.opened s.estopInput (s.display.get i).dark
  let s := setClosures i c (if old.leak then zeroCreep i s else s)
  answer .ok (closureSet c) s

/-- OPEN_SIDE (R72). -/
def execOpenSide (tag : Nat) (body : Body Nat) (s : State) : Host.Outcome State Fault Refusal :=
  event (request Kind.openSide tag body (withSide takeOpenSide)) s

/-- The taking of CLOSE_SIDE (R72). -/
def takeCloseSide (i : Side) (s : State) : State :=
  let s := addClosure i .command s
  answer .ok (closureSet (s.fill.get i).closures) s

/-- CLOSE_SIDE (R72). -/
def execCloseSide (tag : Nat) (body : Body Nat) (s : State) : Host.Outcome State Fault Refusal :=
  event (request Kind.closeSide tag body (withSide takeCloseSide)) s

/-- READ_SIDE (R73). -/
def execReadSide (tag : Nat) (body : Body Nat) (s : State) : Host.Outcome State Fault Refusal :=
  event (request Kind.readSide tag body (withSide (fun i s => answer .ok (sideReport s i) s))) s

/-- The part is LOADING and the CFG region has not been read (R158). -/
def configUnread (s : State) : Bool := decide (s.power.mode = .loading) && !s.store.cfg.state.isRead

/-- The four entries of a map; none where one is outside its values (R74). -/
def mapOf (x : NozzleMapFields) : Option (PerNozzle (Option Grade)) :=
  match gradeOrNoneOf x.n1, gradeOrNoneOf x.n2, gradeOrNoneOf x.n3, gradeOrNoneOf x.n4 with
  | some a, some b, some c, some d => some { n1 := a, n2 := b, n3 := c, n4 := d }
  | _, _, _, _ => none

/-- The taking of SET_NOZZLE_MAP (R74, R158). -/
def takeNozzleMap (x : NozzleMapFields) (s : State) : State :=
  if configUnread s then refuse .wrongState s
  else
    match sideOf x.side, mapOf x with
    | some i, some m =>
      if s.filling i then refuse .wrongState s
      else serveByJob .cfgWrite [] (s.setFill i { s.fill.get i with map := m })
    | _, _ => refuse .badValue s

/-- SET_NOZZLE_MAP (R74). -/
def execSetNozzleMap (tag : Nat) (body : Body NozzleMapFields) (s : State) : Host.Outcome State Fault Refusal :=
  event (request Kind.setNozzleMap tag body takeNozzleMap) s

end Sys2Proof.Machine
end

