-- ==== Sys2Proof/Machine/Blending.lean ====
section
/-! DEFINITION. The commands of Blend Control: SET_GRADE and READ_BLEND (R88, R89). -/

namespace Sys2Proof.Machine

/-- The entry that SET_GRADE carries; none where a field is outside its values (R88). -/
def gradeEntryOf (x : GradeFields) : Option GradeEntry :=
  let shareGood := decide (x.share = 0 ∨ (50 ≤ x.share ∧ x.share ≤ 950) ∨ x.share = 1000)
  match switchOf x.trim with
  | some t =>
    if shareGood ∧ 1 ≤ x.startDuty ∧ x.startDuty ≤ 15 then some { share := x.share, startDuty := x.startDuty, trim := t }
    else none
  | none => none

/-- A side is in a fill state with a sale of the grade (R88). -/
def fillingGrade (s : State) (g : Grade) (i : Side) : Bool :=
  s.filling i && (s.fill.get i).sale.any (fun c => decide (c.grade = g))

/-- The taking of SET_GRADE (R88, R158). -/
def takeSetGrade (x : GradeFields) (s : State) : State :=
  if configUnread s then refuse .wrongState s
  else
    match gradeOf x.grade, gradeEntryOf x with
    | some g, some e =>
      if fillingGrade s g .a || fillingGrade s g .b then refuse .wrongState s
      else serveByJob .cfgWrite [] { s with grades := s.grades.set g e }
    | _, _ => refuse .badValue s

/-- SET_GRADE (R88). -/
def execSetGrade (tag : Nat) (body : Body GradeFields) (s : State) : Host.Outcome State Fault Refusal :=
  event (request Kind.setGrade tag body takeSetGrade) s

/-- The five counters of a Blend Controller cleared (R89). -/
def Blend.clearCounters (b : Blend) : Blend := { b with evaluated := 0, stepsUp := 0, stepsDown := 0, atLimit := 0, alarms := 0 }

/-- The taking of READ_BLEND (R89). -/
def takeReadBlend (x : SideClearFields) (s : State) : State :=
  match sideOf x.side, switchOf x.clear with
  | some i, some clear =>
    let s' := answer .ok (blendReport s i) s
    if clear then s'.setBlend i (s'.blend.get i).clearCounters else s'
  | _, _ => refuse .badValue s

/-- READ_BLEND (R89). -/
def execReadBlend (tag : Nat) (body : Body SideClearFields) (s : State) : Host.Outcome State Fault Refusal :=
  event (request Kind.readBlend tag body takeReadBlend) s

end Sys2Proof.Machine
end

