-- ==== Sys2Proof/Machine/Displays.lean ====
section
/-! DEFINITION. The commands of the display heads (section 7): refresh, echoes, test phases, temperature samples and READ_DISPLAY. -/

namespace Sys2Proof.Machine

/-! ### Refresh -/

/-- A refresh expiry of a SHOWING controller: the current frame is sent when nothing is in flight and it differs from the last frame
whose transfer ended (R109). -/
def refreshExpiry (i : Side) (s : State) : State :=
  let d := s.display.get i
  if d.controller = .showing ∧ d.refreshTimer.isSome then
    let d := { d with refreshTimer := some (refreshInterval s) }
    let f := currentFrame s i
    if d.transfer.isNone ∧ d.last.map (·.frame) ≠ some f then s.setDisplay i (d.send f false) else s.setDisplay i d
  else s

/-- REFRESH_EXPIRY (R109). -/
def execRefreshExpiry (i : Side) (s : State) : Host.Outcome State Fault Refusal := event (refreshExpiry i) s

/-! ### Tests -/

/-- A test is done: the controller shows the side again, and the report goes to the Fill Controller or to the Power Sequencer (R111,
R112). -/
def testDone (i : Side) (k : TestKind) (s : State) : State :=
  let s := s.setDisplay i ((s.display.get i).toShowing (refreshInterval s))
  match k with
  | .fill => tryLeaveStarting i (s.setFill i { s.fill.get i with testDone := true })
  | .check => reportCheck i s

/-- A test whose last phase has ended waits for no more than the transfer in flight (R111). -/
def DisplayTest.over (t : DisplayTest) : Bool := decide (t.phase = t.kind.lastPhase) && !t.due && t.timer.isNone

/-- A running test that is over is done once no transfer is in flight (R111, R112). -/
def tryEndTest (i : Side) (s : State) : State :=
  let d := s.display.get i
  match d.controller, d.transfer, d.test with
  | .testing, none, some t => if t.over then testDone i t.kind s else s
  | _, _, _ => s

/-- A phase timer expires: the next phase's frame is due, or the last phase has ended (R111, R112). -/
def phaseExpiry (i : Side) (s : State) : State :=
  let d := s.display.get i
  match d.test with
  | none => s
  | some t =>
    if t.timer.isNone then s
    else if t.phase = t.kind.lastPhase then tryEndTest i (s.setDisplay i { d with test := some { t with timer := none } })
    else s.setDisplay i { d with test := some { t with phase := t.phase.next, due := true, timer := none } }

/-- TEST_PHASE_EXPIRY (R111, R112). -/
def execTestPhaseExpiry (i : Side) (s : State) : Host.Outcome State Fault Refusal := event (phaseExpiry i) s

/-! ### Transfers -/

/-- DISPLAY is raised: a fill fault of a side in a fill state; a closure and its notice otherwise (R110). -/
def raiseDisplay (i : Side) (s : State) : State :=
  if s.filling i then fillFault i .display none s
  else if (s.fill.get i).closures.display then s
  else notifyFault (some i) .display none none none none (addClosure i .display s)

/-- The transfer of a frame ends, confirmed or failed (R109, R110). -/
def Display.ended (d : Display) (f : Frame) (confirmed : Bool) : Display :=
  { d with transfer := none, echoTimer := none, last := some { frame := f, confirmed := confirmed }
           failed := if confirmed then d.failed else d.failed + 1 }

/-- A failed transfer ends a running test and raises DISPLAY; a check test is reported failed (R110 to R112). -/
def failTransfer (i : Side) (s : State) : State :=
  let d := s.display.get i
  match d.controller, d.test with
  | .testing, some t =>
    let s := raiseDisplay i (s.setDisplay i (d.toShowing (refreshInterval s)))
    match t.kind with
    | .fill => s
    | .check => reportCheck i s
  | _, _ => raiseDisplay i s

/-- What follows the end of a transfer: in SHUTTING the end of the OFF frame is the dark report; elsewhere a failure ends a
test and raises DISPLAY, and a confirmation may end one (R108, R110 to R112). -/
def endTransfer (i : Side) (t : Transfer) (confirmed : Bool) (s : State) : State :=
  let d := s.display.get i
  let s := s.setDisplay i (d.ended t.frame confirmed)
  match d.controller with
  | .shutting => if t.frame.mode = .off then darkReport i s else s
  | .unpowered | .standby | .testing | .showing =>
    if confirmed then tryEndTest i s else failTransfer i s

/-- An attempt fails: the first is retried, the retry fails the transfer (R110). -/
def attemptLost (i : Side) (t : Transfer) (s : State) : State :=
  if t.retry then endTransfer i t false s
  else
    let d := s.display.get i
    s.setDisplay i (Display.send { d with retries := d.retries + 1 } t.frame true)

/-- An echo arrives (R110). -/
def displayEcho (i : Side) (sum : Byte) (s : State) : State :=
  let d := s.display.get i
  match d.transfer with
  | none => s.setDisplay i { d with stray := d.stray + 1 }
  | some t => if sum = t.frame.sumCheck then endTransfer i t true s else attemptLost i t s

/-- DISPLAY_ECHO (R110). -/
def execDisplayEcho (i : Side) (sum : Byte) (s : State) : Host.Outcome State Fault Refusal := event (displayEcho i sum) s

/-- The echo timer expires (R110). -/
def echoTimeout (i : Side) (s : State) : State :=
  let d := s.display.get i
  match d.transfer with
  | none => s
  | some t => if d.echoTimer.isSome then attemptLost i t s else s

/-- ECHO_TIMEOUT (R110). -/
def execEchoTimeout (i : Side) (s : State) : Host.Outcome State Fault Refusal := event (echoTimeout i) s

/-! ### Temperature -/

/-- The controller with a sample taken (R114 to R116). -/
def Display.sample (d : Display) (c : Params) (r : Nat) : Display :=
  let t := temperatureOf r
  { d with
    reading := r, temperature := t, sampleTimer := some Const.sampleInterval
    thermostat :=
      match t with
      | none => false
      | some x => if x < c.heaterOn then true else if heaterOff c ≤ x then false else d.thermostat
    dark := t.any (fun x => decide (x < c.darkLimit)) }

/-- A sample: a new sensor fault is reported, the heat want follows, and a warm side leaves HEAT (R114 to R116, R167). -/
def takeSample (i : Side) (r : Nat) (s : State) : State :=
  let d := s.display.get i
  let d' := d.sample s.params r
  let s := s.setDisplay i d'
  let s :=
    if d.temperature.isSome ∧ d'.temperature.isNone then notifyFault (some i) .sensor none none none (some r) s else s
  let s := updateHeat i s
  if (s.sidePower.get i).state = .heat ∧ warm s i then endHeat i .warm s else s

/-- TEMPERATURE_SAMPLE (R114). -/
def execTemperatureSample (i : Side) (r : Nat) (s : State) : Host.Outcome State Fault Refusal := event (takeSample i r) s

/-! ### Reading -/

/-- READ_DISPLAY (R119). -/
def execReadDisplay (tag : Nat) (body : Body Nat) (s : State) : Host.Outcome State Fault Refusal :=
  event (request Kind.readDisplay tag body (withSide (fun i s => answer .ok (displayReport s i) s))) s

end Sys2Proof.Machine
end

