-- ==== Sys2Proof/Machine/Linking.lean ====
section
/-! DEFINITION. The commands of the Message Link (section 12): dropped frames, unknown kinds, sent frames, identity, status, counters
and configuration. -/

namespace Sys2Proof.Machine

/-! ### Frames -/

/-- A dropped frame returns the receiver to hunting (R183). -/
def Link.dropFrame (l : Link) (c : LinkCounters) : Link := { l with receiver := .hunting, gapTimer := none, counters := c }

/-- LINK_GAP_TIMEOUT (R183). -/
def execLinkGapTimeout (s : State) : Host.Outcome State Fault Refusal :=
  event (fun s => s.setLink (s.link.dropFrame { s.link.counters with gap := s.link.counters.gap + 1 })) s

/-- LINK_BAD_LENGTH (R183). -/
def execLinkBadLength (s : State) : Host.Outcome State Fault Refusal :=
  event (fun s => s.setLink (s.link.dropFrame { s.link.counters with badLength := s.link.counters.badLength + 1 })) s

/-- LINK_BAD_CHECK (R183). -/
def execLinkBadCheck (s : State) : Host.Outcome State Fault Refusal :=
  event (fun s => s.setLink (s.link.dropFrame { s.link.counters with badCheck := s.link.counters.badCheck + 1 })) s

/-- A KIND that is not a request's: 0x00 and 0x60 to 0xFF (R183). -/
def nonRequestKind (kind : Nat) : Bool := decide (kind = 0 ∨ 0x60 ≤ kind)

/-- A good frame that is not a request is counted taken and unknown kind (R183). -/
def nonRequestFrame (kind : Nat) (s : State) : State :=
  if nonRequestKind kind then
    let l := s.link.frameTaken
    s.setLink { l with counters := { l.counters with unknownKind := l.counters.unknownKind + 1 } }
  else s

/-- NON_REQUEST_FRAME (R183). -/
def execNonRequestFrame (kind : Nat) (s : State) : Host.Outcome State Fault Refusal := event (nonRequestFrame kind) s

/-- UNKNOWN_KIND_REQUEST (R184): a request whose KIND names none of the catalogue. -/
def execUnknownKindRequest (kind tag : Nat) (s : State) : Host.Outcome State Fault Refusal :=
  event (fun s =>
    if nonRequestKind kind ∨ kind ∈ Kind.catalogue then s
    else request kind tag (.fields ()) (fun _ s => refuse .unknownKind s) s) s

/-- The end of a frame's transmission (R184, R186): a reply ends its request's service, except RESTART's (R174). -/
def frameSent (s : State) : State :=
  let l := s.link
  match l.tx with
  | none => s
  | some (.reply _) =>
    s.setLink { l with
      tx := none, service := l.service.filter (fun r => r.restart)
      counters := { l.counters with repliesSent := l.counters.repliesSent + 1 } }
  | some (.busyReply _) =>
    s.setLink { l with tx := none, counters := { l.counters with repliesSent := l.counters.repliesSent + 1 } }
  | some (.notice _) =>
    s.setLink { l with tx := none, counters := { l.counters with noticesSent := l.counters.noticesSent + 1 } }

/-- LINK_FRAME_SENT (R186). -/
def execLinkFrameSent (s : State) : Host.Outcome State Fault Refusal := event frameSent s

/-! ### Identity, status and counters -/

/-- IDENTIFY (R189). -/
def execIdentify (tag : Nat) (body : Body Unit) (s : State) : Host.Outcome State Fault Refusal :=
  event (request Kind.identify tag body (fun _ s => answer .ok (identityReport s) s)) s

/-- The taking of READ_STATUS: every item as latched, then every item reloaded from its condition (R188). -/
def takeReadStatus (s : State) : State :=
  let s' := answer .ok (statusReport s.link) s
  s'.setLink { s'.link with latches := latchConditions s' }

/-- READ_STATUS (R188). -/
def execReadStatus (tag : Nat) (body : Body Unit) (s : State) : Host.Outcome State Fault Refusal :=
  event (request Kind.readStatus tag body (fun _ s => takeReadStatus s)) s

/-- The taking of READ_COUNTERS (R189). -/
def takeReadCounters (clear : Nat) (s : State) : State :=
  match switchOf clear with
  | some c =>
    let s' := answer .ok (countersReport s.link.counters) s
    if c then s'.setLink { s'.link with counters := LinkCounters.zero } else s'
  | none => refuse .badValue s

/-- READ_COUNTERS (R189). -/
def execReadCounters (tag : Nat) (body : Body Nat) (s : State) : Host.Outcome State Fault Refusal :=
  event (request Kind.readCounters tag body takeReadCounters) s

/-! ### Configuration -/

/-- The part is LOADING and the CFG region has not been read (R158). -/
def paramsUnread (s : State) : Bool := decide (s.power.mode = .loading) && !s.store.cfg.state.isRead

/-- The applied value of a parameter: off or on, or clamped into the range; an alarm bound below T1 is clamped up to it (R87,
R190). -/
def appliedValue (c : Params) (p : Param) (v : Int) : Int :=
  if p.isSwitch then (if v = 0 then 0 else 1)
  else
    let x := clampInt p.range.1 p.range.2 v
    if p = .alarmBound then max x c.trimTolerance else x

/-- A side's queued records, plus one for a slot that is not empty (R94). -/
def stackUse (s : State) (i : Side) : Nat := (s.register.queues.get i).length + boolNat (s.fill.get i).slot.isSome

/-- The stack depth does not hold what a side has (R94). -/
def depthRefused (s : State) (p : Param) (v : Int) : Bool :=
  decide (p = .stackDepth ∧ (v < stackUse s .a ∨ v < stackUse s .b))

/-- What a parameter's change does at once: a lowered bucket capacity cuts the tokens (R137), and the heater permit count moves
permits (R117). -/
def applyParam (p : Param) (v : Int) (s : State) : State :=
  let s := { s with params := s.params.set p v }
  match p with
  | .committedCapacity | .excessCapacity =>
    { s with ports := { a := cutBuckets s.params s.ports.a, b := cutBuckets s.params s.ports.b } }
  | .heaterPermits => s.setArbiter (s.arbiter.setCount (permitCount s))
  | _ => s

/-- The taking of SET_CONFIG (R158, R190). -/
def takeSetConfig (x : ConfigFields) (s : State) : State :=
  if paramsUnread s then refuse .wrongState s
  else
    match Param.ofId x.id with
    | none => refuse .badValue s
    | some p =>
      let v := appliedValue s.params p x.value
      if depthRefused s p v then refuse .wrongState s
      else serveByJob .cfgWrite (num 1 p.id ++ int 4 v) (applyParam p v s)

/-- SET_CONFIG (R190). -/
def execSetConfig (tag : Nat) (body : Body ConfigFields) (s : State) : Host.Outcome State Fault Refusal :=
  event (request Kind.setConfig tag body takeSetConfig) s

/-- The taking of READ_CONFIG: an identifier, or 0 for all (R190). -/
def takeReadConfig (id : Nat) (s : State) : State :=
  if id = 0 then answer .ok (configReport s Param.all) s
  else
    match Param.ofId id with
    | some p => answer .ok (configReport s [p]) s
    | none => refuse .badValue s

/-- READ_CONFIG (R190). -/
def execReadConfig (tag : Nat) (body : Body Nat) (s : State) : Host.Outcome State Fault Refusal :=
  event (request Kind.readConfig tag body takeReadConfig) s

end Sys2Proof.Machine
end

