-- ==== Sys2Proof/Machine/Meters.lean ====
section
/-! DEFINITION. The commands of the meters: PHASE_LEVEL_TAKEN, RATE_WINDOW_EXPIRY, READ_METER and SET_CALIBRATION (section 1). -/

namespace Sys2Proof.Machine

/-- PHASE_LEVEL_TAKEN (R1). -/
def execPhaseLevelTaken (m : Meter) (phase1 phase2 : Option Bool) (s : State) : Host.Outcome State Fault Refusal :=
  event (takeLevels m phase1 phase2) s

/-- RATE_WINDOW_EXPIRY (R8, R9). -/
def execRateWindowExpiry (m : Meter) (s : State) : Host.Outcome State Fault Refusal := event (rateExpiry m) s

/-- The counters of a channel cleared (R12). -/
def MeterChannel.clearCounters (c : MeterChannel) : MeterChannel := { c with forward := 0, reverse := 0, phaseErrors := 0 }

/-- The taking of READ_METER (R13). -/
def takeReadMeter (x : ReadMeterFields) (s : State) : State :=
  match meterOf x.meter, switchOf x.clear with
  | some m, some clear =>
    let s' := answer .ok (meterReport s m) s
    if clear then s'.setMeter m (s'.meter m).clearCounters else s'
  | _, _ => refuse .badValue s

/-- READ_METER (R13). -/
def execReadMeter (tag : Nat) (body : Body ReadMeterFields) (s : State) : Host.Outcome State Fault Refusal :=
  event (request Kind.readMeter tag body takeReadMeter) s

/-- W and maximum flow within their ranges (R14). -/
def calibrationInRange (weight maxFlow : Nat) : Bool :=
  decide (1000 ≤ weight ∧ weight ≤ 60000 ∧ 500 ≤ maxFlow ∧ maxFlow ≤ 20000)

/-- The acceptance of SET_CALIBRATION (R15). -/
def acceptCalibration (m : Meter) (weight maxFlow : Nat) (s : State) : State :=
  let s := s.setMeter m { s.meter m with weight := weight, maxFlow := maxFlow }
  serveByJob .calWrite [] (s.setStore { s.store with audit := min (s.store.audit + 1) 65535 })

/-- The taking of SET_CALIBRATION: the loading check, the switch, the sides, the values (R14, R158). -/
def takeCalibration (switchClosed : Bool) (x : CalibrationFields) (s : State) : State :=
  if s.power.mode = .loading ∧ !s.store.cal.state.isRead then refuse .wrongState s
  else if !switchClosed then refuse .calLocked s
  else if s.anyFilling then refuse .wrongState s
  else
    match meterOf x.meter with
    | none => refuse .badValue s
    | some m => if calibrationInRange x.weight x.maxFlow then acceptCalibration m x.weight x.maxFlow s else refuse .badValue s

/-- SET_CALIBRATION (R14, R15). -/
def execSetCalibration (tag : Nat) (switchClosed : Bool) (body : Body CalibrationFields) (s : State) :
    Host.Outcome State Fault Refusal :=
  event (request Kind.setCalibration tag body (takeCalibration switchClosed)) s

end Sys2Proof.Machine
end

