-- ==== Sys2Proof/Machine/Readers.lean ====
section
/-! DEFINITION. The commands of the Reader Isolation Switch (section 8): the port's pins and timers, admission, the arrival of
records, the transmitter, and the requests on readers. -/

namespace Sys2Proof.Machine

/-! ### Pins and timers -/

/-- TAMPER_ASSERT (R128, R155). -/
def execTamperAssert (i : Side) (s : State) : Host.Outcome State Fault Refusal :=
  event (fun s => tamperPort i (s.setPort i { s.ports.get i with tamperInput := true })) s

/-- Reader-ready is asserted: READY_WAIT ends and OFFER is to be sent (R123). -/
def readerReady (i : Side) (s : State) : State :=
  let p := { s.ports.get i with readyInput := true }
  if p.state = .negotiating ∧ p.step = some .readyWait then s.setPort i p.readyFound else s.setPort i p

/-- READER_READY (R123). -/
def execReaderReady (i : Side) (s : State) : Host.Outcome State Fault Refusal := event (readerReady i) s

/-- READER_READY_LOSS (R127). -/
def execReaderReadyLoss (i : Side) (s : State) : Host.Outcome State Fault Refusal :=
  event (fun s => lineLoss i (s.setPort i { s.ports.get i with readyInput := false })) s

/-- A running receiver abandons its frame (R139); an idle one takes nothing (R121). -/
def abandonFrame (i : Side) (s : State) : State :=
  let p := s.ports.get i
  if p.state.running then s.setPort i p.frameAbandoned else s

/-- LINE_LOW_TIMEOUT (R127, R139). -/
def execLineLowTimeout (i : Side) (inFrame : Bool) (s : State) : Host.Outcome State Fault Refusal :=
  event (fun s => lineLoss i (if inFrame then abandonFrame i s else s)) s

/-- The step timer of an admission step expires (R123). -/
def stepTimeout (i : Side) (s : State) : State :=
  let p := s.ports.get i
  if p.state = .negotiating ∧ p.stepTimer.isSome then failAttempt i (if p.step = some .readyWait then .noReady else .timeout) s else s

/-- READER_STEP_TIMEOUT (R123). -/
def execReaderStepTimeout (i : Side) (s : State) : Host.Outcome State Fault Refusal := event (stepTimeout i) s

/-- BACKOFF_EXPIRY (R125): NEGOTIATING from its first step. -/
def execBackoffExpiry (i : Side) (s : State) : Host.Outcome State Fault Refusal :=
  event (fun s =>
    if (s.ports.get i).state = .backoff ∧ (s.ports.get i).backoffTimer.isSome then changePort i .enabled (s.ports.get i).negotiate s else s) s

/-- READER_GAP_TIMEOUT (R139). -/
def execReaderGapTimeout (i : Side) (s : State) : Host.Outcome State Fault Refusal := event (abandonFrame i) s

/-- READER_FRAME_OVERLENGTH (R139). -/
def execReaderFrameOverlength (i : Side) (s : State) : Host.Outcome State Fault Refusal := event (abandonFrame i) s

/-! ### Arrivals -/

/-- A record that the check list discards; a record that would pass every check is not discarded (R140). -/
def recordDiscarded (i : Side) (checkGood : Bool) (cls tag len : Nat) (s : State) : State :=
  match (judge s i checkGood cls tag len).2 with
  | none => s
  | some _ => arrive i checkGood cls tag len id s

/-- READER_RECORD_DISCARDED (R140). -/
def execReaderRecordDiscarded (i : Side) (checkGood : Bool) (cls tag : Nat) (body : List Byte) (s : State) :
    Host.Outcome State Fault Refusal :=
  event (recordDiscarded i checkGood cls tag body.length) s

/-- ABILITY (R124). -/
def execAbility (i : Side) (tag : Nat) (revisions : BitVec 8) (maxBody : Nat) (features : BitVec 8) (s : State) :
    Host.Outcome State Fault Refusal :=
  event (arrive i true Cls.ability tag (Cls.length Cls.ability)
    (fun s => takeAbility i revisions maxBody features (countConsumed i s))) s

/-- An ADMIT_ACK taken: the agreed revision admits the port, another fails the attempt (R123). -/
def takeAck (i : Side) (revision : Nat) (s : State) : State :=
  match (s.ports.get i).offered with
  | some t => if revision = t.revision then admitPort i t s else failAttempt i .terms s
  | none => failAttempt i .terms s

/-- ADMIT_ACK (R123). -/
def execAdmitAck (i : Side) (tag revision : Nat) (s : State) : Host.Outcome State Fault Refusal :=
  event (arrive i true Cls.ack tag (Cls.length Cls.ack) (fun s => takeAck i revision (countConsumed i s))) s

/-- READER_RECORD (R141): a configurable record; a built-in class has its own command. -/
def execReaderRecord (i : Side) (cls tag : Nat) (body : List Byte) (s : State) : Host.Outcome State Fault Refusal :=
  event (fun s => if cls ∈ Cls.builtIn then s else arrive i true cls tag body.length (forwardRecord i cls tag body) s) s

/-! ### The transmitter and the rate meter -/

/-- READER_TRANSMISSION_END (R133). -/
def execReaderTransmissionEnd (i : Side) (s : State) : Host.Outcome State Fault Refusal := event (readerSent i) s

/-- A refill expiry of the committed bucket (R137). -/
def committedRefill (i : Side) (s : State) : State :=
  let p := s.ports.get i
  if p.committedTimer.isSome then
    s.setPort i { p with
      committed := refill p.committed s.params.committedRefill.toNat s.params.committedCapacity.toNat
      committedTimer := some Const.committedInterval }
  else s

/-- COMMITTED_REFILL (R137). -/
def execCommittedRefill (i : Side) (s : State) : Host.Outcome State Fault Refusal := event (committedRefill i) s

/-- A refill expiry of the excess bucket (R137). -/
def excessRefill (i : Side) (s : State) : State :=
  let p := s.ports.get i
  if p.excessTimer.isSome then
    s.setPort i { p with
      excess := refill p.excess 1 s.params.excessCapacity.toNat, excessTimer := some Const.excessInterval }
  else s

/-- EXCESS_REFILL (R137). -/
def execExcessRefill (i : Side) (s : State) : Host.Outcome State Fault Refusal := event (excessRefill i) s

/-- A port counts the entries that a scan removes (R136). -/
def countExpired (i : Side) (n : Nat) (s : State) : State :=
  let p := s.ports.get i
  s.setPort i { p with counters := { p.counters with expired := p.counters.expired + BitVec.ofNat 32 n } }

/-- The aging scan and the red-run tests (R136, R138). The entries are aged before the red-run tests, and port RA is tested before RB:
the order is the model's (DESIGN CHOICE, unsafe; notes/assumptions/51.md). -/
def agingScan (s : State) : State :=
  let t := s.conversations
  let s := countExpired .b (expiredCount .b t) (countExpired .a (expiredCount .a t) s)
  redRunTest .b (redRunTest .a { s with
    conversations := ageConversations t, agingTimer := some (s.params.agingInterval.toNat * 1000) })

/-- AGING_SCAN (R136, R138). -/
def execAgingScan (s : State) : Host.Outcome State Fault Refusal := event agingScan s

/-! ### Requests on ports -/

/-- The taking of ENABLE_READER (R122). -/
def takeEnableReader (i : Side) (s : State) : State :=
  if (s.ports.get i).state = .tampered ∨ !(s.sidePower.get i).state.powered then refuse .wrongState s
  else
    let s := startRequest i s
    answer .ok (num 1 (s.ports.get i).state.code) s

/-- ENABLE_READER (R122). -/
def execEnableReader (tag : Nat) (body : Body Nat) (s : State) : Host.Outcome State Fault Refusal :=
  event (request Kind.enableReader tag body (withSide takeEnableReader)) s

/-- The taking of DISABLE_READER (R129). -/
def takeDisableReader (i : Side) (s : State) : State :=
  if (s.ports.get i).state = .tampered then refuse .wrongState s else answer .ok [] (disablePort i .disabled s)

/-- DISABLE_READER (R129). -/
def execDisableReader (tag : Nat) (body : Body Nat) (s : State) : Host.Outcome State Fault Refusal :=
  event (request Kind.disableReader tag body (withSide takeDisableReader)) s

/-- The taking of CLEAR_TAMPER over the tamper input as it is found (R128). -/
def takeClearTamper (tamper : Bool) (i : Side) (s : State) : State :=
  let p := { s.ports.get i with tamperInput := tamper }
  let s := s.setPort i p
  if p.state ≠ .tampered ∨ tamper then refuse .wrongState s
  else answer .ok [] (changePort i .cleared { p with state := .disabled, failures := 0 } s)

/-- CLEAR_TAMPER (R128). -/
def execClearTamper (tag : Nat) (tamper : Bool) (body : Body Nat) (s : State) : Host.Outcome State Fault Refusal :=
  event (request Kind.clearTamper tag body (withSide (takeClearTamper tamper))) s

/-- The taking of READ_READER: selector 0 PORT, 1 CLASSES, 2 CONVERSATIONS (R142). -/
def takeReadReader (tamper : Bool) (x : ReadReaderFields) (s : State) : State :=
  match sideOf x.port, switchOf x.clear with
  | some i, some clear =>
    match x.selector with
    | 0 =>
      let s := answer .ok (portReport s i tamper) s
      if clear then s.setPort i { s.ports.get i with counters := PortCounters.zero } else s
    | 1 => answer .ok (classesReport s) s
    | 2 => answer .ok (conversationsReport s i) s
    | _ => refuse .badValue s
  | _, _ => refuse .badValue s

/-- READ_READER (R142). -/
def execReadReader (tag : Nat) (tamper : Bool) (body : Body ReadReaderFields) (s : State) : Host.Outcome State Fault Refusal :=
  event (request Kind.readReader tag body (takeReadReader tamper)) s

/-! ### Requests on classes -/

/-- The configurable entry that SET_CLASS carries; none where check 2 of R131 fails. -/
def classEntryOf (x : ClassFields) : Option ClassEntry :=
  match directionOf x.direction, switchOf x.essential, switchOf x.answer with
  | some d, some e, some a =>
    let asksGood := x.asks.all (fun c => d.toReader && decide (0x40 ≤ c ∧ c ≤ 0xFF ∧ c ≠ x.code))
    if 0x40 ≤ x.code ∧ x.code ≤ 0xFF ∧ x.maxBody ≤ 200 ∧ 1 ≤ x.weight ∧ x.weight ≤ 4 ∧ asksGood ∧ (a → d.fromReader) then
      some { code := x.code, direction := d, maxBody := x.maxBody, weight := x.weight, essential := e, asks := x.asks
             answer := a }
    else none
  | _, _, _ => none

/-- The table is full: ten built-in entries and the configurable ones make 24 (R130, R131). -/
def classesFull (t : List ClassEntry) : Bool := decide (Const.classPlaces ≤ Cls.builtIn.length + t.length)

/-- The entry is set; where the replaced one took answers and the new one does not, its questions go (R131). -/
def setClassEntry (e : ClassEntry) (s : State) : State :=
  let lost := (lookupClass s.classes e.code).any ClassEntry.answers && !e.answers
  { s with
    classes := insertClass e s.classes
    conversations := if lost then dropExpected e.code s.conversations else s.conversations }

/-- The taking of SET_CLASS (R131, R158). -/
def takeSetClass (x : ClassFields) (s : State) : State :=
  if configUnread s then refuse .wrongState s
  else if x.code ∈ Cls.builtIn then refuse .classRefused s
  else
    match classEntryOf x with
    | none => refuse .badValue s
    | some e =>
      if (lookupClass s.classes e.code).isNone ∧ classesFull s.classes then refuse .classRefused s
      else serveByJob .cfgWrite [] (setClassEntry e s)

/-- SET_CLASS (R131). -/
def execSetClass (tag : Nat) (body : Body ClassFields) (s : State) : Host.Outcome State Fault Refusal :=
  event (request Kind.setClass tag body takeSetClass) s

/-- The taking of DELETE_CLASS (R132, R158). -/
def takeDeleteClass (code : Nat) (s : State) : State :=
  if configUnread s then refuse .wrongState s
  else if code ∈ Cls.builtIn then refuse .classRefused s
  else if code < 0x40 then refuse .badValue s
  else if (lookupClass s.classes code).isNone then refuse .notFound s
  else
    serveByJob .cfgWrite []
      { s with classes := removeClass code s.classes, conversations := dropExpected code s.conversations }

/-- DELETE_CLASS (R132). -/
def execDeleteClass (tag : Nat) (body : Body Nat) (s : State) : Host.Outcome State Fault Refusal :=
  event (request Kind.deleteClass tag body takeDeleteClass) s

/-! ### Sending -/

/-- Check 1 of R134 against the class's entry. -/
def mayQueue (e : ClassEntry) (x : SendFields) : Bool :=
  e.direction.toReader && decide (x.body.length ≤ e.maxBody) && !(e.asks.isSome && x.tag == 0)

/-- Check 5 of R134: the table is full, and no entry has this port and tag. -/
def conversationsFull (s : State) (i : Side) (tag : Nat) : Bool :=
  decide (Const.conversationPlaces ≤ s.conversations.length) && !hasConversation s.conversations i tag

/-- An accepted record joins the transmit queue, and a question opens or refreshes its conversation (R134, R135). -/
def queueRecord (i : Side) (e : ClassEntry) (x : SendFields) (s : State) : State :=
  let p := s.ports.get i
  let s := s.setPort i { p with queue := p.queue ++ [{ cls := x.cls, tag := x.tag, body := x.body }] }
  let s :=
    match e.asks with
    | some a => { s with conversations := askConversation i x.tag a s.conversations }
    | none => s
  answer .ok (num 1 (p.queue.length + 1)) s

/-- The taking of SEND_TO_READER, its five checks in order (R134). -/
def takeSend (x : SendFields) (s : State) : State :=
  match sideOf x.port, lookupClass s.classes x.cls with
  | some i, some e =>
    let p := s.ports.get i
    if !mayQueue e x then refuse .badValue s
    else if p.state ≠ .admitted then refuse .wrongState s
    else if p.bodyLimit < x.body.length then refuse .badValue s
    else if Const.transmitPlaces ≤ p.queue.length then refuse .readerBusy s
    else if e.asks.isSome ∧ conversationsFull s i x.tag then refuse .convFull s
    else queueRecord i e x s
  | _, _ => refuse .badValue s

/-- SEND_TO_READER (R134). -/
def execSendToReader (tag : Nat) (body : Body SendFields) (s : State) : Host.Outcome State Fault Refusal :=
  event (request Kind.sendToReader tag body takeSend) s

end Sys2Proof.Machine
end

