-- ==== Sys2Proof/Machine/Payments.lean ====
section
/-! DEFINITION. The commands of the Payment Path: AUTH_GRANT, AUTH_CANCEL and SALE_CAPTURE (section 9). -/

namespace Sys2Proof.Machine

/-- The limit of an AUTH_GRANT, coded 0 NONE, 1 MONEY, 2 VOLUME (R195); the outer none is a limit that check 2 of R146 refuses. -/
def grantLimit (kind value revision : Nat) : Option (Option Limit) :=
  let inRange := decide (Const.limitFloor ≤ value ∧ value ≤ Const.limitStop)
  match kind with
  | 0 => some none
  | 1 => if inRange then some (some { kind := .money, value := value }) else none
  | 2 => if inRange ∧ revision ≠ 1 then some (some { kind := .volume, value := value }) else none
  | _ => none

/-- The agreed revision of a port; 0 while it has no terms. -/
def agreedRevision (s : State) (i : Side) : Nat := (s.ports.get i).terms.elim 0 (·.revision)

/-- The agreed features include PARTIAL (R124). -/
def partialAgreed (s : State) (i : Side) : Bool := (s.ports.get i).terms.any (fun t => t.features.getLsbD 0)

/-- An AUTH_GRANT is judged: its limit where every check passes, or the reason of the first that fails (R146). -/
def judgeGrant (s : State) (i : Side) (grades : BitVec 8) (kind value : Nat) : Except PaymentReason (Option Limit) :=
  if grades = 0 then .error .grades
  else
    match grantLimit kind value (agreedRevision s i) with
    | none => .error .range
    | some limit =>
      if nightMode s then .error .night
      else if (s.fill.get i).slot.isSome then .error .alreadyAuthorized
      else if !mayAuthorize s i then .error .closed
      else if stackFull s i then .error .stackFull
      else .ok limit

/-- A handed AUTH_GRANT is refused, or accepted into the slot at level 2 (R146, R147). -/
def takeGrant (i : Side) (reference : Nat) (grades : BitVec 8) (kind value : Nat) (s : State) : State :=
  match judgeGrant s i grades kind value with
  | .error r => pendAuthState i (.refused r) reference s
  | .ok limit =>
    acceptAuth i { source := .reader, reference := some reference, grades := grades, level := .l2, limit := limit
                   phase := .waiting, acceptedAt := s.stamp } s

/-- AUTH_GRANT (R146, R147). -/
def execAuthGrant (i : Side) (tag reference : Nat) (grades : BitVec 8) (kind value : Nat) (s : State) :
    Host.Outcome State Fault Refusal :=
  event (arrive i true Cls.grant tag (Cls.length Cls.grant)
    (fun s => takeGrant i reference grades kind value (countConsumed i s))) s

/-- The authorization in the slot is a READER one with the reference (R148). -/
def matchesCancel (a : Auth) (reference : Nat) : Bool := a.source == .reader && a.reference == some reference

/-- A handed AUTH_CANCEL (R148). -/
def takeCancel (i : Side) (reference : Nat) (s : State) : State :=
  match (s.fill.get i).slot with
  | none => pendAuthState i (.refused .unknown) reference s
  | some a =>
    if matchesCancel a reference then
      match a.phase with
      | .waiting => pendAuthState i .cancelled reference (withdrawWaiting i .cancelled false s)
      | .inUse =>
        pendAuthState i (.stopped ((saleNumber s i).getD 0)) reference (finalStop i .readerCancel s)
    else pendAuthState i (.refused .unknown) reference s

/-- AUTH_CANCEL (R148). -/
def execAuthCancel (i : Side) (tag reference : Nat) (s : State) : Host.Outcome State Fault Refusal :=
  event (arrive i true Cls.cancel tag (Cls.length Cls.cancel) (fun s => takeCancel i reference (countConsumed i s))) s

/-- The record that a SALE_CAPTURE names and may capture: check 1 of R152. -/
def captureRecord (s : State) (i : Side) (number reference : Nat) : Option SaleRecord :=
  if s.register.warning then none
  else
    (s.register.queues.get i).find? (fun r =>
      decide (r.number = number ∧ r.source = .reader ∧ r.reference = some reference) && !r.flags.undeliverable)

/-- A handed SALE_CAPTURE: its three checks, or the removal of the record (R152). -/
def takeCapture (i : Side) (number reference amount : Nat) (s : State) : State :=
  match captureRecord s i number reference with
  | none => pendAuthState i (.captureRefused number .unknown) reference s
  | some r =>
    if r.payable < amount then pendAuthState i (.captureRefused number .amount) reference s
    else if amount < r.payable ∧ !partialAgreed s i then pendAuthState i (.captureRefused number .partialCapture) reference s
    else pendAuthState i (.captured number amount) reference (removeSale i number (.reader amount) s)

/-- SALE_CAPTURE (R152). -/
def execSaleCapture (i : Side) (tag number reference amount : Nat) (s : State) : Host.Outcome State Fault Refusal :=
  event (arrive i true Cls.capture tag (Cls.length Cls.capture)
    (fun s => takeCapture i number reference amount (countConsumed i s))) s

end Sys2Proof.Machine
end

