-- ==== Sys2Proof/Machine/Pricing.lean ====
section
/-! DEFINITION. The commands of the Pricing Unit: QUOTE, STAGE_PRICE, COMMIT_PRICES and READ_PRICES (sections 2.7 and 3). -/

namespace Sys2Proof.Machine

/-- The answer of QUOTE in the VOLUME form (R30). -/
def quoteVolume (q p : Nat) : List Field := money3 (moneyOf q p) ++ flag (decide (Const.figureCap < uncappedMoney q p))

/-- The answer of QUOTE in the MONEY form (R30). -/
def quoteMoney (l p : Nat) : List Field :=
  money3 (moneyTarget l p) ++ flag (decide (Const.limitStop < uncappedTarget l p)) ++ money3 (moneyOf (moneyTarget l p) p)

/-- The taking of QUOTE (R30, R31): form 0 is VOLUME, 1 is MONEY. BAD_VALUE is checked before WRONG_STATE (DESIGN CHOICE, unsafe;
notes/assumptions/73.md). -/
def takeQuote (x : QuoteFields) (s : State) : State :=
  match gradeOf x.grade, levelOf x.level with
  | some g, some l =>
    if 1 < x.form ∨ Const.figureCap < x.value then refuse .badValue s
    else
      let p := bankPrice s.prices.activeBank g l
      if s.prices.generation = 0 ∨ p = 0 then refuse .wrongState s
      else
        answer .ok (num 2 s.prices.generation ++ money3 p ++
          (if x.form = 0 then quoteVolume x.value p else quoteMoney x.value p)) s
  | _, _ => refuse .badValue s

/-- QUOTE (R30). -/
def execQuote (tag : Nat) (body : Body QuoteFields) (s : State) : Host.Outcome State Fault Refusal :=
  event (request Kind.quote tag body takeQuote) s

/-- The part is LOADING and the PRICE region has not been read (R35, R36). -/
def pricesUnread (s : State) : Bool := decide (s.power.mode = .loading) && !s.store.price.state.isRead

/-- The taking of STAGE_PRICE (R35). -/
def takeStagePrice (x : StagePriceFields) (s : State) : State :=
  match gradeOf x.grade, levelOf x.level with
  | some g, some l =>
    if pricesUnread s then refuse .wrongState s
    else if s.prices.schedule.isSome then refuse .priceBusy s
    else
      let p := min x.price 99999
      answer .ok (num 1 g.number ++ levelField l ++ money3 p)
        (s.setPrices { s.prices with staged := setBankPrice s.prices.staged g l p })
  | _, _ => refuse .badValue s

/-- STAGE_PRICE (R35). -/
def execStagePrice (tag : Nat) (body : Body StagePriceFields) (s : State) : Host.Outcome State Fault Refusal :=
  event (request Kind.stagePrice tag body takeStagePrice) s

/-- The taking of COMMIT_PRICES in a form other than AT: form 0 is NOW (R36 to R39). -/
def takeCommitNow (form : Nat) (s : State) : State :=
  if form ≠ 0 then refuse .badValue s
  else if pricesUnread s then refuse .wrongState s
  else if s.prices.retained.isSome then refuse .priceBusy s
  else
    let s := commitBanks s
    serveByJob .priceWrite (num 2 s.prices.generation) s

/-- COMMIT_PRICES NOW (R36). -/
def execCommitPricesNow (tag : Nat) (body : Body Nat) (s : State) : Host.Outcome State Fault Refusal :=
  event (request Kind.commitPrices tag body takeCommitNow) s

/-- The taking of COMMIT_PRICES AT (R36, R40). -/
def takeCommitAt (t : Nat) (s : State) : State :=
  if Const.day ≤ t then refuse .badValue s
  else if pricesUnread s then refuse .wrongState s
  else if s.prices.retained.isSome then refuse .priceBusy s
  else if !s.clock.valid then refuse .wrongState s
  else answer .ok (num 3 t) (s.setPrices { s.prices with schedule := some t })

/-- COMMIT_PRICES AT (R40). -/
def execCommitPricesAt (tag : Nat) (body : Body Nat) (s : State) : Host.Outcome State Fault Refusal :=
  event (request Kind.commitPrices tag body takeCommitAt) s

/-- The taking of READ_PRICES: selector 0 ACTIVE, 1 RETAINED, 2 PENDING (R43). -/
def takeReadPrices (selector : Nat) (s : State) : State :=
  match selector with
  | 0 => answer .ok (activeReport s.prices) s
  | 1 =>
    match s.prices.retained with
    | some r => answer .ok (retainedReport s.prices r) s
    | none => refuse .notFound s
  | 2 => answer .ok (stagedReport s.prices) s
  | _ => refuse .badValue s

/-- READ_PRICES (R43). -/
def execReadPrices (tag : Nat) (body : Body Nat) (s : State) : Host.Outcome State Fault Refusal :=
  event (request Kind.readPrices tag body takeReadPrices) s

end Sys2Proof.Machine
end

