-- ==== Sys2Proof/Machine/Resets.lean ====
section
/-! DEFINITION. The commands of reset and loading: POWER_ON_RESET, RESTART_RESET, REGION_READ and LOADING_END (R158, R159, R174,
R176). -/

namespace Sys2Proof.Machine

/-! ### Resets -/

/-- A nozzle switch as a reset finds it: a spent nozzle is up (R76). -/
def NozzlePosition.atReset : NozzlePosition → NozzlePosition
  | .hung => .hung
  | .up | .spent => .up

/-- The region that a write job writes. -/
def JobKind.region : JobKind → Option Region
  | .calWrite => some .cal
  | .cfgWrite => some .cfg
  | .priceWrite => some .price
  | .totalsWrite => some .totals
  | .verify => none

/-- A region is being written. -/
def Store.writing (t : Store) (r : Region) : Bool := t.running.any (fun j => decide (j.kind.region = some r))

/-- What a region holds after the loss of power: a write cut short leaves a CRC that does not match (R176). -/
def cutRegion {α : Type} (cut : Bool) (c : RegionCell α) : Stored α := if cut then .unreadable else c.stored

/-- What a save slot holds after the loss of power: an erase cut short has or has not gone far enough to read ERASED (R105); a write
cut short has left a save cut short. -/
def Store.cutSlot (t : Store) (readsErased : Bool) (i : Side) : SlotContents :=
  if t.eraseRunning i then (if readsErased then .empty else .cutShort) else (t.slots.get i).contents

/-- The store's banks as a power-on reset finds them (R105, R176, R180). -/
def Store.afterPowerLoss (t : Store) (readsErased : Bool) : NonVolatile :=
  { cal := cutRegion (t.writing .cal) t.cal, cfg := cutRegion (t.writing .cfg) t.cfg
    price := cutRegion (t.writing .price) t.price, totals := cutRegion (t.writing .totals) t.totals
    slots := { a := t.cutSlot readsErased .a, b := t.cutSlot readsErased .b } }

/-- The store's banks as a RESTART finds them: no write has been cut short (R182). -/
def Store.atRestart (t : Store) : NonVolatile :=
  { cal := t.cal.stored, cfg := t.cfg.stored, price := t.price.stored, totals := t.totals.stored
    slots := { a := t.slots.a.contents, b := t.slots.b.contents } }

/-- What a reset leaves as it was, and what it finds: the sensor readings and the tamper inputs, of whose release the table has no
event (R114, R144). -/
def kept (s : State) (nv : NonVolatile) (clock : Clock) (cause : ResetCause) (found : PerSide FoundAtReset) : Kept :=
  { nonVolatile := nv
    nozzles := { a := s.fill.a.nozzles.map NozzlePosition.atReset, b := s.fill.b.nozzles.map NozzlePosition.atReset }
    ready := { a := s.ports.a.readyInput, b := s.ports.b.readyInput }
    tamper := { a := found.a.tamper, b := found.b.tamper }, estop := s.estopInput, supplyFail := s.supplyFailInput
    clock := clock, cause := cause
    readings := { a := found.a.reading, b := found.b.reading }, pending := s.pending }

/-- A tamper input found asserted at reset is taken as an assertion (R144). -/
def tamperAtReset (i : Side) (s : State) : State := if (s.ports.get i).tamperInput then tamperPort i s else s

/-- The event of a reset: the blocks at their reset values, then the tamper inputs (R144, R158). -/
def resetEvent (k : Kept) : Host.Outcome State Fault Refusal :=
  event (fun s => tamperAtReset .b (tamperAtReset .a s)) (State.afterReset k)

/-- POWER_ON_RESET (R158). -/
def execPowerOnReset (foundA foundB : FoundAtReset) (readsErased : Bool) (s : State) : Host.Outcome State Fault Refusal :=
  resetEvent (kept s (s.store.afterPowerLoss readsErased) Clock.reset .powerOn { a := foundA, b := foundB })

/-- The part may carry out an accepted RESTART: the reply has been sent and the banks have drained, or, under the supply-fail
warning, hold only what the warning holds back (R174). -/
def restartReady (s : State) : Bool :=
  let t := s.store
  let l := s.link
  let replySent := l.replySlot.isNone && (match l.tx with | some (.reply _) => false | _ => true)
  let saveIdle := t.saving.isNone && t.saveWaiting.isEmpty
  let mainIdle :=
    t.running.isNone && (if s.supplyFailInput then !(t.waiting.any (fun j => j.kind = .totalsWrite)) else t.waiting.isEmpty)
  l.service.any (fun r => r.restart) && replySent && saveIdle && mainIdle

/-- RESTART_RESET (R174): as power-on reset, but the clock goes on. -/
def execRestartReset (foundA foundB : FoundAtReset) (s : State) : Host.Outcome State Fault Refusal :=
  if restartReady s then resetEvent (kept s s.store.atRestart s.clock .restart { a := foundA, b := foundB })
  else event id s

/-! ### Reading the regions -/

/-- A region's state by its CRC (R176). -/
def Stored.readState {α : Type} : Stored α → RegionState
  | .image _ => .valid
  | .unreadable => .invalid

/-- The calibrations of an image handed to the meters. -/
def loadCalibration (m : MeterChannel) (c : Calibration) : MeterChannel := { m with weight := c.weight, maxFlow := c.maxFlow }

/-- The CAL region is read (R16, R176). -/
def readCal (s : State) : State :=
  let x : CalImage :=
    match s.store.cal.stored with
    | .image x => x
    | .unreadable => { meters := PerSide.both (PerProduct.both Calibration.default), audit := 0 }
  let load (m : PerProduct MeterChannel) (c : PerProduct Calibration) : PerProduct MeterChannel :=
    { lo := loadCalibration m.lo c.lo, hi := loadCalibration m.hi c.hi }
  { s.setStore { s.store with cal := { s.store.cal with state := s.store.cal.stored.readState }, audit := x.audit } with
    meters := { a := load s.meters.a x.meters.a, b := load s.meters.b x.meters.b } }

/-- The contents of a CFG region that is invalid: every default (R158). -/
def CfgImage.default : CfgImage :=
  { params := Params.defaults, maps := PerSide.both (PerNozzle.all none), grades := PerGrade.all GradeEntry.default, classes := []
    nightAt := none, wakeAt := none }

/-- The CFG region is read (R158, R176). -/
def readCfg (s : State) : State :=
  let x : CfgImage :=
    match s.store.cfg.stored with
    | .image x => x
    | .unreadable => CfgImage.default
  let st := s.store.cfg.stored.readState
  let s := s.setStore { s.store with cfg := { s.store.cfg with state := st }, cfgDefaults := decide (st = .invalid) }
  let s := s.setPower { s.power with nightAt := x.nightAt, wakeAt := x.wakeAt }
  { s with
    params := x.params, grades := x.grades, classes := x.classes
    fill := { a := { s.fill.a with map := x.maps.a }, b := { s.fill.b with map := x.maps.b } } }

/-- The PRICE region is read (R44). -/
def readPrice (s : State) : State :=
  let x : PriceImage :=
    match s.store.price.stored with
    | .image x => x
    | .unreadable => { generation := 0, bank := Bank.zero }
  (s.setStore { s.store with price := { s.store.price with state := s.store.price.stored.readState } }).setPrices
    { active := x.bank, generation := x.generation, retained := none, staged := x.bank
      sideGeneration := PerSide.both x.generation, schedule := none }

/-- The TOTALS region is read (R93, R99). -/
def readTotalsRegion (s : State) : State :=
  let g := s.register
  let st := s.store.totals.stored.readState
  let x : TotalsImage :=
    match s.store.totals.stored with
    | .image x => x
    | .unreadable => { totals := Totals.zero, next := PerSide.both 1 }
  (s.setStore { s.store with totals := { s.store.totals with state := st } }).setRegister
    { g with totals := x.totals, next := x.next, totalsValid := decide (st = .valid) }

/-- The state of a region. -/
def Store.regionState (t : Store) : Region → RegionState
  | .cal => t.cal.state
  | .cfg => t.cfg.state
  | .price => t.price.state
  | .totals => t.totals.state

/-- The region that the Store Controller reads next: CAL, CFG, PRICE, TOTALS in order (R176). -/
def Store.nextRead (t : Store) : Option Region :=
  [Region.cal, .cfg, .price, .totals].find? (fun r => !(t.regionState r).isRead)

/-- The read of one region (R176). -/
def readRegion (r : Region) (s : State) : State :=
  match r with
  | .cal => readCal s
  | .cfg => readCfg s
  | .price => readPrice s
  | .totals => readTotalsRegion s

/-- REGION_READ (R176): the read that comes next completes. -/
def execRegionRead (r : Region) (s : State) : Host.Outcome State Fault Refusal :=
  event (fun s => if s.power.mode = .loading ∧ s.store.nextRead = some r then readRegion r s else s) s

/-! ### The end of loading -/

/-- A nozzle found up at the end of loading is spent (R49, R159). -/
def NozzlePosition.atLoaded : NozzlePosition → NozzlePosition
  | .hung => .hung
  | .up | .spent => .spent

/-- Step 1 of R159 for a side. -/
def spendNozzles (i : Side) (s : State) : State :=
  let f := s.fill.get i
  s.setFill i { f with counted := none, nozzles := f.nozzles.map NozzlePosition.atLoaded }

/-- Step 2 of R159. -/
def loadedClosures (s : State) : State :=
  let s := if s.store.cal.state = .invalid then addClosureBoth .calibration s else s
  if s.estopInput then addClosureBoth .estop s else s

/-- Step 3 of R159: a warning that stands is taken as an assertion (R70, R106). -/
def loadedWarning (s : State) : State := if s.supplyFailInput then takeWarning (addClosureBoth .powerFail s) else s

/-- Step 4 of R159. -/
def notifyPowerOn (s : State) : State :=
  let t := s.store
  notify (.powerOn s.power.resetCause t.cal.state t.cfg.state t.price.state t.totals.state t.cfgDefaults s.clock.valid
    s.register.queues.a.length s.register.queues.b.length) s

/-- Step 5 of R159. -/
def leaveLoading (s : State) : State :=
  if s.params.autostart ≠ 0 then wakingEntry .autostart s else nightEntry .autostart s

/-- The end of loading: the slots are examined, then the five steps (R104, R105, R159). -/
def loadingEnd (s : State) : State :=
  let s := raiseDepth (examineSlot .b (examineSlot .a s))
  let s := loadedClosures (spendNozzles .b (spendNozzles .a s))
  leaveLoading (notifyPowerOn (loadedWarning s))

/-- LOADING_END (R159), once the four regions have been read. -/
def execLoadingEnd (s : State) : Host.Outcome State Fault Refusal :=
  event (fun s => if s.power.mode = .loading ∧ s.store.nextRead = none then loadingEnd s else s) s

end Sys2Proof.Machine
end

