-- ==== Sys2Proof/Machine/Sales.lean ====
section
/-! DEFINITION. The commands of the Sale Register: LIST_SALES, READ_SALE, SETTLE_SALE and READ_TOTALS (R95, R96, R99). -/

namespace Sys2Proof.Machine

/-- LIST_SALES (R95). -/
def execListSales (tag : Nat) (body : Body Nat) (s : State) : Host.Outcome State Fault Refusal :=
  event (request Kind.listSales tag body (withSide (fun i s => answer .ok (salesReport s i) s))) s

/-- A sale number within 1 to 9,999 (R95). -/
def saleNumberGood (n : Nat) : Bool := decide (1 ≤ n ∧ n ≤ 9999)

/-- The taking of READ_SALE (R95). -/
def takeReadSale (x : SaleFields) (s : State) : State :=
  match sideOf x.side with
  | none => refuse .badValue s
  | some i =>
    if !saleNumberGood x.number then refuse .badValue s
    else
      match findSale s i x.number with
      | some r => answer .ok (saleReport s i r) s
      | none => refuse .notFound s

/-- READ_SALE (R95). -/
def execReadSale (tag : Nat) (body : Body SaleFields) (s : State) : Host.Outcome State Fault Refusal :=
  event (request Kind.readSale tag body takeReadSale) s

/-- The taking of SETTLE_SALE (R96). -/
def takeSettleSale (x : SaleFields) (s : State) : State :=
  match sideOf x.side with
  | none => refuse .badValue s
  | some i =>
    if !saleNumberGood x.number then refuse .badValue s
    else if s.register.warning then refuse .wrongState s
    else
      match findSale s i x.number with
      | some _ => answer .ok [] (removeSale i x.number .link s)
      | none => refuse .notFound s

/-- SETTLE_SALE (R96). -/
def execSettleSale (tag : Nat) (body : Body SaleFields) (s : State) : Host.Outcome State Fault Refusal :=
  event (request Kind.settleSale tag body takeSettleSale) s

/-- READ_TOTALS (R99). -/
def execReadTotals (tag : Nat) (body : Body Unit) (s : State) : Host.Outcome State Fault Refusal :=
  event (request Kind.readTotals tag body (fun _ s => answer .ok (totalsReport s) s)) s

end Sys2Proof.Machine
end

