-- ==== Sys2Proof/Machine/Sequencing.lean ====
section
/-! DEFINITION. The commands of the Power Sequencer (section 10): the supply inputs, the stage timers, the clock, and the requests on
power. -/

namespace Sys2Proof.Machine

/-! ### Supplies and stages -/

/-- The supply-good input of a side is found asserted (R166). -/
def supplyGood (i : Side) (s : State) : State :=
  let s := editSide i (fun p => { p with supplyGood := true }) s
  if (s.sidePower.get i).state = .supply then takeSupplyGood i s else s

/-- SUPPLY_GOOD (R166). -/
def execSupplyGood (i : Side) (s : State) : Host.Outcome State Fault Refusal := event (supplyGood i) s

/-- The supply-good input of a side is lost: it ends a shut in OFF, and takes a powered side down (R162, R171). -/
def supplyGoodLoss (i : Side) (s : State) : State :=
  let s := editSide i (fun p => { p with supplyGood := false }) s
  match (s.sidePower.get i).state with
  | .off => darkReport i s
  | .supply | .downFault => s
  | .heat | .check | .admitStage | .verify | .up => supplyLost i s

/-- SUPPLY_GOOD_LOSS (R171). -/
def execSupplyGoodLoss (i : Side) (s : State) : Host.Outcome State Fault Refusal := event (supplyGoodLoss i) s

/-- The stage timer of a side runs in a stage. -/
def stageRuns (s : State) (i : Side) (p : PowerState) : Bool :=
  decide ((s.sidePower.get i).state = p) && (s.sidePower.get i).stageTimer.isSome

/-- No supply-good within 2 s (R166). -/
def supplyTimeout (i : Side) (s : State) : State :=
  if stageRuns s i .supply then
    notifyFault (some i) .supply none none none none (downFault i .supplyTimeout s)
  else s

/-- SUPPLY_STAGE_TIMEOUT (R166). -/
def execSupplyStageTimeout (i : Side) (s : State) : Host.Outcome State Fault Refusal := event (supplyTimeout i) s

/-- The hold ends and the permit is released (R166). -/
def permitHoldExpiry (s : State) : State :=
  if s.power.holdTimer.isSome then grantPermit (s.setPower { s.power with holder := none, holdTimer := none }) else s

/-- PERMIT_HOLD_EXPIRY (R166). -/
def execPermitHoldExpiry (s : State) : Host.Outcome State Fault Refusal := event permitHoldExpiry s

/-- HEAT_MAXIMUM_EXPIRY (R167). -/
def execHeatMaximumExpiry (i : Side) (s : State) : Host.Outcome State Fault Refusal :=
  event (fun s => if stageRuns s i .heat then heatExpired i s else s) s

/-- The quiet timer of CHECK expires (R168). -/
def checkQuietExpiry (i : Side) (s : State) : State :=
  if (s.sidePower.get i).quietTimer.isSome then tryEndCheck i (editSide i (fun p => { p with quietTimer := none }) s) else s

/-- CHECK_QUIET_EXPIRY (R168). -/
def execCheckQuietExpiry (i : Side) (s : State) : Host.Outcome State Fault Refusal := event (checkQuietExpiry i) s

/-- ADMIT_STAGE_EXPIRY (R169): ATTENDED is set, and the side goes to VERIFY. -/
def execAdmitStageExpiry (i : Side) (s : State) : Host.Outcome State Fault Refusal :=
  event (fun s =>
    if stageRuns s i .admitStage then enterVerify i .admitExpired (editSide i (fun p => { p with attended := true }) s)
    else s) s

/-- VERIFY_WAIT_EXPIRY (R170). -/
def execVerifyWaitExpiry (i : Side) (s : State) : Host.Outcome State Fault Refusal :=
  event (fun s => if stageRuns s i .verify ∧ s.power.verification = .running then verifyExpired s else s) s

/-! ### The clock -/

/-- The clock one second on (R160). -/
def Clock.tick (c : Clock) : Clock := { c with value := c.value + 1, second := some Const.second }

/-- The new time of day compared with the schedule: each value acts by the mode that the advance finds (R161). -/
def scheduleActs (t : Nat) (s : State) : State :=
  let p := s.power
  if p.wakeAt = some t ∧ p.mode = .night then wakingEntry .schedule s
  else if p.nightAt = some t ∧ (p.mode = .waking ∨ p.mode = .run) then goNight .schedule s
  else s

/-- The timed commit at its second (R40). -/
def timedCommit (t : Nat) (s : State) : State :=
  if s.prices.schedule = some t then queueJob .priceWrite (commitBanks s) else s

/-- An advance of a valid clock (R160). -/
def clockAdvance (s : State) : State :=
  if s.clock.valid then
    let c := s.clock.tick
    timedCommit (timeOfDay c) (scheduleActs (timeOfDay c) { s with clock := c })
  else s

/-- CLOCK_ADVANCE (R160, R161, R40). -/
def execClockAdvance (s : State) : Host.Outcome State Fault Refusal := event clockAdvance s

/-! ### Requests -/

/-- An OK reply that carries the part mode (R163, R164). -/
def answerMode (s : State) : State := answer .ok (num 1 s.power.mode.code) s

/-- The taking of GO_NIGHT (R163). -/
def takeGoNight (s : State) : State :=
  match s.power.mode with
  | .loading => refuse .wrongState s
  | .waking | .run => answerMode (goNight .goNight s)
  | .night | .nightPending => answerMode s

/-- GO_NIGHT (R163). -/
def execGoNight (tag : Nat) (body : Body Unit) (s : State) : Host.Outcome State Fault Refusal :=
  event (request Kind.goNight tag body (fun _ s => takeGoNight s)) s

/-- The taking of WAKE (R164). -/
def takeWake (s : State) : State :=
  match s.power.mode with
  | .loading => refuse .wrongState s
  | .night => answerMode (wakingEntry .wake s)
  | .nightPending => answerMode (cancelNight s)
  | .waking | .run => answerMode s

/-- WAKE (R164). -/
def execWake (tag : Nat) (body : Body Unit) (s : State) : Host.Outcome State Fault Refusal :=
  event (request Kind.wake tag body (fun _ s => takeWake s)) s

/-- The taking of SET_CLOCK (R160). -/
def takeSetClock (v : Nat) (s : State) : State :=
  let c : Clock := { value := BitVec.ofNat 32 v, valid := true, second := some Const.second }
  answer .ok (ref4 c.value.toNat) { s with clock := c }

/-- SET_CLOCK (R160). -/
def execSetClock (tag : Nat) (body : Body Nat) (s : State) : Host.Outcome State Fault Refusal :=
  event (request Kind.setClock tag body takeSetClock) s

/-- A time of day, or absent (R161). -/
def timeGood (t : Option Nat) : Bool := t.all (fun x => decide (x < Const.day))

/-- The taking of SET_SCHEDULE (R161, R158). -/
def takeSetSchedule (x : ScheduleFields) (s : State) : State :=
  if s.power.mode = .loading then refuse .wrongState s
  else if timeGood x.nightAt && timeGood x.wakeAt then
    serveByJob .cfgWrite [] (s.setPower { s.power with nightAt := x.nightAt, wakeAt := x.wakeAt })
  else refuse .badValue s

/-- SET_SCHEDULE (R161). -/
def execSetSchedule (tag : Nat) (body : Body ScheduleFields) (s : State) : Host.Outcome State Fault Refusal :=
  event (request Kind.setSchedule tag body takeSetSchedule) s

/-- READ_POWER (R173). -/
def execReadPower (tag : Nat) (body : Body Unit) (s : State) : Host.Outcome State Fault Refusal :=
  event (request Kind.readPower tag body (fun _ s => answer .ok (powerReport s) s)) s

/-- The taking of RESTART: COMMAND joins both closure sets, and the request stays in service until the reset (R174). -/
def takeRestart (s : State) : State :=
  if s.power.mode = .loading ∨ s.anyFilling ∨ s.supplyFailInput then refuse .wrongState s
  else
    let s := answer .ok [] (addClosureBoth .command s)
    s.setLink { s.link with service := s.link.service.map (fun r => { r with restart := true }) }

/-- RESTART (R174). -/
def execRestart (tag : Nat) (body : Body Unit) (s : State) : Host.Outcome State Fault Refusal :=
  event (request Kind.restart tag body (fun _ s => takeRestart s)) s

/-- A side waits in VERIFY (R172). -/
def verifyWaiting (s : State) : Bool := decide (s.sidePower.a.state = .verify ∨ s.sidePower.b.state = .verify)

/-- An accepted POWER_SIDE: the rerun's bring-up begins (R172), and the change from DOWN_FAULT to OFF is told with its cause (R157),
after a clearing of ATTENDED (DEDUCED, unsafe; notes/assumptions/34.md). -/
def rerun (i : Side) (s : State) : State :=
  let s := beginBringUp i (if verifyWaiting s then s else s.setPower { s.power with verification := .none })
  grantPermit (s.addChange (.stage (powerNotice (some i) .powerSide s)))

/-- The taking of POWER_SIDE (R172, R158). -/
def takePowerSide (i : Side) (s : State) : State :=
  if s.power.mode = .nightPending then refuse .night s
  else if (s.sidePower.get i).state ≠ .downFault then refuse .wrongState s
  else answer .ok [] (rerun i s)

/-- POWER_SIDE (R172). -/
def execPowerSide (tag : Nat) (body : Body Nat) (s : State) : Host.Outcome State Fault Refusal :=
  event (request Kind.powerSide tag body (withSide takePowerSide)) s

end Sys2Proof.Machine
end

