-- ==== Sys2Proof/Machine/Storing.lean ====
section
/-! DEFINITION. The commands of the Store Controller (section 11): the ends of write attempts, VERIFY jobs and save bank operations. -/

namespace Sys2Proof.Machine

/-! ### Main bank writes -/

/-- A region after a verified write (R178). -/
def writtenCell {α : Type} (x : α) : RegionCell α := { state := .valid, stored := .image x }

/-- A verified image in its region (R176, R178). -/
def Store.verified (t : Store) : Image → Store
  | .cal x => { t with cal := writtenCell x }
  | .cfg x => { t with cfg := writtenCell x, cfgDefaults := false }
  | .price x => { t with price := writtenCell x }
  | .totals x => { t with totals := writtenCell x }

/-- What a region holds after an attempt whose read-back did not match (R178). -/
def missedStored {α : Type} (r : ReadBack) (c : RegionCell α) : RegionCell α :=
  match r with
  | .damaged => { c with stored := .unreadable }
  | .matched | .unchanged => c

/-- A region FAILED by the second failed attempt (R176, R178). -/
def failedCell {α : Type} (failed : Bool) (c : RegionCell α) : RegionCell α := if failed then { c with state := .failed } else c

/-- The region of an image after a mismatch; `failed` where it was the rewrite's (R178). -/
def Store.missed (t : Store) (x : Image) (r : ReadBack) (failed : Bool) : Store :=
  match x with
  | .cal _ => { t with cal := failedCell failed (missedStored r t.cal) }
  | .cfg _ => { t with cfg := failedCell failed (missedStored r t.cfg) }
  | .price _ => { t with price := failedCell failed (missedStored r t.price) }
  | .totals _ => { t with totals := failedCell failed (missedStored r t.totals) }

/-- The region of an image. -/
def Image.region : Image → Region
  | .cal _ => .cal
  | .cfg _ => .cfg
  | .price _ => .price
  | .totals _ => .totals

/-- A verified job handed to the owning block (R15, R39, R99, R178). -/
def ownerVerified (x : Image) (s : State) : State :=
  match x with
  | .cal _ =>
    setClosures .b { s.fill.b.closures with calibration := false }
      (setClosures .a { s.fill.a.closures with calibration := false } s)
  | .price _ =>
    setClosures .b { s.fill.b.closures with price := false } (setClosures .a { s.fill.a.closures with price := false } s)
  | .totals _ => s.setRegister { s.register with totalsValid := true }
  | .cfg _ => s

/-- The region of an image holds that image (R176). -/
def Store.holds (t : Store) : Image → Bool
  | .cal x => decide (t.cal.stored = .image x)
  | .cfg x => decide (t.cfg.stored = .image x)
  | .price x => decide (t.price.stored = .image x)
  | .totals x => decide (t.totals.stored = .image x)

/-- The comparison of a read-back with the image (R178): contents left as they were match where they are that image already. -/
def readBackMatches (r : ReadBack) (x : Image) (t : Store) : Bool :=
  match r with
  | .matched => true
  | .unchanged => t.holds x
  | .damaged => false

/-- The reply of the request that waited on the job (R178, R184). -/
def answerJob (j : RunningJob) (status : Status) (s : State) : State :=
  if j.serves then answer status (s.link.service.elim [] (·.fields)) s else s

/-- The job has verified (R178). -/
def jobVerified (j : RunningJob) (x : Image) (s : State) : State :=
  ownerVerified x (answerJob j .ok (s.setStore { s.store.verified x with running := none }))

/-- The job has failed: FAULT (STORE) where no request waits, and the store fault latch in either case (R178, R188). -/
def jobFailed (j : RunningJob) (x : Image) (r : ReadBack) (s : State) : State :=
  let s := s.setStore { s.store.missed x r true with running := none }
  let s := s.setLink { s.link with latches := { s.link.latches with storeFault := true } }
  if j.serves then answerJob j .storeFault s else notifyFault none .store none none (some x.region) none s

/-- A write attempt ends with its read-back (R178). -/
def writeAttemptEnd (r : ReadBack) (s : State) : State :=
  match s.store.running with
  | none => s
  | some j =>
    match j.image with
    | none => s
    | some x =>
      if readBackMatches r x s.store then jobVerified j x s
      else if j.rewrite then jobFailed j x r s
      else
        s.setStore { s.store.missed x r false with
          running := some { j with rewrite := true, timer := some j.kind.duration } }

/-- WRITE_ATTEMPT_END (R178). -/
def execWriteAttemptEnd (r : ReadBack) (s : State) : Host.Outcome State Fault Refusal := event (writeAttemptEnd r) s

/-- A VERIFY job completes: the comparison is handed to the Power Sequencer (R170, R179). RAM is compared with the regions as both stand
at the job's end (DESIGN CHOICE, unsafe; notes/assumptions/70.md). -/
def verifyJobEnd (s : State) : State :=
  if s.store.running.any (fun j => decide (j.kind = .verify)) then
    makeResult (calOutcome s) (priceOutcome s) (s.setStore { s.store with running := none })
  else s

/-- VERIFY_JOB_END (R179). -/
def execVerifyJobEnd (s : State) : Host.Outcome State Fault Refusal := event verifyJobEnd s

/-! ### The save bank -/

/-- A slot write ends: the slot holds the save (R180). -/
def slotWriteEnd (s : State) : State :=
  match s.store.saving with
  | some r =>
    match r.op.kind with
    | .write =>
      s.setStore { s.store with
        saving := none, slots := s.store.slots.set r.op.side { state := .written, contents := .saved r.records } }
    | .erase => s
  | none => s

/-- SLOT_WRITE_END (R180). -/
def execSlotWriteEnd (s : State) : Host.Outcome State Fault Refusal := event slotWriteEnd s

/-- A slot erase ends: the slot is ERASED (R180). -/
def slotEraseEnd (s : State) : State :=
  match s.store.saving with
  | some r =>
    match r.op.kind with
    | .erase =>
      s.setStore { s.store with saving := none, slots := s.store.slots.set r.op.side { state := .erased, contents := .empty } }
    | .write => s
  | none => s

/-- SLOT_ERASE_END (R180). -/
def execSlotEraseEnd (s : State) : Host.Outcome State Fault Refusal := event slotEraseEnd s

end Sys2Proof.Machine
end

