-- ==== Sys2Proof/Machine/Dispatch.lean ====
section
/-! DEFINITION. One arm for each command: the meaning it has. -/

namespace Sys2Proof.Machine

open Sys2Proof

/-- The effect of a command on everything but the queue of the commands waiting. -/
def exec (i : Instr) (s : State) : Host.Outcome State Fault Refusal :=
  match i with
  | .powerOnReset foundA foundB cutEraseReadsErased => Sys2Proof.Machine.execPowerOnReset foundA foundB cutEraseReadsErased s
  | .loadingEnd => Sys2Proof.Machine.execLoadingEnd s
  | .restartReset foundA foundB => Sys2Proof.Machine.execRestartReset foundA foundB s
  | .phaseLevelTaken m phase1 phase2 => Sys2Proof.Machine.execPhaseLevelTaken m phase1 phase2 s
  | .rateWindowExpiry m => Sys2Proof.Machine.execRateWindowExpiry m s
  | .nozzleLift side nozzle => Sys2Proof.Machine.execNozzleLift side nozzle s
  | .nozzleHangUp side nozzle => Sys2Proof.Machine.execNozzleHangUp side nozzle s
  | .primeExpiry product => Sys2Proof.Machine.execPrimeExpiry product s
  | .authorizationTimerExpiry side => Sys2Proof.Machine.execAuthorizationTimerExpiry side s
  | .noFlowExpiry side => Sys2Proof.Machine.execNoFlowExpiry side s
  | .endingQuietExpiry side => Sys2Proof.Machine.execEndingQuietExpiry side s
  | .afterFlowExpiry side => Sys2Proof.Machine.execAfterFlowExpiry side s
  | .estopAssert => Sys2Proof.Machine.execEstopAssert s
  | .estopRelease => Sys2Proof.Machine.execEstopRelease s
  | .supplyFailWarning => Sys2Proof.Machine.execSupplyFailWarning s
  | .supplyFailRelease => Sys2Proof.Machine.execSupplyFailRelease s
  | .tamperAssert port => Sys2Proof.Machine.execTamperAssert port s
  | .readerReady port => Sys2Proof.Machine.execReaderReady port s
  | .readerReadyLoss port => Sys2Proof.Machine.execReaderReadyLoss port s
  | .lineLowTimeout port inFrame => Sys2Proof.Machine.execLineLowTimeout port inFrame s
  | .readerStepTimeout port => Sys2Proof.Machine.execReaderStepTimeout port s
  | .backoffExpiry port => Sys2Proof.Machine.execBackoffExpiry port s
  | .readerGapTimeout port => Sys2Proof.Machine.execReaderGapTimeout port s
  | .readerFrameOverlength port => Sys2Proof.Machine.execReaderFrameOverlength port s
  | .readerRecordDiscarded port checkGood cls tag body => Sys2Proof.Machine.execReaderRecordDiscarded port checkGood cls tag body s
  | .ability port tag revisions maxBody features => Sys2Proof.Machine.execAbility port tag revisions maxBody features s
  | .admitAck port tag revision => Sys2Proof.Machine.execAdmitAck port tag revision s
  | .authGrant port tag reference grades limitKind value => Sys2Proof.Machine.execAuthGrant port tag reference grades limitKind value s
  | .authCancel port tag reference => Sys2Proof.Machine.execAuthCancel port tag reference s
  | .saleCapture port tag number reference amount => Sys2Proof.Machine.execSaleCapture port tag number reference amount s
  | .readerRecord port cls tag body => Sys2Proof.Machine.execReaderRecord port cls tag body s
  | .readerTransmissionEnd port => Sys2Proof.Machine.execReaderTransmissionEnd port s
  | .committedRefill port => Sys2Proof.Machine.execCommittedRefill port s
  | .excessRefill port => Sys2Proof.Machine.execExcessRefill port s
  | .agingScan => Sys2Proof.Machine.execAgingScan s
  | .refreshExpiry side => Sys2Proof.Machine.execRefreshExpiry side s
  | .displayEcho side sum => Sys2Proof.Machine.execDisplayEcho side sum s
  | .echoTimeout side => Sys2Proof.Machine.execEchoTimeout side s
  | .testPhaseExpiry side => Sys2Proof.Machine.execTestPhaseExpiry side s
  | .temperatureSample side reading => Sys2Proof.Machine.execTemperatureSample side reading s
  | .supplyGood side => Sys2Proof.Machine.execSupplyGood side s
  | .supplyGoodLoss side => Sys2Proof.Machine.execSupplyGoodLoss side s
  | .supplyStageTimeout side => Sys2Proof.Machine.execSupplyStageTimeout side s
  | .permitHoldExpiry => Sys2Proof.Machine.execPermitHoldExpiry s
  | .heatMaximumExpiry side => Sys2Proof.Machine.execHeatMaximumExpiry side s
  | .checkQuietExpiry side => Sys2Proof.Machine.execCheckQuietExpiry side s
  | .admitStageExpiry side => Sys2Proof.Machine.execAdmitStageExpiry side s
  | .verifyWaitExpiry side => Sys2Proof.Machine.execVerifyWaitExpiry side s
  | .clockAdvance => Sys2Proof.Machine.execClockAdvance s
  | .writeAttemptEnd readBack => Sys2Proof.Machine.execWriteAttemptEnd readBack s
  | .verifyJobEnd => Sys2Proof.Machine.execVerifyJobEnd s
  | .slotWriteEnd => Sys2Proof.Machine.execSlotWriteEnd s
  | .slotEraseEnd => Sys2Proof.Machine.execSlotEraseEnd s
  | .linkGapTimeout => Sys2Proof.Machine.execLinkGapTimeout s
  | .linkBadLength => Sys2Proof.Machine.execLinkBadLength s
  | .linkBadCheck => Sys2Proof.Machine.execLinkBadCheck s
  | .nonRequestFrame kind => Sys2Proof.Machine.execNonRequestFrame kind s
  | .unknownKindRequest kind tag => Sys2Proof.Machine.execUnknownKindRequest kind tag s
  | .linkFrameSent => Sys2Proof.Machine.execLinkFrameSent s
  | .identify tag body => Sys2Proof.Machine.execIdentify tag body s
  | .readStatus tag body => Sys2Proof.Machine.execReadStatus tag body s
  | .readCounters tag body => Sys2Proof.Machine.execReadCounters tag body s
  | .setConfig tag body => Sys2Proof.Machine.execSetConfig tag body s
  | .readConfig tag body => Sys2Proof.Machine.execReadConfig tag body s
  | .readMeter tag body => Sys2Proof.Machine.execReadMeter tag body s
  | .setCalibration tag switchClosed body => Sys2Proof.Machine.execSetCalibration tag switchClosed body s
  | .quote tag body => Sys2Proof.Machine.execQuote tag body s
  | .stagePrice tag body => Sys2Proof.Machine.execStagePrice tag body s
  | .commitPricesNow tag body => Sys2Proof.Machine.execCommitPricesNow tag body s
  | .commitPricesAt tag body => Sys2Proof.Machine.execCommitPricesAt tag body s
  | .readPrices tag body => Sys2Proof.Machine.execReadPrices tag body s
  | .authorize tag body => Sys2Proof.Machine.execAuthorize tag body s
  | .cancelAuth tag body => Sys2Proof.Machine.execCancelAuth tag body s
  | .suspend tag body => Sys2Proof.Machine.execSuspend tag body s
  | .resume tag body => Sys2Proof.Machine.execResume tag body s
  | .stopFill tag body => Sys2Proof.Machine.execStopFill tag body s
  | .endSale tag body => Sys2Proof.Machine.execEndSale tag body s
  | .openSide tag body => Sys2Proof.Machine.execOpenSide tag body s
  | .closeSide tag body => Sys2Proof.Machine.execCloseSide tag body s
  | .readSide tag body => Sys2Proof.Machine.execReadSide tag body s
  | .setNozzleMap tag body => Sys2Proof.Machine.execSetNozzleMap tag body s
  | .setGrade tag body => Sys2Proof.Machine.execSetGrade tag body s
  | .readBlend tag body => Sys2Proof.Machine.execReadBlend tag body s
  | .listSales tag body => Sys2Proof.Machine.execListSales tag body s
  | .readSale tag body => Sys2Proof.Machine.execReadSale tag body s
  | .settleSale tag body => Sys2Proof.Machine.execSettleSale tag body s
  | .readTotals tag body => Sys2Proof.Machine.execReadTotals tag body s
  | .readDisplay tag body => Sys2Proof.Machine.execReadDisplay tag body s
  | .enableReader tag body => Sys2Proof.Machine.execEnableReader tag body s
  | .disableReader tag body => Sys2Proof.Machine.execDisableReader tag body s
  | .clearTamper tag tamperAsserted body => Sys2Proof.Machine.execClearTamper tag tamperAsserted body s
  | .readReader tag tamperAsserted body => Sys2Proof.Machine.execReadReader tag tamperAsserted body s
  | .setClass tag body => Sys2Proof.Machine.execSetClass tag body s
  | .deleteClass tag body => Sys2Proof.Machine.execDeleteClass tag body s
  | .sendToReader tag body => Sys2Proof.Machine.execSendToReader tag body s
  | .goNight tag body => Sys2Proof.Machine.execGoNight tag body s
  | .wake tag body => Sys2Proof.Machine.execWake tag body s
  | .setClock tag body => Sys2Proof.Machine.execSetClock tag body s
  | .setSchedule tag body => Sys2Proof.Machine.execSetSchedule tag body s
  | .readPower tag body => Sys2Proof.Machine.execReadPower tag body s
  | .restart tag body => Sys2Proof.Machine.execRestart tag body s
  | .powerSide tag body => Sys2Proof.Machine.execPowerSide tag body s
  | .regionRead region => Sys2Proof.Machine.execRegionRead region s

end Sys2Proof.Machine
end

