-- ==== Sys2Proof/Machine/Time.lean ====
section
/-! DEFINITION. The passing of time: what step does on an empty queue (DESIGN CHOICE, see notes/assumptions). One millisecond passes
for every running timer; no timer expires by itself, since every expiry is a command of the table. -/

namespace Sys2Proof.Machine

/-- One millisecond for a channel. -/
def MeterChannel.pass (c : MeterChannel) : MeterChannel := { c with windowTimer := tickTimer c.windowTimer }

/-- One millisecond for a Fill Controller. -/
def Fill.pass (f : Fill) : Fill :=
  { f with
    authTimer := tickTimer f.authTimer, noFlowTimer := tickTimer f.noFlowTimer, quietTimer := tickTimer f.quietTimer
    afterFlowTimer := tickTimer f.afterFlowTimer }

/-- One millisecond for a motor. -/
def Motor.pass (m : Motor) : Motor := { m with primeTimer := tickTimer m.primeTimer }

/-- One millisecond for a Display Controller. -/
def Display.pass (d : Display) : Display :=
  { d with
    test := d.test.map (fun t => { t with timer := tickTimer t.timer })
    refreshTimer := tickTimer d.refreshTimer, echoTimer := tickTimer d.echoTimer, sampleTimer := tickTimer d.sampleTimer }

/-- One millisecond for a port. -/
def Port.pass (p : Port) : Port :=
  { p with
    stepTimer := tickTimer p.stepTimer, backoffTimer := tickTimer p.backoffTimer, committedTimer := tickTimer p.committedTimer
    excessTimer := tickTimer p.excessTimer, lineLowTimer := tickTimer p.lineLowTimer }

/-- One millisecond for a side's power. -/
def SidePower.pass (p : SidePower) : SidePower :=
  { p with stageTimer := tickTimer p.stageTimer, quietTimer := tickTimer p.quietTimer }

/-- One millisecond for the store's banks. -/
def Store.pass (t : Store) : Store :=
  { t with
    running := t.running.map (fun j => { j with timer := tickTimer j.timer })
    saving := t.saving.map (fun r => { r with timer := tickTimer r.timer }) }

/-- One millisecond passes. -/
def passMillisecond (s : State) : State :=
  { s with
    meters := { a := { lo := s.meters.a.lo.pass, hi := s.meters.a.hi.pass }
                b := { lo := s.meters.b.lo.pass, hi := s.meters.b.hi.pass } }
    fill := { a := s.fill.a.pass, b := s.fill.b.pass }
    motors := { lo := s.motors.lo.pass, hi := s.motors.hi.pass }
    display := { a := s.display.a.pass, b := s.display.b.pass }
    ports := { a := s.ports.a.pass, b := s.ports.b.pass }
    agingTimer := tickTimer s.agingTimer
    power := { s.power with holdTimer := tickTimer s.power.holdTimer }
    sidePower := { a := s.sidePower.a.pass, b := s.sidePower.b.pass }
    clock := { s.clock with second := tickTimer s.clock.second }
    store := s.store.pass
    link := { s.link with gapTimer := tickTimer s.link.gapTimer } }

end Sys2Proof.Machine
end

