-- ==== Sys2Proof/Machine/Step.lean ====
section
/-! DEFINITION. One step of the part: the command at the front of the queue is taken and runs to completion before another is
taken (spec/95: the table's steps are each whole and indivisible; timers by scope section 7). -/

namespace Sys2Proof.Machine

open Sys2Proof

/-- The command at the front of the queue takes place; on an empty queue one millisecond passes (DESIGN CHOICE, see
notes/assumptions). -/
def step (s : State) : Host.Outcome State Fault Refusal :=
  match s.pending with
  | [] => .next (passMillisecond s)
  | c :: rest => exec c { s with pending := rest }

/-- The state with the command that a word of the table spells at the front of the queue; unchanged where it spells none. -/
def State.withFetchWord (s : State) (nbits w : Nat) : State :=
  match decodeTableWord nbits w with
  | none => s
  | some c => { s with pending := c :: s.pending }

end Sys2Proof.Machine
end

