-- ==== Sys2Proof/Machine/Layout.lean ====
section
/-! DEFINITION. The bytes of the part's frames (section 12.7): CRC-16, link frames, reader frames and display frames, and the bodies of
replies and notices. -/

namespace Sys2Proof.Machine

/-! ### CRC-16 (R192) -/

/-- One bit of the CRC: a shift left, with the generator where the top bit was set. -/
def crcShift (c : BitVec 16) : BitVec 16 := if c.msb then (c <<< 1) ^^^ 0x1021 else c <<< 1

/-- One byte of the CRC, most significant bit first. -/
def crcByte (c : BitVec 16) (b : Byte) : BitVec 16 :=
  (List.replicate 8 ()).foldl (fun x _ => crcShift x) (c ^^^ (b.setWidth 16 <<< 8))

/-- The CRC-16 of the part's frames, store regions and save slots (R192). -/
def crc16 (bytes : List Byte) : BitVec 16 := bytes.foldl crcByte 0xFFFF

/-- The two CHECK bytes, high byte first (R192). -/
def checkBytes (bytes : List Byte) : List Byte :=
  let c := crc16 bytes
  [(c >>> 8).setWidth 8, c.setWidth 8]

/-! ### Fields -/

/-- The bytes of a number, most significant first (section 12.7). -/
def natBytes : Nat → Nat → List Byte
  | 0, _ => []
  | k + 1, n => natBytes k (n / 256) ++ [BitVec.ofNat 8 n]

/-- The bytes of a field, in two's complement where its value is negative (R193). -/
def Field.bytes (f : Field) : List Byte := natBytes f.size (f.value % (256 ^ f.size : Nat)).toNat

/-- The bytes of a body's fields. -/
def fieldBytes (fs : List Field) : List Byte := (fs.map Field.bytes).flatten

/-! ### Link frames (R193) -/

/-- A link frame around its KIND, TAG and BODY. -/
def linkFrame (kind tag : Nat) (body : List Byte) : List Byte :=
  let inner := [BitVec.ofNat 8 (body.length + 2), BitVec.ofNat 8 kind, BitVec.ofNat 8 tag] ++ body
  [0xD5] ++ inner ++ checkBytes inner

/-- The frame of a reply: its request's KIND plus 0x80, its tag, its status first (R185, R193). -/
def Reply.frame (r : Reply) : List Byte :=
  linkFrame (r.kind + 0x80) r.tag (BitVec.ofNat 8 r.status.code :: fieldBytes r.fields)

/-! ### Notices (R187, R194) -/

/-- The kind code of a notice (R194). -/
def Notice.kind : Notice → Nat
  | .sideState .. => 0x60
  | .nozzle .. => 0x61
  | .gradeRefused .. => 0x62
  | .authEvent .. => 0x63
  | .saleClosed .. => 0x64
  | .saleSettled .. => 0x65
  | .priceAdopted .. => 0x66
  | .fault .. => 0x67
  | .nightFlow .. => 0x68
  | .readerState .. => 0x69
  | .readerRecord .. => 0x6A
  | .powerStage .. => 0x6B
  | .powerOn .. => 0x6C
  | .saveLost .. => 0x6D
  | .noticesLost .. => 0x6E

/-- Up or down, in the order of R49. -/
def upField (up : Bool) : List Field := num 1 (if up then 0 else 1)

/-- The event of AUTH_EVENT, with the reason of REMOVED (R52). -/
def AuthEvent.fields : AuthEvent → List Field
  | .accepted => num 1 0 ++ num 1 0
  | .inUse => num 1 1 ++ num 1 0
  | .ended => num 1 2 ++ num 1 0
  | .removed r => num 1 3 ++ num 1 1 ++ num 1 r.code

/-- The settler, with the amount a reader captured (R96). -/
def Settler.fields : Settler → List Field
  | .link => num 1 0 ++ num 1 0
  | .reader a => num 1 1 ++ num 1 1 ++ money3 a

/-- The fields of a notice, in the order of its rule; the bytes of READER_RECORD's body stand last. Every SALE_CLOSED carries the whole
record and then the EMPTY mark (DESIGN CHOICE, unsafe; notes/assumptions/47.md). POWER_STAGE carries ATTENDED and COLD of side A before
those of side B (DESIGN CHOICE, unsafe; notes/assumptions/60.md). PRICE_ADOPTED carries the retained generation as an optional field, the
presence byte 0 being the mark that none remains (DESIGN CHOICE, unsafe; notes/assumptions/74.md). POWER_ON carries the clock validity as a
flag (DESIGN CHOICE, unsafe; notes/assumptions/77.md). -/
def Notice.fields : Notice → List Field
  | .sideState i st c n sale =>
    sideField i ++ num 1 st.code ++ closuresField c ++ optional countedField n ++ optional (num 2) sale
  | .nozzle i n g up => sideField i ++ nozzleField n ++ gradeField g ++ upField up
  | .gradeRefused i n g r => sideField i ++ nozzleField n ++ gradeField g ++ num 1 r.code
  | .authEvent i src ref e => sideField i ++ num 1 src.code ++ optional ref4 ref ++ e.fields
  | .saleClosed r e => recordFields r ++ flag e
  | .saleSettled i n w => sideField i ++ num 2 n ++ w.fields
  | .priceAdopted g a b r => num 2 g ++ num 1 (boolNat a + 2 * boolNat b) ++ optional (num 2) r
  | .fault i k m n r x =>
    optional sideField i ++ num 1 k.code ++ optional meterField m ++ optional (num 2) n
      ++ optional (fun y => num 1 (regionCode y)) r ++ optional (num 2) x
  | .nightFlow i m v => sideField i ++ meterField m ++ int 5 v
  | .readerState i st r f t => sideField i ++ num 1 st.code ++ num 1 r.code ++ num 1 f ++ optional termsField t
  | .readerRecord i c t b => sideField i ++ num 1 c ++ num 1 t ++ b.map (fun x => { size := 1, value := x.toNat })
  | .powerStage m a b i c aa ca ab cb =>
    num 1 m.code ++ num 1 a.code ++ num 1 b.code ++ optional sideField i ++ num 1 c.code ++ flag aa ++ flag ca ++ flag ab ++ flag cb
  | .powerOn c a b p t d v x y =>
    num 1 c.code ++ num 1 a.code ++ num 1 b.code ++ num 1 p.code ++ num 1 t.code ++ flag d ++ flag v ++ num 1 x ++ num 1 y
  | .saveLost i => sideField i
  | .noticesLost n => num 2 n

/-- The frame of a notice: TAG 0 (R187, R193). -/
def Notice.frame (n : Notice) : List Byte := linkFrame n.kind 0 (fieldBytes n.fields)

/-- The bytes of the frame in transmission on the link. -/
def LinkTx.frame : LinkTx → List Byte
  | .reply r => r.frame
  | .busyReply r => r.frame
  | .notice n => n.frame

/-! ### Reader frames (R195) -/

/-- A reader frame around its CLASS, TAG and BODY (R195). -/
def readerFrame (cls tag : Nat) (body : List Byte) : List Byte :=
  let inner := [BitVec.ofNat 8 cls, BitVec.ofNat 8 tag, BitVec.ofNat 8 body.length] ++ body
  [0x3C] ++ inner ++ checkBytes inner

/-- The reason of an AUTH_STATE (R195). -/
def PaymentReason.code : PaymentReason → Nat
  | .grades => 1
  | .range => 2
  | .night => 3
  | .alreadyAuthorized => 4
  | .closed => 5
  | .stackFull => 6
  | .unknown => 7
  | .amount => 8
  | .partialCapture => 9
  | .expired => 10
  | .cancelled => 11

/-- An AUTH_STATE with its unused fields 0: kind, reference, reason, sale number, amount (R195). -/
def authStateBytes (kind reference reason sale amount : Nat) : List Byte :=
  natBytes 1 kind ++ natBytes 4 reference ++ natBytes 1 reason ++ natBytes 2 sale ++ natBytes 3 amount

/-- The body of an AUTH_STATE (R145, R195). -/
def AuthStateRecord.bytes (r : AuthStateRecord) : List Byte :=
  match r.kind with
  | .accepted => authStateBytes 1 r.reference 0 0 0
  | .refused x => authStateBytes 2 r.reference x.code 0 0
  | .started n => authStateBytes 3 r.reference 0 n 0
  | .cancelled => authStateBytes 4 r.reference 0 0 0
  | .stopped n => authStateBytes 5 r.reference 0 n 0
  | .removed x => authStateBytes 6 r.reference x.code 0 0
  | .captured n a => authStateBytes 7 r.reference 0 n a
  | .captureRefused n x => authStateBytes 8 r.reference x.code n 0

/-- The body of a SALE_RESULT (R151, R195). -/
def SaleResult.bytes (r : SaleResult) : List Byte :=
  natBytes 2 r.number ++ natBytes 4 r.reference ++ natBytes 1 r.grade.number ++ natBytes 3 r.price ++ natBytes 3 r.volume
    ++ natBytes 3 r.money ++ natBytes 3 r.payable
    ++ natBytes 1 (boolNat r.overrun + 2 * boolNat r.empty + 4 * boolNat r.restored) ++ natBytes 2 0

/-- The body of a NOZZLE_STATE (R149, R195). -/
def NozzleStateRecord.bytes (r : NozzleStateRecord) : List Byte :=
  natBytes 1 (nozzleNumber r.nozzle) ++ natBytes 1 (gradeOrNoneNumber r.grade) ++ natBytes 1 (boolNat r.up)

/-- The tag of a record in transmission: 0 for admission and generated records (R133). -/
def ReaderTx.tag : ReaderTx → Nat
  | .host r => r.tag
  | .offer | .confirm _ | .authState _ | .saleResult _ | .nozzleState _ => 0

/-- The body of a record in transmission (R195). -/
def ReaderTx.body : ReaderTx → List Byte
  | .offer => natBytes 1 partRevisions.toNat ++ natBytes 1 Const.partMaxBody ++ natBytes 1 partFeatures.toNat
  | .confirm t => natBytes 1 t.revision ++ natBytes 1 t.maxBody ++ natBytes 1 t.features.toNat
  | .authState r => r.bytes
  | .saleResult r => r.bytes
  | .nozzleState r => r.bytes
  | .host r => r.body

/-- The frame of a record in transmission (R195). -/
def ReaderTx.frame (t : ReaderTx) : List Byte := readerFrame t.cls t.tag t.body

/-! ### Display frames (R196) -/

/-- A display frame with its sum check. -/
def Frame.wire (f : Frame) : List Byte := f.bytes ++ [f.sumCheck]

end Sys2Proof.Machine
end

