-- ==== Sys2Proof/Machine/Requests.lean ====
section
/-! DEFINITION. Frames as commands: the body of a request read by its kind (R183, R184, R193, R194), an encoder of requests, and the
records of a reader line (R139, R195). -/

namespace Sys2Proof.Machine

/-! ### Reading bytes -/

/-- The number that some bytes spell, most significant first. -/
def bytesNat (bs : List Byte) : Nat := bs.foldl (fun n b => n * 256 + b.toNat) 0

/-- A number of `k` bytes at the head of a body. -/
def readNum (k : Nat) (bs : List Byte) : Option (Nat × List Byte) :=
  if k ≤ bs.length then some (bytesNat (bs.take k), bs.drop k) else none

/-- A signed number of `k` bytes, in two's complement. -/
def readInt (k : Nat) (bs : List Byte) : Option (Int × List Byte) :=
  (readNum k bs).map fun r => (if r.1 < 256 ^ k / 2 then (r.1 : Int) else (r.1 : Int) - (256 ^ k : Nat), r.2)

/-- An optional field behind its presence byte, 0 or 1 (R193). -/
def readOptional {α : Type} (f : List Byte → Option (α × List Byte)) (bs : List Byte) : Option (Option α × List Byte) :=
  match readNum 1 bs with
  | some (0, rest) => some (none, rest)
  | some (1, rest) => (f rest).map (fun r => (some r.1, r.2))
  | _ => none

/-- A body of an allowed length read to its end; one whose presence bytes or form do not account for its length is unreadable. -/
def bodyOf {α : Type} (allowed : Nat → Bool) (f : List Byte → Option (α × List Byte)) (bs : List Byte) : Body α :=
  if allowed bs.length then
    match f bs with
    | some (x, []) => .fields x
    | _ => .unreadable
  else .badLength

/-- One allowed length. -/
def only (n : Nat) : Nat → Bool := fun m => m == n

/-! ### The fields of each kind -/

/-- A body without fields. -/
def unitBody (bs : List Byte) : Body Unit := bodyOf (only 0) (fun r => some ((), r)) bs

/-- A body of one byte: a side, a port, a selector, an identifier, a code, a clear option. -/
def byteBody (bs : List Byte) : Body Nat := bodyOf (only 1) (readNum 1) bs

def readMeterBody (bs : List Byte) : Body ReadMeterFields :=
  bodyOf (only 2) (fun b => do
    let (m, b) ← readNum 1 b
    let (c, b) ← readNum 1 b
    return ({ meter := m, clear := c }, b)) bs

def calibrationBody (bs : List Byte) : Body CalibrationFields :=
  bodyOf (only 5) (fun b => do
    let (m, b) ← readNum 1 b
    let (w, b) ← readNum 2 b
    let (x, b) ← readNum 2 b
    return ({ meter := m, weight := w, maxFlow := x }, b)) bs

def quoteBody (bs : List Byte) : Body QuoteFields :=
  bodyOf (only 6) (fun b => do
    let (g, b) ← readNum 1 b
    let (l, b) ← readNum 1 b
    let (f, b) ← readNum 1 b
    let (v, b) ← readNum 3 b
    return ({ grade := g, level := l, form := f, value := v }, b)) bs

def stageBody (bs : List Byte) : Body StagePriceFields :=
  bodyOf (only 5) (fun b => do
    let (g, b) ← readNum 1 b
    let (l, b) ← readNum 1 b
    let (p, b) ← readNum 3 b
    return ({ grade := g, level := l, price := p }, b)) bs

/-- The limit of AUTHORIZE: its kind and value. -/
def readLimit (b : List Byte) : Option (LimitFields × List Byte) := do
  let (k, b) ← readNum 1 b
  let (v, b) ← readNum 3 b
  return ({ kind := k, value := v }, b)

/-- The allowed lengths of AUTHORIZE: neither, one or both of its four-byte options. -/
def authorizeLength (n : Nat) : Bool := n == 5 || n == 9 || n == 13

def authorizeBody (bs : List Byte) : Body AuthorizeFields :=
  bodyOf authorizeLength (fun b => do
    let (i, b) ← readNum 1 b
    let (r, b) ← readOptional (readNum 4) b
    let (g, b) ← readNum 1 b
    let (l, b) ← readNum 1 b
    let (x, b) ← readOptional readLimit b
    return ({ side := i, reference := r, grades := BitVec.ofNat 8 g, level := l, limit := x }, b)) bs

def mapBody (bs : List Byte) : Body NozzleMapFields :=
  bodyOf (only 5) (fun b => do
    let (i, b) ← readNum 1 b
    let (n1, b) ← readNum 1 b
    let (n2, b) ← readNum 1 b
    let (n3, b) ← readNum 1 b
    let (n4, b) ← readNum 1 b
    return ({ side := i, n1 := n1, n2 := n2, n3 := n3, n4 := n4 }, b)) bs

def gradeBody (bs : List Byte) : Body GradeFields :=
  bodyOf (only 5) (fun b => do
    let (g, b) ← readNum 1 b
    let (h, b) ← readNum 2 b
    let (d, b) ← readNum 1 b
    let (t, b) ← readNum 1 b
    return ({ grade := g, share := h, startDuty := d, trim := t }, b)) bs

def sideClearBody (bs : List Byte) : Body SideClearFields :=
  bodyOf (only 2) (fun b => do
    let (i, b) ← readNum 1 b
    let (c, b) ← readNum 1 b
    return ({ side := i, clear := c }, b)) bs

def saleBody (bs : List Byte) : Body SaleFields :=
  bodyOf (only 3) (fun b => do
    let (i, b) ← readNum 1 b
    let (n, b) ← readNum 2 b
    return ({ side := i, number := n }, b)) bs

def readReaderBody (bs : List Byte) : Body ReadReaderFields :=
  bodyOf (only 3) (fun b => do
    let (i, b) ← readNum 1 b
    let (x, b) ← readNum 1 b
    let (c, b) ← readNum 1 b
    return ({ port := i, selector := x, clear := c }, b)) bs

/-- The allowed lengths of SET_CLASS: without and with an answer class. -/
def classLength (n : Nat) : Bool := n == 7 || n == 8

def classBody (bs : List Byte) : Body ClassFields :=
  bodyOf classLength (fun b => do
    let (c, b) ← readNum 1 b
    let (d, b) ← readNum 1 b
    let (m, b) ← readNum 1 b
    let (w, b) ← readNum 1 b
    let (e, b) ← readNum 1 b
    let (k, b) ← readOptional (readNum 1) b
    let (a, b) ← readNum 1 b
    return ({ code := c, direction := d, maxBody := m, weight := w, essential := e, asks := k, answer := a }, b)) bs

/-- The allowed lengths of SEND_TO_READER: three fields and a body that runs to the end of BODY (R193). -/
def sendLength (n : Nat) : Bool := decide (3 ≤ n ∧ n ≤ 250)

def sendBody (bs : List Byte) : Body SendFields :=
  bodyOf sendLength (fun b => do
    let (i, b) ← readNum 1 b
    let (c, b) ← readNum 1 b
    let (t, b) ← readNum 1 b
    return ({ port := i, cls := c, tag := t, body := b }, [])) bs

/-- The allowed lengths of SET_SCHEDULE: none, one or both times present. -/
def scheduleLength (n : Nat) : Bool := n == 2 || n == 5 || n == 8

def scheduleBody (bs : List Byte) : Body ScheduleFields :=
  bodyOf scheduleLength (fun b => do
    let (n, b) ← readOptional (readNum 3) b
    let (w, b) ← readOptional (readNum 3) b
    return ({ nightAt := n, wakeAt := w }, b)) bs

def clockBody (bs : List Byte) : Body Nat := bodyOf (only 4) (readNum 4) bs

def setConfigBody (bs : List Byte) : Body ConfigFields :=
  bodyOf (only 5) (fun b => do
    let (n, b) ← readNum 1 b
    let (v, b) ← readInt 4 b
    return ({ id := n, value := v }, b)) bs

/-- COMMIT_PRICES: the form byte 1 is AT, whose time of day follows; every other form byte stands alone (R36). -/
def commitOf (tag : Nat) (bs : List Byte) : Instr :=
  let allowed : Nat → Bool := fun n => n == 1 || n == 4
  match bs with
  | 1 :: rest =>
    .commitPricesAt tag (bodyOf allowed (fun _ => if rest.length = 3 then readNum 3 rest else none) bs)
  | _ => .commitPricesNow tag (bodyOf allowed (readNum 1) bs)

/-! ### Frames of the link -/

/-- A request frame with its KIND, TAG and BODY as the command it is (R183, R184, R194). The two inputs are as the part finds them. -/
def requestOf (switchClosed tamper : Bool) (kind tag : Nat) (bs : List Byte) : Instr :=
  match kind with
  | 0x01 => .identify tag (unitBody bs)
  | 0x02 => .readStatus tag (unitBody bs)
  | 0x03 => .readCounters tag (byteBody bs)
  | 0x04 => .setConfig tag (setConfigBody bs)
  | 0x05 => .readConfig tag (byteBody bs)
  | 0x08 => .readMeter tag (readMeterBody bs)
  | 0x09 => .setCalibration tag switchClosed (calibrationBody bs)
  | 0x0C => .quote tag (quoteBody bs)
  | 0x10 => .stagePrice tag (stageBody bs)
  | 0x11 => commitOf tag bs
  | 0x12 => .readPrices tag (byteBody bs)
  | 0x18 => .authorize tag (authorizeBody bs)
  | 0x19 => .cancelAuth tag (byteBody bs)
  | 0x1A => .suspend tag (byteBody bs)
  | 0x1B => .resume tag (byteBody bs)
  | 0x1C => .stopFill tag (byteBody bs)
  | 0x1D => .endSale tag (byteBody bs)
  | 0x1E => .openSide tag (byteBody bs)
  | 0x1F => .closeSide tag (byteBody bs)
  | 0x20 => .readSide tag (byteBody bs)
  | 0x21 => .setNozzleMap tag (mapBody bs)
  | 0x28 => .setGrade tag (gradeBody bs)
  | 0x29 => .readBlend tag (sideClearBody bs)
  | 0x30 => .listSales tag (byteBody bs)
  | 0x31 => .readSale tag (saleBody bs)
  | 0x32 => .settleSale tag (saleBody bs)
  | 0x33 => .readTotals tag (unitBody bs)
  | 0x38 => .readDisplay tag (byteBody bs)
  | 0x40 => .enableReader tag (byteBody bs)
  | 0x41 => .disableReader tag (byteBody bs)
  | 0x42 => .clearTamper tag tamper (byteBody bs)
  | 0x43 => .readReader tag tamper (readReaderBody bs)
  | 0x44 => .setClass tag (classBody bs)
  | 0x45 => .deleteClass tag (byteBody bs)
  | 0x46 => .sendToReader tag (sendBody bs)
  | 0x50 => .goNight tag (unitBody bs)
  | 0x51 => .wake tag (unitBody bs)
  | 0x52 => .setClock tag (clockBody bs)
  | 0x53 => .setSchedule tag (scheduleBody bs)
  | 0x54 => .readPower tag (unitBody bs)
  | 0x55 => .restart tag (unitBody bs)
  | 0x56 => .powerSide tag (byteBody bs)
  | n => if n = 0 ∨ 0x60 ≤ n then .nonRequestFrame n else .unknownKindRequest n tag

/-- The bytes from SYNC on as the command that their end is: a bad LEN, a bad CHECK, or the frame's own; none where the bytes are no
whole frame (R183). -/
def linkCommand (switchClosed tamper : Bool) (bs : List Byte) : Option Instr :=
  match bs with
  | sync :: len :: rest =>
    if sync ≠ 0xD5 then none
    else if len.toNat < 2 ∨ 252 < len.toNat then some .linkBadLength
    else if rest.length ≠ len.toNat + 2 then none
    else if checkBytes (len :: rest.take len.toNat) ≠ rest.drop len.toNat then some .linkBadCheck
    else
      match rest.take len.toNat with
      | kind :: tag :: body => some (requestOf switchClosed tamper kind.toNat tag.toNat body)
      | _ => none
  | _ => none

/-! ### An encoder of requests -/

/-- An optional field behind its presence byte. -/
def writeOptional {α : Type} (f : α → List Byte) : Option α → List Byte
  | none => [0]
  | some x => 1 :: f x

/-- The body bytes of AUTHORIZE. -/
def authorizeBytes (x : AuthorizeFields) : List Byte :=
  natBytes 1 x.side ++ writeOptional (natBytes 4) x.reference ++ natBytes 1 x.grades.toNat ++ natBytes 1 x.level
    ++ writeOptional (fun l => natBytes 1 (LimitFields.kind l) ++ natBytes 3 l.value) x.limit

/-- The body bytes of SET_CLASS. -/
def classBytes (x : ClassFields) : List Byte :=
  natBytes 1 x.code ++ natBytes 1 x.direction ++ natBytes 1 x.maxBody ++ natBytes 1 x.weight ++ natBytes 1 x.essential
    ++ writeOptional (natBytes 1) x.asks ++ natBytes 1 x.answer

/-- The KIND and the body bytes of a request whose fields are known; none for an event and for a body without fields. -/
def encodeRequest : Instr → Option (Nat × List Byte)
  | .identify _ (.fields _) => some (Kind.identify, [])
  | .readStatus _ (.fields _) => some (Kind.readStatus, [])
  | .readCounters _ (.fields x) => some (Kind.readCounters, natBytes 1 x)
  | .setConfig _ (.fields x) => some (Kind.setConfig, natBytes 1 x.id ++ natBytes 4 (x.value % 4294967296).toNat)
  | .readConfig _ (.fields x) => some (Kind.readConfig, natBytes 1 x)
  | .readMeter _ (.fields x) => some (Kind.readMeter, natBytes 1 x.meter ++ natBytes 1 x.clear)
  | .setCalibration _ _ (.fields x) =>
    some (Kind.setCalibration, natBytes 1 x.meter ++ natBytes 2 x.weight ++ natBytes 2 x.maxFlow)
  | .quote _ (.fields x) => some (Kind.quote, natBytes 1 x.grade ++ natBytes 1 x.level ++ natBytes 1 x.form ++ natBytes 3 x.value)
  | .stagePrice _ (.fields x) => some (Kind.stagePrice, natBytes 1 x.grade ++ natBytes 1 x.level ++ natBytes 3 x.price)
  | .commitPricesNow _ (.fields x) => some (Kind.commitPrices, natBytes 1 x)
  | .commitPricesAt _ (.fields x) => some (Kind.commitPrices, 1 :: natBytes 3 x)
  | .readPrices _ (.fields x) => some (Kind.readPrices, natBytes 1 x)
  | .authorize _ (.fields x) => some (Kind.authorize, authorizeBytes x)
  | .cancelAuth _ (.fields x) => some (Kind.cancelAuth, natBytes 1 x)
  | .suspend _ (.fields x) => some (Kind.suspend, natBytes 1 x)
  | .resume _ (.fields x) => some (Kind.resume, natBytes 1 x)
  | .stopFill _ (.fields x) => some (Kind.stopFill, natBytes 1 x)
  | .endSale _ (.fields x) => some (Kind.endSale, natBytes 1 x)
  | .openSide _ (.fields x) => some (Kind.openSide, natBytes 1 x)
  | .closeSide _ (.fields x) => some (Kind.closeSide, natBytes 1 x)
  | .readSide _ (.fields x) => some (Kind.readSide, natBytes 1 x)
  | .setNozzleMap _ (.fields x) =>
    some (Kind.setNozzleMap, natBytes 1 x.side ++ natBytes 1 x.n1 ++ natBytes 1 x.n2 ++ natBytes 1 x.n3 ++ natBytes 1 x.n4)
  | .setGrade _ (.fields x) =>
    some (Kind.setGrade, natBytes 1 x.grade ++ natBytes 2 x.share ++ natBytes 1 x.startDuty ++ natBytes 1 x.trim)
  | .readBlend _ (.fields x) => some (Kind.readBlend, natBytes 1 x.side ++ natBytes 1 x.clear)
  | .listSales _ (.fields x) => some (Kind.listSales, natBytes 1 x)
  | .readSale _ (.fields x) => some (Kind.readSale, natBytes 1 x.side ++ natBytes 2 x.number)
  | .settleSale _ (.fields x) => some (Kind.settleSale, natBytes 1 x.side ++ natBytes 2 x.number)
  | .readTotals _ (.fields _) => some (Kind.readTotals, [])
  | .readDisplay _ (.fields x) => some (Kind.readDisplay, natBytes 1 x)
  | .enableReader _ (.fields x) => some (Kind.enableReader, natBytes 1 x)
  | .disableReader _ (.fields x) => some (Kind.disableReader, natBytes 1 x)
  | .clearTamper _ _ (.fields x) => some (Kind.clearTamper, natBytes 1 x)
  | .readReader _ _ (.fields x) => some (Kind.readReader, natBytes 1 x.port ++ natBytes 1 x.selector ++ natBytes 1 x.clear)
  | .setClass _ (.fields x) => some (Kind.setClass, classBytes x)
  | .deleteClass _ (.fields x) => some (Kind.deleteClass, natBytes 1 x)
  | .sendToReader _ (.fields x) =>
    some (Kind.sendToReader, natBytes 1 x.port ++ natBytes 1 x.cls ++ natBytes 1 x.tag ++ x.body)
  | .goNight _ (.fields _) => some (Kind.goNight, [])
  | .wake _ (.fields _) => some (Kind.wake, [])
  | .setClock _ (.fields x) => some (Kind.setClock, natBytes 4 x)
  | .setSchedule _ (.fields x) =>
    some (Kind.setSchedule, writeOptional (natBytes 3) x.nightAt ++ writeOptional (natBytes 3) x.wakeAt)
  | .readPower _ (.fields _) => some (Kind.readPower, [])
  | .restart _ (.fields _) => some (Kind.restart, [])
  | .powerSide _ (.fields x) => some (Kind.powerSide, natBytes 1 x)
  | _ => none

/-- The tag of a request. -/
def requestTag : Instr → Nat
  | .identify t _ | .readStatus t _ | .readCounters t _ | .setConfig t _ | .readConfig t _ | .readMeter t _
  | .setCalibration t _ _ | .quote t _ | .stagePrice t _ | .commitPricesNow t _ | .commitPricesAt t _ | .readPrices t _
  | .authorize t _ | .cancelAuth t _ | .suspend t _ | .resume t _ | .stopFill t _ | .endSale t _ | .openSide t _
  | .closeSide t _ | .readSide t _ | .setNozzleMap t _ | .setGrade t _ | .readBlend t _ | .listSales t _ | .readSale t _
  | .settleSale t _ | .readTotals t _ | .readDisplay t _ | .enableReader t _ | .disableReader t _ | .clearTamper t _ _
  | .readReader t _ _ | .setClass t _ | .deleteClass t _ | .sendToReader t _ | .goNight t _ | .wake t _ | .setClock t _
  | .setSchedule t _ | .readPower t _ | .restart t _ | .powerSide t _ => t
  | _ => 0

/-! ### Records of a reader line (R139, R140, R195) -/

/-- A record taken in full as the command it is: a built-in record of its own length has its own command, a configurable class is
READER_RECORD, and every other record is discarded by the check list. -/
def recordCommand (i : Side) (checkGood : Bool) (cls tag : Nat) (body : List Byte) : Instr :=
  let other : Instr := .readerRecordDiscarded i checkGood cls tag body
  if !checkGood then other
  else
    match cls, body with
    | 0x02, [r, m, f] => .ability i tag r m.toNat f
    | 0x04, [r] => .admitAck i tag r.toNat
    | 0x10, [r3, r2, r1, r0, g, k, v2, v1, v0] =>
      .authGrant i tag (bytesNat [r3, r2, r1, r0]) g k.toNat (bytesNat [v2, v1, v0])
    | 0x11, [r3, r2, r1, r0] => .authCancel i tag (bytesNat [r3, r2, r1, r0])
    | 0x12, [n1, n0, r3, r2, r1, r0, a2, a1, a0] =>
      .saleCapture i tag (bytesNat [n1, n0]) (bytesNat [r3, r2, r1, r0]) (bytesNat [a2, a1, a0])
    | _, _ => if 0x40 ≤ cls then .readerRecord i cls tag body else other

/-- The bytes of a reader line from SYNC on as the command that their end is; none where they are no whole frame (R139, R195). -/
def readerCommand (i : Side) (bs : List Byte) : Option Instr :=
  match bs with
  | sync :: cls :: tag :: len :: rest =>
    if sync ≠ 0x3C then none
    else if 200 < len.toNat then some (.readerFrameOverlength i)
    else if rest.length ≠ len.toNat + 2 then none
    else
      let body := rest.take len.toNat
      some (recordCommand i (checkBytes (cls :: tag :: len :: body) == rest.drop len.toNat) cls.toNat tag.toNat body)
  | _ => none

end Sys2Proof.Machine
end

