-- ==== Sys2Proof/Safety.lean ====
section
/-! DEFINITION. What counts as a sound state of the part, in the terms the claims use: nothing that could start waits, valves are shut
where they must be, motors, closures, notices and conversations stay within what the manual allows. -/

namespace Sys2Proof.Machine

open Sys2Proof

/-! ### Between events -/

/-- A state as every event leaves it: no frame that a display head could be sent is held back (R108, R109, R111), neither bank of the
store could start a job (R177, R180, R181), no reader transmitter could start a record (R133), the link's transmitter could start
no frame (R186), and the latches have followed their conditions (R188). -/
structure Settled (s : State) : Prop where
  display : ∀ i, startDisplay i s = s.display.get i
  banks : startBanks s = s
  reader : ∀ i, startReader s i = s.ports.get i
  link : s.link.startNext = s.link
  latches : s.link.latches.follow (latchConditions s) = s.link.latches
  changes : s.changes = []

/-- No request is in service (R184). -/
def Free (s : State) : Prop := s.link.service = none

/-- The link after a request has entered service and its reply has been given: the reply is in the reply slot, or in transmission at
once when the transmitter was idle (R184, R186). -/
def Link.replied (l : Link) (kind tag : Nat) (status : Status) (fields : List Field) : Link :=
  Link.startNext
    { l.frameTaken.enterService kind tag with
      replySlot := some { kind := kind, tag := tag, status := status, fields := fields } }

/-- The state in which a request has been answered and nothing else has changed. -/
def State.replied (s : State) (kind tag : Nat) (status : Status) (fields : List Field) : State :=
  s.setLink (s.link.replied kind tag status fields)

/-- The link after a store-backed request has been accepted: it is in service with the fields its reply will carry (R184). -/
def Link.holding (l : Link) (kind tag : Nat) (fields : List Field) : Link :=
  Link.startNext ((l.frameTaken.enterService kind tag).hold fields)

/-! ### Requests as commands -/

/-- The state of a request's body, whatever its fields are. -/
inductive BodyState where
  | badLength | unreadable | readable
deriving DecidableEq, Repr

/-- The state of a body. -/
def bodyState {α : Type} : Body α → BodyState
  | .badLength => .badLength
  | .unreadable => .unreadable
  | .fields _ => .readable

/-- The KIND, the TAG and the state of the body of a command that is a request of the catalogue; none for every other command. -/
def requestParts : Instr → Option (Nat × Nat × BodyState)
  | .identify tag body => some (Kind.identify, tag, bodyState body)
  | .readStatus tag body => some (Kind.readStatus, tag, bodyState body)
  | .readCounters tag body => some (Kind.readCounters, tag, bodyState body)
  | .setConfig tag body => some (Kind.setConfig, tag, bodyState body)
  | .readConfig tag body => some (Kind.readConfig, tag, bodyState body)
  | .readMeter tag body => some (Kind.readMeter, tag, bodyState body)
  | .setCalibration tag _ body => some (Kind.setCalibration, tag, bodyState body)
  | .quote tag body => some (Kind.quote, tag, bodyState body)
  | .stagePrice tag body => some (Kind.stagePrice, tag, bodyState body)
  | .commitPricesNow tag body => some (Kind.commitPrices, tag, bodyState body)
  | .commitPricesAt tag body => some (Kind.commitPrices, tag, bodyState body)
  | .readPrices tag body => some (Kind.readPrices, tag, bodyState body)
  | .authorize tag body => some (Kind.authorize, tag, bodyState body)
  | .cancelAuth tag body => some (Kind.cancelAuth, tag, bodyState body)
  | .suspend tag body => some (Kind.suspend, tag, bodyState body)
  | .resume tag body => some (Kind.resume, tag, bodyState body)
  | .stopFill tag body => some (Kind.stopFill, tag, bodyState body)
  | .endSale tag body => some (Kind.endSale, tag, bodyState body)
  | .openSide tag body => some (Kind.openSide, tag, bodyState body)
  | .closeSide tag body => some (Kind.closeSide, tag, bodyState body)
  | .readSide tag body => some (Kind.readSide, tag, bodyState body)
  | .setNozzleMap tag body => some (Kind.setNozzleMap, tag, bodyState body)
  | .setGrade tag body => some (Kind.setGrade, tag, bodyState body)
  | .readBlend tag body => some (Kind.readBlend, tag, bodyState body)
  | .listSales tag body => some (Kind.listSales, tag, bodyState body)
  | .readSale tag body => some (Kind.readSale, tag, bodyState body)
  | .settleSale tag body => some (Kind.settleSale, tag, bodyState body)
  | .readTotals tag body => some (Kind.readTotals, tag, bodyState body)
  | .readDisplay tag body => some (Kind.readDisplay, tag, bodyState body)
  | .enableReader tag body => some (Kind.enableReader, tag, bodyState body)
  | .disableReader tag body => some (Kind.disableReader, tag, bodyState body)
  | .clearTamper tag _ body => some (Kind.clearTamper, tag, bodyState body)
  | .readReader tag _ body => some (Kind.readReader, tag, bodyState body)
  | .setClass tag body => some (Kind.setClass, tag, bodyState body)
  | .deleteClass tag body => some (Kind.deleteClass, tag, bodyState body)
  | .sendToReader tag body => some (Kind.sendToReader, tag, bodyState body)
  | .goNight tag body => some (Kind.goNight, tag, bodyState body)
  | .wake tag body => some (Kind.wake, tag, bodyState body)
  | .setClock tag body => some (Kind.setClock, tag, bodyState body)
  | .setSchedule tag body => some (Kind.setSchedule, tag, bodyState body)
  | .readPower tag body => some (Kind.readPower, tag, bodyState body)
  | .restart tag body => some (Kind.restart, tag, bodyState body)
  | .powerSide tag body => some (Kind.powerSide, tag, bodyState body)
  | .powerOnReset _ _ _ | .loadingEnd | .restartReset _ _ | .phaseLevelTaken _ _ _ | .rateWindowExpiry _
  | .nozzleLift _ _ | .nozzleHangUp _ _ | .primeExpiry _ | .authorizationTimerExpiry _ | .noFlowExpiry _
  | .endingQuietExpiry _ | .afterFlowExpiry _ | .estopAssert | .estopRelease | .supplyFailWarning
  | .supplyFailRelease | .tamperAssert _ | .readerReady _ | .readerReadyLoss _ | .lineLowTimeout _ _
  | .readerStepTimeout _ | .backoffExpiry _ | .readerGapTimeout _ | .readerFrameOverlength _
  | .readerRecordDiscarded _ _ _ _ _ | .ability _ _ _ _ _ | .admitAck _ _ _ | .authGrant _ _ _ _ _ _
  | .authCancel _ _ _ | .saleCapture _ _ _ _ _ | .readerRecord _ _ _ _ | .readerTransmissionEnd _
  | .committedRefill _ | .excessRefill _ | .agingScan | .refreshExpiry _ | .displayEcho _ _ | .echoTimeout _
  | .testPhaseExpiry _ | .temperatureSample _ _ | .supplyGood _ | .supplyGoodLoss _ | .supplyStageTimeout _
  | .permitHoldExpiry | .heatMaximumExpiry _ | .checkQuietExpiry _ | .admitStageExpiry _ | .verifyWaitExpiry _
  | .clockAdvance | .writeAttemptEnd _ | .verifyJobEnd | .slotWriteEnd | .slotEraseEnd | .linkGapTimeout
  | .linkBadLength | .linkBadCheck | .nonRequestFrame _ | .unknownKindRequest _ _ | .linkFrameSent | .regionRead _ => none

/-! ### What a command leaves alone -/

/-- The blocks of the part, one for each place there is one of, for saying what a command leaves alone. -/
inductive Block where
  | meter (m : Meter) | sideMeters (i : Side) | prices | figures (i : Side) | fill (i : Side) | motor (p : Product)
  | valves (i : Side) | blend (i : Side) | grades | register | display (i : Side) | arbiter | port (i : Side) | classes
  | conversations | agingTimer | power | sidePower (i : Side) | clock | store | link | params | estopInput | supplyFailInput
  | pending
deriving DecidableEq, Repr

/-- The block stands in `t` as in `s`. -/
def Block.same (s t : State) : Block → Prop
  | .meter m => t.meter m = s.meter m
  | .sideMeters i => t.sideMeters.get i = s.sideMeters.get i
  | .prices => t.prices = s.prices
  | .figures i => t.figures.get i = s.figures.get i
  | .fill i => t.fill.get i = s.fill.get i
  | .motor p => t.motors.get p = s.motors.get p
  | .valves i => t.valves.get i = s.valves.get i
  | .blend i => t.blend.get i = s.blend.get i
  | .grades => t.grades = s.grades
  | .register => t.register = s.register
  | .display i => t.display.get i = s.display.get i
  | .arbiter => t.arbiter = s.arbiter
  | .port i => t.ports.get i = s.ports.get i
  | .classes => t.classes = s.classes
  | .conversations => t.conversations = s.conversations
  | .agingTimer => t.agingTimer = s.agingTimer
  | .power => t.power = s.power
  | .sidePower i => t.sidePower.get i = s.sidePower.get i
  | .clock => t.clock = s.clock
  | .store => t.store = s.store
  | .link => t.link = s.link
  | .params => t.params = s.params
  | .estopInput => t.estopInput = s.estopInput
  | .supplyFailInput => t.supplyFailInput = s.supplyFailInput
  | .pending => t.pending = s.pending

/-- Every block but those named stands in `t` as in `s`. -/
def OnlyChanges (bs : List Block) (s t : State) : Prop := ∀ b, b ∉ bs → b.same s t

/-! ### What an event leaves on the link and in the store -/

/-- The link carries a notice: it is queued, or in transmission (R186, R187). -/
def Link.tells (l : Link) (n : Notice) : Prop := n ∈ l.notices ∨ l.tx = some (.notice n)

/-- The link answers a request: the reply is in the reply slot, or in transmission (R184, R186). -/
def Link.answers (l : Link) (kind tag : Nat) (status : Status) (fields : List Field) : Prop :=
  l.replySlot = some { kind := kind, tag := tag, status := status, fields := fields } ∨
    l.tx = some (.reply { kind := kind, tag := tag, status := status, fields := fields })

/-- A port's reader is told of a nozzle: NOZZLE_STATE is pending, or in transmission (R145, R149). -/
def Port.tellsNozzle (p : Port) (x : NozzleStateRecord) : Prop := p.pendingNozzle = some x ∨ p.tx = some (.nozzleState x)

/-- The notice queue has room for `k` notices more, and none has been lost (R187). -/
def Room (k : Nat) (s : State) : Prop := s.link.lost = 0 ∧ s.link.notices.length + k ≤ Const.noticePlaces

/-- Between `s` and `t` a job of a kind has been queued: it waits, or runs where nothing ran before; a job of the kind that was already
running is not it (R177). -/
def Store.HasQueued (s t : Store) (k : JobKind) : Prop :=
  (∃ j ∈ t.waiting, j.kind = k) ∨ s.running = none ∧ ∃ j, t.running = some j ∧ j.kind = k

/-- An erase of a side's slot waits or runs (R180). -/
def Store.willErase (t : Store) (i : Side) : Prop :=
  { kind := .erase, side := i } ∈ t.saveWaiting ∨ ∃ r, t.saving = some r ∧ r.op = { kind := .erase, side := i }

/-- A job of a kind that the request in service waits on is running or waiting (R177, R184). -/
def Store.willServe (t : Store) (k : JobKind) : Prop :=
  (∃ j, t.running = some j ∧ j.kind = k ∧ j.serves = true) ∨ ∃ j ∈ t.waiting, j.kind = k ∧ j.serves = true

/-- A commit of prices, from the banks before it and the sides that are filling (R34, R37, R38). -/
structure Prices.CommittedFrom (p q : Prices) (filling : Side → Bool) : Prop where
  active : q.active = p.staged
  staged : q.staged = p.staged
  generation : q.generation = if 65535 ≤ p.generation then 1 else p.generation + 1
  schedule : q.schedule = none
  sides : ∀ i, q.sideGeneration.get i = if filling i then p.sideGeneration.get i else q.generation
  kept : (∃ i, q.sideGeneration.get i = p.generation) → q.retained = some { generation := p.generation, bank := p.active }
  dropped : (∀ i, q.sideGeneration.get i ≠ p.generation) → q.retained = none

/-! ### Sales -/

/-- The next sale number after a number (R93). -/
def numberAfter (n : Nat) : Nat := if 9999 ≤ n then 1 else n + 1

/-- A side's next sale takes this number: the next sale number where no queued record holds it, and otherwise the first after it that none
holds, as there is one while fewer than 9,999 records are queued (R93). -/
def State.GivesNumber (s : State) (i : Side) (number : Nat) : Prop :=
  let held := (s.register.queues.get i).map (fun r => r.number)
  let next := s.register.next.get i
  (next ∉ held → number = next) ∧
    (held.length < 9999 → number ∉ held ∧
      ∃ k ≤ held.length, number = Nat.iterate numberAfter k next ∧ ∀ j < k, Nat.iterate numberAfter j next ∈ held)

/-- A total after contributions, each added modulo 10^12 (R97). -/
def totalAfter (x : Int) (contributions : List Int) : Int := contributions.foldl (fun t y => (t + y) % 1000000000000) x

/-- The totals `u` are the totals `t` with the contributions of some records added: the volume to the grade, the money to the grade at its
level, and the LO and HI volumes to the meters of the side (R97). -/
structure Totals.AddedFrom (t u : Totals) (records : List SaleRecord) : Prop where
  volume : ∀ g, u.gradeVolume.get g =
    totalAfter (t.gradeVolume.get g) ((records.filter (fun r => r.grade = g)).map (fun r => (r.volume : Int)))
  money : ∀ g l, (u.gradeMoney.get g).get l =
    totalAfter ((t.gradeMoney.get g).get l) ((records.filter (fun r => r.grade = g ∧ r.level = l)).map (fun r => (r.money : Int)))
  lo : ∀ i, (u.meterVolume.get i).lo =
    totalAfter (t.meterVolume.get i).lo ((records.filter (fun r => r.side = i)).map (fun r => r.lo))
  hi : ∀ i, (u.meterVolume.get i).hi =
    totalAfter (t.meterVolume.get i).hi ((records.filter (fun r => r.side = i)).map (fun r => r.hi))

/-! ### Bring-up -/

/-- A side whose power state would else be `p`, and its closure set `c`, enters VERIFY: it asks for the comparison where none has been
made, waits for a running one, and goes UP without NIGHT where the result stands (R170). -/
def State.EntersVerify (s t : State) (i : Side) (p : SidePower) (c : Closures) : Prop :=
  (s.power.verification = .none → t.sidePower.get i = { p with state := .verify, stageTimer := some 2000 } ∧
    t.power = { s.power with verification := .running } ∧ s.store.HasQueued t.store .verify ∧ (t.fill.get i).closures = c) ∧
  (s.power.verification = .running → t.sidePower.get i = { p with state := .verify, stageTimer := some 2000 } ∧
    t.power = s.power ∧ (t.fill.get i).closures = c) ∧
  (s.power.verification ≠ .none → s.power.verification ≠ .running →
    t.sidePower.get i = { p with state := .up, stageTimer := none, bringUp := false } ∧
    (t.fill.get i).closures = { c with night := false })

/-- The POWER_STAGE notice of the change of a side's power state to `p` with the cause `c`, where the mode, the other side's state and the
flags are those of `s` (R157). -/
def State.stageTold (s : State) (i : Side) (p : PowerState) (c : PowerCause) : Notice :=
  let q := s.sidePower.set i { s.sidePower.get i with state := p }
  .powerStage s.power.mode q.a.state q.b.state (some i) c q.a.attended q.a.cold q.b.attended q.b.cold

/-- A side that comes to UP or DOWN_FAULT ends WAKING: the other side is at one of the two already (R170). -/
def State.EndsWaking (s : State) (i : Side) : Prop :=
  s.power.mode = .waking ∧ (s.sidePower.get i.other).state ∈ [PowerState.up, .downFault]

/-- A side's coming to DOWN_FAULT is told with the cause `c`, and where it ends WAKING by the one notice of the change to RUN (R157). -/
def State.TellsDownFault (s t : State) (i : Side) (c : PowerCause) : Prop :=
  (¬s.EndsWaking i → t.link.tells (s.stageTold i .downFault c)) ∧
  (s.EndsWaking i → ∃ a b j aa ca ab cb, t.link.tells (.powerStage .run a b j c aa ca ab cb))

/-- What is told of a side whose power state would else be `p` and that enters VERIFY with the cause `c`: the entry and, where the result
stands, UP with the cause VERIFIED. Where UP ends WAKING the one notice of the change to RUN tells all of it (R157, R170). -/
def State.TellsVerify (s t : State) (i : Side) (p : SidePower) (c : PowerCause) : Prop :=
  let u := s.setSidePower i p
  let waits : Prop := s.power.verification = .none ∨ s.power.verification = .running
  (waits ∨ ¬s.EndsWaking i → t.link.tells (u.stageTold i .verify c)) ∧
  (¬waits → ¬s.EndsWaking i → t.link.tells (u.stageTold i .up .verified)) ∧
  (¬waits → s.EndsWaking i → t.link.tells ((u.setPower { u.power with mode := .run }).stageTold i .up .verified))

/-! ### Fills -/

/-- Both valves of a side are closed unless it is FLOWING or SLOWING (R67). -/
def ValvesShut (s : State) : Prop := ∀ i, (s.sideState i).isOpen = false → s.valves.get i = { lo := 0, hi := 0 }

/-- The hang-up of the counted nozzle `n` leaves the count to `k`: the lowest-numbered nozzle that is then up and not spent, with the grade
its map gives it, or none (R49). -/
def Fill.CountGoesTo (f : Fill) (n : Nozzle) (k : Option Counted) : Prop :=
  let p := f.nozzles.set n .hung
  (k = none ∧ ∀ m, p.get m ≠ .up) ∨
    ∃ m, k = some { nozzle := m, grade := f.map.get m } ∧ p.get m = .up ∧ ∀ m', nozzleNumber m' < nozzleNumber m → p.get m' ≠ .up

/-- What the reader is told at the hang-up of the counted nozzle `c` that leaves the count to `k`: the nozzle that now counts, or the
hang-up (R149). -/
def Counted.heardAtHangUp (c : Counted) (k : Option Counted) : NozzleStateRecord :=
  k.elim { nozzle := c.nozzle, grade := c.grade, up := false } (fun x => { nozzle := x.nozzle, grade := x.grade, up := true })

/-- A motor's relay is on exactly when it is PRIMING or RUNNING, and its prime timer runs exactly while it is PRIMING (R65, R66). -/
def Motor.sound (m : Motor) : Prop :=
  (m.relay = true ↔ m.state ≠ .off) ∧ (m.primeTimer.isSome = true ↔ m.state = .priming)

/-- Both motors are sound. -/
def MotorsSound (s : State) : Prop := ∀ p, (s.motors.get p).sound

/-- A side outside a fill is CLOSED exactly while its closure set has a reason (R47). -/
def ClosuresSound (s : State) : Prop :=
  ∀ i, s.filling i = false → (s.sideState i = .closed ↔ (s.fill.get i).closures.isEmpty = false)

/-! ### The link and the readers -/

/-- The notice queue keeps to its places and the lost count to its bound (R187). -/
def NoticesBounded (s : State) : Prop := s.link.notices.length ≤ Const.noticePlaces ∧ s.link.lost ≤ 65535

/-- Only ADMITTED ports have conversations, one for each port and tag, and no more than the table holds (R126, R134, R135). -/
def ConversationsSound (s : State) : Prop :=
  (∀ c ∈ s.conversations, (s.ports.get c.port).state = .admitted) ∧
    s.conversations.Pairwise (fun c d => ¬(c.port = d.port ∧ c.tag = d.tag)) ∧
    s.conversations.length ≤ Const.conversationPlaces

end Sys2Proof.Machine
end

