-- ==== Sys2Proof/WellFormed.lean ====
section
/-! DEFINITION. The commands that the outside can send: every operand fits the field that carries it (R192 to R195), a temperature
reading has 10 bits (R114), and a kind is of the sort its command names (R183, R184). -/

namespace Sys2Proof

/-- A number of one byte. -/
def fits1 (n : Nat) : Bool := decide (n < 256)

/-- A number of two bytes. -/
def fits2 (n : Nat) : Bool := decide (n < 65536)

/-- A number of three bytes. -/
def fits3 (n : Nat) : Bool := decide (n < 16777216)

/-- A number of four bytes. -/
def fits4 (n : Nat) : Bool := decide (n < 4294967296)

/-- A signed number of four bytes. -/
def fitsInt4 (x : Int) : Bool := decide (-2147483648 ≤ x ∧ x < 2147483648)

/-- A 10-bit temperature reading (R114). -/
def fitsReading (n : Nat) : Bool := decide (n < 1024)

/-- A body whose fields, where it has any, are good. -/
def Body.good {α : Type} (f : α → Bool) : Body α → Bool
  | .badLength | .unreadable => true
  | .fields x => f x

/-- A request: its tag fits one byte and its fields fit theirs. -/
def requestGood {α : Type} (tag : Nat) (body : Body α) (f : α → Bool) : Bool := fits1 tag && body.good f

/-- The bodies of SEND_TO_READER and of reader records: no longer than their frames carry (R139, R193). -/
def bodyFits (most : Nat) (body : List Byte) : Bool := decide (body.length ≤ most)

/-- A record of a reader line: its class and tag fit one byte each, its body the frame (R139). -/
def recordGood (cls tag : Nat) (body : List Byte) : Bool := fits1 cls && fits1 tag && bodyFits 200 body

/-- A command that the outside can send. -/
def Instr.wellFormed : Instr → Bool
  | .powerOnReset a b _ => fitsReading a.reading && fitsReading b.reading
  | .loadingEnd => true
  | .restartReset a b => fitsReading a.reading && fitsReading b.reading
  | .phaseLevelTaken _ p q => p.isSome || q.isSome
  | .rateWindowExpiry _ | .nozzleLift _ _ | .nozzleHangUp _ _ | .primeExpiry _ | .authorizationTimerExpiry _ => true
  | .noFlowExpiry _ | .endingQuietExpiry _ | .afterFlowExpiry _ | .estopAssert | .estopRelease => true
  | .supplyFailWarning | .supplyFailRelease | .tamperAssert _ | .readerReady _ | .readerReadyLoss _ => true
  | .lineLowTimeout _ _ | .readerStepTimeout _ | .backoffExpiry _ | .readerGapTimeout _ | .readerFrameOverlength _ => true
  | .readerRecordDiscarded _ _ cls tag body => recordGood cls tag body
  | .ability _ tag _ maxBody _ => fits1 tag && fits1 maxBody
  | .admitAck _ tag revision => fits1 tag && fits1 revision
  | .authGrant _ tag reference _ kind value => fits1 tag && fits4 reference && fits1 kind && fits3 value
  | .authCancel _ tag reference => fits1 tag && fits4 reference
  | .saleCapture _ tag number reference amount => fits1 tag && fits2 number && fits4 reference && fits3 amount
  | .readerRecord _ cls tag body => recordGood cls tag body && decide (0x40 ≤ cls)
  | .readerTransmissionEnd _ | .committedRefill _ | .excessRefill _ | .agingScan | .refreshExpiry _ => true
  | .displayEcho _ _ | .echoTimeout _ | .testPhaseExpiry _ => true
  | .temperatureSample _ r => fitsReading r
  | .supplyGood _ | .supplyGoodLoss _ | .supplyStageTimeout _ | .permitHoldExpiry | .heatMaximumExpiry _ => true
  | .checkQuietExpiry _ | .admitStageExpiry _ | .verifyWaitExpiry _ | .clockAdvance => true
  | .writeAttemptEnd _ | .verifyJobEnd | .slotWriteEnd | .slotEraseEnd | .linkGapTimeout | .linkBadLength | .linkBadCheck => true
  | .nonRequestFrame kind => decide (kind = 0 ∨ 0x60 ≤ kind ∧ kind < 256)
  | .unknownKindRequest kind tag => fits1 tag && decide (1 ≤ kind ∧ kind < 0x60 ∧ kind ∉ Kind.catalogue)
  | .linkFrameSent => true
  | .identify tag body | .readStatus tag body | .readTotals tag body | .goNight tag body | .wake tag body => requestGood tag body (fun _ => true)
  | .readPower tag body | .restart tag body => requestGood tag body (fun _ => true)
  | .readCounters tag body | .readConfig tag body | .readPrices tag body | .cancelAuth tag body => requestGood tag body fits1
  | .suspend tag body | .resume tag body | .stopFill tag body | .endSale tag body => requestGood tag body fits1
  | .openSide tag body | .closeSide tag body | .readSide tag body | .listSales tag body => requestGood tag body fits1
  | .readDisplay tag body | .enableReader tag body | .disableReader tag body | .deleteClass tag body => requestGood tag body fits1
  | .powerSide tag body => requestGood tag body fits1
  | .clearTamper tag _ body => requestGood tag body fits1
  | .setConfig tag body => requestGood tag body (fun x => fits1 x.id && fitsInt4 x.value)
  | .readMeter tag body => requestGood tag body (fun x => fits1 x.meter && fits1 x.clear)
  | .setCalibration tag _ body => requestGood tag body (fun x => fits1 x.meter && fits2 x.weight && fits2 x.maxFlow)
  | .quote tag body => requestGood tag body (fun x => fits1 x.grade && fits1 x.level && fits1 x.form && fits3 x.value)
  | .stagePrice tag body => requestGood tag body (fun x => fits1 x.grade && fits1 x.level && fits3 x.price)
  | .commitPricesNow tag body => requestGood tag body (fun x => fits1 x && x != 1)
  | .commitPricesAt tag body => requestGood tag body fits3
  | .authorize tag body =>
    requestGood tag body (fun x => fits1 x.side && x.reference.all fits4 && fits1 x.level &&
      x.limit.all (fun l => fits1 l.kind && fits3 l.value))
  | .setNozzleMap tag body =>
    requestGood tag body (fun x => fits1 x.side && fits1 x.n1 && fits1 x.n2 && fits1 x.n3 && fits1 x.n4)
  | .setGrade tag body => requestGood tag body (fun x => fits1 x.grade && fits2 x.share && fits1 x.startDuty && fits1 x.trim)
  | .readBlend tag body => requestGood tag body (fun x => fits1 x.side && fits1 x.clear)
  | .readSale tag body | .settleSale tag body => requestGood tag body (fun x => fits1 x.side && fits2 x.number)
  | .readReader tag _ body => requestGood tag body (fun x => fits1 x.port && fits1 x.selector && fits1 x.clear)
  | .setClass tag body =>
    requestGood tag body (fun x => fits1 x.code && fits1 x.direction && fits1 x.maxBody && fits1 x.weight && fits1 x.essential &&
      x.asks.all fits1 && fits1 x.answer)
  | .sendToReader tag body =>
    requestGood tag body (fun x => fits1 x.port && fits1 x.cls && fits1 x.tag && bodyFits 247 x.body)
  | .setClock tag body => requestGood tag body fits4
  | .setSchedule tag body => requestGood tag body (fun x => x.nightAt.all fits3 && x.wakeAt.all fits3)
  | .regionRead _ => true

end Sys2Proof
end

