-- ==== Sys2Proof/Certificates/Slice0/Obligations.lean ====
section
/-! DEFINITION. The statements for the provers. -/

open Sys2Proof Sys2Proof.Machine

/-! ### The part as a whole -/

/-- One step carries out the command at the front of the queue on the state with the queue's rest (spec/95: the table lists
the part's steps, each whole and indivisible; that they wait in a queue is the model's choice, notes/assumptions/38.md). -/
def Obligations.StepTakesTheFrontCommand : Prop :=
  ∀ (c : Instr) (rest : List Instr) (s : State), s.pending = c :: rest → step s = exec c { s with pending := rest }

/-- Every command completes, whatever the state, and no command touches the queue of the commands waiting. The queue is the model's
own (notes/assumptions/37.md, 38.md), and that it survives the two resets is its deduction (notes/assumptions/8.md); so is that an event
that cannot happen completes with nothing changed (notes/assumptions/3.md). -/
def Obligations.EveryCommandCompletesAndKeepsTheQueue : Prop :=
  ∀ (c : Instr) (s : State), ∃ t, exec c s = .next t ∧ t.pending = s.pending

/-- On an empty queue one millisecond passes: every running timer has one millisecond less, down to 0, a stopped timer stays
stopped, nothing else moves, and nothing is sent, started or reported: every block is given whole (DESIGN CHOICE,
notes/assumptions/1.md). -/
def Obligations.AnEmptyQueuePassesAMillisecond : Prop :=
  ∀ s : State, s.pending = [] → ∃ t, step s = .next t ∧
    (∀ m, t.meter m = { s.meter m with windowTimer := tickTimer (s.meter m).windowTimer }) ∧
    (∀ i, t.fill.get i =
      { s.fill.get i with
        authTimer := tickTimer (s.fill.get i).authTimer, noFlowTimer := tickTimer (s.fill.get i).noFlowTimer
        quietTimer := tickTimer (s.fill.get i).quietTimer, afterFlowTimer := tickTimer (s.fill.get i).afterFlowTimer }) ∧
    (∀ p, t.motors.get p = { s.motors.get p with primeTimer := tickTimer (s.motors.get p).primeTimer }) ∧
    (∀ i, t.display.get i =
      { s.display.get i with
        test := (s.display.get i).test.map (fun x => { x with timer := tickTimer x.timer })
        refreshTimer := tickTimer (s.display.get i).refreshTimer, echoTimer := tickTimer (s.display.get i).echoTimer
        sampleTimer := tickTimer (s.display.get i).sampleTimer }) ∧
    (∀ i, t.ports.get i =
      { s.ports.get i with
        stepTimer := tickTimer (s.ports.get i).stepTimer, backoffTimer := tickTimer (s.ports.get i).backoffTimer
        committedTimer := tickTimer (s.ports.get i).committedTimer, excessTimer := tickTimer (s.ports.get i).excessTimer
        lineLowTimer := tickTimer (s.ports.get i).lineLowTimer }) ∧
    t.power = { s.power with holdTimer := tickTimer s.power.holdTimer } ∧
    t.store = { s.store with
      running := s.store.running.map (fun j => { j with timer := tickTimer j.timer })
      saving := s.store.saving.map (fun r => { r with timer := tickTimer r.timer }) } ∧
    (∀ i, t.sidePower.get i =
      { s.sidePower.get i with
        stageTimer := tickTimer (s.sidePower.get i).stageTimer, quietTimer := tickTimer (s.sidePower.get i).quietTimer }) ∧
    t.clock = { s.clock with second := tickTimer s.clock.second } ∧
    t.agingTimer = tickTimer s.agingTimer ∧
    t.link = { s.link with gapTimer := tickTimer s.link.gapTimer } ∧
    OnlyChanges
      ([.agingTimer, .power, .clock, .store, .link] ++
        [.fill .a, .fill .b, .motor .lo, .motor .hi, .display .a, .display .b, .port .a, .port .b, .sidePower .a, .sidePower .b] ++
        [.meter { side := .a, product := .lo }, .meter { side := .a, product := .hi }, .meter { side := .b, product := .lo },
          .meter { side := .b, product := .hi }]) s t

/-- The machine right after reset is sound in every way the invariants below ask for. -/
def Obligations.ResetIsSound : Prop :=
  Settled State.reset ∧ ValvesShut State.reset ∧ MotorsSound State.reset ∧ ClosuresSound State.reset ∧
    NoticesBounded State.reset ∧ ConversationsSound State.reset

/-- Every step leaves nothing that could start waiting: no display frame, no store job, no reader record, no link frame; and the
latches have followed their conditions (R109, R133, R177, R180, R186, R188).
That all of it starts within the event is the model's reading (notes/assumptions/33.md). -/
def Obligations.EveryStepLeavesNothingWaiting : Prop :=
  ∀ s t : State, Settled s → step s = .next t → Settled t

/-- Every step keeps both valves of a side closed unless the side is FLOWING or SLOWING (R67). -/
def Obligations.EveryStepKeepsIdleValvesShut : Prop :=
  ∀ s t : State, ValvesShut s → step s = .next t → ValvesShut t

/-- Every step keeps a motor's relay on exactly while the motor is PRIMING or RUNNING, and its prime timer running exactly while it
is PRIMING (R65, R66). -/
def Obligations.EveryStepKeepsTheMotorsSound : Prop :=
  ∀ s t : State, MotorsSound s → step s = .next t → MotorsSound t

/-- Every step keeps a side that is in no fill state CLOSED exactly while its closure set has a reason (R47). -/
def Obligations.EveryStepKeepsClosedSidesReasoned : Prop :=
  ∀ s t : State, ClosuresSound s → step s = .next t → ClosuresSound t

/-- Every step keeps the notice queue within its 32 places and the lost count within 65,535 (R187). -/
def Obligations.EveryStepKeepsTheNoticeQueueBounded : Prop :=
  ∀ s t : State, NoticesBounded s → step s = .next t → NoticesBounded t

/-- Every step keeps conversations to ADMITTED ports, one for each port and tag, and at most 16 (R126, R134, R135). -/
def Obligations.EveryStepKeepsConversationsSound : Prop :=
  ∀ s t : State, ConversationsSound s → step s = .next t → ConversationsSound t

/-- What reset leaves (R17, R32, R45, R76, R90, R106, R120, R144, R160, R175, R182, R191): every accumulator, counter and figure 0,
every side CLOSED by NIGHT with an empty slot, drivers off, generation 0, the queues empty with sale numbers from 1, both controllers
UNPOWERED, both ports DISABLED, both tables empty, the part LOADING with both sides OFF, the clock invalid at 0, no region read, and
the link idle but for the notice of the reset.
The notice in transmission is the model's deduction (notes/assumptions/5.md), and so are the weight 10000 and the maximum flow 6000 of a
meter before the CAL region has been read (notes/assumptions/12.md); the inputs that stand at reset its choice
(notes/assumptions/4.md), and so are the values that no table of reset values lists, here a Blend Controller's duty ceiling
(notes/assumptions/43.md). -/
def Obligations.WhatResetLeaves : Prop :=
  (∀ m, State.reset.meter m =
    { level1 := none, level2 := none, lastPair := none, sale := 0, creep := 0, creepFired := false
      windows := { w1 := 0, w2 := 0, w3 := 0, w4 := 0 }, openWindow := 0, rate := 0, overspeedRun := 0, forward := 0, reverse := 0
      phaseErrors := 0, weight := 10000, maxFlow := 6000, windowTimer := some 250 }) ∧
  (∀ i, State.reset.sideMeters.get i = { fillErrors := 0, pulserRaised := false, reverseRaised := false, nightLeak := false }) ∧
  (∀ i, State.reset.figures.get i =
    { volume := 0, displayed := 0, money := 0, opened := none, slowPassed := false, targetReached := false, limitReached := false
      closing := none, clamped := false }) ∧
  State.reset.prices.generation = 0 ∧ State.reset.prices.retained = none ∧ State.reset.prices.schedule = none ∧
  (∀ i, State.reset.sideState i = .closed ∧ (State.reset.fill.get i).closures = { Closures.empty with night := true } ∧
    (State.reset.fill.get i).slot = none ∧ (State.reset.fill.get i).authTimer = none) ∧
  (∀ p, State.reset.motors.get p = { state := .off, relay := false, primeTimer := none }) ∧
  (∀ i, State.reset.valves.get i = { lo := 0, hi := 0 }) ∧
  (∀ i, State.reset.blend.get i =
    { copy := none, trimmed := none, duty := none, ceiling := 0, window := none, alarmCount := 0, crossflowRaised := false
      lastResult := none, evaluated := 0, stepsUp := 0, stepsDown := 0, atLimit := 0, alarms := 0 }) ∧
  (∀ i, State.reset.register.queues.get i = [] ∧ State.reset.register.next.get i = 1) ∧
  (∀ i, (State.reset.display.get i).controller = .unpowered ∧ (State.reset.display.get i).transfer = none) ∧
  State.reset.arbiter = { holders := [], waiting := [] } ∧
  (∀ i, (State.reset.ports.get i).state = .disabled ∧ (State.reset.ports.get i).queue = []) ∧
  State.reset.classes = [] ∧ State.reset.conversations = [] ∧
  State.reset.power.mode = .loading ∧ State.reset.power.holder = none ∧ State.reset.power.verification = .none ∧
  (∀ i, (State.reset.sidePower.get i).state = .off ∧ (State.reset.sidePower.get i).supplyOn = false) ∧
  State.reset.clock = { value := 0, valid := false, second := none } ∧
  State.reset.store.cal.state = .unread ∧ State.reset.store.cfg.state = .unread ∧ State.reset.store.price.state = .unread ∧
  State.reset.store.totals.state = .unread ∧ State.reset.store.running = none ∧ State.reset.store.waiting = [] ∧
  State.reset.link.notices = [] ∧ State.reset.link.service = none ∧
  State.reset.link.tx = some (.notice (.powerStage .loading .off .off none .reset false false false false)) ∧
  State.reset.pending = []

/-! ### The message link -/

/-- A request of the catalogue written as a frame is decoded as that request, with every operand at every value its field admits
(R183, R192, R193, R194). The calibration switch and the tamper input are no part of a frame; some setting of them gives the
command.
That a frame arrives whole is the model's choice (notes/assumptions/30.md); that the two rows of COMMIT_PRICES are told apart by form
and length is its deduction (notes/assumptions/29.md). -/
def Obligations.EncodedRequestsDecodeToThemselves : Prop :=
  ∀ (c : Instr) (kind : Nat) (body : List Byte), c.wellFormed = true → encodeRequest c = some (kind, body) →
    ∃ switchClosed tamper, linkCommand switchClosed tamper (linkFrame kind (requestTag c) body) = some c

/-- A notice joins the tail of the queue; with 32 queued it is discarded and the lost count rises, holding at 65,535, and the notices
lost latch is set; the first notice queued after a loss is preceded by NOTICES_LOST with the count, which then reads 0, and is itself
discarded and counted where only one place was free (R187). -/
def Obligations.NoticesQueueInOrder : Prop :=
  ∀ (l : Link) (n : Notice),
    (32 ≤ l.notices.length →
      l.enqueue n = { l with lost := min (l.lost + 1) 65535, latches := { l.latches with noticesLost := true } }) ∧
    (l.notices.length < 32 → l.lost = 0 → l.enqueue n = { l with notices := l.notices ++ [n] }) ∧
    (l.notices.length < 31 → 0 < l.lost →
      l.enqueue n = { l with notices := l.notices ++ [.noticesLost l.lost, n], lost := 0 }) ∧
    (l.notices.length = 31 → 0 < l.lost →
      l.enqueue n =
        { l with notices := l.notices ++ [.noticesLost l.lost], lost := 1, latches := { l.latches with noticesLost := true } })

/-- LINK_FRAME_SENT: the sent frame is counted, a sent reply ends the service of its request unless that is an accepted RESTART, and
the next frame starts: the reply, else the busy reply, else the oldest notice (R184, R186, R189). -/
def Obligations.ASentFrameMakesWayForTheNext : Prop :=
  ∀ s : State, Settled s → ∀ x, s.link.tx = some x →
    let service := match x with | .reply _ => s.link.service.filter (fun r => r.restart) | _ => s.link.service
    let counters := match x with
      | .notice _ => { s.link.counters with noticesSent := s.link.counters.noticesSent + 1 }
      | _ => { s.link.counters with repliesSent := s.link.counters.repliesSent + 1 }
    let l := { s.link with service := service, counters := counters }
    exec .linkFrameSent s = .next (s.setLink
      (match s.link.replySlot, s.link.busySlot, s.link.notices with
        | some r, _, _ => { l with tx := some (.reply r), replySlot := none }
        | none, some r, _ => { l with tx := some (.busyReply r), busySlot := none }
        | none, none, n :: rest => { l with tx := some (.notice n), notices := rest }
        | none, none, [] => { l with tx := none }))

/-- A dropped frame adds one to its own counter, a good frame that is no request to the counters of frames taken and of unknown kinds, and in
every case the receiver hunts again; nothing else changes (R183, R189). A request whose body length is not one its kind allows is answered
BAD_LENGTH, one of an allowed length that cannot be split into its fields BAD_VALUE (the model's choice, notes/assumptions/6.md), and one
whose KIND names none of the catalogue UNKNOWN_KIND; none of them changes anything but the link (R184). -/
def Obligations.BadFramesAndRequestsAreTurnedAway : Prop :=
  (∀ s : State, Settled s →
    (exec .linkGapTimeout s = .next (s.setLink { s.link with
      receiver := .hunting, gapTimer := none, counters := { s.link.counters with gap := s.link.counters.gap + 1 } })) ∧
    (exec .linkBadLength s = .next (s.setLink { s.link with
      receiver := .hunting, gapTimer := none, counters := { s.link.counters with badLength := s.link.counters.badLength + 1 } })) ∧
    (exec .linkBadCheck s = .next (s.setLink { s.link with
      receiver := .hunting, gapTimer := none, counters := { s.link.counters with badCheck := s.link.counters.badCheck + 1 } })) ∧
    (∀ kind, kind = 0 ∨ 0x60 ≤ kind → exec (.nonRequestFrame kind) s = .next (s.setLink { s.link with
      receiver := .hunting, gapTimer := none
      counters := { s.link.counters with
        received := s.link.counters.received + 1, unknownKind := s.link.counters.unknownKind + 1 } }))) ∧
  (∀ (c : Instr) (kind tag : Nat) (s : State), Settled s → Free s →
    (requestParts c = some (kind, tag, .badLength) → exec c s = .next (s.replied kind tag .badLength [])) ∧
    (requestParts c = some (kind, tag, .unreadable) → exec c s = .next (s.replied kind tag .badValue [])) ∧
    (1 ≤ kind → kind < 0x60 → kind ∉ Kind.catalogue →
      exec (.unknownKindRequest kind tag) s = .next (s.replied kind tag .unknownKind [])))

/-- A request that arrives while another is in service, be its KIND one of the catalogue or not, changes nothing but the link: it is answered BUSY through the busy-reply slot,
or, with that slot full, is dropped and counted as an overflow (R184). -/
def Obligations.ARequestInServiceMakesOthersBusy : Prop :=
  ∀ (c : Instr) (kind tag : Nat) (s : State), Settled s → s.link.service ≠ none →
    ((∃ b, requestParts c = some (kind, tag, b)) ∨
      c = .unknownKindRequest kind tag ∧ 1 ≤ kind ∧ kind < 0x60 ∧ kind ∉ Kind.catalogue) →
    (s.link.busySlot = none → exec c s = .next (s.setLink (Link.startNext
      { s.link.frameTaken with
        busySlot := some { kind := kind, tag := tag, status := .busy, fields := [] }
        counters := { s.link.frameTaken.counters with busy := s.link.counters.busy + 1 } }))) ∧
    (s.link.busySlot ≠ none → exec c s = .next (s.setLink
      { s.link.frameTaken with counters := { s.link.frameTaken.counters with overflow := s.link.counters.overflow + 1 } }))

/-- Every read-out is answered at once with OK and its report, and changes nothing but the link: IDENTIFY (R189), READ_CONFIG (R190),
READ_METER (R13), READ_PRICES (R43), READ_SIDE (R73), READ_BLEND (R89), LIST_SALES and READ_SALE (R95), READ_TOTALS (R99), READ_DISPLAY
(R119), READ_READER (R142) and READ_POWER (R173). The clear option clears what has just been reported and nothing else: a meter's three
counters (R13), a Blend Controller's five (R89), a port's (R142) and the link's (R189); READ_STATUS reports every item as latched and then
reloads it from its condition (R188). A side, port, meter, selector, clear option, identifier or sale number outside its values is
BAD_VALUE, which the model deduces (28.md; the numbers are of notes/assumptions).
The model's choices in the reports: the widths of fields that no rule sizes and the codes that no rule lists (31.md, 32.md, 44.md), the
order of prices and monies (45.md), the current frame outside SHOWING (49.md), the quiet edge mark outside CHECK (53.md), unlit indicators
(55.md), CONVERSATIONS (61.md), the order of the built-in classes and the fields that they have no value for (82.md, 83.md), the
verification result (62.md), no kind byte with an overrun (63.md), no end time in READ_SIDE (64.md), one presence byte for a group of
fields (66.md), the sensor fault mark (67.md), the indicators as one byte (68.md), and the codes of the totals validity (71.md), the
trimmed product (72.md) and the clock validity (77.md); marks go as off-or-on values by its deduction (78.md). -/
def Obligations.ReadOutsReportWhatStands : Prop :=
  (∀ (tag : Nat) (s : State), Settled s → Free s →
    (exec (.identify tag (.fields ())) s = .next (s.replied Kind.identify tag .ok (identityReport s))) ∧
    (exec (.readConfig tag (.fields 0)) s = .next (s.replied Kind.readConfig tag .ok (configReport s Param.all))) ∧
    (∀ p : Param, exec (.readConfig tag (.fields p.id)) s = .next (s.replied Kind.readConfig tag .ok (configReport s [p]))) ∧
    (∀ m : Meter, exec (.readMeter tag (.fields { meter := meterNumber m, clear := 0 })) s =
      .next (s.replied Kind.readMeter tag .ok (meterReport s m))) ∧
    (exec (.readPrices tag (.fields 0)) s = .next (s.replied Kind.readPrices tag .ok (activeReport s.prices))) ∧
    (∀ r, s.prices.retained = some r →
      exec (.readPrices tag (.fields 1)) s = .next (s.replied Kind.readPrices tag .ok (retainedReport s.prices r))) ∧
    (s.prices.retained = none → exec (.readPrices tag (.fields 1)) s = .next (s.replied Kind.readPrices tag .notFound [])) ∧
    (exec (.readPrices tag (.fields 2)) s = .next (s.replied Kind.readPrices tag .ok (stagedReport s.prices))) ∧
    (∀ i : Side,
      exec (.readSide tag (.fields (Side.number i))) s = .next (s.replied Kind.readSide tag .ok (sideReport s i)) ∧
      exec (.readBlend tag (.fields { side := Side.number i, clear := 0 })) s =
        .next (s.replied Kind.readBlend tag .ok (blendReport s i)) ∧
      exec (.listSales tag (.fields (Side.number i))) s = .next (s.replied Kind.listSales tag .ok (salesReport s i)) ∧
      exec (.readDisplay tag (.fields (Side.number i))) s = .next (s.replied Kind.readDisplay tag .ok (displayReport s i)) ∧
      (∀ tamper, exec (.readReader tag tamper (.fields { port := Side.number i, selector := 0, clear := 0 })) s =
        .next (s.replied Kind.readReader tag .ok (portReport s i tamper))) ∧
      (∀ n r, 1 ≤ n → n ≤ 9999 → findSale s i n = some r →
        exec (.readSale tag (.fields { side := Side.number i, number := n })) s =
          .next (s.replied Kind.readSale tag .ok (saleReport s i r))) ∧
      (∀ n, 1 ≤ n → n ≤ 9999 → findSale s i n = none →
        exec (.readSale tag (.fields { side := Side.number i, number := n })) s = .next (s.replied Kind.readSale tag .notFound []))) ∧
    (∀ i tamper clear, clear ≤ 1 →
      exec (.readReader tag tamper (.fields { port := Side.number i, selector := 1, clear := clear })) s =
        .next (s.replied Kind.readReader tag .ok (classesReport s)) ∧
      exec (.readReader tag tamper (.fields { port := Side.number i, selector := 2, clear := clear })) s =
        .next (s.replied Kind.readReader tag .ok (conversationsReport s i))) ∧
    (exec (.readTotals tag (.fields ())) s = .next (s.replied Kind.readTotals tag .ok (totalsReport s))) ∧
    (exec (.readPower tag (.fields ())) s = .next (s.replied Kind.readPower tag .ok (powerReport s))) ∧
    (∀ x, 2 ≤ x →
      exec (.readSide tag (.fields x)) s = .next (s.replied Kind.readSide tag .badValue []) ∧
      exec (.listSales tag (.fields x)) s = .next (s.replied Kind.listSales tag .badValue []) ∧
      exec (.readDisplay tag (.fields x)) s = .next (s.replied Kind.readDisplay tag .badValue []) ∧
      exec (.readCounters tag (.fields x)) s = .next (s.replied Kind.readCounters tag .badValue [])) ∧
    (∀ x, 3 ≤ x → exec (.readPrices tag (.fields x)) s = .next (s.replied Kind.readPrices tag .badValue [])) ∧
    (∀ x, x ≠ 0 → Param.ofId x = none → exec (.readConfig tag (.fields x)) s = .next (s.replied Kind.readConfig tag .badValue [])) ∧
    (∀ x y, 4 ≤ x ∨ 2 ≤ y →
      exec (.readMeter tag (.fields { meter := x, clear := y })) s = .next (s.replied Kind.readMeter tag .badValue [])) ∧
    (∀ x y, 2 ≤ x ∨ 2 ≤ y →
      exec (.readBlend tag (.fields { side := x, clear := y })) s = .next (s.replied Kind.readBlend tag .badValue [])) ∧
    (∀ x y, 2 ≤ x ∨ y = 0 ∨ 10000 ≤ y →
      exec (.readSale tag (.fields { side := x, number := y })) s = .next (s.replied Kind.readSale tag .badValue [])) ∧
    (∀ tamper x y z, 2 ≤ x ∨ 3 ≤ y ∨ 2 ≤ z →
      exec (.readReader tag tamper (.fields { port := x, selector := y, clear := z })) s =
        .next (s.replied Kind.readReader tag .badValue []))) ∧
  (∀ (tag : Nat) (s : State), Settled s → Free s →
    (∀ m : Meter, exec (.readMeter tag (.fields { meter := meterNumber m, clear := 1 })) s =
      .next ((s.replied Kind.readMeter tag .ok (meterReport s m)).setMeter m
        { s.meter m with forward := 0, reverse := 0, phaseErrors := 0 })) ∧
    (∀ i : Side, exec (.readBlend tag (.fields { side := Side.number i, clear := 1 })) s =
      .next ((s.replied Kind.readBlend tag .ok (blendReport s i)).setBlend i
        { s.blend.get i with evaluated := 0, stepsUp := 0, stepsDown := 0, atLimit := 0, alarms := 0 })) ∧
    (∀ (i : Side) (tamper : Bool), exec (.readReader tag tamper (.fields { port := Side.number i, selector := 0, clear := 1 })) s =
      .next ((s.replied Kind.readReader tag .ok (portReport s i tamper)).setPort i
        { s.ports.get i with counters := PortCounters.zero })) ∧
    (exec (.readCounters tag (.fields 0)) s =
      .next (s.replied Kind.readCounters tag .ok (countersReport s.link.frameTaken.counters))) ∧
    (exec (.readCounters tag (.fields 1)) s =
      .next ((s.replied Kind.readCounters tag .ok (countersReport s.link.frameTaken.counters)).setLink
        { s.link.replied Kind.readCounters tag .ok (countersReport s.link.frameTaken.counters) with
          counters := LinkCounters.zero })) ∧
    (exec (.readStatus tag (.fields ())) s =
      .next ((s.replied Kind.readStatus tag .ok (statusReport s.link.frameTaken)).setLink
        { s.link.replied Kind.readStatus tag .ok (statusReport s.link.frameTaken) with latches := latchConditions s })))

/-- An accepted SET_CONFIG puts the applied value in force and queues a CFG_WRITE, on whose end its reply waits: an off-or-on value is
0 or 1, any other is clamped into its range, and an alarm bound below the trim tolerance is raised to it. A lowered bucket capacity cuts
both ports' tokens, and the heater permit count moves permits. A stack depth that does not hold what a side has is WRONG_STATE, and an
identifier not in the table BAD_VALUE. While LOADING, until the CFG region has been read, every SET_CONFIG is WRONG_STATE and changes nothing
else (R87, R94, R117, R137, R158, R184, R190). -/
def Obligations.SettingAParameter : Prop :=
  (∀ (tag : Nat) (s : State), Settled s → Free s → s.power.mode = .loading → s.store.cfg.state = .unread →
    ∀ x, exec (.setConfig tag (.fields x)) s = .next (s.replied Kind.setConfig tag .wrongState [])) ∧
  (∀ (tag : Nat) (s : State), Settled s → Free s → ¬(s.power.mode = .loading ∧ s.store.cfg.state = .unread) →
    (∀ (p : Param) (v : Int), p ≠ .stackDepth →
      let y := max p.range.1 (min p.range.2 v)
      let x := if p.isSwitch then (if v = 0 then 0 else 1) else if p = .alarmBound then max y s.params.trimTolerance else y
      ∃ t, exec (.setConfig tag (.fields { id := p.id, value := v })) s = .next t ∧
        t.params = s.params.set p x ∧ t.link = s.link.holding Kind.setConfig tag (num 1 p.id ++ int 4 x) ∧
        t.store.willServe .cfgWrite ∧
        (p = .committedCapacity → ∀ i, t.ports.get i =
          { s.ports.get i with
            committed := min (s.ports.get i).committed x.toNat
            excess := min (s.ports.get i).excess s.params.excessCapacity.toNat }) ∧
        (p = .excessCapacity → ∀ i, t.ports.get i =
          { s.ports.get i with
            committed := min (s.ports.get i).committed s.params.committedCapacity.toNat
            excess := min (s.ports.get i).excess x.toNat }) ∧
        (p = .heaterPermits → t.arbiter = s.arbiter.setCount x.toNat) ∧
        OnlyChanges
          ([.params, .store, .link] ++ (if p = .committedCapacity ∨ p = .excessCapacity then [.port .a, .port .b] else []) ++
            (if p = .heaterPermits then [.arbiter] else [])) s t) ∧
    (∀ v : Int, (∀ i, ((s.register.queues.get i).length : Int) + boolNat (s.fill.get i).slot.isSome ≤ max 1 (min 2 v)) →
      ∃ t, exec (.setConfig tag (.fields { id := Param.stackDepth.id, value := v })) s = .next t ∧
        t.params = { s.params with stackDepth := max 1 (min 2 v) } ∧
        t.link = s.link.holding Kind.setConfig tag (num 1 Param.stackDepth.id ++ int 4 (max 1 (min 2 v))) ∧
        t.store.willServe .cfgWrite ∧ OnlyChanges [.params, .store, .link] s t) ∧
    (∀ v : Int, (∃ i, max 1 (min 2 v) < ((s.register.queues.get i).length : Int) + boolNat (s.fill.get i).slot.isSome) →
      exec (.setConfig tag (.fields { id := Param.stackDepth.id, value := v })) s =
        .next (s.replied Kind.setConfig tag .wrongState [])) ∧
    (∀ n v, Param.ofId n = none →
      exec (.setConfig tag (.fields { id := n, value := v })) s = .next (s.replied Kind.setConfig tag .badValue [])))

/-! ### Meter Inputs -/

/-- PHASE_LEVEL_TAKEN on a channel that has no last pair: the levels are taken, the first pair formed once both phases have been taken
becomes the last pair, and nothing is decoded, counted or weighed (R1). A later pair is decoded row by row of the table: one step along
00, 01, 11, 10 is a forward edge, one step against it a reverse edge, and a change of both phases an error (R2). -/
def Obligations.PairsAreFormedAndDecoded : Prop :=
  (let o := (false, false)
    let a := (false, true)
    let b := (true, true)
    let c := (true, false)
    decodePair o a = some .forward ∧ decodePair o b = some .error ∧ decodePair o c = some .reverse ∧
    decodePair a o = some .reverse ∧ decodePair a b = some .forward ∧ decodePair a c = some .error ∧
    decodePair b o = some .error ∧ decodePair b a = some .reverse ∧ decodePair b c = some .forward ∧
    decodePair c o = some .forward ∧ decodePair c a = some .error ∧ decodePair c b = some .reverse) ∧
  ∀ (m : Meter) (p q : Option Bool) (s : State), Settled s → (s.meter m).lastPair = none →
    let l1 := p.orElse (fun _ => (s.meter m).level1)
    let l2 := q.orElse (fun _ => (s.meter m).level2)
    exec (.phaseLevelTaken m p q) s = .next (s.setMeter m
      { s.meter m with
        level1 := l1, level2 := l2
        lastPair := match l1, l2 with | some x, some y => some (x, y) | _, _ => none })

/-- A decoded edge of a side outside a fill adds or takes W to or from the creep accumulator, which saturates, and to the open rate window,
and is counted; below the creep limit, or with the alarm fired, nothing else changes but the quiet edge mark of a CHECK. At the creep limit,
above 0 or below it, an armed alarm fires once: before ADMIT it sets the night-leak and night-flow latches and tells NIGHT_FLOW the first time, from ADMIT on it
closes the side for LEAK. Before the CAL region has been read an edge is counted alone (R2, R3, R6, R8, R12, R168). -/
def Obligations.AnEdgeOutsideAFillCreeps : Prop :=
  (∀ (m : Meter) (p q : Option Bool) (last new : Bool × Bool) (forward : Bool) (s : State), Settled s →
    s.filling m.side = false → (s.meter m).lastPair = some last → ((s.meter m).take p q).pair = some new →
    decodePair last new = some (if forward then .forward else .reverse) →
    let c := { (s.meter m).take p q with
      lastPair := some new
      forward := if forward then (s.meter m).forward + 1 else (s.meter m).forward
      reverse := if forward then (s.meter m).reverse else (s.meter m).reverse + 1 }
    let x : Int := if forward then ((s.meter m).weight : Int) else -((s.meter m).weight : Int)
    let v := max (-549755813888) (min 549755813887 ((s.meter m).creep + x))
    (s.store.cal.state = .unread → exec (.phaseLevelTaken m p q) s = .next (s.setMeter m c)) ∧
    (s.store.cal.state ≠ .unread → (s.meter m).creepFired = true ∨ |v| < s.params.creepLimit * 100000 →
      exec (.phaseLevelTaken m p q) s = .next ((s.setMeter m { c with openWindow := c.openWindow + x, creep := v }).setSidePower
        m.side
        (if (s.sidePower.get m.side).state = .check ∧ (s.sidePower.get m.side).quietTimer.isSome then
          { s.sidePower.get m.side with quietEdge := true }
        else s.sidePower.get m.side)))) ∧
  (∀ (m : Meter) (p q : Option Bool) (last new : Bool × Bool) (forward : Bool) (s : State), Settled s →
    s.filling m.side = false → (s.meter m).lastPair = some last → ((s.meter m).take p q).pair = some new →
    decodePair last new = some (if forward then .forward else .reverse) → s.store.cal.state ≠ .unread →
    (s.meter m).creepFired = false → 0 < (s.meter m).weight →
    let v : Int := if forward then (s.meter m).creep + (s.meter m).weight else (s.meter m).creep - (s.meter m).weight
    v ≤ 549755813887 → -549755813888 ≤ v → s.params.creepLimit * 100000 ≤ |v| →
    ∃ t, exec (.phaseLevelTaken m p q) s = .next t ∧ (t.meter m).creep = v ∧ (t.meter m).creepFired = true ∧
      ((s.sidePower.get m.side).state ∈ [PowerState.off, .supply, .heat, .check] →
        t.sideMeters.get m.side = { s.sideMeters.get m.side with nightLeak := true } ∧
        t.link.latches.nightFlow = true ∧
        ((s.sideMeters.get m.side).nightLeak = false → s.link.tx ≠ none → s.link.notices.length < 32 → s.link.lost = 0 →
          t.link.notices = s.link.notices ++ [.nightFlow m.side m v]) ∧
        ((s.sideMeters.get m.side).nightLeak = true → t.link.notices = s.link.notices) ∧
        OnlyChanges [.meter m, .sidePower m.side, .sideMeters m.side, .link] s t) ∧
      ((s.sidePower.get m.side).state ∈ [PowerState.admitStage, .verify, .up, .downFault] →
        (t.fill.get m.side).closures = { (s.fill.get m.side).closures with leak := true } ∧
        t.sideState m.side = .closed ∧ t.link.latches.leak = true ∧
        OnlyChanges [.meter m, .fill m.side, .blend m.side, .valves m.side, .display m.side, .link, .port m.side] s t))

/-- A decoded edge of a side in a fill state adds or takes W to or from the sale accumulator, which saturates, and to the open rate
window, and is counted; the side's figures are those of both sale accumulators as they then stand, and the creep accumulator is left. Its slow
point is passed, its target and its LIMIT are reached exactly where the displayed volume is at or above the slow point, the target, or 999,000 cL,
or the money at or above 999,000 cents. A forward edge restarts the no-flow timer of a side that is and stays FLOWING or SLOWING, a reverse one
leaves it; either restarts the quiet timer of a side in ENDING, whose after-flow timer runs on (R2, R3, R8, R12, R19, R20, R21, R26, R58, R63). -/
def Obligations.AnEdgeInAFillIsSold : Prop :=
  ∀ (m : Meter) (p q : Option Bool) (last new : Bool × Bool) (forward : Bool) (s : State), Settled s →
    s.filling m.side = true → (s.meter m).lastPair = some last → ((s.meter m).take p q).pair = some new →
    decodePair last new = some (if forward then .forward else .reverse) → s.store.cal.state ≠ .unread →
    let x : Int := if forward then ((s.meter m).weight : Int) else -((s.meter m).weight : Int)
    let v := max (-549755813888) (min 549755813887 ((s.meter m).sale + x))
    ∃ t, exec (.phaseLevelTaken m p q) s = .next t ∧
      t.meter m = { (s.meter m).take p q with
        lastPair := some new, sale := v, openWindow := (s.meter m).openWindow + x
        forward := if forward then (s.meter m).forward + 1 else (s.meter m).forward
        reverse := if forward then (s.meter m).reverse else (s.meter m).reverse + 1 } ∧
      (v ≠ (s.meter m).sale → t.figures.get m.side = (s.figures.get m.side).recompute
        (if m.product = .lo then v else (s.meters.get m.side).lo.sale) (if m.product = .hi then v else (s.meters.get m.side).hi.sale)) ∧
      (v = (s.meter m).sale → t.figures.get m.side = s.figures.get m.side) ∧
      (v ≠ (s.meter m).sale →
        let g := t.figures.get m.side
        let volume := (s.meters.get m.side).lo.sale + (s.meters.get m.side).hi.sale + (v - (s.meter m).sale)
        g.opened = (s.figures.get m.side).opened ∧ g.volume = volume ∧ g.displayed = displayedVolume volume ∧
        g.money = moneyOf g.displayed (g.opened.elim 0 (fun o => o.price)) ∧
        (g.slowPassed = true ↔ ∃ x, g.opened.bind (fun o => o.slowPoint) = some x ∧ x ≤ g.displayed) ∧
        (g.targetReached = true ↔ ∃ x, g.opened.bind (fun o => o.target) = some x ∧ x ≤ g.displayed) ∧
        (g.limitReached = true ↔ 999000 ≤ g.displayed ∨ 999000 ≤ g.money)) ∧
      (let f := s.fill.get m.side
       let e := t.fill.get m.side
       (f.state.isOpen = true → e.state.isOpen = true →
         e.noFlowTimer = if forward then some (s.params.noFlowTimeout.toNat * 1000) else f.noFlowTimer) ∧
       (f.state = .ending → e = { f with quietTimer := some s.params.quietTime.toNat })) ∧
      OnlyChanges [.meter m, .figures m.side, .sideMeters m.side, .fill m.side, .blend m.side, .valves m.side, .display m.side,
        .link, .port m.side] s t

/-- A volume update that brings a FLOWING or SLOWING side to its target or to LIMIT takes it to HELD with that stop reason and shuts
its valves; one that brings a FLOWING side to its slow point takes it to SLOWING (R26, R57, R67). An open blend window is then discarded and
not evaluated, whatever its size (R84). Neither REVERSE nor CROSSFLOW is due there. A volume update with the meter's sale accumulator at or below minus the reverse limit
raises REVERSE, and one of the unused meter of a pure grade with it at or above the crossflow limit raises CROSSFLOW, each while its mark is
clear: the mark is set, and a side before ENDING goes to ENDING with that end reason, its FAULT closure and a FAULT notice that names the
meter, its valves shut; in ENDING the mark alone changes (R11, R62, R86).
The layout of the FAULT notice and the order of the tests are the model's deductions (notes/assumptions/21.md, 20.md). -/
def Obligations.AVolumeUpdateStopsTheFill : Prop :=
  (∀ (m : Meter) (p q : Option Bool) (last new : Bool × Bool) (s : State), Settled s →
    (s.sideState m.side = .flowing ∨ s.sideState m.side = .slowing) → (s.meter m).lastPair = some last →
    ((s.meter m).take p q).pair = some new → decodePair last new = some .forward → s.store.cal.state ≠ .unread →
    0 < (s.meter m).weight → (s.meter m).sale + (s.meter m).weight ≤ 549755813887 →
    -549755813888 ≤ (s.meter m).sale →
    -(s.params.reverseLimit * 100000) < (s.meter m).sale → (s.blend.get m.side).unused ≠ some m.product →
    let v := (s.meter m).sale + (s.meter m).weight
    let left : Blend := { s.blend.get m.side with window := none }
    let g := (s.figures.get m.side).recompute
      (if m.product = .lo then v else (s.meters.get m.side).lo.sale) (if m.product = .hi then v else (s.meters.get m.side).hi.sale)
    ∃ t, exec (.phaseLevelTaken m p q) s = .next t ∧
      (g.targetReached = true → t.sideState m.side = .held ∧ t.valves.get m.side = { lo := 0, hi := 0 } ∧
        t.blend.get m.side = left ∧
        (t.fill.get m.side).sale = (s.fill.get m.side).sale.map (fun c => { c with stop := some .target })) ∧
      (g.targetReached = false → g.limitReached = true → t.sideState m.side = .held ∧ t.valves.get m.side = { lo := 0, hi := 0 } ∧
        t.blend.get m.side = left ∧
        (t.fill.get m.side).sale = (s.fill.get m.side).sale.map (fun c => { c with stop := some .limit })) ∧
      (g.targetReached = false → g.limitReached = false → s.sideState m.side = .flowing → g.slowPassed = true →
        t.sideState m.side = .slowing ∧ t.blend.get m.side = left) ∧
      (g.targetReached = false → g.limitReached = false → (s.sideState m.side = .slowing ∨ g.slowPassed = false) →
        (s.blend.get m.side).window = none → t.sideState m.side = s.sideState m.side)) ∧
  (∀ (m : Meter) (p q : Option Bool) (last new : Bool × Bool) (forward : Bool) (s : State), Settled s →
    s.filling m.side = true → (s.meter m).lastPair = some last → ((s.meter m).take p q).pair = some new →
    decodePair last new = some (if forward then .forward else .reverse) → s.store.cal.state ≠ .unread → 0 < (s.meter m).weight →
    let i := m.side
    let v : Int := if forward then (s.meter m).sale + (s.meter m).weight else (s.meter m).sale - (s.meter m).weight
    let backward : Prop := v ≤ -(s.params.reverseLimit * 100000) ∧ (s.sideMeters.get i).reverseRaised = false
    let faulted (k : FaultKind) (t : State) : Prop :=
      t.sideState i = .ending ∧ t.valves.get i = { lo := 0, hi := 0 } ∧
      (t.fill.get i).closures = { (s.fill.get i).closures with fault := some k } ∧
      (t.fill.get i).quietTimer = some s.params.quietTime.toNat ∧ (t.fill.get i).afterFlowTimer = some 10000 ∧
      (t.fill.get i).sale.bind (fun c => c.ended) = (s.fill.get i).sale.map (fun _ => .fault k) ∧
      (t.blend.get i).window = none ∧
      (Room 2 s → t.link.tells (.fault (some i) k (some m) ((s.fill.get i).sale.map (fun c => c.number)) none none))
    let frame : List Block := [.meter m, .figures i, .sideMeters i, .fill i, .blend i, .valves i, .display i, .link, .port i]
    v ≤ 549755813887 → -549755813888 ≤ v →
    (backward → ∃ t, exec (.phaseLevelTaken m p q) s = .next t ∧ (t.meter m).sale = v ∧
      t.sideMeters.get i = { s.sideMeters.get i with reverseRaised := true } ∧
      ((s.sideState i).beforeEnding = true → faulted .reverse t ∧
        (t.fill.get i).sale = (s.fill.get i).sale.map (fun c => { c with ended := some (.fault .reverse) })) ∧
      (s.sideState i = .ending → t.sideState i = .ending ∧ (t.fill.get i).sale = (s.fill.get i).sale ∧
        (t.fill.get i).closures = (s.fill.get i).closures) ∧ OnlyChanges frame s t) ∧
    (¬backward → (s.blend.get i).unused = some m.product → (s.blend.get i).crossflowRaised = false →
      s.params.crossflowLimit * 100000 ≤ v → (s.blend.get i).window = none →
      ∃ t, exec (.phaseLevelTaken m p q) s = .next t ∧ (t.meter m).sale = v ∧ (t.blend.get i).crossflowRaised = true ∧
        ((s.sideState i).beforeEnding = true → faulted .crossflow t) ∧
        (s.sideState i = .ending → t.sideState i = .ending ∧ (t.fill.get i).sale = (s.fill.get i).sale ∧
          (t.fill.get i).closures = (s.fill.get i).closures) ∧ OnlyChanges frame s t))

/-- A decoded phase error carries no volume: it is counted, and in a fill state raises the side's fill count; the one that passes the
limit with the mark clear sets the PULSER mark, and in a fill state before ENDING takes the side to ENDING with fault PULSER
(R2, R10, R12, R62). -/
def Obligations.PhaseErrorsAreCounted : Prop :=
  ∀ (m : Meter) (p q : Option Bool) (last new : Bool × Bool) (s : State), Settled s →
    (s.meter m).lastPair = some last → ((s.meter m).take p q).pair = some new → decodePair last new = some .error →
    let n := min ((s.sideMeters.get m.side).fillErrors + 1) 65535
    ∃ t, exec (.phaseLevelTaken m p q) s = .next t ∧
      t.meter m = { (s.meter m).take p q with lastPair := some new, phaseErrors := (s.meter m).phaseErrors + 1 } ∧
      (s.filling m.side = false → OnlyChanges [.meter m] s t) ∧
      (s.filling m.side = true →
        ((n : Int) ≤ s.params.phaseErrorLimit ∨ (s.sideMeters.get m.side).pulserRaised = true →
          t.sideMeters.get m.side = { s.sideMeters.get m.side with fillErrors := n } ∧
          OnlyChanges [.meter m, .sideMeters m.side] s t) ∧
        (s.params.phaseErrorLimit < n → (s.sideMeters.get m.side).pulserRaised = false →
          t.sideMeters.get m.side = { s.sideMeters.get m.side with fillErrors := n, pulserRaised := true } ∧
          ((s.sideState m.side).beforeEnding = true →
            t.sideState m.side = .ending ∧ (t.fill.get m.side).closures.fault = some .pulser ∧
            t.valves.get m.side = { lo := 0, hi := 0 } ∧
            (t.fill.get m.side).sale = (s.fill.get m.side).sale.map (fun c => { c with ended := some (.fault .pulser) })) ∧
          OnlyChanges [.meter m, .sideMeters m.side, .fill m.side, .blend m.side, .valves m.side, .display m.side, .link,
            .port m.side] s t))

/-- RATE_WINDOW_EXPIRY: the open window closes into the four most recent, a new one opens at 0, the rate is floor(S × 60 / 100,000)
and not below 0; the overspeed run rises while the side is FLOWING or SLOWING with a rate above the meter's maximum flow and returns to
0 otherwise; the run that reaches 4 returns to 0 and takes the side to ENDING with fault
OVERSPEED, told with the meter (R8, R9, R62). -/
def Obligations.RateWindowsGiveRateAndOverspeed : Prop :=
  ∀ (m : Meter) (s : State), Settled s →
    let c := s.meter m
    let sum := c.windows.w2 + c.windows.w3 + c.windows.w4 + c.openWindow
    let rate := (Int.floor ((sum * 60 : Int) / (100000 : Rat))).toNat
    let c' := { c with
      windows := { w1 := c.windows.w2, w2 := c.windows.w3, w3 := c.windows.w4, w4 := c.openWindow }
      openWindow := 0, rate := rate, windowTimer := some 250 }
    let tooFast := (s.sideState m.side).isOpen = true ∧ c.maxFlow < rate
    (¬tooFast → exec (.rateWindowExpiry m) s = .next (s.setMeter m { c' with overspeedRun := 0 })) ∧
    (tooFast → c.overspeedRun < 3 →
      exec (.rateWindowExpiry m) s = .next (s.setMeter m { c' with overspeedRun := c.overspeedRun + 1 })) ∧
    (tooFast → 3 ≤ c.overspeedRun → ∃ t, exec (.rateWindowExpiry m) s = .next t ∧
      t.meter m = { c' with overspeedRun := 0 } ∧ t.sideState m.side = .ending ∧
      (t.fill.get m.side).closures.fault = some .overspeed ∧
      (t.fill.get m.side).sale = (s.fill.get m.side).sale.map (fun y => { y with ended := some (.fault .overspeed) }) ∧
      (Room 4 s → t.link.tells
        (.fault (some m.side) .overspeed (some m) ((s.fill.get m.side).sale.map (fun y => y.number)) none none)) ∧
      t.valves.get m.side = { lo := 0, hi := 0 } ∧
      OnlyChanges [.meter m, .fill m.side, .blend m.side, .valves m.side, .display m.side, .link, .port m.side] s t)

/-- SET_CALIBRATION with the switch closed, no side in a fill state and every value in its range replaces the meter's W and maximum
flow at once, raises the audit counter, which holds at 65,535, and queues a CAL_WRITE, on whose end its reply waits; its checks are made
in the order switch, side states, values, and a failed one answers and changes nothing else. While LOADING, until the CAL region has been
read, it is WRONG_STATE before all of them (R14, R15, R158). -/
def Obligations.CalibrationIsGuardedAndWritten : Prop :=
  ∀ (tag : Nat) (closed : Bool) (x : CalibrationFields) (s : State), Settled s → Free s →
    let early : Prop := s.power.mode = .loading ∧ s.store.cal.state = .unread
    (early → exec (.setCalibration tag closed (.fields x)) s = .next (s.replied Kind.setCalibration tag .wrongState [])) ∧
    (¬early → closed = false → exec (.setCalibration tag closed (.fields x)) s = .next (s.replied Kind.setCalibration tag .calLocked [])) ∧
    (¬early → closed = true → s.anyFilling = true →
      exec (.setCalibration tag closed (.fields x)) s = .next (s.replied Kind.setCalibration tag .wrongState [])) ∧
    (¬early → closed = true → s.anyFilling = false →
      (4 ≤ x.meter ∨ x.weight < 1000 ∨ 60000 < x.weight ∨ x.maxFlow < 500 ∨ 20000 < x.maxFlow) →
      exec (.setCalibration tag closed (.fields x)) s = .next (s.replied Kind.setCalibration tag .badValue [])) ∧
    (∀ m, ¬early → closed = true → s.anyFilling = false → x.meter = meterNumber m → 1000 ≤ x.weight → x.weight ≤ 60000 →
      500 ≤ x.maxFlow → x.maxFlow ≤ 20000 →
      ∃ t, exec (.setCalibration tag closed (.fields x)) s = .next t ∧
        t.meter m = { s.meter m with weight := x.weight, maxFlow := x.maxFlow } ∧
        t.store.audit = min (s.store.audit + 1) 65535 ∧
        t.store.willServe .calWrite ∧ s.store.HasQueued t.store .calWrite ∧
        t.link = s.link.holding Kind.setCalibration tag [] ∧
        OnlyChanges [.meter m, .store, .link] s t)


/-- A forward edge that is a volume update of a FLOWING side with a blended grade and does not stop it leaves an open window open below its
size. At its size the window is evaluated: the share rounded half up, its error, the trimmed duty stepped towards the share, or a trim at
limit counted at 1 and at the ceiling, alarms counted for ordinary windows beyond the larger of the bounds, and a new ordinary window. The
alarm that reaches the fault count takes the side to ENDING with fault BLEND; otherwise the trimmed valve takes the duty (R80, R81, R82, R83). -/
def Obligations.BlendWindowsTrimAndAlarm : Prop :=
  ∀ (m : Meter) (p q : Option Bool) (last new : Bool × Bool) (w : BlendWindow) (g : GradeEntry) (x : Product) (d : Nat) (s : State),
    Settled s → s.sideState m.side = .flowing → (s.meter m).lastPair = some last → ((s.meter m).take p q).pair = some new →
    decodePair last new = some .forward → s.store.cal.state ≠ .unread → 0 < (s.meter m).weight →
    (s.meter m).sale + (s.meter m).weight ≤ 549755813887 →
    -549755813888 ≤ (s.meter m).sale → -(s.params.reverseLimit * 100000) < (s.meter m).sale →
    (s.blend.get m.side).window = some w → (s.blend.get m.side).copy = some g → (s.blend.get m.side).trimmed = some x →
    (s.blend.get m.side).duty = some d → 0 < g.share → g.share < 1000 → 0 < w.size → 0 ≤ s.params.trimTolerance →
    let i := m.side
    let b := s.blend.get i
    let v := (s.meter m).sale + (s.meter m).weight
    let lo := if m.product = .lo then v else (s.meters.get i).lo.sale
    let hi := if m.product = .hi then v else (s.meters.get i).hi.sale
    let figures := (s.figures.get i).recompute lo hi
    let total := (lo - w.lo) + (hi - w.hi)
    let share := (2000 * (hi - w.hi) + total) / (2 * total)
    let e := share - g.share
    let tooMuch : Prop := s.params.trimTolerance < e
    let tooLittle : Prop := e < -s.params.trimTolerance
    let lower : Prop := g.trim = true ∧ (tooMuch ∧ x = .hi ∨ tooLittle ∧ x = .lo)
    let raised : Prop := g.trim = true ∧ (tooLittle ∧ x = .hi ∨ tooMuch ∧ x = .lo)
    let beyond : Prop := max s.params.alarmBound s.params.trimTolerance < |e|
    let isAlarm : Prop := w.kind = .ordinary ∧ beyond
    let isFault : Prop := isAlarm ∧ s.params.blendFaultCount ≤ b.alarmCount + 1
    figures.targetReached = false → figures.limitReached = false → figures.slowPassed = false →
    ∃ t, exec (.phaseLevelTaken m p q) s = .next t ∧
      (total < w.size → t.blend.get i = b ∧ t.sideState i = .flowing ∧ t.valves.get i = s.valves.get i) ∧
      (w.size ≤ total →
        let r := t.blend.get i
        r.lastResult = some { total := total, share := share, error := e } ∧ r.evaluated = b.evaluated + 1 ∧
        (lower → 1 < d → r.duty = some (d - 1) ∧ r.stepsDown = b.stepsDown + 1 ∧ r.stepsUp = b.stepsUp ∧ r.atLimit = b.atLimit) ∧
        (raised → d < b.ceiling → r.duty = some (d + 1) ∧ r.stepsUp = b.stepsUp + 1 ∧ r.stepsDown = b.stepsDown ∧
          r.atLimit = b.atLimit) ∧
        (lower ∧ d ≤ 1 ∨ raised ∧ b.ceiling ≤ d → r.duty = some d ∧ r.atLimit = b.atLimit + 1 ∧ r.stepsUp = b.stepsUp ∧
          r.stepsDown = b.stepsDown) ∧
        (¬lower → ¬raised → r.duty = some d ∧ r.stepsUp = b.stepsUp ∧ r.stepsDown = b.stepsDown ∧ r.atLimit = b.atLimit) ∧
        (isAlarm → r.alarmCount = b.alarmCount + 1 ∧ r.alarms = b.alarms + 1) ∧
        (¬isAlarm → r.alarms = b.alarms ∧ r.alarmCount = if w.kind = .ordinary then 0 else b.alarmCount) ∧
        (isFault → t.sideState i = .ending ∧ r.window = none ∧ (t.fill.get i).closures.fault = some .blend ∧
          (t.fill.get i).sale = (s.fill.get i).sale.map (fun y => { y with ended := some (.fault .blend) }) ∧
          t.valves.get i = { lo := 0, hi := 0 } ∧
          (Room 4 s → t.link.tells
            (.fault (some i) .blend (some { side := i, product := x }) ((s.fill.get i).sale.map (fun y => y.number)) none none))) ∧
        (¬isFault → t.sideState i = .flowing ∧
          r.window = some { kind := .ordinary, lo := lo, hi := hi, size := s.params.blendWindow * 100000 } ∧
          t.valves.get i = (s.valves.get i).set x (r.duty.getD 0)))

/-! ### Arithmetic and prices -/

/-- The figures of a sale from its volume: the displayed volume truncates and is capped, and one edge moves it by no more than 1 cL;
money is the displayed volume at the unit price, rounded half up and capped, moving by at most 100 cents for each centilitre, by at most
one below 1,000 mil and by at least one from there on; a MONEY target is the largest volume whose money does not exceed the limit, below
its cap, which is met for 2,000 cents at prices 1 and 2 alone, and at least 1; overrun and payable follow the table of the closing
figures (R20, R21, R23, R29). -/
def Obligations.SaleArithmeticIsExact : Prop :=
  (∀ v : Int, displayedVolume v = if v ≤ 0 then 0 else min (v / 100000).toNat 999999) ∧
  (∀ v x : Int, |x| ≤ 60000 → displayedVolume (v + x) ≤ displayedVolume v + 1 ∧ displayedVolume v ≤ displayedVolume (v + x) + 1) ∧
  (∀ q p : Nat, moneyOf q p = min ((q * p + 500) / 1000) 999999) ∧
  (∀ q p : Nat, moneyOf 0 p = 0 ∧ (p ≤ 99999 → moneyOf (q + 1) p ≤ moneyOf q p + 100) ∧
    (p ≤ 1000 → moneyOf (q + 1) p ≤ moneyOf q p + 1) ∧
    (1000 ≤ p → moneyOf (q + 1) p < 999999 → moneyOf q p + 1 ≤ moneyOf (q + 1) p)) ∧
  (∀ l p : Nat, 100 ≤ l → l ≤ 999000 → 1 ≤ p → p ≤ 99999 →
    moneyTarget l p = min ((l * 1000 + 499) / p) 999000 ∧ 1 ≤ moneyTarget l p ∧
    (moneyTarget l p < 999000 → moneyOf (moneyTarget l p) p ≤ l ∧ l < moneyOf (moneyTarget l p + 1) p) ∧
    (∀ q, (q * p + 500) / 1000 ≤ l ↔ q ≤ (l * 1000 + 499) / p) ∧
    (l = 2000 → (moneyTarget l p < (l * 1000 + 499) / p ↔ p = 1 ∨ p = 2))) ∧
  (∀ (q m p : Nat),
    (∀ l : Nat,
      (l < m → overrunOf (some { kind := .money, value := l }) q m = some (m - l) ∧
        payableOf (some { kind := .money, value := l }) q m p = l) ∧
      (m ≤ l → overrunOf (some { kind := .money, value := l }) q m = none ∧
        payableOf (some { kind := .money, value := l }) q m p = m) ∧
      (l < q → overrunOf (some { kind := .volume, value := l }) q m = some (q - l) ∧
        payableOf (some { kind := .volume, value := l }) q m p = min ((l * p + 500) / 1000) 999999) ∧
      (q ≤ l → overrunOf (some { kind := .volume, value := l }) q m = none ∧
        payableOf (some { kind := .volume, value := l }) q m p = m)) ∧
    overrunOf none q m = none ∧ payableOf none q m p = m) ∧
  (∀ (limit : Option Limit) (q p : Nat), payableOf limit q (moneyOf q p) p ≤ moneyOf q p)

/-- The recorded LO and HI volumes of a sale: each accumulator rounded toward −∞ and held within −999,999 to 999,999, each by itself for
a sale volume of 0 or 999,999, and otherwise with the pair keeping its sum; for every other volume the sale's volume less that sum is
0 or 1, being 1 exactly when the two fractions dropped reach a whole centilitre; and either clamping sets CLAMPED (R28). -/
def Obligations.RecordedVolumesBalance : Prop :=
  ∀ (g : Figures) (lo hi : Int),
    let q := displayedVolume (lo + hi)
    let l := lo / 100000
    let h := hi / 100000
    ∃ x y : Int, ((g.finalize lo hi).closing.map (fun c => (c.lo, c.hi))) = some (x, y) ∧
      -999999 ≤ x ∧ x ≤ 999999 ∧ -999999 ≤ y ∧ y ≤ 999999 ∧
      ((q = 0 ∨ q = 999999) → x = max (-999999) (min 999999 l) ∧ y = max (-999999) (min 999999 h)) ∧
      (q ≠ 0 → q ≠ 999999 →
        (999999 < l → x = 999999 ∧ y = l + h - 999999) ∧ (999999 < h → x = l + h - 999999 ∧ y = 999999) ∧
        (l ≤ 999999 → h ≤ 999999 → x = l ∧ y = h) ∧ ((q : Int) - (x + y) = 0 ∨ (q : Int) - (x + y) = 1) ∧
        ((q : Int) - (x + y) = 1 ↔ 100000 ≤ lo % 100000 + hi % 100000)) ∧
      ((x ≠ l ∨ y ≠ h) → (g.finalize lo hi).clamped = true)

/-- QUOTE answers from the active bank by the formulas of a sale and changes nothing but the link; a price of 0 or generation 0 is
WRONG_STATE, and a value above 999,999, a grade, a level or a form outside its values BAD_VALUE (R30, R31). STAGE_PRICE replaces one price of
the pending bank, clamped to 99,999; it is BAD_VALUE for a grade or level outside its values, and PRICE_BUSY while a commit is scheduled (R35).
COMMIT_PRICES AT sets the schedule; it is BAD_VALUE for a time of day outside its range, PRICE_BUSY with a retained bank and WRONG_STATE while
the clock is invalid (R36, R40). While LOADING, until the PRICE region has been read, STAGE_PRICE and AT are WRONG_STATE where their
fields are good (R35, R36).
That QUOTE's BAD_VALUE goes before its WRONG_STATE is the model's choice (notes/assumptions/73.md), and the pair of commands for COMMIT_PRICES
its deduction (notes/assumptions/29.md). -/
def Obligations.QuotingStagingAndSchedulingPrices : Prop :=
  ∀ (tag : Nat) (g : Grade) (l : Level) (s : State), Settled s → Free s →
    let early : Prop := s.power.mode = .loading ∧ s.store.price.state = .unread
    (∀ value, value ≤ 999999 →
      let n := s.prices.generation
      let p := bankPrice s.prices.active g l
      let ask (form : Nat) : Instr :=
        .quote tag (.fields { grade := Grade.number g, level := Level.number l, form := form, value := value })
      (n ≠ 0 → p ≠ 0 →
        exec (ask 0) s = .next (s.replied Kind.quote tag .ok
          (num 2 n ++ money3 p ++ money3 (min ((value * p + 500) / 1000) 999999) ++
            flag (decide (999999 < (value * p + 500) / 1000)))) ∧
        (let v := min ((value * 1000 + 499) / p) 999000;
          exec (ask 1) s = .next (s.replied Kind.quote tag .ok
            (num 2 n ++ money3 p ++ money3 v ++ flag (decide (999000 < (value * 1000 + 499) / p)) ++
              money3 (min ((v * p + 500) / 1000) 999999))))) ∧
      ((n = 0 ∨ p = 0) → ∀ form, form ≤ 1 → exec (ask form) s = .next (s.replied Kind.quote tag .wrongState [])) ∧
      (∀ form, 1 < form → exec (ask form) s = .next (s.replied Kind.quote tag .badValue []))) ∧
    (∀ form value, 999999 < value →
      exec (.quote tag (.fields { grade := Grade.number g, level := Level.number l, form := form, value := value })) s =
        .next (s.replied Kind.quote tag .badValue [])) ∧
    (∀ grade level form value, grade = 0 ∨ 9 ≤ grade ∨ level = 0 ∨ 3 ≤ level →
      exec (.quote tag (.fields { grade := grade, level := level, form := form, value := value })) s =
        .next (s.replied Kind.quote tag .badValue []) ∧
      exec (.stagePrice tag (.fields { grade := grade, level := level, price := value })) s =
        .next (s.replied Kind.stagePrice tag .badValue [])) ∧
    (∀ x,
      let c : Instr := .stagePrice tag (.fields { grade := Grade.number g, level := Level.number l, price := x })
      (early → exec c s = .next (s.replied Kind.stagePrice tag .wrongState [])) ∧
      (¬early → s.prices.schedule = none → ∃ t, exec c s = .next t ∧
        t = (s.replied Kind.stagePrice tag .ok (num 1 g.number ++ levelField l ++ money3 (min x 99999))).setPrices
          { s.prices with staged := t.prices.staged } ∧
        ∀ g' l', bankPrice t.prices.staged g' l' =
          if g' = g ∧ l' = l then min x 99999 else bankPrice s.prices.staged g' l') ∧
      (¬early → s.prices.schedule ≠ none → exec c s = .next (s.replied Kind.stagePrice tag .priceBusy []))) ∧
    (∀ x,
      let c : Instr := .commitPricesAt tag (.fields x)
      (86400 ≤ x → exec c s = .next (s.replied Kind.commitPrices tag .badValue [])) ∧
      (x < 86400 → early → exec c s = .next (s.replied Kind.commitPrices tag .wrongState [])) ∧
      (x < 86400 → ¬early →
        (s.prices.retained ≠ none → exec c s = .next (s.replied Kind.commitPrices tag .priceBusy [])) ∧
        (s.prices.retained = none → s.clock.valid = false →
          exec c s = .next (s.replied Kind.commitPrices tag .wrongState [])) ∧
        (s.prices.retained = none → s.clock.valid = true →
          exec c s = .next ((s.replied Kind.commitPrices tag .ok (num 3 x)).setPrices { s.prices with schedule := some x }))))

/-- A commit, by COMMIT_PRICES NOW or at its second of the clock, makes the pending bank active under the next generation, keeps the old
bank while a side is filling on it, has every other side adopt, cancels the schedule, queues PRICE_ADOPTED and a PRICE_WRITE; the
reply of NOW waits for that job. NOW is PRICE_BUSY while a retained bank stands, WRONG_STATE while LOADING until the PRICE region has been
read, and another form than NOW and AT is BAD_VALUE. A second at which nothing is scheduled moves the valid
clock alone, and an invalid clock does not move (R34, R36, R37, R38, R39, R40, R160).
That a clock that is not valid takes no advance (notes/assumptions/3.md) and that the form names the command (29.md) are the model's
deductions, and the mark that no retained bank remains is its choice (74.md). -/
def Obligations.CommitsChangeTheBanks : Prop :=
  ∀ (tag : Nat) (s : State), Settled s →
    (Free s → ∀ form, form ≠ 0 →
      exec (.commitPricesNow tag (.fields form)) s = .next (s.replied Kind.commitPrices tag .badValue [])) ∧
    (Free s → s.power.mode = .loading → s.store.price.state = .unread →
      exec (.commitPricesNow tag (.fields 0)) s = .next (s.replied Kind.commitPrices tag .wrongState [])) ∧
    (Free s → ¬(s.power.mode = .loading ∧ s.store.price.state = .unread) →
      (s.prices.retained = none → ∃ t, exec (.commitPricesNow tag (.fields 0)) s = .next t ∧
        s.prices.CommittedFrom t.prices s.filling ∧
        t.link.service = some { kind := Kind.commitPrices, tag := tag, fields := num 2 t.prices.generation, restart := false } ∧
        (Room 1 s → t.link.tells (.priceAdopted t.prices.generation (!s.filling .a) (!s.filling .b)
          (t.prices.retained.map (fun r => r.generation)))) ∧
        t.store.willServe .priceWrite ∧ s.store.HasQueued t.store .priceWrite ∧ OnlyChanges [.prices, .store, .link] s t) ∧
      (s.prices.retained ≠ none →
        exec (.commitPricesNow tag (.fields 0)) s = .next (s.replied Kind.commitPrices tag .priceBusy []))) ∧
    (s.clock.valid = false → exec .clockAdvance s = .next s) ∧
    (s.clock.valid = true →
      let second := (s.clock.value + 1).toNat % 86400
      let c : Clock := { value := s.clock.value + 1, valid := true, second := some 1000 }
      s.power.nightAt ≠ some second → s.power.wakeAt ≠ some second →
        (s.prices.schedule ≠ some second → exec .clockAdvance s = .next { s with clock := c }) ∧
        (s.prices.schedule = some second → ∃ t, exec .clockAdvance s = .next t ∧ t.clock = c ∧
          s.prices.CommittedFrom t.prices s.filling ∧
          (Room 1 s → t.link.tells (.priceAdopted t.prices.generation (!s.filling .a) (!s.filling .b)
            (t.prices.retained.map (fun r => r.generation)))) ∧
          s.store.HasQueued t.store .priceWrite ∧ OnlyChanges [.prices, .clock, .store, .link] s t))


/-! ### Fill Control -/

/-- NOZZLE_LIFT and NOZZLE_HANG_UP outside the fill states: the first nozzle lifted is counted with the grade its map gives it, and takes an
IDLE side to CALLING where that grade is not NONE; at an AUTHORIZED side a nozzle without a grade is GRADE_REFUSED. A nozzle lifted while
another counts is up and no more. The hang-up of the counted nozzle frees the count and takes a CALLING side to IDLE; where another nozzle
that is not spent is up, the lowest-numbered becomes the counted nozzle in the same event and acts as a lift: it takes an IDLE side, and one
that was CALLING, to CALLING where it has a grade, tests the authorization of an AUTHORIZED side, and moves a CLOSED side nowhere. Each change
of state queues SIDE_STATE. Counted lifts and hang-ups queue NOZZLE, and are pending or in transmission at an ADMITTED reader, the last of an
event in place of one before it (R48, R49, R50, R51, R149).
That the lift of a nozzle that is not hung and the hang-up of a hung one change nothing is the model's deduction (notes/assumptions/3.md). -/
def Obligations.NozzlesAreCounted : Prop :=
  ∀ (i : Side) (n : Nozzle) (s : State), Settled s →
    let f := s.fill.get i
    let hung := f.nozzles.set n .hung
    let frame : List Block := [.fill i, .blend i, .valves i, .display i, .port i, .link]
    let sale := openSale f
    (f.nozzles.get n ≠ .hung → exec (.nozzleLift i n) s = .next s) ∧
    (f.nozzles.get n = .hung → ¬(s.power.mode = .night ∧ s.params.wakeOnNozzle ≠ 0) →
      let c : Counted := { nozzle := n, grade := f.map.get n }
      let told (t : State) : Prop := (Room 3 s → t.link.tells (.nozzle i n c.grade true)) ∧
        ((s.ports.get i).state = .admitted → (t.ports.get i).tellsNozzle { nozzle := n, grade := c.grade, up := true })
      (f.counted ≠ none → exec (.nozzleLift i n) s = .next (s.setFill i { f with nozzles := f.nozzles.set n .up })) ∧
      (f.counted = none → f.state ≠ .authorized → ∃ t, exec (.nozzleLift i n) s = .next t ∧
        t.fill.get i =
          (if f.state = .idle ∧ c.grade.isSome then
            { f with
              state := .calling, nozzles := f.nozzles.set n .up, counted := some c
              noFlowTimer := none, quietTimer := none, afterFlowTimer := none }
          else { f with nozzles := f.nozzles.set n .up, counted := some c }) ∧
        (f.state = .idle → c.grade.isSome → Room 3 s → t.link.tells (.sideState i .calling f.closures (some c) sale)) ∧
        told t ∧ OnlyChanges frame s t) ∧
      (∀ a, f.counted = none → f.state = .authorized → f.slot = some a → c.grade = none → ∃ t, exec (.nozzleLift i n) s = .next t ∧
        t.fill.get i = { f with nozzles := f.nozzles.set n .up, counted := some c } ∧
        (Room 3 s → t.link.tells (.gradeRefused i n none .grade)) ∧ told t ∧ OnlyChanges [.fill i, .port i, .link] s t)) ∧
    (f.nozzles.get n = .hung → exec (.nozzleHangUp i n) s = .next s) ∧
    (f.nozzles.get n ≠ .hung → (∀ c, f.counted = some c → c.nozzle ≠ n) →
      exec (.nozzleHangUp i n) s = .next (s.setFill i { f with nozzles := hung })) ∧
    (∀ g k, f.nozzles.get n ≠ .hung → f.counted = some { nozzle := n, grade := g } → f.state.isFill = false → f.CountGoesTo n k →
      let left : Fill := { f with nozzles := hung, counted := k }
      let moved (x : SideState) : Fill :=
        { left with state := x, noFlowTimer := none, quietTimer := none, afterFlowTimer := none }
      let mapped : Prop := k.any (fun c => c.grade.isSome) = true
      let told (t : State) : Prop :=
        (Room 5 s → t.link.tells (.nozzle i n g false) ∧ ∀ c, k = some c → t.link.tells (.nozzle i c.nozzle c.grade true)) ∧
          ((s.ports.get i).state = .admitted →
            (t.ports.get i).tellsNozzle (Counted.heardAtHangUp { nozzle := n, grade := g } k))
      (f.state ≠ .authorized ∨ k = none → ∃ t, exec (.nozzleHangUp i n) s = .next t ∧
        (f.state = .calling → t.fill.get i = moved (if mapped then .calling else .idle) ∧
          (mapped → Room 5 s → t.link.tells (.sideState i .idle f.closures none sale) ∧
            t.link.tells (.sideState i .calling f.closures k sale)) ∧
          (¬mapped → Room 5 s → t.link.tells (.sideState i .idle f.closures k sale))) ∧
        (f.state = .idle → mapped → t.fill.get i = moved .calling ∧
          (Room 5 s → t.link.tells (.sideState i .calling f.closures k sale))) ∧
        (f.state ≠ .calling → f.state ≠ .idle ∨ ¬mapped → t.fill.get i = left) ∧
        told t ∧ OnlyChanges frame s t) ∧
      (∀ (a : Auth) (c : Counted), f.state = .authorized → f.slot = some a → k = some c →
        let allowed : Grade → Prop := fun x =>
          a.grades.getLsbD (x.number - 1) = true ∧ s.prices.lookup (s.prices.sideGeneration.get i) x a.level ≠ 0 ∧
            (s.display.get i).dark = false ∧ (s.store.slots.get i).state = .erased
        ((∀ x, c.grade = some x → ¬allowed x) → ∃ t, exec (.nozzleHangUp i n) s = .next t ∧ t.fill.get i = left ∧
          (Room 5 s → t.link.tells (.gradeRefused i c.nozzle c.grade (c.grade.elim .grade (fun x =>
            if a.grades.getLsbD (x.number - 1) = false then .grade
            else if s.prices.lookup (s.prices.sideGeneration.get i) x a.level = 0 then .price
            else if (s.display.get i).dark = true then .dark else .save)))) ∧
          told t ∧ OnlyChanges [.fill i, .port i, .link] s t) ∧
        (∀ x, c.grade = some x → allowed x → s.estopInput = false → s.supplyFailInput = false →
          ∃ t, exec (.nozzleHangUp i n) s = .next t ∧ t.sideState i = .starting ∧ (t.fill.get i).nozzles = hung ∧
            (t.fill.get i).counted = k ∧ (t.fill.get i).slot = some { a with phase := .inUse } ∧
            (t.fill.get i).sale = some
              { number := takenNumber s i, nozzle := c.nozzle, grade := x, source := a.source, reference := a.reference
                limit := a.limit, level := a.level, start := s.stamp, stop := none, ended := none, running := true } ∧
            told t ∧
            OnlyChanges (frame ++ [.register, .figures i, .sideMeters i, .meter { side := i, product := .lo },
              .meter { side := i, product := .hi }, .motor .lo, .motor .hi]) s t)))

/-- AUTHORIZE is checked in its order: grades, level and limit (a side, a level and a limit kind outside their codes are BAD_VALUE, the model's
deduction for the side and the kind, notes/assumptions/28.md), then the part mode, the slot, the side state and the stack; accepted at an
IDLE side, the authorization enters the slot WAITING with its limit clamped, its timer starts unless the timeout is 0, and the side is
AUTHORIZED. Accepted at a CALLING side it tests the counted nozzle's lift: allowed, the side enters STARTING with the authorization
IN_USE and a sale under its next free number (R93); refused for its grade, its price, a DARK display or an unready save slot, the first that fails, the side is AUTHORIZED with
GRADE_REFUSED (R51, R53, R55). CANCEL_AUTH and the timer's expiry remove a WAITING authorization and take the side to CALLING or IDLE by its
nozzle record; CANCEL_AUTH is NOT_FOUND for an empty slot and WRONG_STATE for one in use (R54).
That an expiry command acts while its timer runs, and on a stopped timer does nothing, is the model's choice (notes/assumptions/2.md). -/
def Obligations.AuthorizationsEnterAndLeaveTheSlot : Prop :=
  ∀ (tag : Nat) (i : Side) (s : State), Settled s →
    let f := s.fill.get i
    let frame : List Block := [.fill i, .blend i, .valves i, .display i, .link]
    (Free s → ∀ x : AuthorizeFields, 2 ≤ x.side ∨ x.grades = 0 ∨ x.level ≠ 1 ∧ x.level ≠ 2 ∨ (∃ y ∈ x.limit, 2 ≤ y.kind) →
      exec (.authorize tag (.fields x)) s = .next (s.replied Kind.authorize tag .badValue [])) ∧
    (∀ (reference : Option Nat) (grades : BitVec 8) (l : Level) (limit : Option LimitFields), Free s →
      (∀ y ∈ limit, y.kind ≤ 1) →
      let c : Instr := .authorize tag (.fields
        { side := Side.number i, reference := reference, grades := grades, level := Level.number l, limit := limit })
      let lim : Option Limit := limit.map (fun y =>
        { kind := if y.kind = 0 then .money else .volume, value := max 100 (min y.value 999000) })
      let night : Prop := s.power.mode = .night ∨ s.power.mode = .nightPending
      let full : Prop := s.params.stackDepth ≤ (s.register.queues.get i).length
      (grades = 0 → exec c s = .next (s.replied Kind.authorize tag .badValue [])) ∧
      (grades ≠ 0 → night → exec c s = .next (s.replied Kind.authorize tag .night [])) ∧
      (grades ≠ 0 → ¬night → f.slot ≠ none → exec c s = .next (s.replied Kind.authorize tag .alreadyAuthorized [])) ∧
      (grades ≠ 0 → ¬night → f.slot = none → f.state ≠ .idle → f.state ≠ .calling →
        exec c s = .next (s.replied Kind.authorize tag .wrongState [])) ∧
      (grades ≠ 0 → ¬night → f.slot = none → (f.state = .idle ∨ f.state = .calling) → full →
        exec c s = .next (s.replied Kind.authorize tag .stackFull [])) ∧
      (grades ≠ 0 → ¬night → f.slot = none → f.state = .idle → ¬full → ∃ t, exec c s = .next t ∧
        t.fill.get i = { f with
          state := .authorized
          slot := some { source := .link, reference := reference, grades := grades, level := l, limit := lim, phase := .waiting
                         acceptedAt := s.stamp }
          authTimer := if s.params.authTimeout.toNat = 0 then none else some (s.params.authTimeout.toNat * 1000)
          noFlowTimer := none, quietTimer := none, afterFlowTimer := none } ∧
        t.link.answers Kind.authorize tag .ok (optional limitField lim) ∧
        (Room 2 s → t.link.tells (.authEvent i .link reference .accepted)) ∧ OnlyChanges frame s t) ∧
      (∀ n g, grades ≠ 0 → ¬night → f.slot = none → f.state = .calling → ¬full →
        f.counted = some { nozzle := n, grade := some g } →
        let a : Auth := { source := .link, reference := reference, grades := grades, level := l, limit := lim, phase := .waiting
                          acceptedAt := s.stamp }
        let refused : Option LiftRefusal :=
          if grades.getLsbD (g.number - 1) = false then some .grade
          else if s.prices.lookup (s.prices.sideGeneration.get i) g l = 0 then some .price
          else if (s.display.get i).dark = true then some .dark
          else if (s.store.slots.get i).state ≠ .erased then some .save else none
        (∀ r, refused = some r → ∃ t, exec c s = .next t ∧
          t.fill.get i = { f with
            state := .authorized, slot := some a
            authTimer := if s.params.authTimeout.toNat = 0 then none else some (s.params.authTimeout.toNat * 1000)
            noFlowTimer := none, quietTimer := none, afterFlowTimer := none } ∧
          t.link.answers Kind.authorize tag .ok (optional limitField lim) ∧
          (Room 3 s → t.link.tells (.authEvent i .link reference .accepted) ∧ t.link.tells (.gradeRefused i n (some g) r)) ∧
          OnlyChanges frame s t) ∧
        (refused = none → s.estopInput = false → s.supplyFailInput = false → s.GivesNumber i (takenNumber s i) ∧ ∃ t, exec c s = .next t ∧
          t.sideState i = .starting ∧ (t.fill.get i).slot = some { a with phase := .inUse } ∧ (t.fill.get i).authTimer = none ∧
          (t.fill.get i).sale = some
            { number := takenNumber s i, nozzle := n, grade := g, source := .link, reference := reference, limit := lim, level := l
              start := s.stamp, stop := none, ended := none, running := true } ∧
          t.link.answers Kind.authorize tag .ok (optional limitField lim) ∧
          (Room 3 s → t.link.tells (.authEvent i .link reference .accepted) ∧ t.link.tells (.authEvent i .link reference .inUse)) ∧
          OnlyChanges
            (frame ++ [.register, .figures i, .sideMeters i, .meter { side := i, product := .lo },
              .meter { side := i, product := .hi }, .motor .lo, .motor .hi]) s t))) ∧
    (∀ a : Auth, f.slot = some a → a.phase = .waiting → f.state = .authorized →
      let left : Fill := { f with
        state := if f.counted.any (fun c => c.grade.isSome) then .calling else .idle
        slot := none, authTimer := none, noFlowTimer := none, quietTimer := none, afterFlowTimer := none }
      (Free s → ∃ t, exec (.cancelAuth tag (.fields (Side.number i))) s = .next t ∧ t.fill.get i = left ∧
        t.link.answers Kind.cancelAuth tag .ok [] ∧
        (Room 2 s → t.link.tells (.authEvent i a.source a.reference (.removed .cancelled))) ∧
        OnlyChanges (.port i :: frame) s t) ∧
      (f.authTimer ≠ none → ∃ t, exec (.authorizationTimerExpiry i) s = .next t ∧ t.fill.get i = left ∧
        (Room 2 s → t.link.tells (.authEvent i a.source a.reference (.removed .expired))) ∧
        OnlyChanges (.port i :: frame) s t)) ∧
    (f.authTimer = none → exec (.authorizationTimerExpiry i) s = .next s) ∧
    (Free s → f.slot = none →
      exec (.cancelAuth tag (.fields (Side.number i))) s = .next (s.replied Kind.cancelAuth tag .notFound [])) ∧
    (Free s → ∀ a : Auth, f.slot = some a → a.phase = .inUse →
      exec (.cancelAuth tag (.fields (Side.number i))) s = .next (s.replied Kind.cancelAuth tag .wrongState []))

/-- An allowed lift at an AUTHORIZED side is STARTING entry: the sale context is opened under the side's next free sale number, the figures are
opened at the price of the side's generation, the sale accumulators, the fill phase error count and the raised marks are zeroed, the
authorization is IN_USE without a timer, the products the grade needs are demanded, and an idle motor begins to prime or, with no prime
delay, runs. The figures have as target the limit of a VOLUME authorization, or the volume at which a MONEY limit is met and no more, at most
999,000 cL, and none without a limit; their slow point is the target less the slow-down volume, where that lies below the target. A lift refused
for its grade, its price, a DARK display or an unready save slot, the first that fails, leaves the side AUTHORIZED with GRADE_REFUSED. Either is
reported to the host and to an ADMITTED reader (R18, R23, R24, R25, R42, R49, R51, R55, R65, R77, R93, R149). -/
def Obligations.AnAllowedLiftStartsTheFill : Prop :=
  ∀ (i : Side) (n : Nozzle) (a : Auth) (g : Grade) (s : State), Settled s →
    let f := s.fill.get i
    f.state = .authorized → f.slot = some a → f.nozzles.get n = .hung → f.counted = none → f.map.get n = some g →
    ¬(s.power.mode = .night ∧ s.params.wakeOnNozzle ≠ 0) →
    let p := s.prices.lookup (s.prices.sideGeneration.get i) g a.level
    let e := s.grades.get g
    let number := takenNumber s i
    let needs : Product → Prop := fun q => match q with | .lo => e.share ≠ 1000 | .hi => e.share ≠ 0
    let delay := s.params.primeDelay.toNat
    let target : Option Nat := a.limit.map (fun l =>
      match l.kind with
      | .volume => l.value
      | .money => min 999000 ((l.value * 1000 + 499) / p))
    let slowDown : Nat := match i with | .a => s.params.slowDownA.toNat | .b => s.params.slowDownB.toNat
    let slow : Option Nat := target.bind (fun v => if slowDown < v then some (v - slowDown) else none)
    let told (t : State) : Prop :=
      (Room 4 s → t.link.tells (.nozzle i n (some g) true)) ∧
        ((s.ports.get i).state = .admitted → (t.ports.get i).tellsNozzle { nozzle := n, grade := some g, up := true })
    (a.grades.getLsbD (g.number - 1) = true → p ≠ 0 → (s.display.get i).dark = false →
      (s.store.slots.get i).state = .erased → s.estopInput = false → s.supplyFailInput = false → s.GivesNumber i number ∧
      ∃ t, exec (.nozzleLift i n) s = .next t ∧
        t.sideState i = .starting ∧ (t.fill.get i).nozzles = f.nozzles.set n .up ∧
        (t.fill.get i).counted = some { nozzle := n, grade := some g } ∧
        (t.fill.get i).slot = some { a with phase := .inUse } ∧ (t.fill.get i).authTimer = none ∧
        (t.fill.get i).sale = some
          { number := number, nozzle := n, grade := g, source := a.source, reference := a.reference, limit := a.limit
            level := a.level, start := s.stamp, stop := none, ended := none, running := true } ∧
        t.register = { s.register with next := s.register.next.set i (if 9999 ≤ number then 1 else number + 1) } ∧
        (t.figures.get i).volume = 0 ∧ (t.figures.get i).displayed = 0 ∧ (t.figures.get i).money = 0 ∧
        (t.figures.get i).clamped = false ∧
        (t.figures.get i).opened.map (fun o => (o.price, o.level, o.generation, o.limit)) =
          some (p, a.level, s.prices.sideGeneration.get i, a.limit) ∧
        (t.figures.get i).opened.map (fun o => (o.target, o.slowPoint)) = some (target, slow) ∧
        (t.figures.get i).slowPassed = false ∧ (t.figures.get i).targetReached = false ∧ (t.figures.get i).limitReached = false ∧
        (t.meters.get i).lo = { (s.meters.get i).lo with sale := 0 } ∧ (t.meters.get i).hi = { (s.meters.get i).hi with sale := 0 } ∧
        t.sideMeters.get i = { s.sideMeters.get i with fillErrors := 0, pulserRaised := false, reverseRaised := false } ∧
        (t.blend.get i).copy = some e ∧ t.valves.get i = { lo := 0, hi := 0 } ∧
        (∀ q, needs q → (t.fill.get i).demand.get q = true) ∧
        (∀ q, ¬needs q → (t.fill.get i).demand.get q = f.demand.get q ∧ t.motors.get q = s.motors.get q) ∧
        (∀ q, needs q → (s.motors.get q).state = .off →
          (delay ≠ 0 → t.motors.get q = { state := .priming, relay := true, primeTimer := some delay }) ∧
          (delay = 0 → t.motors.get q = { state := .running, relay := true, primeTimer := none })) ∧
        (∀ q, needs q → (s.motors.get q).state ≠ .off → t.motors.get q = s.motors.get q) ∧
        ((s.display.get i).controller = .showing → (t.display.get i).controller = .testing) ∧
        (Room 4 s → t.link.tells (.authEvent i a.source a.reference .inUse)) ∧ told t ∧
        OnlyChanges [.fill i, .blend i, .valves i, .display i, .port i, .link, .register, .figures i, .sideMeters i,
          .meter { side := i, product := .lo }, .meter { side := i, product := .hi }, .motor .lo, .motor .hi] s t) ∧
    (∀ r,
      (a.grades.getLsbD (g.number - 1) = false ∧ r = .grade ∨
        a.grades.getLsbD (g.number - 1) = true ∧ p = 0 ∧ r = .price ∨
        a.grades.getLsbD (g.number - 1) = true ∧ p ≠ 0 ∧ (s.display.get i).dark = true ∧ r = .dark ∨
        a.grades.getLsbD (g.number - 1) = true ∧ p ≠ 0 ∧ (s.display.get i).dark = false ∧
          (s.store.slots.get i).state ≠ .erased ∧ r = .save) →
      ∃ t, exec (.nozzleLift i n) s = .next t ∧
        t.fill.get i = { f with nozzles := f.nozzles.set n .up, counted := some { nozzle := n, grade := some g } } ∧
        (Room 4 s → t.link.tells (.gradeRefused i n (some g) r)) ∧ told t ∧ OnlyChanges [.fill i, .port i, .link] s t)

/-- PRIME_EXPIRY makes a PRIMING motor RUNNING. A side in STARTING whose display test is done and whose every needed motor then runs leaves
STARTING by its figures: HELD at its target or at LIMIT, else SLOWING with a target that has no slow point ahead, else FLOWING; an open
side's no-flow timer starts, and the valve of a pure grade opens at the main or the slow duty, those of a blended grade at the main
duty and at the start duty within it (R25, R56, R58, R66, R67, R78).
That an expiry command acts while its timer runs, and on a stopped timer does nothing, is the model's choice (notes/assumptions/2.md). -/
def Obligations.PrimingEndsAndTheFillFlows : Prop :=
  ∀ (p : Product) (s : State), Settled s →
    let m := s.motors.get p
    (m.primeTimer = none → exec (.primeExpiry p) s = .next s) ∧
    (m.primeTimer ≠ none → (∀ i, s.sideState i ≠ .starting) →
      exec (.primeExpiry p) s = .next (s.setMotor p { m with state := .running, primeTimer := none })) ∧
    (∀ (i : Side) (e : GradeEntry), m.primeTimer ≠ none → s.sideState i = .starting → s.sideState i.other ≠ .starting →
      (s.fill.get i).testDone = true → (s.blend.get i).copy = some e → e.needs p = true →
      (e.needs p.other = true → (s.motors.get p.other).state = .running) →
      ∃ t, exec (.primeExpiry p) s = .next t ∧ t.motors.get p = { m with state := .running, primeTimer := none } ∧
        OnlyChanges [.motor p, .fill i, .blend i, .valves i, .display i, .link] s t ∧
        let g := s.figures.get i
        let target := g.opened.bind (fun o => o.target)
        let slow := g.opened.bind (fun o => o.slowPoint)
        let main := s.params.mainDuty.toNat
        let slowing : Prop := target ≠ none ∧ (slow = none ∨ g.slowPassed = true)
        (g.targetReached = true → t.sideState i = .held ∧ t.valves.get i = { lo := 0, hi := 0 } ∧
          (t.fill.get i).sale = (s.fill.get i).sale.map (fun c => { c with stop := some .target })) ∧
        (g.targetReached = false → g.limitReached = true → t.sideState i = .held ∧ t.valves.get i = { lo := 0, hi := 0 } ∧
          (t.fill.get i).sale = (s.fill.get i).sale.map (fun c => { c with stop := some .limit })) ∧
        (g.targetReached = false → g.limitReached = false →
          (t.fill.get i).noFlowTimer = some (s.params.noFlowTimeout.toNat * 1000) ∧ (t.fill.get i).sale = (s.fill.get i).sale ∧
          (slowing → t.sideState i = .slowing ∧ ∀ q, (t.valves.get i).get q = if e.needs q then s.params.slowDuty.toNat else 0) ∧
          (¬slowing → t.sideState i = .flowing ∧
            (e.share = 0 → t.valves.get i = { lo := main, hi := 0 }) ∧ (e.share = 1000 → t.valves.get i = { lo := 0, hi := main }) ∧
            (e.share ≠ 0 → e.share ≠ 1000 → (s.blend.get i).duty = none →
              ((s.blend.get i).trimmed = some .hi → t.valves.get i = { lo := main, hi := min e.startDuty main }) ∧
              ((s.blend.get i).trimmed = some .lo → t.valves.get i = { lo := min e.startDuty main, hi := main })))))

/-- SUSPEND, STOP_FILL and the expiry of the no-flow timer take a FLOWING or SLOWING side to HELD with their stop reasons, its valves
closed and its no-flow timer stopped; STOP_FILL ends a side in STARTING, makes a suspended hold final, and leaves any other hold and
ENDING as they are; RESUME takes a suspended side on by its figures. Elsewhere these requests are WRONG_STATE, and a stopped no-flow
timer does not expire (R56, R58, R59, R60).
That an expiry command acts while its timer runs, and on a stopped timer does nothing, is the model's choice (notes/assumptions/2.md). -/
def Obligations.StopsHoldTheFill : Prop :=
  ∀ (tag : Nat) (i : Side) (s : State), Settled s →
    let f := s.fill.get i
    let opened := f.state.isOpen = true
    let frame : List Block := [.fill i, .blend i, .valves i, .display i, .link]
    let stopped (r : StopReason) : Option SaleContext := f.sale.map (fun c => { c with stop := some r })
    let held (r : StopReason) : Fill :=
      { f with state := .held, sale := stopped r, noFlowTimer := none, quietTimer := none, afterFlowTimer := none }
    let suspended : Prop := f.sale.bind (fun c => c.stop) = some .suspend
    (opened → f.noFlowTimer ≠ none → ∃ t, exec (.noFlowExpiry i) s = .next t ∧ t.fill.get i = held .noFlow ∧
      t.valves.get i = { lo := 0, hi := 0 } ∧ t.blend.get i = { s.blend.get i with window := none } ∧ OnlyChanges frame s t) ∧
    (¬opened ∨ f.noFlowTimer = none → exec (.noFlowExpiry i) s = .next s) ∧
    (Free s →
      (opened → ∃ t, exec (.suspend tag (.fields (Side.number i))) s = .next t ∧ t.fill.get i = held .suspend ∧
        t.valves.get i = { lo := 0, hi := 0 } ∧ t.blend.get i = { s.blend.get i with window := none } ∧
        t.link.answers Kind.suspend tag .ok (num 1 SideState.held.code) ∧ OnlyChanges frame s t) ∧
      (¬opened → exec (.suspend tag (.fields (Side.number i))) s = .next (s.replied Kind.suspend tag .wrongState [])) ∧
      (opened → ∃ t, exec (.stopFill tag (.fields (Side.number i))) s = .next t ∧ t.fill.get i = held .commandStop ∧
        t.valves.get i = { lo := 0, hi := 0 } ∧ t.blend.get i = { s.blend.get i with window := none } ∧
        t.link.answers Kind.stopFill tag .ok (num 1 SideState.held.code) ∧ OnlyChanges frame s t) ∧
      (f.state = .starting → ∃ t, exec (.stopFill tag (.fields (Side.number i))) s = .next t ∧ t.sideState i = .ending ∧
        (t.fill.get i).sale = f.sale.map (fun c => { c with stop := some .commandStop, ended := some .cancelled }) ∧
        (t.fill.get i).quietTimer = some s.params.quietTime.toNat ∧ (t.fill.get i).afterFlowTimer = some 10000 ∧
        t.link.answers Kind.stopFill tag .ok (num 1 SideState.ending.code) ∧ OnlyChanges frame s t) ∧
      (f.state = .held → suspended → exec (.stopFill tag (.fields (Side.number i))) s =
        .next ((s.replied Kind.stopFill tag .ok (num 1 SideState.held.code)).setFill i { f with sale := stopped .commandStop })) ∧
      (f.state = .ending ∨ (f.state = .held ∧ ¬suspended) → exec (.stopFill tag (.fields (Side.number i))) s =
        .next (s.replied Kind.stopFill tag .ok (num 1 f.state.code))) ∧
      (f.state.isFill = false →
        exec (.stopFill tag (.fields (Side.number i))) s = .next (s.replied Kind.stopFill tag .wrongState [])) ∧
      (f.state = .held → suspended → ∃ t, exec (.resume tag (.fields (Side.number i))) s = .next t ∧
        t.link.answers Kind.resume tag .ok (num 1 (t.sideState i).code) ∧ OnlyChanges frame s t ∧
        let g := s.figures.get i
        let target := g.opened.bind (fun o => o.target)
        let slow := g.opened.bind (fun o => o.slowPoint)
        (g.targetReached = true → t.sideState i = .held ∧ (t.fill.get i).sale = stopped .target) ∧
        (g.targetReached = false → g.limitReached = true → t.sideState i = .held ∧ (t.fill.get i).sale = stopped .limit) ∧
        (g.targetReached = false → g.limitReached = false →
          (t.fill.get i).sale = f.sale.map (fun c => { c with stop := none }) ∧
          (t.fill.get i).noFlowTimer = some (s.params.noFlowTimeout.toNat * 1000) ∧
          (target ≠ none ∧ (slow = none ∨ g.slowPassed = true) → t.sideState i = .slowing) ∧
          (¬(target ≠ none ∧ (slow = none ∨ g.slowPassed = true)) → t.sideState i = .flowing))) ∧
      (f.state ≠ .held ∨ ¬suspended →
        exec (.resume tag (.fields (Side.number i))) s = .next (s.replied Kind.resume tag .wrongState [])))

/-- END_SALE and the hang-up of the counted nozzle take a side in STARTING, FLOWING, SLOWING or HELD to ENDING with their end reasons: the
valves are closed, and the quiet timer and the after-flow timer start. Elsewhere END_SALE is WRONG_STATE; in ENDING a hang-up changes
the nozzle record, and the state and the end reason stay. The lowest-numbered other nozzle that is up and not spent takes over the count. A
hang-up, and the lift of a nozzle that takes over, queue NOZZLE and are pending or in transmission at an ADMITTED reader (R49, R61, R63, R149).
That a suspended hold so ended keeps SUSPEND as its stop reason is the model's choice (notes/assumptions/46.md). -/
def Obligations.EndsTakeTheFillToEnding : Prop :=
  ∀ (tag : Nat) (i : Side) (s : State), Settled s →
    let f := s.fill.get i
    let frame : List Block := [.fill i, .blend i, .valves i, .display i, .link]
    let endedBy (r : EndReason) : Fill :=
      { f with
        state := .ending, sale := f.sale.map (fun c => { c with ended := some r }), noFlowTimer := none
        quietTimer := some s.params.quietTime.toNat, afterFlowTimer := some 10000 }
    (Free s →
      (f.state.beforeEnding = true → ∃ t, exec (.endSale tag (.fields (Side.number i))) s = .next t ∧
        t.fill.get i = endedBy .commandEnd ∧ t.valves.get i = { lo := 0, hi := 0 } ∧
        t.blend.get i = { s.blend.get i with window := none } ∧ t.link.answers Kind.endSale tag .ok [] ∧ OnlyChanges frame s t) ∧
      (f.state.beforeEnding = false →
        exec (.endSale tag (.fields (Side.number i))) s = .next (s.replied Kind.endSale tag .wrongState []))) ∧
    (∀ n g k, f.nozzles.get n ≠ .hung → f.counted = some { nozzle := n, grade := g } → f.CountGoesTo n k →
      let told (t : State) : Prop :=
        (Room 3 s → t.link.tells (.nozzle i n g false) ∧ ∀ c, k = some c → t.link.tells (.nozzle i c.nozzle c.grade true)) ∧
          ((s.ports.get i).state = .admitted →
            (t.ports.get i).tellsNozzle (Counted.heardAtHangUp { nozzle := n, grade := g } k))
      (f.state.beforeEnding = true → ∃ t, exec (.nozzleHangUp i n) s = .next t ∧
        t.fill.get i = { endedBy .hungUp with nozzles := f.nozzles.set n .hung, counted := k } ∧
        t.valves.get i = { lo := 0, hi := 0 } ∧ t.blend.get i = { s.blend.get i with window := none } ∧
        told t ∧ OnlyChanges (.port i :: frame) s t) ∧
      (f.state = .ending → ∃ t, exec (.nozzleHangUp i n) s = .next t ∧
        t.fill.get i = { f with nozzles := f.nozzles.set n .hung, counted := k } ∧
        told t ∧ OnlyChanges [.fill i, .port i, .link] s t))

/-- The expiry of the quiet timer or of the after-flow timer of a side in ENDING closes its sale: the figures are final, the record joins the
tail of the side's queue unless it is empty, its volume, money and meter volumes are added to the totals modulo 10^12, a TOTALS_WRITE is queued, the side
adopts the active generation, the authorization leaves the slot, the nozzle still up is spent, the motor demand is dropped, the creep
accumulators are zeroed, and the side is IDLE or, with a closure, CLOSED. A side on the retained generation frees that bank unless the other
side is on it, and PRICE_ADOPTED tells. The empty sale of a READER enters the empty result place of the port; one that stood there unstarted
is counted discarded. The record has the final share of a blended grade and the CROSSFLOW
flag of a pure one; SALE_CLOSED carries it, with the EMPTY mark where it is empty, and AUTH_EVENT tells the authorization ENDED (R5, R41, R49,
R52, R63, R64, R66, R85, R86, R92, R97, R150).
That an expiry command acts while its timer runs (notes/assumptions/2.md), that the record of a suspended hold ended through ENDING carries
SUSPEND (46.md), what an empty sale's SALE_CLOSED carries (47.md), that a TAMPERED port drops an empty result uncounted (56.md),
PRICE_ADOPTED's mark that no retained bank remains (74.md) and that an empty result whose transmission was abandoned counts as unstarted
(80.md) are the model's choices. -/
def Obligations.ASaleClosesFromEnding : Prop :=
  ∀ (i : Side) (c : SaleContext) (why : EndReason) (command : Instr) (s : State), Settled s →
    let f := s.fill.get i
    let m := s.meters.get i
    let g := (s.figures.get i).finalize m.lo.sale m.hi.sale
    let q := s.register.queues.get i
    let lo := m.lo.sale
    let hi := m.hi.sale
    let share : Option Nat :=
      if 0 < lo + hi then
        some (max 0 (min 1000 (Int.floor ((1000 * (hi : Rat) + ((lo + hi : Int) : Rat) / 2) / ((lo + hi : Int) : Rat))))).toNat
      else none
    (command = .endingQuietExpiry i ∧ f.quietTimer ≠ none ∨ command = .afterFlowExpiry i ∧ f.afterFlowTimer ≠ none) →
    f.state = .ending → f.sale = some c → c.ended = some why → why ≠ .powerFail → s.power.mode ≠ .nightPending →
    (∀ r ∈ q, r.number ≠ c.number) →
    ∃ t, exec command s = .next t ∧
      t.figures.get i = g ∧
      (∀ a, f.slot = some a → Room 4 s → t.link.tells (.authEvent i a.source a.reference .ended)) ∧
      (g.displayed = 0 → t.register = s.register ∧ (Room 4 s → ∃ r : SaleRecord, r.number = c.number ∧ r.side = i ∧ r.volume = 0 ∧
        r.ended = why ∧ t.link.tells (.saleClosed r true))) ∧
      (g.displayed ≠ 0 → ∃ r : SaleRecord,
        t.register.queues.get i = q ++ [r] ∧
        r.number = c.number ∧ r.side = i ∧ r.nozzle = c.nozzle ∧ r.grade = c.grade ∧ r.level = c.level ∧
        r.price = g.opened.elim 0 (fun o => o.price) ∧ r.generation = g.opened.elim 0 (fun o => o.generation) ∧
        r.volume = g.displayed ∧ r.money = g.money ∧ some (r.lo, r.hi) = g.closing.map (fun x => (x.lo, x.hi)) ∧
        r.source = c.source ∧ r.reference = c.reference ∧ r.limit = c.limit ∧ r.stop = c.stop ∧ r.ended = why ∧
        r.overrun = g.closing.bind (fun x => x.overrun) ∧ some r.payable = g.closing.map (fun x => x.payable) ∧
        r.flags.clamped = g.clamped ∧ r.flags.restored = false ∧
        (r.flags.deliveryPending = true ↔ c.source = .reader ∧ (s.ports.get i).state ≠ .tampered) ∧
        (r.flags.undeliverable = true ↔ c.source = .reader ∧ (s.ports.get i).state = .tampered) ∧
        r.start = c.start ∧ r.endTime = s.stamp ∧
        (∀ e, (s.blend.get i).copy = some e →
          r.share = (if e.share = 0 ∨ e.share = 1000 then none else share) ∧
          (r.flags.crossflow = true ↔ e.share = 0 ∧ hi ≠ 0 ∨ e.share = 1000 ∧ lo ≠ 0)) ∧
        (Room 4 s → t.link.tells (.saleClosed (if c.source = .reader then
          { r with flags := { r.flags with deliveryPending := false, undeliverable := false } } else r) false)) ∧
        t.register.queues.get i.other = s.register.queues.get i.other ∧ t.register.next = s.register.next ∧
        (let x := s.register.totals
         let y := t.register.totals
         y.gradeVolume = x.gradeVolume.set c.grade ((x.gradeVolume.get c.grade + r.volume) % 1000000000000) ∧
         y.gradeMoney = x.gradeMoney.set c.grade
           ((x.gradeMoney.get c.grade).set c.level (((x.gradeMoney.get c.grade).get c.level + r.money) % 1000000000000)) ∧
         y.meterVolume = x.meterVolume.set i
           { lo := ((x.meterVolume.get i).lo + r.lo) % 1000000000000, hi := ((x.meterVolume.get i).hi + r.hi) % 1000000000000 })) ∧
      s.store.HasQueued t.store .totalsWrite ∧
      t.prices.sideGeneration.get i = s.prices.generation ∧
      (let x := s.prices
       let adopted : PerSide Nat := x.sideGeneration.set i x.generation
       (x.sideGeneration.get i = x.generation → t.prices = x) ∧
       (x.sideGeneration.get i ≠ x.generation → ∀ r, x.retained = some r → r.generation = x.sideGeneration.get i →
         let remains := if x.sideGeneration.get i.other = r.generation then some r else none
         t.prices = { x with sideGeneration := adopted, retained := remains } ∧
         (Room 4 s → t.link.tells
           (.priceAdopted x.generation (i = .a) (i = .b) (remains.map (fun y => y.generation)))))) ∧
      (let p := s.ports.get i
       (c.source ≠ .reader → t.ports.get i = p) ∧
       (c.source = .reader → p.state = .tampered → t.ports.get i = p) ∧
       (c.source = .reader → p.state ≠ .tampered → g.displayed ≠ 0 → (t.ports.get i).emptyPlace = p.emptyPlace) ∧
       (c.source = .reader → p.state ≠ .tampered → g.displayed = 0 →
         let x : SaleResult :=
           { number := c.number, reference := c.reference.getD 0, grade := c.grade, price := g.opened.elim 0 (fun o => o.price), volume := 0
             money := 0, payable := 0, overrun := false, empty := true, restored := false }
         let counters : PortCounters := { p.counters with
           discarded := p.counters.discarded + if p.emptyPlace.any (fun e => !e.sending) then 1 else 0 }
         (p.state ≠ .admitted ∨ p.tx ≠ none →
           t.ports.get i = { p with emptyPlace := some { result := x, sending := false }, counters := counters }) ∧
         (p.state = .admitted → p.tx = none → t.ports.get i =
           { p with emptyPlace := some { result := x, sending := true }, counters := counters, tx := some (.saleResult x) }))) ∧
      t.sideState i = (if f.closures.isEmpty then .idle else .closed) ∧ (t.fill.get i).closures = f.closures ∧
      (t.fill.get i).slot = none ∧ (t.fill.get i).counted = none ∧
      (t.fill.get i).nozzles = f.counted.elim f.nozzles (fun k => f.nozzles.set k.nozzle .spent) ∧
      (t.fill.get i).sale = some { c with running := false } ∧
      (t.fill.get i).quietTimer = none ∧ (t.fill.get i).afterFlowTimer = none ∧
      (∀ p, (t.fill.get i).demand.get p = false ∧
        t.motors.get p = (if f.demand.get p ∧ (s.fill.get i.other).demand.get p = false then
          { state := .off, relay := false, primeTimer := none } else s.motors.get p)) ∧
      t.valves.get i = { lo := 0, hi := 0 } ∧
      t.meters.get i = { lo := { m.lo with creep := 0, creepFired := false }, hi := { m.hi with creep := 0, creepFired := false } } ∧
      OnlyChanges [.fill i, .blend i, .valves i, .display i, .link, .register, .store, .prices, .figures i, .port i,
        .meter { side := i, product := .lo }, .meter { side := i, product := .hi }, .motor .lo, .motor .hi] s t

/-- ESTOP_ASSERT stops both motors and closes every valve, adds ESTOP to both closure sets, ends every fill before ENDING with fault ESTOP, and
takes every waiting side to CLOSED; the sides that were filling hold no demand. A second assertion and the release change nothing but
the input (R62, R68, R69).
That a second assertion does nothing is the model's deduction (notes/assumptions/3.md). -/
def Obligations.TheEmergencyStopStopsEverything : Prop :=
  ∀ s : State, Settled s →
    (exec .estopRelease s = .next { s with estopInput := false }) ∧
    (s.estopInput = true → exec .estopAssert s = .next s) ∧
    (s.estopInput = false → ∃ t, exec .estopAssert s = .next t ∧ t.estopInput = true ∧
      (∀ p, t.motors.get p = { state := .off, relay := false, primeTimer := none }) ∧
      (∀ i, t.valves.get i = { lo := 0, hi := 0 } ∧ (t.fill.get i).closures = { (s.fill.get i).closures with estop := true } ∧
        (s.filling i = true → (t.fill.get i).demand = { lo := false, hi := false } ∧ t.sideState i = .ending) ∧
        ((s.sideState i).beforeEnding = true →
          (t.fill.get i).sale = (s.fill.get i).sale.map (fun c => { c with ended := some (.fault .estop) }) ∧
          (t.fill.get i).quietTimer = some s.params.quietTime.toNat ∧ (t.fill.get i).afterFlowTimer = some 10000) ∧
        (s.sideState i = .ending → (t.fill.get i).sale = (s.fill.get i).sale) ∧
        (s.filling i = false → t.sideState i = .closed ∧
          (∀ a, (s.fill.get i).slot = some a → a.phase = .waiting → (t.fill.get i).slot = none ∧
            (Room 8 s → t.link.tells (.authEvent i a.source a.reference (.removed .closed)))))) ∧
      OnlyChanges [.estopInput, .motor .lo, .motor .hi, .fill .a, .fill .b, .valves .a, .valves .b, .blend .a, .blend .b,
        .display .a, .display .b, .port .a, .port .b, .link] s t)

/-- SUPPLY_FAIL_WARNING closes every running sale at once with POWER_FAIL, adds POWER_FAIL to both closure sets, stops both motors, closes every
valve and ends every heat want, and both sides are CLOSED. The record of a sale that is not empty joins the tail of its queue, its totals are
deferred, and a TOTALS_WRITE is queued for every closed sale. The Sale Register stands under the warning, and the save bank's waiting work
becomes that of A and then of B: an erase of a slot that is not ERASED, unless it is running, then the write of a queue that has a record.
A running operation ends first; otherwise the first begins, a write with the queue as it stands. SUPPLY_FAIL_RELEASE clears the warning,
adds the totals of every queued POWER_FAIL record that is owed them and marks it RESTORED, for which a TOTALS_WRITE is queued, removes the
waiting slot writes and erases each slot that is not ERASED; neither has an effect of its own where the input already stands so (R65, R70,
R92, R97, R98, R100, R101, R103, R115, R180, R181).
That an input which already stands so does nothing is the model's deduction (notes/assumptions/3.md). -/
def Obligations.TheSupplyFailWarningClosesEverySale : Prop :=
  ∀ s : State, Settled s →
    (s.supplyFailInput = true → exec .supplyFailWarning s = .next s) ∧
    (s.supplyFailInput = false → exec .supplyFailRelease s = .next s) ∧
    (s.supplyFailInput = false → s.power.mode ≠ .loading → s.power.mode ≠ .nightPending →
      ∃ t, exec .supplyFailWarning s = .next t ∧ t.supplyFailInput = true ∧ t.register.warning = true ∧
        t.register.totals = s.register.totals ∧ t.register.next = s.register.next ∧
        (let work (i : Side) : List SaveOp :=
          (if (s.store.slots.get i).state = .erased ∨ s.store.saving.map (fun r => r.op) = some { kind := .erase, side := i } then []
            else [{ kind := .erase, side := i }]) ++
          (if t.register.queues.get i = [] then [] else [{ kind := .write, side := i }])
         (s.store.saving ≠ none → t.store.saving = s.store.saving ∧ t.store.saveWaiting = work .a ++ work .b) ∧
         (s.store.saving = none → (t.store.saving.map (fun r => r.op)).toList ++ t.store.saveWaiting = work .a ++ work .b ∧
           (t.store.saving = none → t.store.saveWaiting = []) ∧
           ∀ r, t.store.saving = some r → r.op.kind = .write → r.records = t.register.queues.get r.op.side)) ∧
        (∀ p, t.motors.get p = { state := .off, relay := false, primeTimer := none }) ∧
        OnlyChanges [.supplyFailInput, .register, .store, .prices, .arbiter, .link, .motor .lo, .motor .hi, .fill .a, .fill .b, .valves .a,
          .valves .b, .blend .a, .blend .b, .figures .a, .figures .b, .display .a, .display .b, .port .a, .port .b,
          .meter { side := .a, product := .lo }, .meter { side := .a, product := .hi }, .meter { side := .b, product := .lo },
          .meter { side := .b, product := .hi }] s t ∧
        ∀ i, t.valves.get i = { lo := 0, hi := 0 } ∧ t.sideState i = .closed ∧ (t.display.get i).heatWant = false ∧
          (t.fill.get i).closures = { (s.fill.get i).closures with powerFail := true } ∧
          (∀ c, s.filling i = true → (s.fill.get i).sale = some c →
            (t.fill.get i).sale = some { c with ended := some .powerFail, running := false } ∧ (t.fill.get i).slot = none ∧
            s.store.HasQueued t.store .totalsWrite ∧
            (let shown := ((s.figures.get i).finalize (s.meters.get i).lo.sale (s.meters.get i).hi.sale).displayed
             (shown ≠ 0 → ∃ r : SaleRecord, r.number = c.number ∧ r.ended = .powerFail ∧ r.flags.restored = false ∧
               r ∈ t.register.queues.get i ∧
               ((∀ x ∈ s.register.queues.get i, x.number ≠ c.number) →
                 t.register.queues.get i = s.register.queues.get i ++ [r])) ∧
             (shown = 0 → t.register.queues.get i = s.register.queues.get i))) ∧
          (s.filling i = false → t.register.queues.get i = s.register.queues.get i)) ∧
    (s.supplyFailInput = true → s.power.mode ≠ .loading →
      let isOwed (r : SaleRecord) : Prop := r.ended = .powerFail ∧ r.flags.restored = false
      let owed : List SaleRecord := (s.register.queues.a ++ s.register.queues.b).filter (fun r => decide (isOwed r))
      ∃ t, exec .supplyFailRelease s = .next t ∧ t.supplyFailInput = false ∧ t.register.warning = false ∧
        (∀ i, t.fill.get i = s.fill.get i ∧ t.register.queues.get i = (s.register.queues.get i).map
          (fun r => if isOwed r then { r with flags := { r.flags with restored := true } } else r)) ∧
        s.register.totals.AddedFrom t.register.totals owed ∧ t.register.next = s.register.next ∧
        (owed ≠ [] → s.store.HasQueued t.store .totalsWrite) ∧
        (∀ i, (s.store.slots.get i).state ≠ .erased → t.store.willErase i) ∧
        (∀ o ∈ t.store.saveWaiting, o.kind = .erase) ∧
        (∀ o, t.store.saving = some o → s.store.saving = none → o.op.kind = .erase) ∧
        OnlyChanges [.supplyFailInput, .register, .store, .display .a, .display .b, .arbiter, .link, .port .a, .port .b] s t)

/-- CLOSE_SIDE adds COMMAND to the closure set: a waiting side is CLOSED and its WAITING authorization removed, a fill runs on. OPEN_SIDE
removes COMMAND, FAULT, POWER_FAIL, LEAK and DISPLAY always, ESTOP where the input is released and COLD where the display is not DARK;
with LEAK the side's creep accumulators are zeroed, and a CLOSED side whose set is empty goes to the state its nozzle record
implies. Both reply with the set that results (R5, R47, R72).
That OPEN_SIDE removes POWER_FAIL while the supply-fail warning stands too is the model's choice (notes/assumptions/48.md). -/
def Obligations.SidesOpenAndClose : Prop :=
  ∀ (tag : Nat) (i : Side) (s : State), Settled s → Free s →
    let f := s.fill.get i
    let added : Closures := { f.closures with command := true }
    let left : Closures := { f.closures with
      command := false, fault := none, powerFail := false, leak := false, display := false
      estop := f.closures.estop && s.estopInput, cold := f.closures.cold && (s.display.get i).dark }
    let zeroed (c : MeterChannel) : MeterChannel := if f.closures.leak then { c with creep := 0, creepFired := false } else c
    let frame : List Block := [.fill i, .blend i, .valves i, .display i, .link]
    (∃ t, exec (.closeSide tag (.fields (Side.number i))) s = .next t ∧ (t.fill.get i).closures = added ∧
      t.link.answers Kind.closeSide tag .ok (closureSet added) ∧
      (s.filling i = true → t.fill.get i = { f with closures := added }) ∧
      (s.filling i = false → t.sideState i = .closed ∧ ∀ a, f.slot = some a → a.phase = .waiting → (t.fill.get i).slot = none) ∧
      OnlyChanges (.port i :: frame) s t) ∧
    (∃ t, exec (.openSide tag (.fields (Side.number i))) s = .next t ∧ (t.fill.get i).closures = left ∧
      t.link.answers Kind.openSide tag .ok (closureSet left) ∧
      (s.sideState i ≠ .closed ∨ left.isEmpty = false → t.fill.get i = { f with closures := left }) ∧
      (s.sideState i = .closed → left.isEmpty = true →
        t.sideState i = if f.counted.any (fun c => c.grade.isSome) then .calling else .idle) ∧
      t.meters.get i = { lo := zeroed (s.meters.get i).lo, hi := zeroed (s.meters.get i).hi } ∧
      OnlyChanges (.meter { side := i, product := .lo } :: .meter { side := i, product := .hi } :: frame) s t)


/-! ### What the CFG region holds, and the clock -/

/-- SET_NOZZLE_MAP, SET_GRADE and SET_SCHEDULE replace what they name at once and queue a CFG_WRITE, on whose end their replies wait: a map
unless its side is in a fill state, a grade's entry unless a fill of the grade runs, both times of the schedule where each is below
86,400. SET_CLOCK sets the clock and makes it valid, and is answered at once. SET_CLASS adds an entry to the Class Table or replaces the one
of its code, drops the questions that expected a class that no longer takes answers, and queues a CFG_WRITE; DELETE_CLASS removes the entry
and the questions that expect it. A built-in code, and a new one with the table full, are CLASS_REFUSED, another code below 0x40 BAD_VALUE, and
the deletion of a code without an entry NOT_FOUND. A field out of its range is BAD_VALUE in SET_NOZZLE_MAP, SET_GRADE and SET_CLASS, an ASKS
and an ANSWER that do not go with the direction too. While LOADING, SET_SCHEDULE is WRONG_STATE, and the others but SET_CLOCK are so until the
CFG region has been read (R74, R88, R130, R131, R132, R158, R160, R161).
That SET_SCHEDULE is refused in LOADING before its times are checked is the model's deduction (notes/assumptions/19.md). -/
def Obligations.ConfigurationsAndTheClockAreSet : Prop :=
  (∀ (tag : Nat) (s : State), Settled s → Free s →
    (s.power.mode = .loading → ∀ x, exec (.setSchedule tag (.fields x)) s = .next (s.replied Kind.setSchedule tag .wrongState [])) ∧
    (s.power.mode = .loading → s.store.cfg.state = .unread →
      (∀ x, exec (.setNozzleMap tag (.fields x)) s = .next (s.replied Kind.setNozzleMap tag .wrongState [])) ∧
      (∀ x, exec (.setGrade tag (.fields x)) s = .next (s.replied Kind.setGrade tag .wrongState [])) ∧
      (∀ x, exec (.setClass tag (.fields x)) s = .next (s.replied Kind.setClass tag .wrongState [])) ∧
      (∀ x, exec (.deleteClass tag (.fields x)) s = .next (s.replied Kind.deleteClass tag .wrongState []))) ∧
    (∀ v, v < 4294967296 → exec (.setClock tag (.fields v)) s =
      .next { s.replied Kind.setClock tag .ok (num 4 v) with
        clock := { value := BitVec.ofNat 32 v, valid := true, second := some 1000 } })) ∧
  (∀ (tag : Nat) (s : State), Settled s → Free s → ¬(s.power.mode = .loading ∧ s.store.cfg.state = .unread) →
    (∀ x : NozzleMapFields, 2 ≤ x.side ∨ 9 ≤ x.n1 ∨ 9 ≤ x.n2 ∨ 9 ≤ x.n3 ∨ 9 ≤ x.n4 →
      exec (.setNozzleMap tag (.fields x)) s = .next (s.replied Kind.setNozzleMap tag .badValue [])) ∧
    (∀ x : GradeFields,
      x.grade = 0 ∨ 9 ≤ x.grade ∨ 1 ≤ x.share ∧ x.share ≤ 49 ∨ 951 ≤ x.share ∧ x.share ≠ 1000 ∨ x.startDuty = 0 ∨
        16 ≤ x.startDuty ∨ 2 ≤ x.trim →
      exec (.setGrade tag (.fields x)) s = .next (s.replied Kind.setGrade tag .badValue [])) ∧
    (∀ (i : Side) (n1 n2 n3 n4 : Option Grade),
      let c : Instr := .setNozzleMap tag (.fields
        { side := Side.number i, n1 := gradeOrNoneNumber n1, n2 := gradeOrNoneNumber n2, n3 := gradeOrNoneNumber n3
          n4 := gradeOrNoneNumber n4 })
      (s.filling i = true → exec c s = .next (s.replied Kind.setNozzleMap tag .wrongState [])) ∧
      (s.filling i = false → ∃ t, exec c s = .next t ∧
        t.fill.get i = { s.fill.get i with map := { n1 := n1, n2 := n2, n3 := n3, n4 := n4 } } ∧
        t.link = s.link.holding Kind.setNozzleMap tag [] ∧ t.store.willServe .cfgWrite ∧
        OnlyChanges [.fill i, .store, .link] s t)) ∧
    (∀ (g : Grade) (e : GradeEntry), 1 ≤ e.startDuty → e.startDuty ≤ 15 →
      (e.share = 0 ∨ (50 ≤ e.share ∧ e.share ≤ 950) ∨ e.share = 1000) →
      let c : Instr := .setGrade tag (.fields
        { grade := Grade.number g, share := e.share, startDuty := e.startDuty, trim := if e.trim then 1 else 0 })
      let busy : Prop := ∃ i x, s.filling i = true ∧ (s.fill.get i).sale = some x ∧ x.grade = g
      (busy → exec c s = .next (s.replied Kind.setGrade tag .wrongState [])) ∧
      (¬busy → ∃ t, exec c s = .next t ∧ t.grades = s.grades.set g e ∧
        t.link = s.link.holding Kind.setGrade tag [] ∧ t.store.willServe .cfgWrite ∧ OnlyChanges [.grades, .store, .link] s t)) ∧
    (∀ nightAt wakeAt : Option Nat, s.power.mode ≠ .loading →
      let c : Instr := .setSchedule tag (.fields { nightAt := nightAt, wakeAt := wakeAt })
      let good : Prop := (∀ x ∈ nightAt, x < 86400) ∧ ∀ x ∈ wakeAt, x < 86400
      (¬good → exec c s = .next (s.replied Kind.setSchedule tag .badValue [])) ∧
      (good → ∃ t, exec c s = .next t ∧ t.power = { s.power with nightAt := nightAt, wakeAt := wakeAt } ∧
        t.link = s.link.holding Kind.setSchedule tag [] ∧ t.store.willServe .cfgWrite ∧ OnlyChanges [.power, .store, .link] s t))) ∧
  (∀ (tag : Nat) (s : State), Settled s → Free s → ¬(s.power.mode = .loading ∧ s.store.cfg.state = .unread) →
    (∀ (e : ClassEntry), 0x40 ≤ e.code → e.code ≤ 0xFF → e.maxBody ≤ 200 → 1 ≤ e.weight → e.weight ≤ 4 →
      (∀ a ∈ e.asks, e.direction ≠ .readerToLink ∧ 0x40 ≤ a ∧ a ≤ 0xFF ∧ a ≠ e.code) →
      (e.answer = true → e.direction ≠ .linkToReader) →
      let c : Instr := .setClass tag (.fields
        { code := e.code, direction := e.direction.code, maxBody := e.maxBody, weight := e.weight
          essential := if e.essential then 1 else 0, asks := e.asks, answer := if e.answer then 1 else 0 })
      let old := lookupClass s.classes e.code
      (old = none → 14 ≤ s.classes.length → exec c s = .next (s.replied Kind.setClass tag .classRefused [])) ∧
      (old ≠ none ∨ s.classes.length < 14 → ∃ t, exec c s = .next t ∧
        lookupClass t.classes e.code = some e ∧
        (∀ code, code ≠ e.code → lookupClass t.classes code = lookupClass s.classes code) ∧
        t.conversations =
          (if (∃ x, old = some x ∧ x.answer = true ∧ x.direction ≠ .linkToReader) ∧ e.answer = false then
            s.conversations.filter (fun x => x.answer ≠ e.code) else s.conversations) ∧
        t.link = s.link.holding Kind.setClass tag [] ∧ t.store.willServe .cfgWrite ∧
        OnlyChanges [.classes, .conversations, .store, .link] s t)) ∧
    (∀ x : ClassFields, x.code ∈ Cls.builtIn →
      exec (.setClass tag (.fields x)) s = .next (s.replied Kind.setClass tag .classRefused [])) ∧
    (∀ x : ClassFields, x.code ∉ Cls.builtIn →
      (x.code < 0x40 ∨ 0xFF < x.code ∨ 3 ≤ x.direction ∨ 200 < x.maxBody ∨ x.weight = 0 ∨ 5 ≤ x.weight ∨ 2 ≤ x.essential ∨
        2 ≤ x.answer ∨ (∃ y ∈ x.asks, x.direction = Direction.readerToLink.code ∨ y < 0x40 ∨ 0xFF < y ∨ y = x.code) ∨
        x.answer = 1 ∧ x.direction = Direction.linkToReader.code) →
      exec (.setClass tag (.fields x)) s = .next (s.replied Kind.setClass tag .badValue [])) ∧
    (∀ code,
      let c : Instr := .deleteClass tag (.fields code)
      (code ∈ Cls.builtIn → exec c s = .next (s.replied Kind.deleteClass tag .classRefused [])) ∧
      (code ∉ Cls.builtIn → code < 0x40 → exec c s = .next (s.replied Kind.deleteClass tag .badValue [])) ∧
      (0x40 ≤ code → lookupClass s.classes code = none → exec c s = .next (s.replied Kind.deleteClass tag .notFound [])) ∧
      (0x40 ≤ code → lookupClass s.classes code ≠ none → ∃ t, exec c s = .next t ∧
        t.classes = s.classes.filter (fun e => e.code ≠ code) ∧
        t.conversations = s.conversations.filter (fun x => x.answer ≠ code) ∧
        t.link = s.link.holding Kind.deleteClass tag [] ∧ t.store.willServe .cfgWrite ∧
        OnlyChanges [.classes, .conversations, .store, .link] s t)))


/-! ### Display heads and heating -/

/-- REFRESH_EXPIRY of a SHOWING controller restarts the timer, and sends the current frame where nothing is in flight and it differs from the
last frame whose transfer ended. A matching echo confirms the transfer, and a frame that is owed goes at once; an echo that does not match
and the expiry of the echo timer send the same frame again, and on the retry fail the transfer, which outside a fill closes the side with
DISPLAY and a FAULT notice, unless DISPLAY stands, and before ENDING is a fill fault DISPLAY that ends the fill; in ENDING it changes nothing
of the fill. An echo with nothing in flight is counted stray. A change of the side's state while the controller is SHOWING, here by
SUSPEND, sends the current frame at once, or leaves it owed while a transfer is in flight (R62, R109, R110).
That an expiry command acts while its timer runs, and on a stopped timer does nothing, is the model's choice (notes/assumptions/2.md); the
layout of the FAULT notice is its deduction (notes/assumptions/21.md). -/
def Obligations.FramesAreSentEchoedAndRetried : Prop :=
  ∀ (i : Side) (sum : Byte) (s : State), Settled s →
    let d := s.display.get i
    let interval := s.params.refreshInterval.toNat
    (d.controller = .showing → d.refreshTimer ≠ none →
      (d.transfer = none → d.last.map (fun e => e.frame) ≠ some (currentFrame s i) →
        exec (.refreshExpiry i) s = .next (s.setDisplay i
          { d with
            refreshTimer := some interval, transfer := some { frame := currentFrame s i, retry := false }
            echoTimer := some 20, sent := d.sent + 1 })) ∧
      (d.transfer ≠ none ∨ d.last.map (fun e => e.frame) = some (currentFrame s i) →
        exec (.refreshExpiry i) s = .next (s.setDisplay i { d with refreshTimer := some interval }))) ∧
    (d.controller ≠ .showing ∨ d.refreshTimer = none → exec (.refreshExpiry i) s = .next s) ∧
    (d.transfer = none →
      exec (.displayEcho i sum) s = .next (s.setDisplay i { d with stray := d.stray + 1 }) ∧ exec (.echoTimeout i) s = .next s) ∧
    (d.echoTimer = none → exec (.echoTimeout i) s = .next s) ∧
    (∀ x, d.transfer = some x →
      (sum = x.frame.sumCheck → d.controller = .showing →
        let ended : Display := { d with transfer := none, echoTimer := none, last := some { frame := x.frame, confirmed := true } }
        (d.sendOwed = false → exec (.displayEcho i sum) s = .next (s.setDisplay i ended)) ∧
        (d.sendOwed = true → exec (.displayEcho i sum) s = .next (s.setDisplay i
          { ended with
            sendOwed := false, transfer := some { frame := currentFrame s i, retry := false }
            echoTimer := some 20, sent := d.sent + 1 }))) ∧
      (∀ command, (command = .displayEcho i sum ∧ sum ≠ x.frame.sumCheck ∨ command = .echoTimeout i ∧ d.echoTimer ≠ none) →
        (x.retry = false → exec command s = .next (s.setDisplay i
          { d with
            transfer := some { frame := x.frame, retry := true }, echoTimer := some 20, retries := d.retries + 1
            sent := d.sent + 1 })) ∧
        (x.retry = true → d.controller = .showing → s.filling i = false → (s.fill.get i).closures.display = false →
          ∃ t, exec command s = .next t ∧
            (t.display.get i).last = some { frame := x.frame, confirmed := false } ∧ (t.display.get i).failed = d.failed + 1 ∧
            (t.fill.get i).closures = { (s.fill.get i).closures with display := true } ∧ t.sideState i = .closed ∧
            (Room 4 s → t.link.tells (.fault (some i) .display none none none none)) ∧
            OnlyChanges [.display i, .fill i, .blend i, .valves i, .port i, .link] s t) ∧
        (x.retry = true → d.controller = .showing →
          let f := s.fill.get i
          let lost (t : State) : Prop :=
            (t.display.get i).last = some { frame := x.frame, confirmed := false } ∧ (t.display.get i).failed = d.failed + 1
          (f.state.beforeEnding = true → ∃ t, exec command s = .next t ∧ lost t ∧ t.sideState i = .ending ∧
            (t.fill.get i).closures = { f.closures with fault := some .display } ∧
            (t.fill.get i).sale = f.sale.map (fun c => { c with ended := some (.fault .display) }) ∧
            (t.fill.get i).quietTimer = some s.params.quietTime.toNat ∧ (t.fill.get i).afterFlowTimer = some 10000 ∧
            t.valves.get i = { lo := 0, hi := 0 } ∧
            (Room 4 s → t.link.tells (.fault (some i) .display none (f.sale.map (fun c => c.number)) none none)) ∧
            OnlyChanges [.display i, .fill i, .blend i, .valves i, .link] s t) ∧
          (f.state = .ending ∨ s.filling i = false ∧ f.closures.display = true → ∃ t, exec command s = .next t ∧ lost t ∧
            OnlyChanges [.display i] s t)))) ∧
    (∀ tag, Free s → d.controller = .showing → (s.sideState i).isOpen = true →
      ∃ t, exec (.suspend tag (.fields (Side.number i))) s = .next t ∧ t.sideState i = .held ∧
        (d.transfer = none → t.display.get i =
          { d with
            sendOwed := false, transfer := some { frame := currentFrame t i, retry := false }, echoTimer := some 20
            sent := d.sent + 1 }) ∧
        (d.transfer ≠ none → t.display.get i = { d with sendOwed := true }))

/-- A phase of a running display test that ends makes the next phase's frame due, and it is sent, with the phase's time, when nothing is in
flight, at once or at the echo that confirms the frame before. The end of the last phase with nothing in flight, or the echo that confirms its
last frame, ends the test: the controller shows the side again and sends its frame, and the report goes to the CHECK stage, or to the side in
STARTING, which leaves it by its figures once its motors run. A transfer that fails ends the test too: a fill test's is a fill fault DISPLAY, and
a check test's closes the side with DISPLAY and reports (R56, R62, R107, R109, R110, R111, R112, R168).
That an expiry command acts while its timer runs, and on a stopped timer does nothing (notes/assumptions/2.md), and that the indicators of an ALL
or a BLANK frame are unlit and its decimal position is 0 (notes/assumptions/55.md) are the model's choices; the layout of the FAULT notice
(notes/assumptions/21.md) and the order of report and frame (notes/assumptions/54.md) are its deductions. -/
def Obligations.DisplayTestsRunThroughTheirPhases : Prop :=
  ∀ (i : Side) (s : State), Settled s →
    let d := s.display.get i
    let f := s.fill.get i
    let p := s.sidePower.get i
    let picture (phase : TestPhase) : Frame :=
      match phase with
      | .all => plainFrame .all
      | .blank => plainFrame .blank
      | .audit => { plainFrame .normal with volume := s.store.audit, decimal := s.params.decimalPosition.toNat }
    let time (phase : TestPhase) : Nat := if phase = .blank then 300 else 1000
    let shown (t : State) : Prop :=
      (t.display.get i).controller = .showing ∧ (t.display.get i).test = none ∧
        (t.display.get i).transfer = some { frame := currentFrame t i, retry := false } ∧
        (t.display.get i).refreshTimer = some s.params.refreshInterval.toNat
    (d.test = none → exec (.testPhaseExpiry i) s = .next s) ∧
    (∀ x, d.test = some x → d.controller = .testing →
      let last : Prop := x.phase = (match x.kind with | .fill => .blank | .check => .audit)
      (x.timer = none → exec (.testPhaseExpiry i) s = .next s) ∧
      (∀ phase, x.timer ≠ none →
        (x.phase = .all ∧ phase = .blank ∨ x.phase = .blank ∧ x.kind = .check ∧ phase = .audit) →
        (d.transfer = none → exec (.testPhaseExpiry i) s = .next (s.setDisplay i
          { d with
            test := some { kind := x.kind, phase := phase, due := false, timer := some (time phase) }
            transfer := some { frame := picture phase, retry := false }, echoTimer := some 20, sent := d.sent + 1 })) ∧
        (d.transfer ≠ none → exec (.testPhaseExpiry i) s = .next (s.setDisplay i
          { d with test := some { kind := x.kind, phase := phase, due := true, timer := none } }))) ∧
      (∀ y, d.transfer = some y →
        let confirmed : Display := { d with transfer := none, echoTimer := none, last := some { frame := y.frame, confirmed := true } }
        (x.due = true → exec (.displayEcho i y.frame.sumCheck) s = .next (s.setDisplay i
          { confirmed with
            test := some { x with due := false, timer := some (time x.phase) }
            transfer := some { frame := picture x.phase, retry := false }, echoTimer := some 20, sent := d.sent + 1 })) ∧
        (x.due = false → ¬last ∨ x.timer ≠ none →
          exec (.displayEcho i y.frame.sumCheck) s = .next (s.setDisplay i confirmed))) ∧
      (∀ command,
        (command = .testPhaseExpiry i ∧ x.timer ≠ none ∧ d.transfer = none ∨
          x.timer = none ∧ ∃ y, d.transfer = some y ∧ command = .displayEcho i y.frame.sumCheck) →
        last → x.due = false →
        (x.kind = .fill → f.state = .starting → motorsReady s i = false →
          ∃ t, exec command s = .next t ∧ shown t ∧ t.fill.get i = { f with testDone := true } ∧
            OnlyChanges [.display i, .fill i, .link] s t) ∧
        (x.kind = .fill → f.state = .starting → motorsReady s i = true →
          ∃ t, exec command s = .next t ∧ shown t ∧ (t.fill.get i).testDone = true ∧
            OnlyChanges [.display i, .fill i, .blend i, .valves i, .link] s t ∧
            let g := s.figures.get i
            let slowing : Prop :=
              g.opened.bind (fun o => o.target) ≠ none ∧ (g.opened.bind (fun o => o.slowPoint) = none ∨ g.slowPassed = true)
            (g.targetReached = true → t.sideState i = .held ∧
              (t.fill.get i).sale = f.sale.map (fun c => { c with stop := some .target })) ∧
            (g.targetReached = false → g.limitReached = true → t.sideState i = .held ∧
              (t.fill.get i).sale = f.sale.map (fun c => { c with stop := some .limit })) ∧
            (g.targetReached = false → g.limitReached = false → t.sideState i = (if slowing then .slowing else .flowing) ∧
              (t.fill.get i).sale = f.sale ∧ (t.fill.get i).noFlowTimer = some (s.params.noFlowTimeout.toNat * 1000))) ∧
        (x.kind = .check → p.quietTimer ≠ none →
          ∃ t, exec command s = .next t ∧ shown t ∧ t.sidePower.get i = { p with testReported := true } ∧
            OnlyChanges [.display i, .sidePower i, .link] s t)) ∧
      (∀ y, d.transfer = some y → y.retry = true → ∀ command,
        (command = .echoTimeout i ∧ d.echoTimer ≠ none ∨ ∃ sum, command = .displayEcho i sum ∧ sum ≠ y.frame.sumCheck) →
        let lost (t : State) : Prop :=
          shown t ∧ (t.display.get i).last = some { frame := y.frame, confirmed := false } ∧ (t.display.get i).failed = d.failed + 1
        (x.kind = .fill → f.state = .starting → ∃ t, exec command s = .next t ∧ lost t ∧ t.sideState i = .ending ∧
          (t.fill.get i).closures = { f.closures with fault := some .display } ∧
          (t.fill.get i).sale = f.sale.map (fun c => { c with ended := some (.fault .display) }) ∧
          (t.fill.get i).quietTimer = some s.params.quietTime.toNat ∧ (t.fill.get i).afterFlowTimer = some 10000 ∧
          (Room 4 s → t.link.tells (.fault (some i) .display none (f.sale.map (fun c => c.number)) none none)) ∧
          OnlyChanges [.display i, .fill i, .blend i, .valves i, .link] s t) ∧
        (x.kind = .check → s.filling i = false → f.closures.display = false → p.quietTimer ≠ none →
          ∃ t, exec command s = .next t ∧ lost t ∧ t.sideState i = .closed ∧
          (t.fill.get i).closures = { f.closures with display := true } ∧ t.sidePower.get i = { p with testReported := true } ∧
          (Room 4 s → t.link.tells (.fault (some i) .display none none none none)) ∧
          OnlyChanges [.display i, .fill i, .blend i, .valves i, .port i, .sidePower i, .link] s t)))

/-- A TEMPERATURE_SAMPLE gives T = floor(r × 165 / 1023) − 40 for r from 1 to 1022 and a sensor fault otherwise; the thermostat want is set
below heater-on and cleared at the larger of heater-off and heater-on + 2 or by a fault, the display is DARK below the dark limit, and the
heat want follows. A new sensor fault queues FAULT SENSOR with the reading; a heat want that begins takes a free permit or waits, and a
side in HEAT that is warm goes to CHECK, which is told with the cause WARM (R114, R115, R116, R117, R157, R167).
The layout of the FAULT notice is the model's deduction (notes/assumptions/21.md). -/
def Obligations.SamplesGovernHeatingAndDark : Prop :=
  ∀ (i : Side) (r : Nat) (s : State), Settled s →
    let d := s.display.get i
    let temp : Option Int := if 1 ≤ r ∧ r ≤ 1022 then some ((r * 165 / 1023 : Nat) - 40) else none
    let off := max s.params.heaterOff (s.params.heaterOn + 2)
    ∃ t, exec (.temperatureSample i r) s = .next t ∧
      let e := t.display.get i
      e.reading = r ∧ e.temperature = temp ∧ e.sampleTimer = some 1000 ∧
      (temp = none → e.thermostat = false ∧ e.dark = false) ∧
      (∀ x, temp = some x →
        (x < s.params.heaterOn → e.thermostat = true) ∧ (s.params.heaterOn ≤ x → off ≤ x → e.thermostat = false) ∧
        (s.params.heaterOn ≤ x → x < off → e.thermostat = d.thermostat) ∧ (e.dark = true ↔ x < s.params.darkLimit)) ∧
      (d.temperature ≠ none → temp = none → Room 4 s → t.link.tells (.fault (some i) .sensor none none none (some r))) ∧
      ((s.sidePower.get i).state ≠ .heat →
        (e.heatWant = true ↔ (e.thermostat = true ∨ d.stageHeat = true) ∧ temp ≠ none ∧ d.controller ≠ .unpowered ∧
          s.supplyFailInput = false) ∧
        e = { d with
          reading := e.reading, temperature := e.temperature, sampleTimer := e.sampleTimer, thermostat := e.thermostat
          dark := e.dark, heatWant := e.heatWant } ∧
        (e.heatWant = d.heatWant → t.arbiter = s.arbiter) ∧
        (e.heatWant = true → d.heatWant = false →
          t.arbiter = if s.arbiter.holders.length < s.params.heaterPermits.toNat then
            { s.arbiter with holders := s.arbiter.holders ++ [i] } else { s.arbiter with waiting := s.arbiter.waiting ++ [i] }) ∧
        (e.heatWant = false → d.heatWant = true → i ∈ s.arbiter.holders → s.arbiter.waiting = [] →
          t.arbiter = { s.arbiter with holders := s.arbiter.holders.filter (fun j => j ≠ i) }) ∧
        OnlyChanges [.display i, .arbiter, .link] s t) ∧
      ((s.sidePower.get i).state = .heat → (∀ x ∈ temp, off ≤ x) →
        (t.sidePower.get i).state = .check ∧ (t.sidePower.get i).quietTimer = some 3000 ∧ e.stageHeat = false ∧
        (Room 16 s → t.link.tells (s.stageTold i .check .warm)))


/-! ### The Reader Isolation Switch -/

/-- The admission of a reader, step by step: ENABLE_READER takes a DISABLED or FAILED port of a powered side to NEGOTIATING with F 0, in
READY_WAIT with 3 s or, with reader-ready found asserted, past it with OFFER in transmission; in BACKOFF it stops the backoff timer and
does the same at once with F kept; a later READER_READY does the same; the end of OFFER starts the 2 s of ABILITY_WAIT; an acceptable
ABILITY gives the agreed terms and sends ADMIT_CONFIRM, whose end starts the 2 s of ACK_WAIT; an ADMIT_ACK of the agreed revision admits
the port with F 0, full buckets and a red run of 0, clears ATTENDED, which is told with the cause ADMITTED, and ends the ADMIT stage of
its side in VERIFY, which is told, and UP after it, each in a notice of its own, or both in the one notice of a change to RUN.
ENABLE_READER is WRONG_STATE at a TAMPERED port or an unpowered side, and changes nothing at a port already NEGOTIATING or ADMITTED (R121,
R122, R123, R124, R141, R157, R169, R170).
That each notice carries the part as its change left it, which cause the one notice of a change of mode has (notes/assumptions/34.md), and
that the notice of the clearing of ATTENDED names no side (58.md) are the model's choices. -/
def Obligations.AReaderIsAdmittedStepByStep : Prop :=
  ∀ (tag : Nat) (i : Side) (s : State), Settled s →
    let p := s.ports.get i
    let powered : Prop := (s.sidePower.get i).state ∈ [PowerState.heat, .check, .admitStage, .verify, .up]
    (Free s →
      (p.state = .tampered ∨ ¬powered → exec (.enableReader tag (.fields (Side.number i))) s =
        .next (s.replied Kind.enableReader tag .wrongState [])) ∧
      (powered → p.state = .negotiating ∨ p.state = .admitted → exec (.enableReader tag (.fields (Side.number i))) s =
        .next (s.replied Kind.enableReader tag .ok (num 1 p.state.code))) ∧
      (powered → p.state = .disabled ∨ p.state = .failed ∨ p.state = .backoff →
        let f := if p.state = .backoff then p.failures else 0
        ∃ t, exec (.enableReader tag (.fields (Side.number i))) s = .next t ∧
          t.ports.get i = { p with
            state := .negotiating, failures := f, backoffTimer := none, offered := none, owed := none, receiver := .hunting
            lineLowTimer := none
            step := some (if p.readyInput then .abilityWait else .readyWait)
            stepTimer := if p.readyInput then none else some 3000
            tx := if p.readyInput then some .offer else none } ∧
          t.link.answers Kind.enableReader tag .ok (num 1 PortState.negotiating.code) ∧
          (Room 2 s → t.link.tells (.readerState i .negotiating .enabled f p.terms)) ∧ OnlyChanges [.port i, .link] s t)) ∧
    (p.state = .negotiating → p.step = some .readyWait → p.tx = none →
      exec (.readerReady i) s = .next (s.setPort i
        { p with readyInput := true, step := some .abilityWait, stepTimer := none, tx := some .offer })) ∧
    (p.state ≠ .negotiating ∨ p.step ≠ some .readyWait →
      exec (.readerReady i) s = .next (s.setPort i { p with readyInput := true })) ∧
    (p.state = .negotiating → p.step = some .abilityWait → p.tx = some .offer → p.owed = none →
      exec (.readerTransmissionEnd i) s = .next (s.setPort i
        { p with tx := none, stepTimer := some 2000, counters := { p.counters with sent := p.counters.sent + 1 } })) ∧
    (∀ (revisions features : BitVec 8) (maxBody : Nat), p.state = .negotiating → p.step = some .abilityWait → p.tx = none →
      revisions.getLsbD 0 = true ∨ revisions.getLsbD 1 = true → 32 ≤ maxBody →
      let terms : Terms :=
        { revision := if revisions.getLsbD 1 then 2 else 1, maxBody := min 200 maxBody, features := features &&& 3 }
      exec (.ability i tag revisions maxBody features) s = .next (s.setPort i
        { p with
          step := some .ackWait, stepTimer := none, offered := some terms, tx := some (.confirm terms), receiver := .hunting
          counters := { p.counters with received := p.counters.received + 1, consumed := p.counters.consumed + 1 } })) ∧
    (∀ terms : Terms, p.state = .negotiating → p.step = some .ackWait → p.tx = some (.confirm terms) → p.owed = none →
      exec (.readerTransmissionEnd i) s = .next (s.setPort i
        { p with tx := none, stepTimer := some 2000, counters := { p.counters with sent := p.counters.sent + 1 } })) ∧
    (∀ terms : Terms, p.state = .negotiating → p.step = some .ackWait → p.offered = some terms →
      let x := s.sidePower.get i
      let cleared : State := s.setSidePower i { x with attended := false }
      let told (t : State) : Prop := Room 4 s → t.link.tells
        (.powerStage s.power.mode s.sidePower.a.state s.sidePower.b.state none .admitted cleared.sidePower.a.attended
          s.sidePower.a.cold cleared.sidePower.b.attended s.sidePower.b.cold)
      ∃ t, exec (.admitAck i tag terms.revision) s = .next t ∧
        let q := t.ports.get i
        q.state = .admitted ∧ q.failures = 0 ∧ q.terms = some terms ∧ q.step = none ∧ q.stepTimer = none ∧
        q.committed = s.params.committedCapacity.toNat ∧ q.excess = s.params.excessCapacity.toNat ∧ q.redMark = false ∧
        q.redRun = 0 ∧ q.committedTimer = some 250 ∧ q.excessTimer = some 1000 ∧
        q.counters = { p.counters with received := p.counters.received + 1, consumed := p.counters.consumed + 1 } ∧
        (Room 4 s → t.link.tells (.readerState i .admitted .admitted 0 (some terms))) ∧
        (x.state ≠ .admitStage → x.attended = false → OnlyChanges [.port i, .link] s t) ∧
        (x.state ≠ .admitStage → x.attended = true → t.sidePower.get i = { x with attended := false } ∧ told t ∧
          OnlyChanges [.port i, .sidePower i, .link] s t) ∧
        (x.state = .admitStage → s.EntersVerify t i { x with attended := false } (s.fill.get i).closures ∧
          (Room 4 s → s.power.verification = .none ∨ s.power.verification = .running →
            t.link.tells (cleared.stageTold i .verify .admitted)) ∧
          (Room 16 s → s.TellsVerify t i { x with attended := false } .admitted) ∧
          OnlyChanges [.port i, .fill i, .blend i, .valves i, .display i, .power, .sidePower i, .store, .link] s t))

/-- A failed attempt raises F and takes the port to FAILED at 8 and to BACKOFF with min(2^(F−1), 32) s otherwise: the expiry of a step timer, the
loss of the line after reader-ready has been found, an ABILITY without a common revision or with a maximum body below 32, an ADMIT_ACK of
another revision than the agreed one. Where the line is low for its time within a frame, a running port abandons the frame and counts it
received and FRAME before the loss is taken. The backoff's
expiry begins again with F kept. Line loss takes an ADMITTED port to BACKOFF with F 1 and 1 s, with everything open between part and
reader given up; in every other state it changes no more than the ready input (R123, R124, R125, R126, R127, R139).
The reason told at the end of a backoff (notes/assumptions/22.md) and that an admission record abandoned by a failed attempt is not counted
discarded (23.md) are the model's deductions, and that an expiry on a stopped timer does nothing its choice (2.md). -/
def Obligations.FailedAttemptsBackOff : Prop :=
  ∀ (tag : Nat) (i : Side) (s : State), Settled s →
    let p := s.ports.get i
    let f := p.failures + 1
    let gone (q : Port) : Port :=
      { q with
        step := none, stepTimer := none, backoffTimer := none, offered := none, owed := none, tx := none, receiver := .hunting
        lineLowTimer := none }
    let failed (q : Port) : Port :=
      if 8 ≤ f then { gone q with state := .failed, failures := f }
      else { gone q with state := .backoff, failures := f, backoffTimer := some (min (2 ^ (f - 1)) 32 * 1000) }
    let taken : Port :=
      { p with
        receiver := .hunting
        counters := { p.counters with received := p.counters.received + 1, consumed := p.counters.consumed + 1 } }
    let abandoned : Port :=
      { p with
        receiver := .hunting
        counters := { p.counters with received := p.counters.received + 1, frame := p.counters.frame + 1 } }
    (∀ command q reason, p.state = .negotiating →
      (command = .readerStepTimeout i ∧ p.stepTimer ≠ none ∧ q = p ∧
          reason = (if p.step = some .readyWait then .noReady else .timeout) ∨
        command = .readerReadyLoss i ∧ (p.step = some .abilityWait ∨ p.step = some .ackWait) ∧
          q = { p with readyInput := false } ∧ reason = .lineLost ∨
        command = .lineLowTimeout i false ∧ (p.step = some .abilityWait ∨ p.step = some .ackWait) ∧ q = p ∧ reason = .lineLost ∨
        command = .lineLowTimeout i true ∧ (p.step = some .abilityWait ∨ p.step = some .ackWait) ∧ q = abandoned ∧ reason = .lineLost ∨
        (∃ revisions maxBody features, command = .ability i tag revisions maxBody features ∧ p.step = some .abilityWait ∧
          q = taken ∧
          (revisions.getLsbD 0 = false ∧ revisions.getLsbD 1 = false ∧ reason = .noRevision ∨
            (revisions.getLsbD 0 = true ∨ revisions.getLsbD 1 = true) ∧ maxBody < 32 ∧ reason = .terms)) ∨
        (∃ terms : Terms, ∃ revision, command = .admitAck i tag revision ∧ p.step = some .ackWait ∧ p.offered = some terms ∧
          revision ≠ terms.revision ∧ q = taken ∧ reason = .terms)) →
      ∃ t, exec command s = .next t ∧ t.ports.get i = failed q ∧
        (Room 2 s → t.link.tells (.readerState i (if 8 ≤ f then .failed else .backoff) reason f p.terms)) ∧
        OnlyChanges [.port i, .link] s t) ∧
    (p.state ≠ .negotiating ∨ p.stepTimer = none → exec (.readerStepTimeout i) s = .next s) ∧
    (p.state = .backoff → p.backoffTimer ≠ none → ∃ t, exec (.backoffExpiry i) s = .next t ∧
      t.ports.get i = { gone p with
        state := .negotiating
        step := some (if p.readyInput then .abilityWait else .readyWait)
        stepTimer := if p.readyInput then none else some 3000
        tx := if p.readyInput then some .offer else none } ∧
      (Room 2 s → t.link.tells (.readerState i .negotiating .enabled p.failures p.terms)) ∧ OnlyChanges [.port i, .link] s t) ∧
    (p.state ≠ .backoff ∨ p.backoffTimer = none → exec (.backoffExpiry i) s = .next s) ∧
    (p.state = .negotiating → p.step = some .readyWait → exec (.lineLowTimeout i true) s = .next (s.setPort i abandoned)) ∧
    (p.state ∈ [PortState.disabled, .backoff, .failed, .tampered] → exec (.lineLowTimeout i true) s = .next s) ∧
    (∀ command, command = .readerReadyLoss i ∨ command = .lineLowTimeout i false ∨ command = .lineLowTimeout i true →
      (p.state ∈ [PortState.disabled, .backoff, .failed, .tampered] ∨ (p.state = .negotiating ∧ p.step = some .readyWait) →
        command ≠ .lineLowTimeout i true →
        exec command s = .next (if command = .readerReadyLoss i then s.setPort i { p with readyInput := false } else s)) ∧
      (p.state = .admitted → ∃ t, exec command s = .next t ∧
        let q := t.ports.get i
        q.state = .backoff ∧ q.failures = 1 ∧ q.backoffTimer = some 1000 ∧ q.tx = none ∧ q.queue = [] ∧ q.pendingAuth = none ∧
        q.pendingNozzle = none ∧ q.terms = none ∧ q.committedTimer = none ∧ q.excessTimer = none ∧
        q.receiver = .hunting ∧
        (let c := if command = .lineLowTimeout i true then abandoned.counters else p.counters
         q.counters = { c with discarded := c.discarded + BitVec.ofNat 32 (p.queue.length + boolNat p.tx.isSome) }) ∧
        t.conversations = s.conversations.filter (fun c => c.port ≠ i) ∧
        (∀ a, (s.fill.get i).slot = some a → a.source = .reader → a.phase = .waiting → (t.fill.get i).slot = none ∧
          (Room 4 s → t.link.tells (.authEvent i .reader a.reference (.removed .linkLost)))) ∧
        (Room 4 s → t.link.tells (.readerState i .backoff .lineLost 1 none)) ∧
        OnlyChanges [.port i, .conversations, .fill i, .blend i, .valves i, .display i, .link] s t))

/-- TAMPER_ASSERT takes a port to TAMPERED from every other state: its conversations go, and every pending delivery of the side's sales is dropped,
the records UNDELIVERABLE and the empty result place empty; its latch is set at every assertion. CLEAR_TAMPER with the input released
takes it to DISABLED with F 0, and is WRONG_STATE otherwise. DISABLE_READER takes every other port to DISABLED with F 0, and is
WRONG_STATE at a TAMPERED one (R126, R128, R129, R155, R188).
That F stands at a tamper is the model's deduction (notes/assumptions/22.md), and that CLEAR_TAMPER finds the input its choice (notes/assumptions/25.md). -/
def Obligations.TamperShutsThePort : Prop :=
  ∀ (tag : Nat) (i : Side) (s : State), Settled s →
    let p := s.ports.get i
    (∃ t, exec (.tamperAssert i) s = .next t ∧ (t.ports.get i).state = .tampered ∧ (t.ports.get i).tamperInput = true ∧
      (match i with | .a => t.link.latches.tamperA = true | .b => t.link.latches.tamperB = true) ∧
      (p.state = .tampered → t.ports.get i = { p with tamperInput := true } ∧ OnlyChanges [.port i, .link] s t) ∧
      (p.state ≠ .tampered →
        (t.ports.get i).tx = none ∧ (t.ports.get i).step = none ∧ (t.ports.get i).stepTimer = none ∧
        (t.ports.get i).backoffTimer = none ∧ (t.ports.get i).emptyPlace = none ∧
        (p.state = .admitted → t.conversations = s.conversations.filter (fun c => c.port ≠ i)) ∧
        t.register.queues.get i = (s.register.queues.get i).map (fun r =>
          if r.flags.deliveryPending then { r with flags := { r.flags with deliveryPending := false, undeliverable := true } }
          else r) ∧
        (Room 4 s → ∃ terms, t.link.tells (.readerState i .tampered .tamper p.failures terms)) ∧
        OnlyChanges [.port i, .conversations, .fill i, .blend i, .valves i, .display i, .register, .link] s t)) ∧
    (Free s → ∀ tamper,
      (p.state = .tampered → tamper = false → ∃ t, exec (.clearTamper tag tamper (.fields (Side.number i))) s = .next t ∧
        t.ports.get i = { p with state := .disabled, failures := 0, tamperInput := false } ∧
        t.link.answers Kind.clearTamper tag .ok [] ∧
        (Room 2 s → t.link.tells (.readerState i .disabled .cleared 0 p.terms)) ∧ OnlyChanges [.port i, .link] s t) ∧
      (p.state ≠ .tampered ∨ tamper = true → exec (.clearTamper tag tamper (.fields (Side.number i))) s =
        .next ((s.replied Kind.clearTamper tag .wrongState []).setPort i { p with tamperInput := tamper }))) ∧
    (Free s →
      (p.state = .tampered → exec (.disableReader tag (.fields (Side.number i))) s =
        .next (s.replied Kind.disableReader tag .wrongState [])) ∧
      (p.state = .disabled → exec (.disableReader tag (.fields (Side.number i))) s =
        .next (s.replied Kind.disableReader tag .ok [])) ∧
      (p.state ∉ [PortState.tampered, .disabled] →
        ∃ t, exec (.disableReader tag (.fields (Side.number i))) s = .next t ∧ (t.ports.get i).state = .disabled ∧
          (t.ports.get i).failures = 0 ∧ (t.ports.get i).step = none ∧ (t.ports.get i).stepTimer = none ∧
          (t.ports.get i).backoffTimer = none ∧ (t.ports.get i).tx = none ∧
          (p.state = .admitted → t.conversations = s.conversations.filter (fun c => c.port ≠ i)) ∧
          t.link.answers Kind.disableReader tag .ok [] ∧
          OnlyChanges [.port i, .conversations, .fill i, .blend i, .valves i, .display i, .link] s t))

/-- A configurable record that passes the check list at an ADMITTED port is counted received and forwarded, takes its weight from the committed
bucket, or, ESSENTIAL, from the excess bucket, and is a READER_RECORD notice; an answer also removes its question. One that fails a check is
discarded and counted for the first reason, a red one setting the red mark. An abandoned frame counts received and FRAME, and an idle
receiver takes nothing. In NEGOTIATING a record that fails check 1, with a body of at most 200 bytes allowed, is discarded and counted FRAME
and no more, while one that is not the admission record of the step, or is of a wrong length, also fails the attempt with WRONG_RECORD (R121,
R123, R125, R135, R137, R139, R140, R141).
Which command names an arrived record is the model's deduction (notes/assumptions/24.md); an idle receiver takes nothing by notes/assumptions/3.md. -/
def Obligations.RecordsAreJudgedInOrder : Prop :=
  ∀ (i : Side) (cls tag : Nat) (body : List Byte) (s : State), Settled s →
    let p := s.ports.get i
    let arrived : PortCounters := { p.counters with received := p.counters.received + 1 }
    let dropped (c : PortCounters) (q : Port) : Port := { q with receiver := .hunting, counters := c }
    let limit := p.terms.elim 200 (fun x => x.maxBody)
    let discard (good : Bool) : Instr := .readerRecordDiscarded i good cls tag body
    (p.state ∉ [PortState.negotiating, .admitted] → ∀ command,
      command ∈ [Instr.readerRecord i cls tag body, .readerGapTimeout i, .readerFrameOverlength i, discard false, discard true] →
      exec command s = .next s) ∧
    (p.state ∈ [PortState.negotiating, .admitted] → ∀ command, command ∈ [Instr.readerGapTimeout i, .readerFrameOverlength i] →
      exec command s = .next (s.setPort i (dropped { arrived with frame := p.counters.frame + 1 } p))) ∧
    (p.state = .negotiating →
      let f := p.failures + 1
      let expected : Option Nat := if p.step = some .abilityWait then some Cls.ability else if p.step = some .ackWait then some Cls.ack else none
      let failed (c : PortCounters) : Port :=
        { p with
          state := if 8 ≤ f then .failed else .backoff
          failures := f, backoffTimer := if 8 ≤ f then none else some (min (2 ^ (f - 1)) 32 * 1000)
          step := none, stepTimer := none, offered := none, owed := none, tx := none, receiver := .hunting, lineLowTimer := none
          counters := c }
      let fails (command : Instr) (c : PortCounters) : Prop := ∃ t, exec command s = .next t ∧ t.ports.get i = failed c ∧
        (Room 2 s → t.link.tells (.readerState i (if 8 ≤ f then .failed else .backoff) .wrongRecord f p.terms)) ∧
        OnlyChanges [.port i, .link] s t
      exec (discard false) s = .next (s.setPort i (dropped { arrived with frame := p.counters.frame + 1 } p)) ∧
      (200 < body.length → exec (discard true) s = .next (s.setPort i (dropped { arrived with frame := p.counters.frame + 1 } p))) ∧
      (body.length ≤ 200 → expected ≠ some cls →
        fails (discard true) { arrived with state := p.counters.state + 1 } ∧
        (0x40 ≤ cls → fails (.readerRecord i cls tag body) { arrived with state := p.counters.state + 1 })) ∧
      (body.length ≤ 200 → expected = some cls → body.length ≠ (if cls = Cls.ability then 3 else 1) →
        fails (discard true) { arrived with length := p.counters.length + 1 })) ∧
    (p.state = .admitted →
      exec (discard false) s = .next (s.setPort i (dropped { arrived with frame := p.counters.frame + 1 } p)) ∧
      (limit < body.length → exec (discard true) s = .next (s.setPort i (dropped { arrived with frame := p.counters.frame + 1 } p))) ∧
      (body.length ≤ limit → Cls.isAdmission cls = true →
        exec (discard true) s = .next (s.setPort i (dropped { arrived with state := p.counters.state + 1 } p))) ∧
      (body.length ≤ limit → 0x40 ≤ cls →
        (∀ e, lookupClass s.classes cls = some e → e.direction = .linkToReader) →
        exec (discard true) s = .next (s.setPort i (dropped { arrived with cls := p.counters.cls + 1 } p))) ∧
      (∀ e, body.length ≤ limit → 0x40 ≤ cls → lookupClass s.classes cls = some e → e.direction ≠ .linkToReader →
        let answered : Conversation → Bool := fun c => decide (c.port = i ∧ c.tag = tag ∧ c.answer = cls)
        (e.maxBody < body.length →
          exec (discard true) s = .next (s.setPort i (dropped { arrived with length := p.counters.length + 1 } p))) ∧
        (body.length ≤ e.maxBody →
          (p.committed < e.weight → p.excess < e.weight → exec (discard true) s =
            .next (s.setPort i (dropped { arrived with rate := p.counters.rate + 1 } { p with redMark := true }))) ∧
          (p.committed < e.weight → e.weight ≤ p.excess → e.essential = false → exec (discard true) s =
            .next (s.setPort i (dropped { arrived with rate := p.counters.rate + 1 } p))) ∧
          (∀ q, (e.weight ≤ p.committed ∧ q = { p with committed := p.committed - e.weight } ∨
              p.committed < e.weight ∧ e.weight ≤ p.excess ∧ e.essential = true ∧ q = { p with excess := p.excess - e.weight }) →
            (e.answer = true → s.conversations.any answered = false → exec (discard true) s =
              .next (s.setPort i (dropped { arrived with unasked := p.counters.unasked + 1 } q))) ∧
            (e.answer = false ∨ s.conversations.any answered = true → ∃ t, exec (.readerRecord i cls tag body) s = .next t ∧
              t.ports.get i = dropped { arrived with forwarded := p.counters.forwarded + 1 } q ∧
              t.conversations = (if e.answer then s.conversations.filter (fun c => !answered c) else s.conversations) ∧
              (Room 1 s → t.link.tells (.readerRecord i cls tag body)) ∧
              OnlyChanges [.port i, .conversations, .link] s t)))))

/-- SEND_TO_READER is checked in its order and, accepted, joins the tail of the transmit queue or is sent at once, a question opening or
refreshing its conversation; its reply carries the number of records in the queue. The end of a transmission is counted, and starts the next record in the order AUTH_STATE, the oldest pending
delivery, the empty result, NOZZLE_STATE, the queue; the end of a SALE_RESULT clears DELIVERY_PENDING on its record
(R133, R134, R135, R151).
That the end of no transmission does nothing is the model's deduction (notes/assumptions/3.md). -/
def Obligations.RecordsAreSentInOrder : Prop :=
  ∀ (tag : Nat) (i : Side) (s : State), Settled s →
    let p := s.ports.get i
    (Free s → ∀ (e : ClassEntry) (x : SendFields), x.port = Side.number i → lookupClass s.classes x.cls = some e →
      let c : Instr := .sendToReader tag (.fields x)
      let record : HostRecord := { cls := x.cls, tag := x.tag, body := x.body }
      let fits : Prop := e.direction ≠ .readerToLink ∧ x.body.length ≤ e.maxBody ∧ ¬(e.asks ≠ none ∧ x.tag = 0)
      let asked : Conversation → Bool := fun y => decide (y.port = i ∧ y.tag = x.tag)
      let full : Prop := e.asks ≠ none ∧ 16 ≤ s.conversations.length ∧ s.conversations.any asked = false
      (¬fits → exec c s = .next (s.replied Kind.sendToReader tag .badValue [])) ∧
      (fits → p.state ≠ .admitted → exec c s = .next (s.replied Kind.sendToReader tag .wrongState [])) ∧
      (∀ terms, fits → p.state = .admitted → p.terms = some terms →
        (terms.maxBody < x.body.length → exec c s = .next (s.replied Kind.sendToReader tag .badValue [])) ∧
        (x.body.length ≤ terms.maxBody → 4 ≤ p.queue.length → exec c s = .next (s.replied Kind.sendToReader tag .readerBusy [])) ∧
        (x.body.length ≤ terms.maxBody → p.queue.length < 4 → full → exec c s = .next (s.replied Kind.sendToReader tag .convFull [])) ∧
        (x.body.length ≤ terms.maxBody → p.queue.length < 4 → ¬full → ∃ t, exec c s = .next t ∧
          (p.tx ≠ none → t.ports.get i = { p with queue := p.queue ++ [record] }) ∧
          (p.tx = none → t.ports.get i = { p with tx := some (.host record) }) ∧
          t.link.answers Kind.sendToReader tag .ok (num 1 (p.queue.length + 1)) ∧
          (e.asks = none → t.conversations = s.conversations) ∧
          (∀ a, e.asks = some a →
            (s.conversations.any asked = false →
              t.conversations = s.conversations ++ [{ port := i, tag := x.tag, answer := a, age := true }]) ∧
            (s.conversations.any asked = true → t.conversations =
              s.conversations.map (fun y => if asked y then { y with answer := a, age := true } else y))) ∧
          OnlyChanges [.port i, .conversations, .link] s t))) ∧
    (p.tx = none → exec (.readerTransmissionEnd i) s = .next s) ∧
    (∀ x, p.tx = some x → p.state = .admitted →
      ∃ t, exec (.readerTransmissionEnd i) s = .next t ∧
        (t.ports.get i).counters = { p.counters with sent := p.counters.sent + 1 } ∧
        (∀ r, x = .saleResult r → r.empty = false → t.register.queues.get i = (s.register.queues.get i).map (fun y =>
          if y.number = r.number then { y with flags := { y.flags with deliveryPending := false } } else y)) ∧
        ((∀ r, x ≠ .saleResult r) → t.register = s.register ∧
          (∀ a, p.pendingAuth = some a → (t.ports.get i).tx = some (.authState a) ∧ (t.ports.get i).pendingAuth = none) ∧
          (p.pendingAuth = none →
            (∀ r, (s.register.queues.get i).find? (fun y => y.flags.deliveryPending) = some r →
              ∃ y, (t.ports.get i).tx = some (.saleResult y) ∧ y.number = r.number ∧ some y.reference = r.reference.orElse (fun _ => some 0) ∧
                y.grade = r.grade ∧ y.price = r.price ∧ y.volume = r.volume ∧ y.money = r.money ∧ y.payable = r.payable ∧
                y.overrun = r.overrun.isSome ∧ y.empty = false ∧ y.restored = r.flags.restored) ∧
            ((s.register.queues.get i).find? (fun y => y.flags.deliveryPending) = none →
              (∀ y, p.emptyPlace = some y → (t.ports.get i).tx = some (.saleResult y.result)) ∧
              (p.emptyPlace = none →
                (∀ n, p.pendingNozzle = some n → (t.ports.get i).tx = some (.nozzleState n)) ∧
                (p.pendingNozzle = none →
                  (∀ r rest, p.queue = r :: rest → (t.ports.get i).tx = some (.host r) ∧ (t.ports.get i).queue = rest) ∧
                  (p.queue = [] → (t.ports.get i).tx = none)))))) ∧
        OnlyChanges [.port i, .register, .link] s t)

/-- The refills add their tokens up to their capacities and restart. The aging scan clears the age flag of flagged conversations, removes the
others and counts them EXPIRED at their ports, restarts with the interval in force, and tests each ADMITTED port's red mark: the run rises with the mark set and
returns to 0 otherwise, and at 3 the port is put through admission again with F kept (R126, R136, R137, R138).
That a refill of a stopped timer does nothing (notes/assumptions/2.md) and that a scan counts its EXPIRED entries before it tests for floods
(51.md) are the model's choices, and that a flood keeps F is its deduction (22.md). -/
def Obligations.RefillsAndAgingKeepTheLine : Prop :=
  ∀ (s : State), Settled s →
    (∀ i, let p := s.ports.get i
      (p.committedTimer ≠ none → exec (.committedRefill i) s = .next (s.setPort i
        { p with
          committed := min (p.committed + s.params.committedRefill.toNat) s.params.committedCapacity.toNat
          committedTimer := some 250 })) ∧
      (p.committedTimer = none → exec (.committedRefill i) s = .next s) ∧
      (p.excessTimer ≠ none → exec (.excessRefill i) s = .next (s.setPort i
        { p with excess := min (p.excess + 1) s.params.excessCapacity.toNat, excessTimer := some 1000 })) ∧
      (p.excessTimer = none → exec (.excessRefill i) s = .next s)) ∧
    (∃ t, exec .agingScan s = .next t ∧ t.agingTimer = some (s.params.agingInterval.toNat * 1000) ∧
      (∀ i, let p := s.ports.get i
        let q := t.ports.get i
        let run := if p.redMark then p.redRun + 1 else 0
        q.counters.expired =
          p.counters.expired + BitVec.ofNat 32 (s.conversations.filter (fun c => !c.age && c.port == i)).length ∧
        (p.state ≠ .admitted → q = { p with counters := q.counters }) ∧
        (p.state = .admitted → run < 3 →
          q = { p with redRun := run, redMark := false, counters := { p.counters with expired := q.counters.expired } } ∧
          t.fill.get i = s.fill.get i) ∧
        (p.state = .admitted → 3 ≤ run → q.state = .negotiating ∧ q.failures = p.failures ∧ q.redRun = 0 ∧ q.terms = none ∧
          (Room 8 s → t.link.tells (.readerState i .negotiating .flood p.failures none)))) ∧
      ((∀ i, (s.ports.get i).state = .admitted → (s.ports.get i).redMark = true → (s.ports.get i).redRun < 2) →
        t.conversations = (s.conversations.filter (fun c => c.age)).map (fun c => { c with age := false }) ∧
        OnlyChanges [.conversations, .agingTimer, .port .a, .port .b, .link] s t))


/-! ### The Payment Path -/

/-- AUTH_GRANT at an ADMITTED port is checked in its order and refused with the first reason, or at an IDLE side enters the slot WAITING at level 2
with its own limit. At a CALLING side it tests the counted nozzle's lift as AUTHORIZE does: allowed, the side enters STARTING, under its next free sale
number, and STARTED replaces ACCEPTED; refused, the side is AUTHORIZED with GRADE_REFUSED. AUTH_CANCEL of the side's own READER authorization removes a WAITING one, stops the fill of one in use, and is refused
UNKNOWN otherwise. Each is answered by an AUTH_STATE, pending or in transmission, and counted received and consumed (R51, R53, R55, R59, R93,
R145, R146, R147, R148). -/
def Obligations.GrantsAndCancelsAreAnswered : Prop :=
  ∀ (i : Side) (tag reference : Nat) (s : State), Settled s →
    let p := s.ports.get i
    let f := s.fill.get i
    let told (t : State) (k : AuthStateKind) : Prop :=
      (t.ports.get i).pendingAuth = some { kind := k, reference := reference } ∨
        (t.ports.get i).tx = some (.authState { kind := k, reference := reference })
    let counted (t : State) : Prop :=
      (t.ports.get i).counters = { p.counters with received := p.counters.received + 1, consumed := p.counters.consumed + 1 }
    let frame : List Block := [.fill i, .blend i, .valves i, .display i, .port i, .link]
    p.state = .admitted → 9 ≤ p.terms.elim 200 (fun x => x.maxBody) → 1 ≤ p.committed →
    (∀ (grades : BitVec 8) (kind value : Nat),
      let night : Prop := s.power.mode = .night ∨ s.power.mode = .nightPending
      let full : Prop := s.params.stackDepth ≤ (s.register.queues.get i).length
      let revision := p.terms.elim 0 (fun x => x.revision)
      let good : Prop := kind = 0 ∨ (100 ≤ value ∧ value ≤ 999000 ∧ (kind = 1 ∨ kind = 2 ∧ revision ≠ 1))
      let limit : Option Limit :=
        if kind = 0 then none else some { kind := if kind = 1 then .money else .volume, value := value }
      let c : Instr := .authGrant i tag reference grades kind value
      (∀ reason,
        (grades = 0 ∧ reason = .grades ∨ grades ≠ 0 ∧ ¬good ∧ reason = .range ∨
          grades ≠ 0 ∧ good ∧ night ∧ reason = .night ∨
          grades ≠ 0 ∧ good ∧ ¬night ∧ f.slot ≠ none ∧ reason = .alreadyAuthorized ∨
          grades ≠ 0 ∧ good ∧ ¬night ∧ f.slot = none ∧ f.state ≠ .idle ∧ f.state ≠ .calling ∧ reason = .closed ∨
          grades ≠ 0 ∧ good ∧ ¬night ∧ f.slot = none ∧ (f.state = .idle ∨ f.state = .calling) ∧ full ∧ reason = .stackFull) →
        ∃ t, exec c s = .next t ∧ told t (.refused reason) ∧ counted t ∧ OnlyChanges [.port i, .link] s t) ∧
      (grades ≠ 0 → good → ¬night → f.slot = none → f.state = .idle → ¬full → ∃ t, exec c s = .next t ∧
        t.fill.get i = { f with
          state := .authorized
          slot := some { source := .reader, reference := some reference, grades := grades, level := .l2, limit := limit
                         phase := .waiting, acceptedAt := s.stamp }
          authTimer := if s.params.authTimeout.toNat = 0 then none else some (s.params.authTimeout.toNat * 1000)
          noFlowTimer := none, quietTimer := none, afterFlowTimer := none } ∧
        told t .accepted ∧ counted t ∧
        (Room 2 s → t.link.tells (.authEvent i .reader (some reference) .accepted)) ∧ OnlyChanges frame s t) ∧
      (∀ n g, grades ≠ 0 → good → ¬night → f.slot = none → f.state = .calling → ¬full →
        f.counted = some { nozzle := n, grade := some g } →
        let a : Auth := { source := .reader, reference := some reference, grades := grades, level := .l2, limit := limit
                          phase := .waiting, acceptedAt := s.stamp }
        let refused : Option LiftRefusal :=
          if grades.getLsbD (g.number - 1) = false then some .grade
          else if s.prices.lookup (s.prices.sideGeneration.get i) g .l2 = 0 then some .price
          else if (s.display.get i).dark = true then some .dark
          else if (s.store.slots.get i).state ≠ .erased then some .save else none
        (∀ r, refused = some r → ∃ t, exec c s = .next t ∧
          t.fill.get i = { f with
            state := .authorized, slot := some a
            authTimer := if s.params.authTimeout.toNat = 0 then none else some (s.params.authTimeout.toNat * 1000)
            noFlowTimer := none, quietTimer := none, afterFlowTimer := none } ∧
          told t .accepted ∧ counted t ∧
          (Room 3 s → t.link.tells (.authEvent i .reader (some reference) .accepted) ∧
            t.link.tells (.gradeRefused i n (some g) r)) ∧ OnlyChanges frame s t) ∧
        (refused = none → s.estopInput = false → s.supplyFailInput = false → s.GivesNumber i (takenNumber s i) ∧ ∃ t, exec c s = .next t ∧
          t.sideState i = .starting ∧ (t.fill.get i).slot = some { a with phase := .inUse } ∧ (t.fill.get i).authTimer = none ∧
          (t.fill.get i).sale = some
            { number := takenNumber s i, nozzle := n, grade := g, source := .reader, reference := some reference, limit := limit
              level := .l2, start := s.stamp, stop := none, ended := none, running := true } ∧
          told t (.started (takenNumber s i)) ∧ counted t ∧
          (Room 3 s → t.link.tells (.authEvent i .reader (some reference) .accepted) ∧
            t.link.tells (.authEvent i .reader (some reference) .inUse)) ∧
          OnlyChanges
            (frame ++ [.register, .figures i, .sideMeters i, .meter { side := i, product := .lo },
              .meter { side := i, product := .hi }, .motor .lo, .motor .hi]) s t))) ∧
    (let c : Instr := .authCancel i tag reference
     (f.slot = none ∨ (∃ a, f.slot = some a ∧ (a.source ≠ .reader ∨ a.reference ≠ some reference)) →
       ∃ t, exec c s = .next t ∧ told t (.refused .unknown) ∧ counted t ∧ OnlyChanges [.port i, .link] s t) ∧
     (∀ a, f.slot = some a → a.source = .reader → a.reference = some reference →
       (a.phase = .waiting → f.state = .authorized → ∃ t, exec c s = .next t ∧
         t.sideState i = (if f.counted.any (fun x => x.grade.isSome) then .calling else .idle) ∧ (t.fill.get i).slot = none ∧
         (t.fill.get i).authTimer = none ∧ told t .cancelled ∧ counted t ∧
         (Room 2 s → t.link.tells (.authEvent i .reader (some reference) (.removed .cancelled))) ∧ OnlyChanges frame s t) ∧
       (∀ x, a.phase = .inUse → f.sale = some x →
         ∃ t, exec c s = .next t ∧ told t (.stopped x.number) ∧ counted t ∧ OnlyChanges frame s t ∧
           (f.state = .starting → t.sideState i = .ending ∧
             (t.fill.get i).sale = some { x with stop := some .readerCancel, ended := some .cancelled }) ∧
           (f.state.isOpen = true → t.sideState i = .held ∧ t.valves.get i = { lo := 0, hi := 0 } ∧
             (t.fill.get i).sale = some { x with stop := some .readerCancel }) ∧
           (f.state = .held → x.stop = some .suspend →
             t.sideState i = .held ∧ (t.fill.get i).sale = some { x with stop := some .readerCancel }) ∧
           (f.state = .held → x.stop ≠ some .suspend → t.fill.get i = f) ∧ (f.state = .ending → t.fill.get i = f))))

/-- SALE_CAPTURE of a queued READER sale takes an amount up to its payable, below it only with PARTIAL agreed: the record leaves the queue with
SALE_SETTLED, no total changes, and CAPTURED answers; otherwise CAPTURE_REFUSED answers with UNKNOWN, AMOUNT or PARTIAL and the queue stands.
SETTLE_SALE removes a record for the host in the same way; it is WRONG_STATE under the supply-fail warning and NOT_FOUND without a record
(R96, R145, R152). -/
def Obligations.SalesAreCapturedAndSettled : Prop :=
  ∀ (i : Side) (tag number : Nat) (s : State), Settled s →
    let p := s.ports.get i
    let q := s.register.queues.get i
    let removed (t : State) : Prop :=
      t.register = { s.register with queues := s.register.queues.set i (q.filter (fun r => r.number ≠ number)) }
    (∀ reference amount, p.state = .admitted → 9 ≤ p.terms.elim 200 (fun x => x.maxBody) → 1 ≤ p.committed →
      let told (t : State) (k : AuthStateKind) : Prop :=
        (t.ports.get i).pendingAuth = some { kind := k, reference := reference } ∨
          (t.ports.get i).tx = some (.authState { kind := k, reference := reference })
      let isPartial : Prop := ∃ x, p.terms = some x ∧ x.features.getLsbD 0 = true
      let c : Instr := .saleCapture i tag number reference amount
      let refused (reason : PaymentReason) : Prop :=
        ∃ t, exec c s = .next t ∧ told t (.captureRefused number reason) ∧ OnlyChanges [.port i, .link] s t
      ((s.register.warning = true ∨
          ∀ r ∈ q, ¬(r.number = number ∧ r.source = .reader ∧ r.reference = some reference ∧ r.flags.undeliverable = false)) →
        refused .unknown) ∧
      (∀ r, s.register.warning = false → r ∈ q → (∀ y ∈ q, y.number = number → y = r) → r.number = number → r.source = .reader →
        r.reference = some reference → r.flags.undeliverable = false →
        (r.payable < amount → refused .amount) ∧
        (amount < r.payable → ¬isPartial → refused .partialCapture) ∧
        (amount = r.payable ∨ amount < r.payable ∧ isPartial → ∃ t, exec c s = .next t ∧ removed t ∧
          told t (.captured number amount) ∧ (Room 1 s → t.link.tells (.saleSettled i number (.reader amount))) ∧
          OnlyChanges [.port i, .register, .link] s t))) ∧
    (Free s → 1 ≤ number → number ≤ 9999 →
      let c : Instr := .settleSale tag (.fields { side := Side.number i, number := number })
      (s.register.warning = true → exec c s = .next (s.replied Kind.settleSale tag .wrongState [])) ∧
      (s.register.warning = false → (∀ r ∈ q, r.number ≠ number) → exec c s = .next (s.replied Kind.settleSale tag .notFound [])) ∧
      (s.register.warning = false → (∃ r ∈ q, r.number = number) → ∃ t, exec c s = .next t ∧ removed t ∧
        t.link.answers Kind.settleSale tag .ok [] ∧ (Room 1 s → t.link.tells (.saleSettled i number .link)) ∧
        OnlyChanges [.port i, .register, .link] s t))


/-! ### Power -/

/-- The supply-good input ends SUPPLY: the SUPPLY reason goes, the permit's hold of 200 ms starts, the display head stands by and is sent one
BLANK frame, and the side heats, or is CHECKed at once where it is warm or its sensor failed. Its loss takes a powered side to DOWN_FAULT
with its reader disabled, its display UNPOWERED, its SUPPLY reason and a FAULT notice, and its fill closed; so does SUPPLY's own limit,
without a sale number; it ends a shut in OFF. The end of the hold hands the permit to the head of its list, whose SUPPLY stage ends at
once where its supply-good stands; SUPPLY's own limit hands it on as well. Each change of a power state is told in a POWER_STAGE of its
own, with its own side and cause: SUPPLY_GOOD and SKIPPED, SUPPLY_TIMEOUT and PERMIT; a change to RUN is told in one (R71, R108, R157,
R162, R166, R167, R171).
The model's deductions: the bring-up mark is cleared at the supply timeout (notes/assumptions/14.md), a supply switched off disables the
reader (17.md), FAULT's layout (21.md), supply-good as a level (35.md). Its choices: the limit that a side is warm by is that of the
parameters in force (69.md), that each notice carries the part as its change left it, and which cause the one notice of a change of mode
has (34.md), and expiries on stopped timers do nothing (2.md). -/
def Obligations.SuppliesComeAndGo : Prop :=
  ∀ (i : Side) (s : State), Settled s →
    let p := s.sidePower.get i
    let closures := (s.fill.get i).closures
    let isWarm : Prop := ∀ x ∈ (s.display.get i).temperature, max s.params.heaterOff (s.params.heaterOn + 2) ≤ x
    let down : SidePower := { p with
      state := .downFault, supplyOn := false, shutting := false, bringUp := false, stageTimer := none, quietTimer := none }
    (p.state ≠ .supply → exec (.supplyGood i) s = .next (s.setSidePower i { p with supplyGood := true })) ∧
    (p.state = .supply → ∃ t, exec (.supplyGood i) s = .next t ∧ t.power = { s.power with holdTimer := some 200 } ∧
      (t.fill.get i).closures = { closures with supply := false } ∧
      ((s.display.get i).controller = .unpowered → (s.display.get i).transfer = none → (t.display.get i).sent = (s.display.get i).sent + 1 ∧
        ∃ y, (t.display.get i).transfer = some y ∧ y.frame.mode = .blank) ∧
      (¬isWarm → (t.display.get i).controller = .standby ∧ (t.display.get i).stageHeat = true ∧ t.sidePower.get i =
        { p with supplyGood := true, state := .heat, stageTimer := some (s.params.heatMaximum.toNat * 60000) }) ∧
      (isWarm → (t.display.get i).controller = .testing ∧ t.sidePower.get i =
        { p with supplyGood := true, state := .check, stageTimer := none, quietTimer := some 3000, quietEdge := false
                 testReported := false }) ∧
      (Room 16 s → t.link.tells (s.stageTold i .heat .supplyGood) ∧ (isWarm → t.link.tells (s.stageTold i .check .skipped))) ∧
      OnlyChanges [.fill i, .blend i, .valves i, .display i, .arbiter, .power, .sidePower i, .link] s t) ∧
    (p.state = .supply ∨ p.state = .downFault ∨ p.state = .off ∧ p.shutting = false →
      ∃ t, exec (.supplyGoodLoss i) s = .next t ∧ t.sidePower.get i = { p with supplyGood := false } ∧
        OnlyChanges [.sidePower i, .link] s t) ∧
    (p.state = .off → p.shutting = true → p.bringUp = false → ∃ t, exec (.supplyGoodLoss i) s = .next t ∧
      t.sidePower.get i = { p with supplyGood := false, supplyOn := false, shutting := false } ∧
      (t.display.get i).controller = .unpowered ∧ (t.display.get i).transfer = none ∧
      OnlyChanges
        [.fill i, .blend i, .valves i, .display i, .arbiter, .port i, .conversations, .sidePower i, .link] s t) ∧
    (p.state ≠ .off → p.state ≠ .supply → p.state ≠ .downFault →
      (s.filling i = false → ∃ t, exec (.supplyGoodLoss i) s = .next t ∧ t.sidePower.get i = { down with supplyGood := false } ∧
        t.sideState i = .closed ∧ (t.fill.get i).closures = { closures with supply := true } ∧
        (t.display.get i).controller = .unpowered ∧
        ((s.ports.get i).state ≠ .tampered → (t.ports.get i).state = .disabled) ∧
        (Room 8 s → t.link.tells (.fault (some i) .supply none none none none)) ∧
        (Room 16 s → s.TellsDownFault t i .supplyLost)) ∧
      (∀ x, s.filling i = true → s.power.mode ≠ .nightPending → (s.fill.get i).sale = some x →
        ∃ t, exec (.supplyGoodLoss i) s = .next t ∧ t.sidePower.get i = { down with supplyGood := false } ∧
          t.sideState i = .closed ∧ (t.fill.get i).slot = none ∧
          (t.fill.get i).sale = some { x with ended := some (.fault .supply), running := false } ∧
          (t.display.get i).controller = .unpowered ∧
          (Room 12 s → t.link.tells (.fault (some i) .supply none (some x.number) none none)) ∧
          (Room 16 s → s.TellsDownFault t i .supplyLost))) ∧
    (p.state = .supply → p.stageTimer ≠ none → ∃ t, exec (.supplyStageTimeout i) s = .next t ∧ t.sidePower.get i = down ∧
      (t.fill.get i).closures = { closures with supply := true } ∧
      (s.power.holder = some i → (∀ j ∈ s.power.waiting, j = i) → t.power.holder = none) ∧
      (Room 12 s → t.link.tells (.fault (some i) .supply none none none none)) ∧
      (Room 16 s → s.TellsDownFault t i .supplyTimeout) ∧
      (let q := s.sidePower.get i.other
       s.power.holder = some i → s.power.waiting = [i.other] → q.state = .off → q.supplyGood = false →
        t.power.holder = some i.other ∧ t.power.waiting = [] ∧
        t.sidePower.get i.other = { q with state := .supply, supplyOn := true, stageTimer := some 2000 } ∧
        (Room 16 s → t.link.tells ((s.setSidePower i down).stageTold i.other .supply .permit)))) ∧
    (p.state ≠ .supply ∨ p.stageTimer = none → exec (.supplyStageTimeout i) s = .next s) ∧
    (s.power.holdTimer = none → exec .permitHoldExpiry s = .next s) ∧
    (s.power.holdTimer ≠ none → s.power.waiting = [] →
      exec .permitHoldExpiry s = .next (s.setPower { s.power with holder := none, holdTimer := none })) ∧
    (∀ rest, s.power.holdTimer ≠ none → s.power.waiting = i :: rest → p.supplyGood = false →
      ∃ t, exec .permitHoldExpiry s = .next t ∧
        t.power = { s.power with holder := some i, holdTimer := none, waiting := rest } ∧
        t.sidePower.get i = { p with state := .supply, supplyOn := true, stageTimer := some 2000 } ∧
        (Room 16 s → t.link.tells (s.stageTold i .supply .permit)) ∧
        OnlyChanges [.power, .sidePower i, .link] s t) ∧
    (∀ rest, s.power.holdTimer ≠ none → s.power.waiting = i :: rest → p.supplyGood = true →
      ∃ t, exec .permitHoldExpiry s = .next t ∧
        t.power = { s.power with holder := some i, holdTimer := some 200, waiting := rest } ∧
        (t.fill.get i).closures = { closures with supply := false } ∧
        (¬isWarm → (t.display.get i).controller = .standby ∧ (t.display.get i).stageHeat = true ∧ t.sidePower.get i =
          { p with supplyOn := true, state := .heat, stageTimer := some (s.params.heatMaximum.toNat * 60000) }) ∧
        (isWarm → (t.display.get i).controller = .testing ∧ t.sidePower.get i =
          { p with supplyOn := true, state := .check, stageTimer := none, quietTimer := some 3000, quietEdge := false
                   testReported := false }) ∧
        (Room 16 s → t.link.tells (s.stageTold i .supply .permit) ∧ t.link.tells (s.stageTold i .heat .supplyGood) ∧
          (isWarm → t.link.tells (s.stageTold i .check .skipped))) ∧
        OnlyChanges [.fill i, .blend i, .valves i, .display i, .arbiter, .power, .sidePower i, .link] s t)

/-- HEAT's limit takes the side to CHECK, COLD where its display is DARK. CHECK's quiet time ends it once its test has been reported: an edge
or the night-leak latch closes the side for LEAK, and it goes to ADMIT, or past it where no reader is fitted or it is ADMITTED. ADMIT's
limit sets ATTENDED. VERIFY asks for the comparison once, waits for it, or goes UP without NIGHT where it has been made. Each change of
the power state is told in a POWER_STAGE of its own, with its cause; a change to RUN is told in one (R157, R167, R168, R169, R170).
That an expiry command acts while its timer runs, and on a stopped timer does nothing (notes/assumptions/2.md), that ADMIT ends with the
cause ADMITTED where the port is ADMITTED already (52.md), and that each notice carries the part as its change left it, and which cause
the one notice of a change of mode has (34.md), are the model's choices. -/
def Obligations.StagesLeadASideUp : Prop :=
  ∀ (i : Side) (s : State), Settled s →
    let p := s.sidePower.get i
    let closures := (s.fill.get i).closures
    let cold := (s.display.get i).dark
    let leak := p.quietEdge || (s.sideMeters.get i).nightLeak
    let port := (s.ports.get i).state
    (p.state ≠ .heat ∨ p.stageTimer = none → exec (.heatMaximumExpiry i) s = .next s) ∧
    (p.state = .heat → p.stageTimer ≠ none → ∃ t, exec (.heatMaximumExpiry i) s = .next t ∧
      t.sidePower.get i =
        { p with state := .check, stageTimer := none, quietTimer := some 3000, quietEdge := false, testReported := false
                 cold := p.cold || !cold } ∧
      (t.display.get i).stageHeat = false ∧ (t.fill.get i).closures = { closures with cold := closures.cold || cold } ∧
      (Room 16 s → t.link.tells ((s.setSidePower i { p with cold := p.cold || !cold }).stageTold i .check .heatExpired)) ∧
      OnlyChanges [.fill i, .blend i, .valves i, .display i, .arbiter, .port i, .sidePower i, .link] s t) ∧
    (p.quietTimer = none → exec (.checkQuietExpiry i) s = .next s) ∧
    (p.quietTimer ≠ none → p.state ≠ .check ∨ p.testReported = false →
      exec (.checkQuietExpiry i) s = .next (s.setSidePower i { p with quietTimer := none })) ∧
    (p.quietTimer ≠ none → p.state = .check → p.testReported = true → ∃ t, exec (.checkQuietExpiry i) s = .next t ∧
      (t.sideMeters.get i).nightLeak = false ∧
      (∀ x, t.meter { side := i, product := x } = { s.meter { side := i, product := x } with creep := 0, creepFired := false }) ∧
      (readerFitted s i = true → port ≠ .admitted →
        t.sidePower.get i = { p with quietTimer := none, state := .admitStage, stageTimer := some 10000 } ∧
        (t.fill.get i).closures = { closures with leak := closures.leak || leak } ∧
        (port = .disabled ∨ port = .failed ∨ port = .backoff → (t.ports.get i).state = .negotiating) ∧
        (Room 16 s → t.link.tells (s.stageTold i .admitStage .checked))) ∧
      (readerFitted s i = false ∨ port = .admitted →
        s.EntersVerify t i { p with quietTimer := none } { closures with leak := closures.leak || leak } ∧
        (Room 16 s → s.TellsVerify t i p (if readerFitted s i then .admitted else .skipped) ∧
          (s.power.verification = .none ∨ s.power.verification = .running ∨ ¬s.EndsWaking i →
            t.link.tells (s.stageTold i .admitStage .checked)))) ∧
      OnlyChanges
        [.meter { side := i, product := .lo }, .meter { side := i, product := .hi }, .sideMeters i, .fill i, .blend i, .valves i,
          .display i, .port i, .power, .sidePower i, .store, .link] s t) ∧
    (p.state ≠ .admitStage ∨ p.stageTimer = none → exec (.admitStageExpiry i) s = .next s) ∧
    (p.state = .admitStage → p.stageTimer ≠ none → ∃ t, exec (.admitStageExpiry i) s = .next t ∧
      s.EntersVerify t i { p with attended := true } closures ∧
      (Room 16 s → s.TellsVerify t i { p with attended := true } .admitExpired) ∧
      OnlyChanges [.fill i, .blend i, .valves i, .display i, .power, .sidePower i, .store, .link] s t)

/-- The end of a VERIFY job makes the running result from the comparisons of the CAL and PRICE regions with RAM: a mismatch closes both sides
for CALIBRATION or PRICE, generation 0 for PRICE; the wait's own limit makes it UNVERIFIED and closes both sides for both. Every side that
waits goes UP without NIGHT, and WAKING ends with both sides UP or DOWN_FAULT. Each side's UP is told with the cause VERIFIED or
VERIFY_EXPIRED, and a change to RUN with it in one notice (R157, R170, R179).
That an expiry command acts while its timer runs, and on a stopped timer does nothing (notes/assumptions/2.md), that the job compares the
regions with RAM as both stand at its end (notes/assumptions/70.md), and which cause the one notice of a change of mode has
(notes/assumptions/34.md) are the model's choices; that the end of a VERIFY job changes nothing where none runs is its deduction
(notes/assumptions/3.md). -/
def Obligations.VerificationTakesBothSidesUp : Prop :=
  ∀ s : State, Settled s →
    let rest : Prop := ∀ j, (s.sidePower.get j).state = .verify ∨ (s.sidePower.get j).state = .up ∨ (s.sidePower.get j).state = .downFault
    let taken (price calibration : Bool) (cause : PowerCause) (t : State) : Prop :=
      (∀ j, let p := s.sidePower.get j
        let c := (s.fill.get j).closures
        let waits := decide (p.state = .verify)
        t.sidePower.get j = (if waits then { p with state := .up, bringUp := false, stageTimer := none } else p) ∧
        (t.fill.get j).closures =
          { c with price := c.price || price, calibration := c.calibration || calibration, night := c.night && !waits }) ∧
      (rest → (∃ j, (s.sidePower.get j).state = .verify) → s.power.mode = .waking → t.power.mode = .run ∧
        (Room 16 s → ∃ a b j aa ca ab cb, t.link.tells (.powerStage .run a b j cause aa ca ab cb))) ∧
      (∀ j, (s.sidePower.get j).state = .verify → ¬(s.power.mode = .waking ∧ rest) → Room 16 s →
        ∃ a b aa ca ab cb, t.link.tells (.powerStage s.power.mode a b (some j) cause aa ca ab cb)) ∧
      (s.power.mode ≠ .waking → t.power.mode = s.power.mode) ∧
      OnlyChanges
        [.fill .a, .fill .b, .blend .a, .blend .b, .valves .a, .valves .b, .display .a, .display .b, .port .a, .port .b, .power,
          .sidePower .a, .sidePower .b, .store, .link] s t
    (∀ i, let p := s.sidePower.get i
      (p.state ≠ .verify ∨ p.stageTimer = none ∨ s.power.verification ≠ .running → exec (.verifyWaitExpiry i) s = .next s) ∧
      (p.state = .verify → p.stageTimer ≠ none → s.power.verification = .running →
        ∃ t, exec (.verifyWaitExpiry i) s = .next t ∧ t.power.verification = .unverified ∧ taken true true .verifyExpired t)) ∧
    ((∀ j, s.store.running = some j → j.kind ≠ .verify) → exec .verifyJobEnd s = .next s) ∧
    (∀ j, s.store.running = some j → j.kind = .verify →
      let cal := decide (s.store.cal.stored ≠ .image (calImage s))
      let price := decide (s.store.price.stored ≠ .image (priceImage s))
      (s.power.verification ≠ .running → ∃ t, exec .verifyJobEnd s = .next t ∧ OnlyChanges [.store] s t) ∧
      (s.power.verification = .running → ∃ t, exec .verifyJobEnd s = .next t ∧
        t.power.verification = .made (if cal then .mismatch else .isMatch) (if price then .mismatch else .isMatch) ∧
        taken (price || decide (s.prices.generation = 0)) cal .verified t))


/-! ### Night, waking and restarting -/

/-- GO_NIGHT is WRONG_STATE while LOADING and only answered in NIGHT and NIGHT_PENDING. With no side filling it enters NIGHT: both sides
CLOSED by NIGHT and OFF, their WAITING authorizations removed, their readers disabled, the permit free, and a supplied display shown OFF
before its supply goes; with a side filling it enters NIGHT_PENDING. Its reply carries the mode; so does the schedule act, by the mode
that the second finds (R64, R70, R157, R161, R162, R163, R171).
The one notice of each change of mode carries GO_NIGHT or SCHEDULE.
In NIGHT_PENDING the close that leaves no side in a fill state enters NIGHT with the cause LAST_CLOSE, be it the end of ENDING, the
supply-fail warning or a loss of supply-good; a close that leaves one does not.
That the reply carries a mode that does not change (notes/assumptions/18.md), that the permit is free afterwards (15.md) and that the
readers are disabled with their supplies (17.md) are the model's deductions; that a loss of supply-good which closes the last sale is told
with LAST_CLOSE alone (34.md) and that NIGHT entry by it follows the whole of that loss (57.md) are its choices. -/
def Obligations.TheNightIsEntered : Prop :=
  ∀ (tag : Nat) (s : State), Settled s →
    let c : Instr := .goNight tag (.fields ())
    let day : Prop := s.power.mode = .waking ∨ s.power.mode = .run
    let isNight (t : State) : Prop := t.power.mode = .night ∧ t.power.holder = none ∧ t.power.waiting = [] ∧
      ∀ i, let p := s.sidePower.get i
        t.sideState i = .closed ∧ (t.fill.get i).closures = { (s.fill.get i).closures with night := true } ∧
        (∀ a, (s.fill.get i).slot = some a → a.phase = .waiting → (t.fill.get i).slot = none) ∧
        (t.sidePower.get i).state = .off ∧ (t.sidePower.get i).bringUp = false ∧
        ((s.ports.get i).state ≠ .tampered → (t.ports.get i).state = .disabled) ∧
        (p.supplyOn = true → (s.display.get i).controller ≠ .unpowered →
          (t.sidePower.get i).supplyOn = true ∧ (t.sidePower.get i).shutting = true ∧ (t.display.get i).controller = .shutting) ∧
        (p.supplyOn = true → (s.display.get i).controller = .unpowered →
          (t.sidePower.get i).supplyOn = false ∧ (t.sidePower.get i).shutting = false)
    let nightTold (t : State) (cause : PowerCause) : Prop := Room 16 s → ∃ j, t.link.tells
      (.powerStage .night .off .off j cause s.sidePower.a.attended s.sidePower.a.cold s.sidePower.b.attended s.sidePower.b.cold)
    let pendingTold (t : State) (cause : PowerCause) : Prop := Room 16 s → ∃ a b j, t.link.tells
      (.powerStage .nightPending a b j cause s.sidePower.a.attended s.sidePower.a.cold s.sidePower.b.attended s.sidePower.b.cold)
    (Free s → s.power.mode = .loading → exec c s = .next (s.replied Kind.goNight tag .wrongState [])) ∧
    (Free s → s.power.mode = .night ∨ s.power.mode = .nightPending →
      exec c s = .next (s.replied Kind.goNight tag .ok (num 1 s.power.mode.code))) ∧
    (Free s → day → s.anyFilling = false → ∃ t, exec c s = .next t ∧ isNight t ∧ nightTold t .goNight ∧
      t.link.answers Kind.goNight tag .ok (num 1 PartMode.night.code)) ∧
    (Free s → day → s.anyFilling = true → ∃ t, exec c s = .next t ∧ t.power.mode = .nightPending ∧ pendingTold t .goNight ∧
      t.link.answers Kind.goNight tag .ok (num 1 PartMode.nightPending.code) ∧
      ∀ i, (∀ a, (s.fill.get i).slot = some a → a.phase = .waiting → (t.fill.get i).slot = none) ∧
        ((s.sidePower.get i).bringUp = true → (s.sidePower.get i).state ≠ .up →
          (t.sidePower.get i).state = .off ∧ (t.sidePower.get i).bringUp = false) ∧
        (s.filling i = true → t.sideState i = s.sideState i)) ∧
    (s.clock.valid = true →
      let now := (s.clock.value + 1).toNat % 86400
      (s.power.nightAt = some now → day → s.anyFilling = false → ∃ t, exec .clockAdvance s = .next t ∧ isNight t ∧
        nightTold t .schedule ∧ t.clock.value = s.clock.value + 1) ∧
      (s.power.nightAt = some now → day → s.anyFilling = true →
        ∃ t, exec .clockAdvance s = .next t ∧ t.power.mode = .nightPending ∧ pendingTold t .schedule) ∧
      (s.power.wakeAt = some now → s.power.mode = .night →
        ∃ t, exec .clockAdvance s = .next t ∧ t.power.mode = .waking ∧ (∀ i, (t.sidePower.get i).bringUp = true) ∧
          (Room 16 s → ∃ a b j, t.link.tells (.powerStage .waking a b j .schedule false false false false)))) ∧
    (s.power.mode = .nightPending →
      let entered (t : State) : Prop := t.power.mode = .night ∧ t.power.holder = none ∧ t.power.waiting = [] ∧
        (∀ i, t.sideState i = .closed ∧ (t.fill.get i).closures.night = true ∧
          (s.filling i = true ∨ (∀ a, (s.fill.get i).slot = some a → a.phase = .waiting) → (t.fill.get i).slot = none) ∧
          (t.sidePower.get i).state = .off ∧ (t.sidePower.get i).bringUp = false ∧
          ((s.ports.get i).state ≠ .tampered → (t.ports.get i).state = .disabled)) ∧
        (Room 16 s → ∃ j aa ca ab cb, t.link.tells (.powerStage .night .off .off j .lastClose aa ca ab cb))
      (∀ i command,
        (command = .endingQuietExpiry i ∧ (s.fill.get i).quietTimer ≠ none ∨
          command = .afterFlowExpiry i ∧ (s.fill.get i).afterFlowTimer ≠ none) → s.sideState i = .ending →
        (s.filling i.other = false → ∃ t, exec command s = .next t ∧ isNight t ∧ entered t) ∧
        (s.filling i.other = true → ∃ t, exec command s = .next t ∧ t.power = s.power ∧
          t.sideState i = if (s.fill.get i).closures.isEmpty then .idle else .closed)) ∧
      (s.supplyFailInput = false → s.anyFilling = true → ∃ t, exec .supplyFailWarning s = .next t ∧ entered t) ∧
      (∀ i, s.filling i = true → (s.sidePower.get i).state ∈ [PowerState.heat, .check, .admitStage, .verify, .up] →
        (s.filling i.other = false → ∃ t, exec (.supplyGoodLoss i) s = .next t ∧ entered t) ∧
        (s.filling i.other = true → ∃ t, exec (.supplyGoodLoss i) s = .next t ∧ t.power.mode = .nightPending ∧
          (t.sidePower.get i).state = .downFault ∧ t.sideState i = .closed)))

/-- WAKE from NIGHT begins both bring-ups, A first to the permit, with ATTENDED and COLD cleared and no verification result; it cancels
NIGHT_PENDING, is only answered in WAKING and RUN, and is WRONG_STATE while LOADING. A lift in NIGHT wakes the part where that is enabled,
its nozzle spent. The one notice of the change of mode carries WAKE or NOZZLE. POWER_SIDE begins the bring-up of a side in DOWN_FAULT
again: it is NIGHT in NIGHT_PENDING and WRONG_STATE elsewhere. Its change to OFF is told with the cause POWER_SIDE, and SUPPLY after it
with PERMIT. A refused or answered request changes nothing else (R49, R157, R164, R165, R166, R172).
That the reply carries a mode that does not change (notes/assumptions/18.md), that a wake from NIGHT_PENDING starts the verification over
(notes/assumptions/16.md), and that an ATTENDED cleared by POWER_SIDE has a notice with the cause ADMITTED (notes/assumptions/34.md) are
the model's deductions; that this notice names no side (58.md), that each notice carries the part as its change left it, and that the one
notice of a wake tells a cleared ATTENDED too (34.md), are its choices. -/
def Obligations.TheMorningBringsTheSidesUp : Prop :=
  ∀ (tag : Nat) (s : State), Settled s →
    let c : Instr := .wake tag (.fields ())
    let begun (p : SidePower) : SidePower := { p with state := .off, bringUp := true, attended := false, cold := false }
    let closed (i : Side) (t : State) : Prop :=
      (t.fill.get i).closures = { (s.fill.get i).closures with night := true } ∧ (s.filling i = false → t.sideState i = .closed)
    let dark : Prop := s.power.holder = none ∧ s.power.waiting = [] ∧ (∀ i, (s.sidePower.get i).shutting = false) ∧
      s.sidePower.a.supplyGood = false
    let isWaking (t : State) (cause : PowerCause) : Prop :=
      (Room 16 s → ∃ j, t.link.tells (.powerStage .waking .supply .off j cause false false false false)) ∧
      t.power = { s.power with mode := .waking, verification := .none, holder := some .a, waiting := [.b] } ∧
      t.sidePower.get .a = { begun (s.sidePower.get .a) with state := .supply, supplyOn := true, stageTimer := some 2000 } ∧
      t.sidePower.get .b = begun (s.sidePower.get .b) ∧ ∀ i, closed i t
    (Free s →
      (s.power.mode = .loading → exec c s = .next (s.replied Kind.wake tag .wrongState [])) ∧
      (s.power.mode = .waking ∨ s.power.mode = .run → exec c s = .next (s.replied Kind.wake tag .ok (num 1 s.power.mode.code))) ∧
      (s.power.mode = .night → dark → ∃ t, exec c s = .next t ∧ isWaking t .wake ∧
        t.link.answers Kind.wake tag .ok (num 1 PartMode.waking.code)) ∧
      (s.power.mode = .nightPending → (∀ i, (s.sidePower.get i).state ≠ .off) → ∃ t, exec c s = .next t ∧
        t.power = { s.power with mode := .run } ∧ t.link.answers Kind.wake tag .ok (num 1 PartMode.run.code) ∧
        (Room 16 s → t.link.tells (.powerStage .run s.sidePower.a.state s.sidePower.b.state none .wake s.sidePower.a.attended
          s.sidePower.a.cold s.sidePower.b.attended s.sidePower.b.cold)) ∧
        OnlyChanges [.power, .link] s t) ∧
      (s.power.mode = .nightPending → (∃ i, (s.sidePower.get i).state = .off) → ∃ t, exec c s = .next t ∧
        t.power.mode = .waking ∧ t.power.verification = .none ∧
        t.link.answers Kind.wake tag .ok (num 1 PartMode.waking.code) ∧
        ∀ i, ((s.sidePower.get i).state = .off → (t.sidePower.get i).bringUp = true) ∧
          ((s.sidePower.get i).state ≠ .off → i ∉ s.power.waiting → t.sidePower.get i = s.sidePower.get i))) ∧
    (∀ (i : Side) (n : Nozzle), s.power.mode = .night → s.params.wakeOnNozzle ≠ 0 → (s.fill.get i).nozzles.get n = .hung → dark →
      ∃ t, exec (.nozzleLift i n) s = .next t ∧ isWaking t .nozzle ∧ (t.fill.get i).nozzles = (s.fill.get i).nozzles.set n .spent ∧
        (t.fill.get i).counted = (s.fill.get i).counted) ∧
    (∀ i : Side, Free s →
      let rerun : Instr := .powerSide tag (.fields (Side.number i))
      let waits : Prop := ∃ j, (s.sidePower.get j).state = .verify
      (s.power.mode = .nightPending → exec rerun s = .next (s.replied Kind.powerSide tag .night [])) ∧
      (s.power.mode ≠ .nightPending → (s.sidePower.get i).state ≠ .downFault →
        exec rerun s = .next (s.replied Kind.powerSide tag .wrongState [])) ∧
      (s.power.mode ≠ .nightPending → (s.sidePower.get i).state = .downFault → ∃ t, exec rerun s = .next t ∧
        t.link.answers Kind.powerSide tag .ok [] ∧ t.power.mode = s.power.mode ∧ (t.fill.get i).closures.night = true ∧
        (let u := s.setSidePower i { s.sidePower.get i with attended := false, cold := false }
         Room 16 s → t.link.tells (u.stageTold i .off .powerSide) ∧
          ((s.sidePower.get i).attended = true → t.link.tells
            (.powerStage s.power.mode s.sidePower.a.state s.sidePower.b.state none .admitted u.sidePower.a.attended
              u.sidePower.a.cold u.sidePower.b.attended u.sidePower.b.cold)) ∧
          (s.power.holder = none → s.power.waiting = [] → (s.sidePower.get i).shutting = false →
            t.link.tells (u.stageTold i .supply .permit))) ∧
        (waits → t.power.verification = s.power.verification) ∧ (¬waits → t.power.verification = .none) ∧
        (s.power.holder ≠ none → (s.sidePower.get i).shutting = false →
          closed i t ∧ t.sidePower.get i = begun (s.sidePower.get i) ∧ t.power.waiting = s.power.waiting ++ [i]) ∧
        (s.power.holder = none → s.power.waiting = [] → (s.sidePower.get i).shutting = false →
          (s.sidePower.get i).supplyGood = false → closed i t ∧ t.power.holder = some i ∧ t.sidePower.get i =
            { begun (s.sidePower.get i) with state := .supply, supplyOn := true, stageTimer := some 2000 })))

/-- RESTART is WRONG_STATE while LOADING, while a side fills, and under the supply-fail warning; accepted, it adds COMMAND to both closure
sets and stays in service past its reply. The reset follows when the reply has been sent and the store is idle; under a warning that came
meanwhile, when the save bank is idle and the main bank runs nothing and holds no TOTALS_WRITE, the other jobs being lost. It keeps the
clock; a power-on reset loses it. Both leave every block at its reset values, over the inputs as they stand and what the store holds, a
write cut short by the loss of power being unreadable: the regions are unread, the slots read WRITTEN, the nozzles are hung or up, the
queues empty, the sides CLOSED and OFF, and POWER_STAGE tells RESET. A port whose tamper input the reset finds asserted is TAMPERED (R76,
R106, R144, R157, R158, R160, R174, R175, R176, R180, R182, R191).
What the inputs and switches are after a reset (notes/assumptions/8.md), that the reset carries the tamper inputs as it finds them
(25.md), that a RESTART_RESET before it is due changes nothing (3.md), that an asserted tamper input is taken within the reset (7.md),
what a loss of power leaves of a running write (9.md), that the notice of the reset is in transmission right after it (5.md, from R157,
R158 and R191) and names no side (76.md) are the model's deductions and choices. So are, in the state after a reset, which is given whole
as State.afterReset, the values before a region has been read (12.md), the reset's temperature sample without a FAULT notice (41.md), and
the values that no table of reset values lists (43.md). -/
def Obligations.RestartsAndPowerOnsReset : Prop :=
  ∀ (x y : FoundAtReset) (s : State),
    let held (store : NonVolatile) (clock : Clock) (cause : ResetCause) : Kept :=
      let switches (n : PerNozzle NozzlePosition) : PerNozzle NozzlePosition :=
        n.map (fun x => if x = .hung then .hung else .up)
      { nonVolatile := store, nozzles := { a := switches s.fill.a.nozzles, b := switches s.fill.b.nozzles }
        ready := { a := s.ports.a.readyInput, b := s.ports.b.readyInput }
        tamper := { a := false, b := false }, estop := s.estopInput, supplyFail := s.supplyFailInput
        clock := clock, cause := cause, readings := { a := x.reading, b := y.reading }, pending := s.pending }
    let isReset (u : State) (store : NonVolatile) (clock : Clock) (cause : ResetCause) : Prop :=
      u.clock = clock ∧ u.power.mode = .loading ∧ u.power.resetCause = cause ∧ u.pending = s.pending ∧
      u.estopInput = s.estopInput ∧ u.supplyFailInput = s.supplyFailInput ∧
      u.store.cal = { state := .unread, stored := store.cal } ∧ u.store.cfg = { state := .unread, stored := store.cfg } ∧
      u.store.price = { state := .unread, stored := store.price } ∧ u.store.totals = { state := .unread, stored := store.totals } ∧
      u.store.running = none ∧ u.store.waiting = [] ∧ u.store.saving = none ∧ u.store.saveWaiting = [] ∧
      u.link.service = none ∧ u.link.tx = some (.notice (.powerStage .loading .off .off none .reset false false false false)) ∧
      u.ports.a.state = (if x.tamper then .tampered else .disabled) ∧ u.ports.b.state = (if y.tamper then .tampered else .disabled) ∧
      (∀ i, u.store.slots.get i = { state := .written, contents := store.slots.get i } ∧ u.register.queues.get i = [] ∧
        u.sideState i = .closed ∧ (u.fill.get i).closures = { Closures.empty with night := true } ∧
        (u.sidePower.get i).state = .off ∧ (u.sidePower.get i).supplyOn = false ∧ (u.ports.get i).readyInput = (s.ports.get i).readyInput ∧
        ∀ n, (u.fill.get i).nozzles.get n = if (s.fill.get i).nozzles.get n = .hung then .hung else .up) ∧
      (x.tamper = false → y.tamper = false → u = State.afterReset (held store clock cause))
    (∀ tag, Settled s → Free s →
      let c : Instr := .restart tag (.fields ())
      (s.power.mode = .loading ∨ s.anyFilling = true ∨ s.supplyFailInput = true →
        exec c s = .next (s.replied Kind.restart tag .wrongState [])) ∧
      (s.power.mode ≠ .loading → s.anyFilling = false → s.supplyFailInput = false → ∃ t, exec c s = .next t ∧
        t.link.answers Kind.restart tag .ok [] ∧
        t.link.service = some { kind := Kind.restart, tag := tag, fields := [], restart := true } ∧
        ∀ i, t.sideState i = .closed ∧ (t.fill.get i).closures = { (s.fill.get i).closures with command := true })) ∧
    (let t := s.store
      let idle : Prop := t.running = none ∧ t.saving = none ∧ t.saveWaiting = [] ∧
        (s.supplyFailInput = false → t.waiting = []) ∧ (s.supplyFailInput = true → ∀ j ∈ t.waiting, j.kind ≠ .totalsWrite)
      let sent : Prop := (∃ r, s.link.service = some r ∧ r.restart = true) ∧ s.link.replySlot = none ∧
        ∀ r, s.link.tx ≠ some (.reply r)
      (idle → sent → ∃ u, exec (.restartReset x y) s = .next u ∧
        isReset u
          { cal := t.cal.stored, cfg := t.cfg.stored, price := t.price.stored, totals := t.totals.stored
            slots := { a := t.slots.a.contents, b := t.slots.b.contents } } s.clock .restart) ∧
      (Settled s → ¬idle ∨ ¬sent → exec (.restartReset x y) s = .next s) ∧
      (∀ readsErased : Bool,
        let cut (k : JobKind) : Bool := decide (t.running.map (fun j => j.kind) = some k)
        let slot (i : Side) : SlotContents :=
          if t.saving.map (fun r => r.op) = some { kind := .erase, side := i } then (if readsErased then .empty else .cutShort)
          else (t.slots.get i).contents
        ∃ u, exec (.powerOnReset x y readsErased) s = .next u ∧
          isReset u
            { cal := if cut .calWrite then .unreadable else t.cal.stored, cfg := if cut .cfgWrite then .unreadable else t.cfg.stored
              price := if cut .priceWrite then .unreadable else t.price.stored
              totals := if cut .totalsWrite then .unreadable else t.totals.stored, slots := { a := slot .a, b := slot .b } }
            { value := 0, valid := false, second := none } .powerOn))

/-! ### The store, and loading -/

/-- A write attempt whose read-back finds the image, be it because the region held it before, makes its region VALID with the image, is
answered OK where a request waits, and takes effect at the region's owner: CALIBRATION or PRICE leaves both closure sets, the totals are
valid, the configuration is no default. The first mismatch rewrites; the second makes the region FAILED, and is answered STORE_FAULT, or
reported by a FAULT notice where no request waits. In every case but the rewrite the next job starts. The end of a slot write leaves the
slot WRITTEN with the records taken at its start, the end of a slot erase leaves it ERASED and empty, and the oldest operation that waits
starts (R15, R39, R99, R100, R177, R178, R180).
That the command carries what the read-back found is the model's choice (notes/assumptions/27.md); that the end of an attempt, of a slot
write or of a slot erase changes nothing where none such runs (notes/assumptions/3.md), and that the configuration is no default once a
CFG_WRITE has verified (notes/assumptions/12.md), are its deductions. -/
def Obligations.WritesEndVerifiedOrFailed : Prop :=
  (∀ s : State, Settled s →
    (∀ r, (∀ j, s.store.running = some j → j.image = none) → exec (.writeAttemptEnd r) s = .next s) ∧
    (∀ (j : RunningJob) (x : Image), s.store.running = some j → j.image = some x →
      let isNext (t : State) : Prop :=
        (s.store.waiting = [] → t.store.running = none) ∧
        (∀ k rest, s.store.waiting = k :: rest → s.power.mode ≠ .loading → s.supplyFailInput = false →
          t.store.waiting = rest ∧ ∃ y, t.store.running = some y ∧ y.kind = k.kind ∧ y.serves = k.serves ∧ y.rewrite = false)
      let holds : Prop := match x with
        | .cal y => s.store.cal.stored = .image y
        | .cfg y => s.store.cfg.stored = .image y
        | .price y => s.store.price.stored = .image y
        | .totals y => s.store.totals.stored = .image y
      (∀ r, r = .matched ∨ r = .unchanged ∧ holds → ∃ t, exec (.writeAttemptEnd r) s = .next t ∧ isNext t ∧ t.store.regionState x.region = .valid ∧
        (∀ y, x = .cal y → t.store.cal.stored = .image y ∧ ∀ i,
          (t.fill.get i).closures = { (s.fill.get i).closures with calibration := false }) ∧
        (∀ y, x = .price y → t.store.price.stored = .image y ∧ ∀ i,
          (t.fill.get i).closures = { (s.fill.get i).closures with price := false }) ∧
        (∀ y, x = .totals y → t.store.totals.stored = .image y ∧ t.register = { s.register with totalsValid := true }) ∧
        (∀ y, x = .cfg y → t.store.cfg.stored = .image y ∧ t.store.cfgDefaults = false) ∧
        (∀ q, j.serves = true → s.link.service = some q → t.link.answers q.kind q.tag .ok q.fields) ∧
        OnlyChanges [.store, .link, .register, .fill .a, .fill .b, .blend .a, .blend .b, .valves .a, .valves .b, .display .a,
          .display .b] s t) ∧
      (j.rewrite = false → ¬holds → exec (.writeAttemptEnd .unchanged) s = .next (s.setStore
          { s.store with running := some { j with rewrite := true, timer := some j.kind.duration } })) ∧
      (j.rewrite = false → ∃ t,
        exec (.writeAttemptEnd .damaged) s = .next t ∧
        t.store.running = some { j with rewrite := true, timer := some j.kind.duration } ∧
        t.store.regionState x.region = s.store.regionState x.region ∧ OnlyChanges [.store] s t) ∧
      (j.rewrite = true → ∀ r, r = .damaged ∨ r = .unchanged ∧ ¬holds → ∃ t, exec (.writeAttemptEnd r) s = .next t ∧ isNext t ∧
        t.store.regionState x.region = .failed ∧ t.link.latches.storeFault = true ∧
        (∀ y, j.serves = true → s.link.service = some y → t.link.answers y.kind y.tag .storeFault y.fields) ∧
        (j.serves = false → Room 1 s → t.link.tells (.fault none .store none none (some x.region) none)) ∧
        OnlyChanges [.store, .link] s t))) ∧
  (∀ s : State, Settled s →
    ((∀ r, s.store.saving = some r → r.op.kind ≠ .write) → exec .slotWriteEnd s = .next s) ∧
    ((∀ r, s.store.saving = some r → r.op.kind ≠ .erase) → exec .slotEraseEnd s = .next s) ∧
    (∀ r i, s.store.saving = some r →
      let left (x : SaveSlot) : Store := { s.store with saving := none, slots := s.store.slots.set i x }
      let isNext (t : State) : Prop := ∀ o rest, s.store.saveWaiting = o :: rest →
        t.store.saveWaiting = rest ∧ ∃ y, t.store.saving = some y ∧ y.op = o ∧
          (o.kind = .write → y.records = s.register.queues.get o.side) ∧
          (t.store.slots.get o.side).state = if o.kind = .write then .written else .erasing
      (r.op = { kind := .write, side := i } → ∃ t, exec .slotWriteEnd s = .next t ∧
        (s.store.saveWaiting = [] → t.store = left { state := .written, contents := .saved r.records }) ∧ isNext t ∧
        OnlyChanges [.store] s t) ∧
      (r.op = { kind := .erase, side := i } → ∃ t, exec .slotEraseEnd s = .next t ∧
        (s.store.saveWaiting = [] → t.store = left { state := .erased, contents := .empty }) ∧ isNext t ∧
        OnlyChanges [.store] s t)))

/-- While LOADING the regions are read in the order CAL, CFG, PRICE, TOTALS: a valid one gives its owner its contents, an unreadable one the
defaults, and no other read happens. The end of loading spends the nozzles found up, closes both sides for CALIBRATION where the CAL region
is INVALID, returns the saved records to their queues, with the totals of those that are owed them added and a TOTALS_WRITE queued, raises a
stack depth that they exceed, has their slots erased, reports a save cut short and POWER_ON, and by the autostart parameter begins both
bring-ups or enters NIGHT, told with the cause AUTOSTART; it does not happen before the four reads (R16, R44, R49, R93, R98, R99,
R104, R105, R157, R158, R159, R176).
That a read out of its turn (notes/assumptions/11.md) and a LOADING_END before the reads or outside LOADING (3.md) change nothing is the
model's deduction. -/
def Obligations.LoadingReadsTheRegionsAndEnds : Prop :=
  ∀ s : State, Settled s →
    let x := s.store
    let load (c : Calibration) (m : MeterChannel) : MeterChannel := { m with weight := c.weight, maxFlow := c.maxFlow }
    let isRead (r : Region) : Prop := x.regionState r ≠ .unread
    let first (r : Region) : Prop := s.power.mode = .loading ∧ ¬isRead r ∧ match r with
      | .cal => True
      | .cfg => isRead .cal
      | .price => isRead .cal ∧ isRead .cfg
      | .totals => isRead .cal ∧ isRead .cfg ∧ isRead .price
    let readAs (t : State) (r : Region) (good : Prop) : Prop :=
      (good → t.store.regionState r = .valid) ∧ (¬good → t.store.regionState r = .invalid) ∧
        ∀ q, q ≠ r → t.store.regionState q = x.regionState q
    (∀ r, ¬first r → exec (.regionRead r) s = .next s) ∧
    (first .cal → ∃ t, exec (.regionRead .cal) s = .next t ∧ readAs t .cal (∃ y, x.cal.stored = .image y) ∧
      (∀ y, x.cal.stored = .image y → t.store.audit = y.audit ∧
        ∀ m, t.meter m = load ((y.meters.get m.side).get m.product) (s.meter m)) ∧
      (x.cal.stored = .unreadable → t.store.audit = 0 ∧
        ∀ m, t.meter m = load { weight := 10000, maxFlow := 6000 } (s.meter m))) ∧
    (first .cfg → ∃ t, exec (.regionRead .cfg) s = .next t ∧ readAs t .cfg (∃ y, x.cfg.stored = .image y) ∧
      let y := match x.cfg.stored with | .image y => y | .unreadable => CfgImage.default
      t.params = y.params ∧ t.grades = y.grades ∧ t.classes = y.classes ∧
        t.power = { s.power with nightAt := y.nightAt, wakeAt := y.wakeAt } ∧
        (∀ i, t.fill.get i = { s.fill.get i with map := y.maps.get i }) ∧
        (t.store.cfgDefaults = true ↔ x.cfg.stored = .unreadable) ∧
        OnlyChanges [.params, .grades, .classes, .power, .fill .a, .fill .b, .store] s t) ∧
    (first .price → ∃ t, exec (.regionRead .price) s = .next t ∧ readAs t .price (∃ y, x.price.stored = .image y) ∧
      let y : PriceImage := match x.price.stored with | .image y => y | .unreadable => { generation := 0, bank := Bank.zero }
      t.prices = { active := y.bank, generation := y.generation, retained := none, staged := y.bank
                   sideGeneration := { a := y.generation, b := y.generation }, schedule := none } ∧
        OnlyChanges [.prices, .store] s t) ∧
    (first .totals → ∃ t, exec (.regionRead .totals) s = .next t ∧ readAs t .totals (∃ y, x.totals.stored = .image y) ∧
      let y : TotalsImage :=
        match x.totals.stored with | .image y => y | .unreadable => { totals := Totals.zero, next := { a := 1, b := 1 } }
      t.register.totals = y.totals ∧ t.register.next = y.next ∧ t.register.queues = s.register.queues ∧
        (t.register.totalsValid = true ↔ ∃ z, x.totals.stored = .image z) ∧ OnlyChanges [.register, .store] s t) ∧
    (s.power.mode ≠ .loading ∨ (∃ r, ¬isRead r) → exec .loadingEnd s = .next s) ∧
    (s.power.mode = .loading → (∀ r, isRead r) → s.estopInput = false → s.supplyFailInput = false → x.saving = none →
      x.saveWaiting = [] → (∀ i, s.filling i = false) →
      let isOwed (r : SaleRecord) : Prop := r.ended = .powerFail ∧ r.flags.restored = false
      let saved (i : Side) : List SaleRecord := match (x.slots.get i).contents with | .saved q => q | _ => []
      let owed : List SaleRecord := (saved .a ++ saved .b).filter (fun r => decide (isOwed r))
      ∃ t, exec .loadingEnd s = .next t ∧
        s.register.totals.AddedFrom t.register.totals owed ∧ (owed ≠ [] → x.HasQueued t.store .totalsWrite) ∧
        (let most : Nat := max (t.register.queues.get .a).length (t.register.queues.get .b).length
         (s.params.stackDepth < most → t.params = { s.params with stackDepth := most } ∧ x.HasQueued t.store .cfgWrite) ∧
         ((most : Int) ≤ s.params.stackDepth → t.params = s.params)) ∧
        (∀ i, let f := s.fill.get i
          t.sideState i = .closed ∧ (t.fill.get i).counted = none ∧
          (∀ n, (t.fill.get i).nozzles.get n = if f.nozzles.get n = .hung then .hung else .spent) ∧
          (t.fill.get i).closures.night = true ∧
          (t.fill.get i).closures.calibration = (f.closures.calibration || decide (x.cal.state = .invalid)) ∧
          ((x.slots.get i).contents = .empty → t.store.slots.get i = { state := .erased, contents := .empty } ∧
            t.register.queues.get i = s.register.queues.get i) ∧
          (∀ q, (x.slots.get i).contents = .saved q → t.register.queues.get i = q.map
            (fun r => if isOwed r then { r with flags := { r.flags with restored := true } } else r)) ∧
          ((x.slots.get i).contents ≠ .empty → t.store.willErase i) ∧
          ((x.slots.get i).contents = .cutShort → Room 16 s → t.link.tells (.saveLost i))) ∧
        (s.params.autostart ≠ 0 → t.power.mode = .waking ∧ ∀ i, (t.sidePower.get i).bringUp = true) ∧
        (s.params.autostart = 0 → t.power.mode = .night ∧ ∀ i, (t.sidePower.get i).state = .off) ∧
        (Room 16 s → ∃ a b c aa ca ab cb, t.link.tells (.powerStage t.power.mode a b c .autostart aa ca ab cb)) ∧
        (Room 16 s → (∀ i, (x.slots.get i).contents = .empty) → t.link.tells
          (.powerOn s.power.resetCause x.cal.state x.cfg.state x.price.state x.totals.state x.cfgDefaults s.clock.valid
            (s.register.queues.get .a).length (s.register.queues.get .b).length)))
end

