-- ==== Sys2Proof/Laws/State.lean ====
section
/-! SUPPORT. What each update of the state leaves in each of its fields, and the laws of the records there is one of for each place. -/

namespace Sys2Proof.Machine

open Sys2Proof

@[simp] theorem PerSide.get_set_same {α : Type} (x : PerSide α) (i : Side) (v : α) : (x.set i v).get i = v := by cases i <;> rfl
theorem PerSide.get_set {α : Type} (x : PerSide α) (i j : Side) (v : α) : (x.set i v).get j = if j = i then v else x.get j := by
  cases i <;> cases j <;> rfl
theorem PerSide.get_set_other {α : Type} (x : PerSide α) {i j : Side} (v : α) (h : j ≠ i) : (x.set i v).get j = x.get j := by
  rw [PerSide.get_set, if_neg h]
@[simp] theorem PerSide.set_get {α : Type} (x : PerSide α) (i : Side) : x.set i (x.get i) = x := by cases i <;> rfl
@[simp] theorem PerSide.set_set {α : Type} (x : PerSide α) (i : Side) (v w : α) : (x.set i v).set i w = x.set i w := by cases i <;> rfl
theorem PerSide.ext_fields {α : Type} {x y : PerSide α} (ha : x.a = y.a) (hb : x.b = y.b) : x = y := by
  cases x; cases y; simp_all
@[simp] theorem PerProduct.get_set_same {α : Type} (x : PerProduct α) (i : Product) (v : α) : (x.set i v).get i = v := by cases i <;> rfl
theorem PerProduct.get_set {α : Type} (x : PerProduct α) (i j : Product) (v : α) : (x.set i v).get j = if j = i then v else x.get j := by
  cases i <;> cases j <;> rfl
theorem PerProduct.get_set_other {α : Type} (x : PerProduct α) {i j : Product} (v : α) (h : j ≠ i) : (x.set i v).get j = x.get j := by
  rw [PerProduct.get_set, if_neg h]
@[simp] theorem PerProduct.set_get {α : Type} (x : PerProduct α) (i : Product) : x.set i (x.get i) = x := by cases i <;> rfl
@[simp] theorem PerProduct.set_set {α : Type} (x : PerProduct α) (i : Product) (v w : α) : (x.set i v).set i w = x.set i w := by cases i <;> rfl
theorem PerProduct.ext_fields {α : Type} {x y : PerProduct α} (hlo : x.lo = y.lo) (hhi : x.hi = y.hi) : x = y := by
  cases x; cases y; simp_all
@[simp] theorem PerNozzle.get_set_same {α : Type} (x : PerNozzle α) (i : Nozzle) (v : α) : (x.set i v).get i = v := by cases i <;> rfl
theorem PerNozzle.get_set {α : Type} (x : PerNozzle α) (i j : Nozzle) (v : α) : (x.set i v).get j = if j = i then v else x.get j := by
  cases i <;> cases j <;> rfl
theorem PerNozzle.get_set_other {α : Type} (x : PerNozzle α) {i j : Nozzle} (v : α) (h : j ≠ i) : (x.set i v).get j = x.get j := by
  rw [PerNozzle.get_set, if_neg h]
@[simp] theorem PerNozzle.set_get {α : Type} (x : PerNozzle α) (i : Nozzle) : x.set i (x.get i) = x := by cases i <;> rfl
@[simp] theorem PerNozzle.set_set {α : Type} (x : PerNozzle α) (i : Nozzle) (v w : α) : (x.set i v).set i w = x.set i w := by cases i <;> rfl
theorem PerNozzle.ext_fields {α : Type} {x y : PerNozzle α} (hn1 : x.n1 = y.n1) (hn2 : x.n2 = y.n2) (hn3 : x.n3 = y.n3) (hn4 : x.n4 = y.n4) : x = y := by
  cases x; cases y; simp_all
@[simp] theorem PerGrade.get_set_same {α : Type} (x : PerGrade α) (i : Grade) (v : α) : (x.set i v).get i = v := by cases i <;> rfl
theorem PerGrade.get_set {α : Type} (x : PerGrade α) (i j : Grade) (v : α) : (x.set i v).get j = if j = i then v else x.get j := by
  cases i <;> cases j <;> rfl
theorem PerGrade.get_set_other {α : Type} (x : PerGrade α) {i j : Grade} (v : α) (h : j ≠ i) : (x.set i v).get j = x.get j := by
  rw [PerGrade.get_set, if_neg h]
@[simp] theorem PerGrade.set_get {α : Type} (x : PerGrade α) (i : Grade) : x.set i (x.get i) = x := by cases i <;> rfl
@[simp] theorem PerGrade.set_set {α : Type} (x : PerGrade α) (i : Grade) (v w : α) : (x.set i v).set i w = x.set i w := by cases i <;> rfl
theorem PerGrade.ext_fields {α : Type} {x y : PerGrade α} (hg1 : x.g1 = y.g1) (hg2 : x.g2 = y.g2) (hg3 : x.g3 = y.g3) (hg4 : x.g4 = y.g4) (hg5 : x.g5 = y.g5) (hg6 : x.g6 = y.g6) (hg7 : x.g7 = y.g7) (hg8 : x.g8 = y.g8) : x = y := by
  cases x; cases y; simp_all
@[simp] theorem PerLevel.get_set_same {α : Type} (x : PerLevel α) (i : Level) (v : α) : (x.set i v).get i = v := by cases i <;> rfl
theorem PerLevel.get_set {α : Type} (x : PerLevel α) (i j : Level) (v : α) : (x.set i v).get j = if j = i then v else x.get j := by
  cases i <;> cases j <;> rfl
theorem PerLevel.get_set_other {α : Type} (x : PerLevel α) {i j : Level} (v : α) (h : j ≠ i) : (x.set i v).get j = x.get j := by
  rw [PerLevel.get_set, if_neg h]
@[simp] theorem PerLevel.set_get {α : Type} (x : PerLevel α) (i : Level) : x.set i (x.get i) = x := by cases i <;> rfl
@[simp] theorem PerLevel.set_set {α : Type} (x : PerLevel α) (i : Level) (v w : α) : (x.set i v).set i w = x.set i w := by cases i <;> rfl
theorem PerLevel.ext_fields {α : Type} {x y : PerLevel α} (hl1 : x.l1 = y.l1) (hl2 : x.l2 = y.l2) : x = y := by
  cases x; cases y; simp_all
@[simp] theorem PerSide.set_a_a {α : Type} (x : PerSide α) (v : α) : (x.set .a v).a = v := rfl
@[simp] theorem PerSide.set_a_b {α : Type} (x : PerSide α) (v : α) : (x.set .a v).b = x.b := rfl
@[simp] theorem PerSide.set_b_a {α : Type} (x : PerSide α) (v : α) : (x.set .b v).a = x.a := rfl
@[simp] theorem PerSide.set_b_b {α : Type} (x : PerSide α) (v : α) : (x.set .b v).b = v := rfl
@[simp] theorem PerSide.get_a {α : Type} (x : PerSide α) : x.get .a = x.a := rfl
@[simp] theorem PerSide.get_b {α : Type} (x : PerSide α) : x.get .b = x.b := rfl
@[simp] theorem PerProduct.get_lo {α : Type} (x : PerProduct α) : x.get .lo = x.lo := rfl
@[simp] theorem PerProduct.get_hi {α : Type} (x : PerProduct α) : x.get .hi = x.hi := rfl

/-! ### setMeter -/

@[simp] theorem State.setMeter_meters (s : State) (m : Meter) (c : MeterChannel) : (s.setMeter m c).meters = s.meters.set m.side ((s.meters.get m.side).set m.product c) := rfl
@[simp] theorem State.setMeter_sideMeters (s : State) (m : Meter) (c : MeterChannel) : (s.setMeter m c).sideMeters = s.sideMeters := rfl
@[simp] theorem State.setMeter_prices (s : State) (m : Meter) (c : MeterChannel) : (s.setMeter m c).prices = s.prices := rfl
@[simp] theorem State.setMeter_figures (s : State) (m : Meter) (c : MeterChannel) : (s.setMeter m c).figures = s.figures := rfl
@[simp] theorem State.setMeter_fill (s : State) (m : Meter) (c : MeterChannel) : (s.setMeter m c).fill = s.fill := rfl
@[simp] theorem State.setMeter_motors (s : State) (m : Meter) (c : MeterChannel) : (s.setMeter m c).motors = s.motors := rfl
@[simp] theorem State.setMeter_valves (s : State) (m : Meter) (c : MeterChannel) : (s.setMeter m c).valves = s.valves := rfl
@[simp] theorem State.setMeter_blend (s : State) (m : Meter) (c : MeterChannel) : (s.setMeter m c).blend = s.blend := rfl
@[simp] theorem State.setMeter_grades (s : State) (m : Meter) (c : MeterChannel) : (s.setMeter m c).grades = s.grades := rfl
@[simp] theorem State.setMeter_register (s : State) (m : Meter) (c : MeterChannel) : (s.setMeter m c).register = s.register := rfl
@[simp] theorem State.setMeter_display (s : State) (m : Meter) (c : MeterChannel) : (s.setMeter m c).display = s.display := rfl
@[simp] theorem State.setMeter_arbiter (s : State) (m : Meter) (c : MeterChannel) : (s.setMeter m c).arbiter = s.arbiter := rfl
@[simp] theorem State.setMeter_ports (s : State) (m : Meter) (c : MeterChannel) : (s.setMeter m c).ports = s.ports := rfl
@[simp] theorem State.setMeter_classes (s : State) (m : Meter) (c : MeterChannel) : (s.setMeter m c).classes = s.classes := rfl
@[simp] theorem State.setMeter_conversations (s : State) (m : Meter) (c : MeterChannel) : (s.setMeter m c).conversations = s.conversations := rfl
@[simp] theorem State.setMeter_agingTimer (s : State) (m : Meter) (c : MeterChannel) : (s.setMeter m c).agingTimer = s.agingTimer := rfl
@[simp] theorem State.setMeter_power (s : State) (m : Meter) (c : MeterChannel) : (s.setMeter m c).power = s.power := rfl
@[simp] theorem State.setMeter_sidePower (s : State) (m : Meter) (c : MeterChannel) : (s.setMeter m c).sidePower = s.sidePower := rfl
@[simp] theorem State.setMeter_clock (s : State) (m : Meter) (c : MeterChannel) : (s.setMeter m c).clock = s.clock := rfl
@[simp] theorem State.setMeter_store (s : State) (m : Meter) (c : MeterChannel) : (s.setMeter m c).store = s.store := rfl
@[simp] theorem State.setMeter_link (s : State) (m : Meter) (c : MeterChannel) : (s.setMeter m c).link = s.link := rfl
@[simp] theorem State.setMeter_params (s : State) (m : Meter) (c : MeterChannel) : (s.setMeter m c).params = s.params := rfl
@[simp] theorem State.setMeter_estopInput (s : State) (m : Meter) (c : MeterChannel) : (s.setMeter m c).estopInput = s.estopInput := rfl
@[simp] theorem State.setMeter_supplyFailInput (s : State) (m : Meter) (c : MeterChannel) : (s.setMeter m c).supplyFailInput = s.supplyFailInput := rfl
@[simp] theorem State.setMeter_changes (s : State) (m : Meter) (c : MeterChannel) : (s.setMeter m c).changes = s.changes := rfl
@[simp] theorem State.setMeter_pending (s : State) (m : Meter) (c : MeterChannel) : (s.setMeter m c).pending = s.pending := rfl

/-! ### setSideMeters -/

@[simp] theorem State.setSideMeters_meters (s : State) (i : Side) (x : SideMeters) : (s.setSideMeters i x).meters = s.meters := rfl
@[simp] theorem State.setSideMeters_sideMeters (s : State) (i : Side) (x : SideMeters) : (s.setSideMeters i x).sideMeters = s.sideMeters.set i x := rfl
@[simp] theorem State.setSideMeters_prices (s : State) (i : Side) (x : SideMeters) : (s.setSideMeters i x).prices = s.prices := rfl
@[simp] theorem State.setSideMeters_figures (s : State) (i : Side) (x : SideMeters) : (s.setSideMeters i x).figures = s.figures := rfl
@[simp] theorem State.setSideMeters_fill (s : State) (i : Side) (x : SideMeters) : (s.setSideMeters i x).fill = s.fill := rfl
@[simp] theorem State.setSideMeters_motors (s : State) (i : Side) (x : SideMeters) : (s.setSideMeters i x).motors = s.motors := rfl
@[simp] theorem State.setSideMeters_valves (s : State) (i : Side) (x : SideMeters) : (s.setSideMeters i x).valves = s.valves := rfl
@[simp] theorem State.setSideMeters_blend (s : State) (i : Side) (x : SideMeters) : (s.setSideMeters i x).blend = s.blend := rfl
@[simp] theorem State.setSideMeters_grades (s : State) (i : Side) (x : SideMeters) : (s.setSideMeters i x).grades = s.grades := rfl
@[simp] theorem State.setSideMeters_register (s : State) (i : Side) (x : SideMeters) : (s.setSideMeters i x).register = s.register := rfl
@[simp] theorem State.setSideMeters_display (s : State) (i : Side) (x : SideMeters) : (s.setSideMeters i x).display = s.display := rfl
@[simp] theorem State.setSideMeters_arbiter (s : State) (i : Side) (x : SideMeters) : (s.setSideMeters i x).arbiter = s.arbiter := rfl
@[simp] theorem State.setSideMeters_ports (s : State) (i : Side) (x : SideMeters) : (s.setSideMeters i x).ports = s.ports := rfl
@[simp] theorem State.setSideMeters_classes (s : State) (i : Side) (x : SideMeters) : (s.setSideMeters i x).classes = s.classes := rfl
@[simp] theorem State.setSideMeters_conversations (s : State) (i : Side) (x : SideMeters) : (s.setSideMeters i x).conversations = s.conversations := rfl
@[simp] theorem State.setSideMeters_agingTimer (s : State) (i : Side) (x : SideMeters) : (s.setSideMeters i x).agingTimer = s.agingTimer := rfl
@[simp] theorem State.setSideMeters_power (s : State) (i : Side) (x : SideMeters) : (s.setSideMeters i x).power = s.power := rfl
@[simp] theorem State.setSideMeters_sidePower (s : State) (i : Side) (x : SideMeters) : (s.setSideMeters i x).sidePower = s.sidePower := rfl
@[simp] theorem State.setSideMeters_clock (s : State) (i : Side) (x : SideMeters) : (s.setSideMeters i x).clock = s.clock := rfl
@[simp] theorem State.setSideMeters_store (s : State) (i : Side) (x : SideMeters) : (s.setSideMeters i x).store = s.store := rfl
@[simp] theorem State.setSideMeters_link (s : State) (i : Side) (x : SideMeters) : (s.setSideMeters i x).link = s.link := rfl
@[simp] theorem State.setSideMeters_params (s : State) (i : Side) (x : SideMeters) : (s.setSideMeters i x).params = s.params := rfl
@[simp] theorem State.setSideMeters_estopInput (s : State) (i : Side) (x : SideMeters) : (s.setSideMeters i x).estopInput = s.estopInput := rfl
@[simp] theorem State.setSideMeters_supplyFailInput (s : State) (i : Side) (x : SideMeters) : (s.setSideMeters i x).supplyFailInput = s.supplyFailInput := rfl
@[simp] theorem State.setSideMeters_changes (s : State) (i : Side) (x : SideMeters) : (s.setSideMeters i x).changes = s.changes := rfl
@[simp] theorem State.setSideMeters_pending (s : State) (i : Side) (x : SideMeters) : (s.setSideMeters i x).pending = s.pending := rfl

/-! ### setPrices -/

@[simp] theorem State.setPrices_meters (s : State) (x : Prices) : (s.setPrices x).meters = s.meters := rfl
@[simp] theorem State.setPrices_sideMeters (s : State) (x : Prices) : (s.setPrices x).sideMeters = s.sideMeters := rfl
@[simp] theorem State.setPrices_prices (s : State) (x : Prices) : (s.setPrices x).prices = x := rfl
@[simp] theorem State.setPrices_figures (s : State) (x : Prices) : (s.setPrices x).figures = s.figures := rfl
@[simp] theorem State.setPrices_fill (s : State) (x : Prices) : (s.setPrices x).fill = s.fill := rfl
@[simp] theorem State.setPrices_motors (s : State) (x : Prices) : (s.setPrices x).motors = s.motors := rfl
@[simp] theorem State.setPrices_valves (s : State) (x : Prices) : (s.setPrices x).valves = s.valves := rfl
@[simp] theorem State.setPrices_blend (s : State) (x : Prices) : (s.setPrices x).blend = s.blend := rfl
@[simp] theorem State.setPrices_grades (s : State) (x : Prices) : (s.setPrices x).grades = s.grades := rfl
@[simp] theorem State.setPrices_register (s : State) (x : Prices) : (s.setPrices x).register = s.register := rfl
@[simp] theorem State.setPrices_display (s : State) (x : Prices) : (s.setPrices x).display = s.display := rfl
@[simp] theorem State.setPrices_arbiter (s : State) (x : Prices) : (s.setPrices x).arbiter = s.arbiter := rfl
@[simp] theorem State.setPrices_ports (s : State) (x : Prices) : (s.setPrices x).ports = s.ports := rfl
@[simp] theorem State.setPrices_classes (s : State) (x : Prices) : (s.setPrices x).classes = s.classes := rfl
@[simp] theorem State.setPrices_conversations (s : State) (x : Prices) : (s.setPrices x).conversations = s.conversations := rfl
@[simp] theorem State.setPrices_agingTimer (s : State) (x : Prices) : (s.setPrices x).agingTimer = s.agingTimer := rfl
@[simp] theorem State.setPrices_power (s : State) (x : Prices) : (s.setPrices x).power = s.power := rfl
@[simp] theorem State.setPrices_sidePower (s : State) (x : Prices) : (s.setPrices x).sidePower = s.sidePower := rfl
@[simp] theorem State.setPrices_clock (s : State) (x : Prices) : (s.setPrices x).clock = s.clock := rfl
@[simp] theorem State.setPrices_store (s : State) (x : Prices) : (s.setPrices x).store = s.store := rfl
@[simp] theorem State.setPrices_link (s : State) (x : Prices) : (s.setPrices x).link = s.link := rfl
@[simp] theorem State.setPrices_params (s : State) (x : Prices) : (s.setPrices x).params = s.params := rfl
@[simp] theorem State.setPrices_estopInput (s : State) (x : Prices) : (s.setPrices x).estopInput = s.estopInput := rfl
@[simp] theorem State.setPrices_supplyFailInput (s : State) (x : Prices) : (s.setPrices x).supplyFailInput = s.supplyFailInput := rfl
@[simp] theorem State.setPrices_changes (s : State) (x : Prices) : (s.setPrices x).changes = s.changes := rfl
@[simp] theorem State.setPrices_pending (s : State) (x : Prices) : (s.setPrices x).pending = s.pending := rfl

/-! ### setFigures -/

@[simp] theorem State.setFigures_meters (s : State) (i : Side) (x : Figures) : (s.setFigures i x).meters = s.meters := rfl
@[simp] theorem State.setFigures_sideMeters (s : State) (i : Side) (x : Figures) : (s.setFigures i x).sideMeters = s.sideMeters := rfl
@[simp] theorem State.setFigures_prices (s : State) (i : Side) (x : Figures) : (s.setFigures i x).prices = s.prices := rfl
@[simp] theorem State.setFigures_figures (s : State) (i : Side) (x : Figures) : (s.setFigures i x).figures = s.figures.set i x := rfl
@[simp] theorem State.setFigures_fill (s : State) (i : Side) (x : Figures) : (s.setFigures i x).fill = s.fill := rfl
@[simp] theorem State.setFigures_motors (s : State) (i : Side) (x : Figures) : (s.setFigures i x).motors = s.motors := rfl
@[simp] theorem State.setFigures_valves (s : State) (i : Side) (x : Figures) : (s.setFigures i x).valves = s.valves := rfl
@[simp] theorem State.setFigures_blend (s : State) (i : Side) (x : Figures) : (s.setFigures i x).blend = s.blend := rfl
@[simp] theorem State.setFigures_grades (s : State) (i : Side) (x : Figures) : (s.setFigures i x).grades = s.grades := rfl
@[simp] theorem State.setFigures_register (s : State) (i : Side) (x : Figures) : (s.setFigures i x).register = s.register := rfl
@[simp] theorem State.setFigures_display (s : State) (i : Side) (x : Figures) : (s.setFigures i x).display = s.display := rfl
@[simp] theorem State.setFigures_arbiter (s : State) (i : Side) (x : Figures) : (s.setFigures i x).arbiter = s.arbiter := rfl
@[simp] theorem State.setFigures_ports (s : State) (i : Side) (x : Figures) : (s.setFigures i x).ports = s.ports := rfl
@[simp] theorem State.setFigures_classes (s : State) (i : Side) (x : Figures) : (s.setFigures i x).classes = s.classes := rfl
@[simp] theorem State.setFigures_conversations (s : State) (i : Side) (x : Figures) : (s.setFigures i x).conversations = s.conversations := rfl
@[simp] theorem State.setFigures_agingTimer (s : State) (i : Side) (x : Figures) : (s.setFigures i x).agingTimer = s.agingTimer := rfl
@[simp] theorem State.setFigures_power (s : State) (i : Side) (x : Figures) : (s.setFigures i x).power = s.power := rfl
@[simp] theorem State.setFigures_sidePower (s : State) (i : Side) (x : Figures) : (s.setFigures i x).sidePower = s.sidePower := rfl
@[simp] theorem State.setFigures_clock (s : State) (i : Side) (x : Figures) : (s.setFigures i x).clock = s.clock := rfl
@[simp] theorem State.setFigures_store (s : State) (i : Side) (x : Figures) : (s.setFigures i x).store = s.store := rfl
@[simp] theorem State.setFigures_link (s : State) (i : Side) (x : Figures) : (s.setFigures i x).link = s.link := rfl
@[simp] theorem State.setFigures_params (s : State) (i : Side) (x : Figures) : (s.setFigures i x).params = s.params := rfl
@[simp] theorem State.setFigures_estopInput (s : State) (i : Side) (x : Figures) : (s.setFigures i x).estopInput = s.estopInput := rfl
@[simp] theorem State.setFigures_supplyFailInput (s : State) (i : Side) (x : Figures) : (s.setFigures i x).supplyFailInput = s.supplyFailInput := rfl
@[simp] theorem State.setFigures_changes (s : State) (i : Side) (x : Figures) : (s.setFigures i x).changes = s.changes := rfl
@[simp] theorem State.setFigures_pending (s : State) (i : Side) (x : Figures) : (s.setFigures i x).pending = s.pending := rfl

/-! ### setFill -/

@[simp] theorem State.setFill_meters (s : State) (i : Side) (x : Fill) : (s.setFill i x).meters = s.meters := rfl
@[simp] theorem State.setFill_sideMeters (s : State) (i : Side) (x : Fill) : (s.setFill i x).sideMeters = s.sideMeters := rfl
@[simp] theorem State.setFill_prices (s : State) (i : Side) (x : Fill) : (s.setFill i x).prices = s.prices := rfl
@[simp] theorem State.setFill_figures (s : State) (i : Side) (x : Fill) : (s.setFill i x).figures = s.figures := rfl
@[simp] theorem State.setFill_fill (s : State) (i : Side) (x : Fill) : (s.setFill i x).fill = s.fill.set i x := rfl
@[simp] theorem State.setFill_motors (s : State) (i : Side) (x : Fill) : (s.setFill i x).motors = s.motors := rfl
@[simp] theorem State.setFill_valves (s : State) (i : Side) (x : Fill) : (s.setFill i x).valves = s.valves := rfl
@[simp] theorem State.setFill_blend (s : State) (i : Side) (x : Fill) : (s.setFill i x).blend = s.blend := rfl
@[simp] theorem State.setFill_grades (s : State) (i : Side) (x : Fill) : (s.setFill i x).grades = s.grades := rfl
@[simp] theorem State.setFill_register (s : State) (i : Side) (x : Fill) : (s.setFill i x).register = s.register := rfl
@[simp] theorem State.setFill_display (s : State) (i : Side) (x : Fill) : (s.setFill i x).display = s.display := rfl
@[simp] theorem State.setFill_arbiter (s : State) (i : Side) (x : Fill) : (s.setFill i x).arbiter = s.arbiter := rfl
@[simp] theorem State.setFill_ports (s : State) (i : Side) (x : Fill) : (s.setFill i x).ports = s.ports := rfl
@[simp] theorem State.setFill_classes (s : State) (i : Side) (x : Fill) : (s.setFill i x).classes = s.classes := rfl
@[simp] theorem State.setFill_conversations (s : State) (i : Side) (x : Fill) : (s.setFill i x).conversations = s.conversations := rfl
@[simp] theorem State.setFill_agingTimer (s : State) (i : Side) (x : Fill) : (s.setFill i x).agingTimer = s.agingTimer := rfl
@[simp] theorem State.setFill_power (s : State) (i : Side) (x : Fill) : (s.setFill i x).power = s.power := rfl
@[simp] theorem State.setFill_sidePower (s : State) (i : Side) (x : Fill) : (s.setFill i x).sidePower = s.sidePower := rfl
@[simp] theorem State.setFill_clock (s : State) (i : Side) (x : Fill) : (s.setFill i x).clock = s.clock := rfl
@[simp] theorem State.setFill_store (s : State) (i : Side) (x : Fill) : (s.setFill i x).store = s.store := rfl
@[simp] theorem State.setFill_link (s : State) (i : Side) (x : Fill) : (s.setFill i x).link = s.link := rfl
@[simp] theorem State.setFill_params (s : State) (i : Side) (x : Fill) : (s.setFill i x).params = s.params := rfl
@[simp] theorem State.setFill_estopInput (s : State) (i : Side) (x : Fill) : (s.setFill i x).estopInput = s.estopInput := rfl
@[simp] theorem State.setFill_supplyFailInput (s : State) (i : Side) (x : Fill) : (s.setFill i x).supplyFailInput = s.supplyFailInput := rfl
@[simp] theorem State.setFill_changes (s : State) (i : Side) (x : Fill) : (s.setFill i x).changes = s.changes := rfl
@[simp] theorem State.setFill_pending (s : State) (i : Side) (x : Fill) : (s.setFill i x).pending = s.pending := rfl

/-! ### setMotor -/

@[simp] theorem State.setMotor_meters (s : State) (p : Product) (x : Motor) : (s.setMotor p x).meters = s.meters := rfl
@[simp] theorem State.setMotor_sideMeters (s : State) (p : Product) (x : Motor) : (s.setMotor p x).sideMeters = s.sideMeters := rfl
@[simp] theorem State.setMotor_prices (s : State) (p : Product) (x : Motor) : (s.setMotor p x).prices = s.prices := rfl
@[simp] theorem State.setMotor_figures (s : State) (p : Product) (x : Motor) : (s.setMotor p x).figures = s.figures := rfl
@[simp] theorem State.setMotor_fill (s : State) (p : Product) (x : Motor) : (s.setMotor p x).fill = s.fill := rfl
@[simp] theorem State.setMotor_motors (s : State) (p : Product) (x : Motor) : (s.setMotor p x).motors = s.motors.set p x := rfl
@[simp] theorem State.setMotor_valves (s : State) (p : Product) (x : Motor) : (s.setMotor p x).valves = s.valves := rfl
@[simp] theorem State.setMotor_blend (s : State) (p : Product) (x : Motor) : (s.setMotor p x).blend = s.blend := rfl
@[simp] theorem State.setMotor_grades (s : State) (p : Product) (x : Motor) : (s.setMotor p x).grades = s.grades := rfl
@[simp] theorem State.setMotor_register (s : State) (p : Product) (x : Motor) : (s.setMotor p x).register = s.register := rfl
@[simp] theorem State.setMotor_display (s : State) (p : Product) (x : Motor) : (s.setMotor p x).display = s.display := rfl
@[simp] theorem State.setMotor_arbiter (s : State) (p : Product) (x : Motor) : (s.setMotor p x).arbiter = s.arbiter := rfl
@[simp] theorem State.setMotor_ports (s : State) (p : Product) (x : Motor) : (s.setMotor p x).ports = s.ports := rfl
@[simp] theorem State.setMotor_classes (s : State) (p : Product) (x : Motor) : (s.setMotor p x).classes = s.classes := rfl
@[simp] theorem State.setMotor_conversations (s : State) (p : Product) (x : Motor) : (s.setMotor p x).conversations = s.conversations := rfl
@[simp] theorem State.setMotor_agingTimer (s : State) (p : Product) (x : Motor) : (s.setMotor p x).agingTimer = s.agingTimer := rfl
@[simp] theorem State.setMotor_power (s : State) (p : Product) (x : Motor) : (s.setMotor p x).power = s.power := rfl
@[simp] theorem State.setMotor_sidePower (s : State) (p : Product) (x : Motor) : (s.setMotor p x).sidePower = s.sidePower := rfl
@[simp] theorem State.setMotor_clock (s : State) (p : Product) (x : Motor) : (s.setMotor p x).clock = s.clock := rfl
@[simp] theorem State.setMotor_store (s : State) (p : Product) (x : Motor) : (s.setMotor p x).store = s.store := rfl
@[simp] theorem State.setMotor_link (s : State) (p : Product) (x : Motor) : (s.setMotor p x).link = s.link := rfl
@[simp] theorem State.setMotor_params (s : State) (p : Product) (x : Motor) : (s.setMotor p x).params = s.params := rfl
@[simp] theorem State.setMotor_estopInput (s : State) (p : Product) (x : Motor) : (s.setMotor p x).estopInput = s.estopInput := rfl
@[simp] theorem State.setMotor_supplyFailInput (s : State) (p : Product) (x : Motor) : (s.setMotor p x).supplyFailInput = s.supplyFailInput := rfl
@[simp] theorem State.setMotor_changes (s : State) (p : Product) (x : Motor) : (s.setMotor p x).changes = s.changes := rfl
@[simp] theorem State.setMotor_pending (s : State) (p : Product) (x : Motor) : (s.setMotor p x).pending = s.pending := rfl

/-! ### setValves -/

@[simp] theorem State.setValves_meters (s : State) (i : Side) (x : PerProduct Nat) : (s.setValves i x).meters = s.meters := rfl
@[simp] theorem State.setValves_sideMeters (s : State) (i : Side) (x : PerProduct Nat) : (s.setValves i x).sideMeters = s.sideMeters := rfl
@[simp] theorem State.setValves_prices (s : State) (i : Side) (x : PerProduct Nat) : (s.setValves i x).prices = s.prices := rfl
@[simp] theorem State.setValves_figures (s : State) (i : Side) (x : PerProduct Nat) : (s.setValves i x).figures = s.figures := rfl
@[simp] theorem State.setValves_fill (s : State) (i : Side) (x : PerProduct Nat) : (s.setValves i x).fill = s.fill := rfl
@[simp] theorem State.setValves_motors (s : State) (i : Side) (x : PerProduct Nat) : (s.setValves i x).motors = s.motors := rfl
@[simp] theorem State.setValves_valves (s : State) (i : Side) (x : PerProduct Nat) : (s.setValves i x).valves = s.valves.set i x := rfl
@[simp] theorem State.setValves_blend (s : State) (i : Side) (x : PerProduct Nat) : (s.setValves i x).blend = s.blend := rfl
@[simp] theorem State.setValves_grades (s : State) (i : Side) (x : PerProduct Nat) : (s.setValves i x).grades = s.grades := rfl
@[simp] theorem State.setValves_register (s : State) (i : Side) (x : PerProduct Nat) : (s.setValves i x).register = s.register := rfl
@[simp] theorem State.setValves_display (s : State) (i : Side) (x : PerProduct Nat) : (s.setValves i x).display = s.display := rfl
@[simp] theorem State.setValves_arbiter (s : State) (i : Side) (x : PerProduct Nat) : (s.setValves i x).arbiter = s.arbiter := rfl
@[simp] theorem State.setValves_ports (s : State) (i : Side) (x : PerProduct Nat) : (s.setValves i x).ports = s.ports := rfl
@[simp] theorem State.setValves_classes (s : State) (i : Side) (x : PerProduct Nat) : (s.setValves i x).classes = s.classes := rfl
@[simp] theorem State.setValves_conversations (s : State) (i : Side) (x : PerProduct Nat) : (s.setValves i x).conversations = s.conversations := rfl
@[simp] theorem State.setValves_agingTimer (s : State) (i : Side) (x : PerProduct Nat) : (s.setValves i x).agingTimer = s.agingTimer := rfl
@[simp] theorem State.setValves_power (s : State) (i : Side) (x : PerProduct Nat) : (s.setValves i x).power = s.power := rfl
@[simp] theorem State.setValves_sidePower (s : State) (i : Side) (x : PerProduct Nat) : (s.setValves i x).sidePower = s.sidePower := rfl
@[simp] theorem State.setValves_clock (s : State) (i : Side) (x : PerProduct Nat) : (s.setValves i x).clock = s.clock := rfl
@[simp] theorem State.setValves_store (s : State) (i : Side) (x : PerProduct Nat) : (s.setValves i x).store = s.store := rfl
@[simp] theorem State.setValves_link (s : State) (i : Side) (x : PerProduct Nat) : (s.setValves i x).link = s.link := rfl
@[simp] theorem State.setValves_params (s : State) (i : Side) (x : PerProduct Nat) : (s.setValves i x).params = s.params := rfl
@[simp] theorem State.setValves_estopInput (s : State) (i : Side) (x : PerProduct Nat) : (s.setValves i x).estopInput = s.estopInput := rfl
@[simp] theorem State.setValves_supplyFailInput (s : State) (i : Side) (x : PerProduct Nat) : (s.setValves i x).supplyFailInput = s.supplyFailInput := rfl
@[simp] theorem State.setValves_changes (s : State) (i : Side) (x : PerProduct Nat) : (s.setValves i x).changes = s.changes := rfl
@[simp] theorem State.setValves_pending (s : State) (i : Side) (x : PerProduct Nat) : (s.setValves i x).pending = s.pending := rfl

/-! ### setBlend -/

@[simp] theorem State.setBlend_meters (s : State) (i : Side) (x : Blend) : (s.setBlend i x).meters = s.meters := rfl
@[simp] theorem State.setBlend_sideMeters (s : State) (i : Side) (x : Blend) : (s.setBlend i x).sideMeters = s.sideMeters := rfl
@[simp] theorem State.setBlend_prices (s : State) (i : Side) (x : Blend) : (s.setBlend i x).prices = s.prices := rfl
@[simp] theorem State.setBlend_figures (s : State) (i : Side) (x : Blend) : (s.setBlend i x).figures = s.figures := rfl
@[simp] theorem State.setBlend_fill (s : State) (i : Side) (x : Blend) : (s.setBlend i x).fill = s.fill := rfl
@[simp] theorem State.setBlend_motors (s : State) (i : Side) (x : Blend) : (s.setBlend i x).motors = s.motors := rfl
@[simp] theorem State.setBlend_valves (s : State) (i : Side) (x : Blend) : (s.setBlend i x).valves = s.valves := rfl
@[simp] theorem State.setBlend_blend (s : State) (i : Side) (x : Blend) : (s.setBlend i x).blend = s.blend.set i x := rfl
@[simp] theorem State.setBlend_grades (s : State) (i : Side) (x : Blend) : (s.setBlend i x).grades = s.grades := rfl
@[simp] theorem State.setBlend_register (s : State) (i : Side) (x : Blend) : (s.setBlend i x).register = s.register := rfl
@[simp] theorem State.setBlend_display (s : State) (i : Side) (x : Blend) : (s.setBlend i x).display = s.display := rfl
@[simp] theorem State.setBlend_arbiter (s : State) (i : Side) (x : Blend) : (s.setBlend i x).arbiter = s.arbiter := rfl
@[simp] theorem State.setBlend_ports (s : State) (i : Side) (x : Blend) : (s.setBlend i x).ports = s.ports := rfl
@[simp] theorem State.setBlend_classes (s : State) (i : Side) (x : Blend) : (s.setBlend i x).classes = s.classes := rfl
@[simp] theorem State.setBlend_conversations (s : State) (i : Side) (x : Blend) : (s.setBlend i x).conversations = s.conversations := rfl
@[simp] theorem State.setBlend_agingTimer (s : State) (i : Side) (x : Blend) : (s.setBlend i x).agingTimer = s.agingTimer := rfl
@[simp] theorem State.setBlend_power (s : State) (i : Side) (x : Blend) : (s.setBlend i x).power = s.power := rfl
@[simp] theorem State.setBlend_sidePower (s : State) (i : Side) (x : Blend) : (s.setBlend i x).sidePower = s.sidePower := rfl
@[simp] theorem State.setBlend_clock (s : State) (i : Side) (x : Blend) : (s.setBlend i x).clock = s.clock := rfl
@[simp] theorem State.setBlend_store (s : State) (i : Side) (x : Blend) : (s.setBlend i x).store = s.store := rfl
@[simp] theorem State.setBlend_link (s : State) (i : Side) (x : Blend) : (s.setBlend i x).link = s.link := rfl
@[simp] theorem State.setBlend_params (s : State) (i : Side) (x : Blend) : (s.setBlend i x).params = s.params := rfl
@[simp] theorem State.setBlend_estopInput (s : State) (i : Side) (x : Blend) : (s.setBlend i x).estopInput = s.estopInput := rfl
@[simp] theorem State.setBlend_supplyFailInput (s : State) (i : Side) (x : Blend) : (s.setBlend i x).supplyFailInput = s.supplyFailInput := rfl
@[simp] theorem State.setBlend_changes (s : State) (i : Side) (x : Blend) : (s.setBlend i x).changes = s.changes := rfl
@[simp] theorem State.setBlend_pending (s : State) (i : Side) (x : Blend) : (s.setBlend i x).pending = s.pending := rfl

/-! ### setRegister -/

@[simp] theorem State.setRegister_meters (s : State) (x : Register) : (s.setRegister x).meters = s.meters := rfl
@[simp] theorem State.setRegister_sideMeters (s : State) (x : Register) : (s.setRegister x).sideMeters = s.sideMeters := rfl
@[simp] theorem State.setRegister_prices (s : State) (x : Register) : (s.setRegister x).prices = s.prices := rfl
@[simp] theorem State.setRegister_figures (s : State) (x : Register) : (s.setRegister x).figures = s.figures := rfl
@[simp] theorem State.setRegister_fill (s : State) (x : Register) : (s.setRegister x).fill = s.fill := rfl
@[simp] theorem State.setRegister_motors (s : State) (x : Register) : (s.setRegister x).motors = s.motors := rfl
@[simp] theorem State.setRegister_valves (s : State) (x : Register) : (s.setRegister x).valves = s.valves := rfl
@[simp] theorem State.setRegister_blend (s : State) (x : Register) : (s.setRegister x).blend = s.blend := rfl
@[simp] theorem State.setRegister_grades (s : State) (x : Register) : (s.setRegister x).grades = s.grades := rfl
@[simp] theorem State.setRegister_register (s : State) (x : Register) : (s.setRegister x).register = x := rfl
@[simp] theorem State.setRegister_display (s : State) (x : Register) : (s.setRegister x).display = s.display := rfl
@[simp] theorem State.setRegister_arbiter (s : State) (x : Register) : (s.setRegister x).arbiter = s.arbiter := rfl
@[simp] theorem State.setRegister_ports (s : State) (x : Register) : (s.setRegister x).ports = s.ports := rfl
@[simp] theorem State.setRegister_classes (s : State) (x : Register) : (s.setRegister x).classes = s.classes := rfl
@[simp] theorem State.setRegister_conversations (s : State) (x : Register) : (s.setRegister x).conversations = s.conversations := rfl
@[simp] theorem State.setRegister_agingTimer (s : State) (x : Register) : (s.setRegister x).agingTimer = s.agingTimer := rfl
@[simp] theorem State.setRegister_power (s : State) (x : Register) : (s.setRegister x).power = s.power := rfl
@[simp] theorem State.setRegister_sidePower (s : State) (x : Register) : (s.setRegister x).sidePower = s.sidePower := rfl
@[simp] theorem State.setRegister_clock (s : State) (x : Register) : (s.setRegister x).clock = s.clock := rfl
@[simp] theorem State.setRegister_store (s : State) (x : Register) : (s.setRegister x).store = s.store := rfl
@[simp] theorem State.setRegister_link (s : State) (x : Register) : (s.setRegister x).link = s.link := rfl
@[simp] theorem State.setRegister_params (s : State) (x : Register) : (s.setRegister x).params = s.params := rfl
@[simp] theorem State.setRegister_estopInput (s : State) (x : Register) : (s.setRegister x).estopInput = s.estopInput := rfl
@[simp] theorem State.setRegister_supplyFailInput (s : State) (x : Register) : (s.setRegister x).supplyFailInput = s.supplyFailInput := rfl
@[simp] theorem State.setRegister_changes (s : State) (x : Register) : (s.setRegister x).changes = s.changes := rfl
@[simp] theorem State.setRegister_pending (s : State) (x : Register) : (s.setRegister x).pending = s.pending := rfl

/-! ### setDisplay -/

@[simp] theorem State.setDisplay_meters (s : State) (i : Side) (x : Display) : (s.setDisplay i x).meters = s.meters := rfl
@[simp] theorem State.setDisplay_sideMeters (s : State) (i : Side) (x : Display) : (s.setDisplay i x).sideMeters = s.sideMeters := rfl
@[simp] theorem State.setDisplay_prices (s : State) (i : Side) (x : Display) : (s.setDisplay i x).prices = s.prices := rfl
@[simp] theorem State.setDisplay_figures (s : State) (i : Side) (x : Display) : (s.setDisplay i x).figures = s.figures := rfl
@[simp] theorem State.setDisplay_fill (s : State) (i : Side) (x : Display) : (s.setDisplay i x).fill = s.fill := rfl
@[simp] theorem State.setDisplay_motors (s : State) (i : Side) (x : Display) : (s.setDisplay i x).motors = s.motors := rfl
@[simp] theorem State.setDisplay_valves (s : State) (i : Side) (x : Display) : (s.setDisplay i x).valves = s.valves := rfl
@[simp] theorem State.setDisplay_blend (s : State) (i : Side) (x : Display) : (s.setDisplay i x).blend = s.blend := rfl
@[simp] theorem State.setDisplay_grades (s : State) (i : Side) (x : Display) : (s.setDisplay i x).grades = s.grades := rfl
@[simp] theorem State.setDisplay_register (s : State) (i : Side) (x : Display) : (s.setDisplay i x).register = s.register := rfl
@[simp] theorem State.setDisplay_display (s : State) (i : Side) (x : Display) : (s.setDisplay i x).display = s.display.set i x := rfl
@[simp] theorem State.setDisplay_arbiter (s : State) (i : Side) (x : Display) : (s.setDisplay i x).arbiter = s.arbiter := rfl
@[simp] theorem State.setDisplay_ports (s : State) (i : Side) (x : Display) : (s.setDisplay i x).ports = s.ports := rfl
@[simp] theorem State.setDisplay_classes (s : State) (i : Side) (x : Display) : (s.setDisplay i x).classes = s.classes := rfl
@[simp] theorem State.setDisplay_conversations (s : State) (i : Side) (x : Display) : (s.setDisplay i x).conversations = s.conversations := rfl
@[simp] theorem State.setDisplay_agingTimer (s : State) (i : Side) (x : Display) : (s.setDisplay i x).agingTimer = s.agingTimer := rfl
@[simp] theorem State.setDisplay_power (s : State) (i : Side) (x : Display) : (s.setDisplay i x).power = s.power := rfl
@[simp] theorem State.setDisplay_sidePower (s : State) (i : Side) (x : Display) : (s.setDisplay i x).sidePower = s.sidePower := rfl
@[simp] theorem State.setDisplay_clock (s : State) (i : Side) (x : Display) : (s.setDisplay i x).clock = s.clock := rfl
@[simp] theorem State.setDisplay_store (s : State) (i : Side) (x : Display) : (s.setDisplay i x).store = s.store := rfl
@[simp] theorem State.setDisplay_link (s : State) (i : Side) (x : Display) : (s.setDisplay i x).link = s.link := rfl
@[simp] theorem State.setDisplay_params (s : State) (i : Side) (x : Display) : (s.setDisplay i x).params = s.params := rfl
@[simp] theorem State.setDisplay_estopInput (s : State) (i : Side) (x : Display) : (s.setDisplay i x).estopInput = s.estopInput := rfl
@[simp] theorem State.setDisplay_supplyFailInput (s : State) (i : Side) (x : Display) : (s.setDisplay i x).supplyFailInput = s.supplyFailInput := rfl
@[simp] theorem State.setDisplay_changes (s : State) (i : Side) (x : Display) : (s.setDisplay i x).changes = s.changes := rfl
@[simp] theorem State.setDisplay_pending (s : State) (i : Side) (x : Display) : (s.setDisplay i x).pending = s.pending := rfl

/-! ### setArbiter -/

@[simp] theorem State.setArbiter_meters (s : State) (x : Arbiter) : (s.setArbiter x).meters = s.meters := rfl
@[simp] theorem State.setArbiter_sideMeters (s : State) (x : Arbiter) : (s.setArbiter x).sideMeters = s.sideMeters := rfl
@[simp] theorem State.setArbiter_prices (s : State) (x : Arbiter) : (s.setArbiter x).prices = s.prices := rfl
@[simp] theorem State.setArbiter_figures (s : State) (x : Arbiter) : (s.setArbiter x).figures = s.figures := rfl
@[simp] theorem State.setArbiter_fill (s : State) (x : Arbiter) : (s.setArbiter x).fill = s.fill := rfl
@[simp] theorem State.setArbiter_motors (s : State) (x : Arbiter) : (s.setArbiter x).motors = s.motors := rfl
@[simp] theorem State.setArbiter_valves (s : State) (x : Arbiter) : (s.setArbiter x).valves = s.valves := rfl
@[simp] theorem State.setArbiter_blend (s : State) (x : Arbiter) : (s.setArbiter x).blend = s.blend := rfl
@[simp] theorem State.setArbiter_grades (s : State) (x : Arbiter) : (s.setArbiter x).grades = s.grades := rfl
@[simp] theorem State.setArbiter_register (s : State) (x : Arbiter) : (s.setArbiter x).register = s.register := rfl
@[simp] theorem State.setArbiter_display (s : State) (x : Arbiter) : (s.setArbiter x).display = s.display := rfl
@[simp] theorem State.setArbiter_arbiter (s : State) (x : Arbiter) : (s.setArbiter x).arbiter = x := rfl
@[simp] theorem State.setArbiter_ports (s : State) (x : Arbiter) : (s.setArbiter x).ports = s.ports := rfl
@[simp] theorem State.setArbiter_classes (s : State) (x : Arbiter) : (s.setArbiter x).classes = s.classes := rfl
@[simp] theorem State.setArbiter_conversations (s : State) (x : Arbiter) : (s.setArbiter x).conversations = s.conversations := rfl
@[simp] theorem State.setArbiter_agingTimer (s : State) (x : Arbiter) : (s.setArbiter x).agingTimer = s.agingTimer := rfl
@[simp] theorem State.setArbiter_power (s : State) (x : Arbiter) : (s.setArbiter x).power = s.power := rfl
@[simp] theorem State.setArbiter_sidePower (s : State) (x : Arbiter) : (s.setArbiter x).sidePower = s.sidePower := rfl
@[simp] theorem State.setArbiter_clock (s : State) (x : Arbiter) : (s.setArbiter x).clock = s.clock := rfl
@[simp] theorem State.setArbiter_store (s : State) (x : Arbiter) : (s.setArbiter x).store = s.store := rfl
@[simp] theorem State.setArbiter_link (s : State) (x : Arbiter) : (s.setArbiter x).link = s.link := rfl
@[simp] theorem State.setArbiter_params (s : State) (x : Arbiter) : (s.setArbiter x).params = s.params := rfl
@[simp] theorem State.setArbiter_estopInput (s : State) (x : Arbiter) : (s.setArbiter x).estopInput = s.estopInput := rfl
@[simp] theorem State.setArbiter_supplyFailInput (s : State) (x : Arbiter) : (s.setArbiter x).supplyFailInput = s.supplyFailInput := rfl
@[simp] theorem State.setArbiter_changes (s : State) (x : Arbiter) : (s.setArbiter x).changes = s.changes := rfl
@[simp] theorem State.setArbiter_pending (s : State) (x : Arbiter) : (s.setArbiter x).pending = s.pending := rfl

/-! ### setPort -/

@[simp] theorem State.setPort_meters (s : State) (i : Side) (x : Port) : (s.setPort i x).meters = s.meters := rfl
@[simp] theorem State.setPort_sideMeters (s : State) (i : Side) (x : Port) : (s.setPort i x).sideMeters = s.sideMeters := rfl
@[simp] theorem State.setPort_prices (s : State) (i : Side) (x : Port) : (s.setPort i x).prices = s.prices := rfl
@[simp] theorem State.setPort_figures (s : State) (i : Side) (x : Port) : (s.setPort i x).figures = s.figures := rfl
@[simp] theorem State.setPort_fill (s : State) (i : Side) (x : Port) : (s.setPort i x).fill = s.fill := rfl
@[simp] theorem State.setPort_motors (s : State) (i : Side) (x : Port) : (s.setPort i x).motors = s.motors := rfl
@[simp] theorem State.setPort_valves (s : State) (i : Side) (x : Port) : (s.setPort i x).valves = s.valves := rfl
@[simp] theorem State.setPort_blend (s : State) (i : Side) (x : Port) : (s.setPort i x).blend = s.blend := rfl
@[simp] theorem State.setPort_grades (s : State) (i : Side) (x : Port) : (s.setPort i x).grades = s.grades := rfl
@[simp] theorem State.setPort_register (s : State) (i : Side) (x : Port) : (s.setPort i x).register = s.register := rfl
@[simp] theorem State.setPort_display (s : State) (i : Side) (x : Port) : (s.setPort i x).display = s.display := rfl
@[simp] theorem State.setPort_arbiter (s : State) (i : Side) (x : Port) : (s.setPort i x).arbiter = s.arbiter := rfl
@[simp] theorem State.setPort_ports (s : State) (i : Side) (x : Port) : (s.setPort i x).ports = s.ports.set i x := rfl
@[simp] theorem State.setPort_classes (s : State) (i : Side) (x : Port) : (s.setPort i x).classes = s.classes := rfl
@[simp] theorem State.setPort_conversations (s : State) (i : Side) (x : Port) : (s.setPort i x).conversations = s.conversations := rfl
@[simp] theorem State.setPort_agingTimer (s : State) (i : Side) (x : Port) : (s.setPort i x).agingTimer = s.agingTimer := rfl
@[simp] theorem State.setPort_power (s : State) (i : Side) (x : Port) : (s.setPort i x).power = s.power := rfl
@[simp] theorem State.setPort_sidePower (s : State) (i : Side) (x : Port) : (s.setPort i x).sidePower = s.sidePower := rfl
@[simp] theorem State.setPort_clock (s : State) (i : Side) (x : Port) : (s.setPort i x).clock = s.clock := rfl
@[simp] theorem State.setPort_store (s : State) (i : Side) (x : Port) : (s.setPort i x).store = s.store := rfl
@[simp] theorem State.setPort_link (s : State) (i : Side) (x : Port) : (s.setPort i x).link = s.link := rfl
@[simp] theorem State.setPort_params (s : State) (i : Side) (x : Port) : (s.setPort i x).params = s.params := rfl
@[simp] theorem State.setPort_estopInput (s : State) (i : Side) (x : Port) : (s.setPort i x).estopInput = s.estopInput := rfl
@[simp] theorem State.setPort_supplyFailInput (s : State) (i : Side) (x : Port) : (s.setPort i x).supplyFailInput = s.supplyFailInput := rfl
@[simp] theorem State.setPort_changes (s : State) (i : Side) (x : Port) : (s.setPort i x).changes = s.changes := rfl
@[simp] theorem State.setPort_pending (s : State) (i : Side) (x : Port) : (s.setPort i x).pending = s.pending := rfl

/-! ### setPower -/

@[simp] theorem State.setPower_meters (s : State) (x : Power) : (s.setPower x).meters = s.meters := rfl
@[simp] theorem State.setPower_sideMeters (s : State) (x : Power) : (s.setPower x).sideMeters = s.sideMeters := rfl
@[simp] theorem State.setPower_prices (s : State) (x : Power) : (s.setPower x).prices = s.prices := rfl
@[simp] theorem State.setPower_figures (s : State) (x : Power) : (s.setPower x).figures = s.figures := rfl
@[simp] theorem State.setPower_fill (s : State) (x : Power) : (s.setPower x).fill = s.fill := rfl
@[simp] theorem State.setPower_motors (s : State) (x : Power) : (s.setPower x).motors = s.motors := rfl
@[simp] theorem State.setPower_valves (s : State) (x : Power) : (s.setPower x).valves = s.valves := rfl
@[simp] theorem State.setPower_blend (s : State) (x : Power) : (s.setPower x).blend = s.blend := rfl
@[simp] theorem State.setPower_grades (s : State) (x : Power) : (s.setPower x).grades = s.grades := rfl
@[simp] theorem State.setPower_register (s : State) (x : Power) : (s.setPower x).register = s.register := rfl
@[simp] theorem State.setPower_display (s : State) (x : Power) : (s.setPower x).display = s.display := rfl
@[simp] theorem State.setPower_arbiter (s : State) (x : Power) : (s.setPower x).arbiter = s.arbiter := rfl
@[simp] theorem State.setPower_ports (s : State) (x : Power) : (s.setPower x).ports = s.ports := rfl
@[simp] theorem State.setPower_classes (s : State) (x : Power) : (s.setPower x).classes = s.classes := rfl
@[simp] theorem State.setPower_conversations (s : State) (x : Power) : (s.setPower x).conversations = s.conversations := rfl
@[simp] theorem State.setPower_agingTimer (s : State) (x : Power) : (s.setPower x).agingTimer = s.agingTimer := rfl
@[simp] theorem State.setPower_power (s : State) (x : Power) : (s.setPower x).power = x := rfl
@[simp] theorem State.setPower_sidePower (s : State) (x : Power) : (s.setPower x).sidePower = s.sidePower := rfl
@[simp] theorem State.setPower_clock (s : State) (x : Power) : (s.setPower x).clock = s.clock := rfl
@[simp] theorem State.setPower_store (s : State) (x : Power) : (s.setPower x).store = s.store := rfl
@[simp] theorem State.setPower_link (s : State) (x : Power) : (s.setPower x).link = s.link := rfl
@[simp] theorem State.setPower_params (s : State) (x : Power) : (s.setPower x).params = s.params := rfl
@[simp] theorem State.setPower_estopInput (s : State) (x : Power) : (s.setPower x).estopInput = s.estopInput := rfl
@[simp] theorem State.setPower_supplyFailInput (s : State) (x : Power) : (s.setPower x).supplyFailInput = s.supplyFailInput := rfl
@[simp] theorem State.setPower_changes (s : State) (x : Power) : (s.setPower x).changes = s.changes := rfl
@[simp] theorem State.setPower_pending (s : State) (x : Power) : (s.setPower x).pending = s.pending := rfl

/-! ### setSidePower -/

@[simp] theorem State.setSidePower_meters (s : State) (i : Side) (x : SidePower) : (s.setSidePower i x).meters = s.meters := rfl
@[simp] theorem State.setSidePower_sideMeters (s : State) (i : Side) (x : SidePower) : (s.setSidePower i x).sideMeters = s.sideMeters := rfl
@[simp] theorem State.setSidePower_prices (s : State) (i : Side) (x : SidePower) : (s.setSidePower i x).prices = s.prices := rfl
@[simp] theorem State.setSidePower_figures (s : State) (i : Side) (x : SidePower) : (s.setSidePower i x).figures = s.figures := rfl
@[simp] theorem State.setSidePower_fill (s : State) (i : Side) (x : SidePower) : (s.setSidePower i x).fill = s.fill := rfl
@[simp] theorem State.setSidePower_motors (s : State) (i : Side) (x : SidePower) : (s.setSidePower i x).motors = s.motors := rfl
@[simp] theorem State.setSidePower_valves (s : State) (i : Side) (x : SidePower) : (s.setSidePower i x).valves = s.valves := rfl
@[simp] theorem State.setSidePower_blend (s : State) (i : Side) (x : SidePower) : (s.setSidePower i x).blend = s.blend := rfl
@[simp] theorem State.setSidePower_grades (s : State) (i : Side) (x : SidePower) : (s.setSidePower i x).grades = s.grades := rfl
@[simp] theorem State.setSidePower_register (s : State) (i : Side) (x : SidePower) : (s.setSidePower i x).register = s.register := rfl
@[simp] theorem State.setSidePower_display (s : State) (i : Side) (x : SidePower) : (s.setSidePower i x).display = s.display := rfl
@[simp] theorem State.setSidePower_arbiter (s : State) (i : Side) (x : SidePower) : (s.setSidePower i x).arbiter = s.arbiter := rfl
@[simp] theorem State.setSidePower_ports (s : State) (i : Side) (x : SidePower) : (s.setSidePower i x).ports = s.ports := rfl
@[simp] theorem State.setSidePower_classes (s : State) (i : Side) (x : SidePower) : (s.setSidePower i x).classes = s.classes := rfl
@[simp] theorem State.setSidePower_conversations (s : State) (i : Side) (x : SidePower) : (s.setSidePower i x).conversations = s.conversations := rfl
@[simp] theorem State.setSidePower_agingTimer (s : State) (i : Side) (x : SidePower) : (s.setSidePower i x).agingTimer = s.agingTimer := rfl
@[simp] theorem State.setSidePower_power (s : State) (i : Side) (x : SidePower) : (s.setSidePower i x).power = s.power := rfl
@[simp] theorem State.setSidePower_sidePower (s : State) (i : Side) (x : SidePower) : (s.setSidePower i x).sidePower = s.sidePower.set i x := rfl
@[simp] theorem State.setSidePower_clock (s : State) (i : Side) (x : SidePower) : (s.setSidePower i x).clock = s.clock := rfl
@[simp] theorem State.setSidePower_store (s : State) (i : Side) (x : SidePower) : (s.setSidePower i x).store = s.store := rfl
@[simp] theorem State.setSidePower_link (s : State) (i : Side) (x : SidePower) : (s.setSidePower i x).link = s.link := rfl
@[simp] theorem State.setSidePower_params (s : State) (i : Side) (x : SidePower) : (s.setSidePower i x).params = s.params := rfl
@[simp] theorem State.setSidePower_estopInput (s : State) (i : Side) (x : SidePower) : (s.setSidePower i x).estopInput = s.estopInput := rfl
@[simp] theorem State.setSidePower_supplyFailInput (s : State) (i : Side) (x : SidePower) : (s.setSidePower i x).supplyFailInput = s.supplyFailInput := rfl
@[simp] theorem State.setSidePower_changes (s : State) (i : Side) (x : SidePower) : (s.setSidePower i x).changes = s.changes := rfl
@[simp] theorem State.setSidePower_pending (s : State) (i : Side) (x : SidePower) : (s.setSidePower i x).pending = s.pending := rfl

/-! ### setStore -/

@[simp] theorem State.setStore_meters (s : State) (x : Store) : (s.setStore x).meters = s.meters := rfl
@[simp] theorem State.setStore_sideMeters (s : State) (x : Store) : (s.setStore x).sideMeters = s.sideMeters := rfl
@[simp] theorem State.setStore_prices (s : State) (x : Store) : (s.setStore x).prices = s.prices := rfl
@[simp] theorem State.setStore_figures (s : State) (x : Store) : (s.setStore x).figures = s.figures := rfl
@[simp] theorem State.setStore_fill (s : State) (x : Store) : (s.setStore x).fill = s.fill := rfl
@[simp] theorem State.setStore_motors (s : State) (x : Store) : (s.setStore x).motors = s.motors := rfl
@[simp] theorem State.setStore_valves (s : State) (x : Store) : (s.setStore x).valves = s.valves := rfl
@[simp] theorem State.setStore_blend (s : State) (x : Store) : (s.setStore x).blend = s.blend := rfl
@[simp] theorem State.setStore_grades (s : State) (x : Store) : (s.setStore x).grades = s.grades := rfl
@[simp] theorem State.setStore_register (s : State) (x : Store) : (s.setStore x).register = s.register := rfl
@[simp] theorem State.setStore_display (s : State) (x : Store) : (s.setStore x).display = s.display := rfl
@[simp] theorem State.setStore_arbiter (s : State) (x : Store) : (s.setStore x).arbiter = s.arbiter := rfl
@[simp] theorem State.setStore_ports (s : State) (x : Store) : (s.setStore x).ports = s.ports := rfl
@[simp] theorem State.setStore_classes (s : State) (x : Store) : (s.setStore x).classes = s.classes := rfl
@[simp] theorem State.setStore_conversations (s : State) (x : Store) : (s.setStore x).conversations = s.conversations := rfl
@[simp] theorem State.setStore_agingTimer (s : State) (x : Store) : (s.setStore x).agingTimer = s.agingTimer := rfl
@[simp] theorem State.setStore_power (s : State) (x : Store) : (s.setStore x).power = s.power := rfl
@[simp] theorem State.setStore_sidePower (s : State) (x : Store) : (s.setStore x).sidePower = s.sidePower := rfl
@[simp] theorem State.setStore_clock (s : State) (x : Store) : (s.setStore x).clock = s.clock := rfl
@[simp] theorem State.setStore_store (s : State) (x : Store) : (s.setStore x).store = x := rfl
@[simp] theorem State.setStore_link (s : State) (x : Store) : (s.setStore x).link = s.link := rfl
@[simp] theorem State.setStore_params (s : State) (x : Store) : (s.setStore x).params = s.params := rfl
@[simp] theorem State.setStore_estopInput (s : State) (x : Store) : (s.setStore x).estopInput = s.estopInput := rfl
@[simp] theorem State.setStore_supplyFailInput (s : State) (x : Store) : (s.setStore x).supplyFailInput = s.supplyFailInput := rfl
@[simp] theorem State.setStore_changes (s : State) (x : Store) : (s.setStore x).changes = s.changes := rfl
@[simp] theorem State.setStore_pending (s : State) (x : Store) : (s.setStore x).pending = s.pending := rfl

/-! ### setLink -/

@[simp] theorem State.setLink_meters (s : State) (x : Link) : (s.setLink x).meters = s.meters := rfl
@[simp] theorem State.setLink_sideMeters (s : State) (x : Link) : (s.setLink x).sideMeters = s.sideMeters := rfl
@[simp] theorem State.setLink_prices (s : State) (x : Link) : (s.setLink x).prices = s.prices := rfl
@[simp] theorem State.setLink_figures (s : State) (x : Link) : (s.setLink x).figures = s.figures := rfl
@[simp] theorem State.setLink_fill (s : State) (x : Link) : (s.setLink x).fill = s.fill := rfl
@[simp] theorem State.setLink_motors (s : State) (x : Link) : (s.setLink x).motors = s.motors := rfl
@[simp] theorem State.setLink_valves (s : State) (x : Link) : (s.setLink x).valves = s.valves := rfl
@[simp] theorem State.setLink_blend (s : State) (x : Link) : (s.setLink x).blend = s.blend := rfl
@[simp] theorem State.setLink_grades (s : State) (x : Link) : (s.setLink x).grades = s.grades := rfl
@[simp] theorem State.setLink_register (s : State) (x : Link) : (s.setLink x).register = s.register := rfl
@[simp] theorem State.setLink_display (s : State) (x : Link) : (s.setLink x).display = s.display := rfl
@[simp] theorem State.setLink_arbiter (s : State) (x : Link) : (s.setLink x).arbiter = s.arbiter := rfl
@[simp] theorem State.setLink_ports (s : State) (x : Link) : (s.setLink x).ports = s.ports := rfl
@[simp] theorem State.setLink_classes (s : State) (x : Link) : (s.setLink x).classes = s.classes := rfl
@[simp] theorem State.setLink_conversations (s : State) (x : Link) : (s.setLink x).conversations = s.conversations := rfl
@[simp] theorem State.setLink_agingTimer (s : State) (x : Link) : (s.setLink x).agingTimer = s.agingTimer := rfl
@[simp] theorem State.setLink_power (s : State) (x : Link) : (s.setLink x).power = s.power := rfl
@[simp] theorem State.setLink_sidePower (s : State) (x : Link) : (s.setLink x).sidePower = s.sidePower := rfl
@[simp] theorem State.setLink_clock (s : State) (x : Link) : (s.setLink x).clock = s.clock := rfl
@[simp] theorem State.setLink_store (s : State) (x : Link) : (s.setLink x).store = s.store := rfl
@[simp] theorem State.setLink_link (s : State) (x : Link) : (s.setLink x).link = x := rfl
@[simp] theorem State.setLink_params (s : State) (x : Link) : (s.setLink x).params = s.params := rfl
@[simp] theorem State.setLink_estopInput (s : State) (x : Link) : (s.setLink x).estopInput = s.estopInput := rfl
@[simp] theorem State.setLink_supplyFailInput (s : State) (x : Link) : (s.setLink x).supplyFailInput = s.supplyFailInput := rfl
@[simp] theorem State.setLink_changes (s : State) (x : Link) : (s.setLink x).changes = s.changes := rfl
@[simp] theorem State.setLink_pending (s : State) (x : Link) : (s.setLink x).pending = s.pending := rfl

/-! ### addChange -/

@[simp] theorem State.addChange_meters (s : State) (x : PowerChange) : (s.addChange x).meters = s.meters := rfl
@[simp] theorem State.addChange_sideMeters (s : State) (x : PowerChange) : (s.addChange x).sideMeters = s.sideMeters := rfl
@[simp] theorem State.addChange_prices (s : State) (x : PowerChange) : (s.addChange x).prices = s.prices := rfl
@[simp] theorem State.addChange_figures (s : State) (x : PowerChange) : (s.addChange x).figures = s.figures := rfl
@[simp] theorem State.addChange_fill (s : State) (x : PowerChange) : (s.addChange x).fill = s.fill := rfl
@[simp] theorem State.addChange_motors (s : State) (x : PowerChange) : (s.addChange x).motors = s.motors := rfl
@[simp] theorem State.addChange_valves (s : State) (x : PowerChange) : (s.addChange x).valves = s.valves := rfl
@[simp] theorem State.addChange_blend (s : State) (x : PowerChange) : (s.addChange x).blend = s.blend := rfl
@[simp] theorem State.addChange_grades (s : State) (x : PowerChange) : (s.addChange x).grades = s.grades := rfl
@[simp] theorem State.addChange_register (s : State) (x : PowerChange) : (s.addChange x).register = s.register := rfl
@[simp] theorem State.addChange_display (s : State) (x : PowerChange) : (s.addChange x).display = s.display := rfl
@[simp] theorem State.addChange_arbiter (s : State) (x : PowerChange) : (s.addChange x).arbiter = s.arbiter := rfl
@[simp] theorem State.addChange_ports (s : State) (x : PowerChange) : (s.addChange x).ports = s.ports := rfl
@[simp] theorem State.addChange_classes (s : State) (x : PowerChange) : (s.addChange x).classes = s.classes := rfl
@[simp] theorem State.addChange_conversations (s : State) (x : PowerChange) : (s.addChange x).conversations = s.conversations := rfl
@[simp] theorem State.addChange_agingTimer (s : State) (x : PowerChange) : (s.addChange x).agingTimer = s.agingTimer := rfl
@[simp] theorem State.addChange_power (s : State) (x : PowerChange) : (s.addChange x).power = s.power := rfl
@[simp] theorem State.addChange_sidePower (s : State) (x : PowerChange) : (s.addChange x).sidePower = s.sidePower := rfl
@[simp] theorem State.addChange_clock (s : State) (x : PowerChange) : (s.addChange x).clock = s.clock := rfl
@[simp] theorem State.addChange_store (s : State) (x : PowerChange) : (s.addChange x).store = s.store := rfl
@[simp] theorem State.addChange_link (s : State) (x : PowerChange) : (s.addChange x).link = s.link := rfl
@[simp] theorem State.addChange_params (s : State) (x : PowerChange) : (s.addChange x).params = s.params := rfl
@[simp] theorem State.addChange_estopInput (s : State) (x : PowerChange) : (s.addChange x).estopInput = s.estopInput := rfl
@[simp] theorem State.addChange_supplyFailInput (s : State) (x : PowerChange) : (s.addChange x).supplyFailInput = s.supplyFailInput := rfl
@[simp] theorem State.addChange_changes (s : State) (x : PowerChange) : (s.addChange x).changes = s.changes ++ [x] := rfl
@[simp] theorem State.addChange_pending (s : State) (x : PowerChange) : (s.addChange x).pending = s.pending := rfl
@[simp] theorem State.addChange_sideState (s : State) (x : PowerChange) (j : Side) : (s.addChange x).sideState j = s.sideState j := rfl
@[simp] theorem State.addChange_filling (s : State) (x : PowerChange) (j : Side) : (s.addChange x).filling j = s.filling j := rfl

/-! ### What reads the fill states -/

@[simp] theorem State.setMeter_sideState (s : State) (m : Meter) (c : MeterChannel) (j : Side) : (s.setMeter m c).sideState j = s.sideState j := rfl
@[simp] theorem State.setMeter_filling (s : State) (m : Meter) (c : MeterChannel) (j : Side) : (s.setMeter m c).filling j = s.filling j := rfl
@[simp] theorem State.setSideMeters_sideState (s : State) (i : Side) (x : SideMeters) (j : Side) : (s.setSideMeters i x).sideState j = s.sideState j := rfl
@[simp] theorem State.setSideMeters_filling (s : State) (i : Side) (x : SideMeters) (j : Side) : (s.setSideMeters i x).filling j = s.filling j := rfl
@[simp] theorem State.setSideMeters_meter (s : State) (i : Side) (x : SideMeters) (k : Meter) : (s.setSideMeters i x).meter k = s.meter k := rfl
@[simp] theorem State.setPrices_sideState (s : State) (x : Prices) (j : Side) : (s.setPrices x).sideState j = s.sideState j := rfl
@[simp] theorem State.setPrices_filling (s : State) (x : Prices) (j : Side) : (s.setPrices x).filling j = s.filling j := rfl
@[simp] theorem State.setPrices_meter (s : State) (x : Prices) (k : Meter) : (s.setPrices x).meter k = s.meter k := rfl
@[simp] theorem State.setFigures_sideState (s : State) (i : Side) (x : Figures) (j : Side) : (s.setFigures i x).sideState j = s.sideState j := rfl
@[simp] theorem State.setFigures_filling (s : State) (i : Side) (x : Figures) (j : Side) : (s.setFigures i x).filling j = s.filling j := rfl
@[simp] theorem State.setFigures_meter (s : State) (i : Side) (x : Figures) (k : Meter) : (s.setFigures i x).meter k = s.meter k := rfl
@[simp] theorem State.setFill_meter (s : State) (i : Side) (x : Fill) (k : Meter) : (s.setFill i x).meter k = s.meter k := rfl
@[simp] theorem State.setMotor_sideState (s : State) (p : Product) (x : Motor) (j : Side) : (s.setMotor p x).sideState j = s.sideState j := rfl
@[simp] theorem State.setMotor_filling (s : State) (p : Product) (x : Motor) (j : Side) : (s.setMotor p x).filling j = s.filling j := rfl
@[simp] theorem State.setMotor_meter (s : State) (p : Product) (x : Motor) (k : Meter) : (s.setMotor p x).meter k = s.meter k := rfl
@[simp] theorem State.setValves_sideState (s : State) (i : Side) (x : PerProduct Nat) (j : Side) : (s.setValves i x).sideState j = s.sideState j := rfl
@[simp] theorem State.setValves_filling (s : State) (i : Side) (x : PerProduct Nat) (j : Side) : (s.setValves i x).filling j = s.filling j := rfl
@[simp] theorem State.setValves_meter (s : State) (i : Side) (x : PerProduct Nat) (k : Meter) : (s.setValves i x).meter k = s.meter k := rfl
@[simp] theorem State.setBlend_sideState (s : State) (i : Side) (x : Blend) (j : Side) : (s.setBlend i x).sideState j = s.sideState j := rfl
@[simp] theorem State.setBlend_filling (s : State) (i : Side) (x : Blend) (j : Side) : (s.setBlend i x).filling j = s.filling j := rfl
@[simp] theorem State.setBlend_meter (s : State) (i : Side) (x : Blend) (k : Meter) : (s.setBlend i x).meter k = s.meter k := rfl
@[simp] theorem State.setRegister_sideState (s : State) (x : Register) (j : Side) : (s.setRegister x).sideState j = s.sideState j := rfl
@[simp] theorem State.setRegister_filling (s : State) (x : Register) (j : Side) : (s.setRegister x).filling j = s.filling j := rfl
@[simp] theorem State.setRegister_meter (s : State) (x : Register) (k : Meter) : (s.setRegister x).meter k = s.meter k := rfl
@[simp] theorem State.setDisplay_sideState (s : State) (i : Side) (x : Display) (j : Side) : (s.setDisplay i x).sideState j = s.sideState j := rfl
@[simp] theorem State.setDisplay_filling (s : State) (i : Side) (x : Display) (j : Side) : (s.setDisplay i x).filling j = s.filling j := rfl
@[simp] theorem State.setDisplay_meter (s : State) (i : Side) (x : Display) (k : Meter) : (s.setDisplay i x).meter k = s.meter k := rfl
@[simp] theorem State.setArbiter_sideState (s : State) (x : Arbiter) (j : Side) : (s.setArbiter x).sideState j = s.sideState j := rfl
@[simp] theorem State.setArbiter_filling (s : State) (x : Arbiter) (j : Side) : (s.setArbiter x).filling j = s.filling j := rfl
@[simp] theorem State.setArbiter_meter (s : State) (x : Arbiter) (k : Meter) : (s.setArbiter x).meter k = s.meter k := rfl
@[simp] theorem State.setPort_sideState (s : State) (i : Side) (x : Port) (j : Side) : (s.setPort i x).sideState j = s.sideState j := rfl
@[simp] theorem State.setPort_filling (s : State) (i : Side) (x : Port) (j : Side) : (s.setPort i x).filling j = s.filling j := rfl
@[simp] theorem State.setPort_meter (s : State) (i : Side) (x : Port) (k : Meter) : (s.setPort i x).meter k = s.meter k := rfl
@[simp] theorem State.setPower_sideState (s : State) (x : Power) (j : Side) : (s.setPower x).sideState j = s.sideState j := rfl
@[simp] theorem State.setPower_filling (s : State) (x : Power) (j : Side) : (s.setPower x).filling j = s.filling j := rfl
@[simp] theorem State.setPower_meter (s : State) (x : Power) (k : Meter) : (s.setPower x).meter k = s.meter k := rfl
@[simp] theorem State.setSidePower_sideState (s : State) (i : Side) (x : SidePower) (j : Side) : (s.setSidePower i x).sideState j = s.sideState j := rfl
@[simp] theorem State.setSidePower_filling (s : State) (i : Side) (x : SidePower) (j : Side) : (s.setSidePower i x).filling j = s.filling j := rfl
@[simp] theorem State.setSidePower_meter (s : State) (i : Side) (x : SidePower) (k : Meter) : (s.setSidePower i x).meter k = s.meter k := rfl
@[simp] theorem State.setStore_sideState (s : State) (x : Store) (j : Side) : (s.setStore x).sideState j = s.sideState j := rfl
@[simp] theorem State.setStore_filling (s : State) (x : Store) (j : Side) : (s.setStore x).filling j = s.filling j := rfl
@[simp] theorem State.setStore_meter (s : State) (x : Store) (k : Meter) : (s.setStore x).meter k = s.meter k := rfl
@[simp] theorem State.setLink_sideState (s : State) (x : Link) (j : Side) : (s.setLink x).sideState j = s.sideState j := rfl
@[simp] theorem State.setLink_filling (s : State) (x : Link) (j : Side) : (s.setLink x).filling j = s.filling j := rfl
@[simp] theorem State.setLink_meter (s : State) (x : Link) (k : Meter) : (s.setLink x).meter k = s.meter k := rfl
@[simp] theorem State.setMeter_meter_same (s : State) (m : Meter) (c : MeterChannel) : (s.setMeter m c).meter m = c := by
  simp [State.meter]

end Sys2Proof.Machine
end

