-- ==== Sys2Proof/Laws/Settle.lean ====
section
/-! SUPPORT. What the end of an event leaves alone, and that it leaves a settled state. -/

namespace Sys2Proof.Machine

open Sys2Proof

theorem event_next (f : State → State) (s : State) : event f s = .next (settle s (f s)) := rfl

/-- The answer of an event is the settled effect. -/
theorem event_eq_next {f : State → State} {s t : State} (h : event f s = .next t) : t = settle s (f s) := by
  cases h; rfl

/-! ### Notices touch the link alone -/

theorem reportSide_eq (i : Side) (old : Fill) (s : State) : ∃ l, reportSide i old s = s.setLink l := by
  dsimp only [reportSide, reportState, notify]
  split
  · exact ⟨s.link, rfl⟩
  · exact ⟨_, rfl⟩

theorem notifyAll_eq (ns : List Notice) (s : State) : ∃ l, ns.foldl (fun u n => notify n u) s = s.setLink l := by
  induction ns generalizing s with
  | nil => exact ⟨s.link, rfl⟩
  | cons n ns ih =>
    obtain ⟨l, h⟩ := ih (notify n s)
    exact ⟨l, h⟩

theorem reportPower_eq (old s : State) : ∃ l, reportPower old s = s.setLink l := notifyAll_eq _ _

/-- The state whose frames to the display heads have been sent. -/
def sendDisplays (s : State) : State :=
  let s := s.setDisplay .a (startDisplay .a s)
  s.setDisplay .b (startDisplay .b s)

theorem startDisplay_b_after_a (s : State) (d : Display) : startDisplay .b (s.setDisplay .a d) = startDisplay .b s := rfl

theorem sendDisplays_eq (s : State) :
    sendDisplays s = { s with display := { a := startDisplay .a s, b := startDisplay .b s } } := rfl

/-- The link at the end of an event, before its next frame starts. -/
def reported (old s : State) : Link :=
  (followLatches (reportPower old (reportSide .b old.fill.b (reportSide .a old.fill.a (sendDisplays s))))).link

theorem reported_state (old s : State) :
    followLatches (reportPower old (reportSide .b old.fill.b (reportSide .a old.fill.a (sendDisplays s)))) =
      (sendDisplays s).setLink (reported old s) := by
  unfold reported
  obtain ⟨l1, h1⟩ := reportSide_eq .a old.fill.a (sendDisplays s)
  obtain ⟨l2, h2⟩ := reportSide_eq .b old.fill.b ((sendDisplays s).setLink l1)
  obtain ⟨l3, h3⟩ := reportPower_eq old (((sendDisplays s).setLink l1).setLink l2)
  rw [h1, h2, h3]
  rfl

theorem startMain_display (s : State) (d : PerSide Display) : startMain { s with display := d } = startMain s := rfl

theorem startMain_link (s : State) (l : Link) : startMain (s.setLink l) = startMain s := rfl

theorem startReader_congr {s t : State} (hp : s.ports = t.ports) (hr : s.register = t.register) (i : Side) :
    startReader s i = startReader t i := by
  unfold startReader pendingDelivery
  rw [hp, hr]

/-- The end of an event, block by block. -/
theorem settle_eq (old s : State) :
    settle old s =
      { s with
        display := { a := startDisplay .a s, b := startDisplay .b s }
        store := (startMain s).startSave s.register.queues
        ports := { a := startReader s .a, b := startReader s .b }
        link := (reported old s).startNext
        changes := [] } := by
  have h := reported_state old s
  rw [sendDisplays_eq] at h
  have h' : settle old s =
      (let x := startBanks (followLatches (reportPower old (reportSide .b old.fill.b (reportSide .a old.fill.a (sendDisplays s)))))
       let x := x.setPort .a (startReader x .a)
       let x := x.setPort .b (startReader x .b)
       { x.setLink x.link.startNext with changes := [] }) := rfl
  rw [h', sendDisplays_eq, h]
  generalize reported old s = l
  have e1 : startBanks (({ s with display := { a := startDisplay .a s, b := startDisplay .b s } } : State).setLink l) =
      { s with
        display := { a := startDisplay .a s, b := startDisplay .b s }
        store := (startMain s).startSave s.register.queues, link := l } := by
    unfold startBanks
    rw [startMain_link, startMain_display]
    rfl
  rw [e1]
  dsimp only
  have e2 (i : Side) : startReader
      { s with
        display := { a := startDisplay .a s, b := startDisplay .b s }
        store := (startMain s).startSave s.register.queues, link := l } i = startReader s i := startReader_congr rfl rfl i
  rw [e2]
  have e3 (p : Port) : startReader
      (State.setPort { s with
        display := { a := startDisplay .a s, b := startDisplay .b s }
        store := (startMain s).startSave s.register.queues, link := l } .a p) .b = startReader s .b := by
    unfold startReader pendingDelivery
    rfl
  rw [e3]
  rfl

@[simp] theorem settle_meters (old s : State) : (settle old s).meters = s.meters := by rw [settle_eq]
@[simp] theorem settle_sideMeters (old s : State) : (settle old s).sideMeters = s.sideMeters := by rw [settle_eq]
@[simp] theorem settle_prices (old s : State) : (settle old s).prices = s.prices := by rw [settle_eq]
@[simp] theorem settle_figures (old s : State) : (settle old s).figures = s.figures := by rw [settle_eq]
@[simp] theorem settle_fill (old s : State) : (settle old s).fill = s.fill := by rw [settle_eq]
@[simp] theorem settle_motors (old s : State) : (settle old s).motors = s.motors := by rw [settle_eq]
@[simp] theorem settle_valves (old s : State) : (settle old s).valves = s.valves := by rw [settle_eq]
@[simp] theorem settle_blend (old s : State) : (settle old s).blend = s.blend := by rw [settle_eq]
@[simp] theorem settle_grades (old s : State) : (settle old s).grades = s.grades := by rw [settle_eq]
@[simp] theorem settle_register (old s : State) : (settle old s).register = s.register := by rw [settle_eq]
@[simp] theorem settle_arbiter (old s : State) : (settle old s).arbiter = s.arbiter := by rw [settle_eq]
@[simp] theorem settle_classes (old s : State) : (settle old s).classes = s.classes := by rw [settle_eq]
@[simp] theorem settle_conversations (old s : State) : (settle old s).conversations = s.conversations := by rw [settle_eq]
@[simp] theorem settle_agingTimer (old s : State) : (settle old s).agingTimer = s.agingTimer := by rw [settle_eq]
@[simp] theorem settle_power (old s : State) : (settle old s).power = s.power := by rw [settle_eq]
@[simp] theorem settle_sidePower (old s : State) : (settle old s).sidePower = s.sidePower := by rw [settle_eq]
@[simp] theorem settle_clock (old s : State) : (settle old s).clock = s.clock := by rw [settle_eq]
@[simp] theorem settle_params (old s : State) : (settle old s).params = s.params := by rw [settle_eq]
@[simp] theorem settle_estopInput (old s : State) : (settle old s).estopInput = s.estopInput := by rw [settle_eq]
@[simp] theorem settle_supplyFailInput (old s : State) : (settle old s).supplyFailInput = s.supplyFailInput := by rw [settle_eq]
@[simp] theorem settle_pending (old s : State) : (settle old s).pending = s.pending := by rw [settle_eq]
@[simp] theorem settle_changes (old s : State) : (settle old s).changes = [] := by rw [settle_eq]
@[simp] theorem settle_display (old s : State) (i : Side) : (settle old s).display.get i = startDisplay i s := by
  rw [settle_eq]; cases i <;> rfl
@[simp] theorem settle_ports (old s : State) (i : Side) : (settle old s).ports.get i = startReader s i := by
  rw [settle_eq]; cases i <;> rfl
theorem settle_store (old s : State) : (settle old s).store = (startMain s).startSave s.register.queues := by rw [settle_eq]
theorem settle_link (old s : State) : (settle old s).link = (reported old s).startNext := by rw [settle_eq]

/-! ### What starts has started -/

theorem Link.startNext_idem (l : Link) : l.startNext.startNext = l.startNext := by
  rcases l with ⟨r, g, sv, rs, bs, ns, lo, tx, la, c⟩
  cases tx <;> cases rs <;> cases bs <;> cases ns <;> rfl

theorem Link.startNext_latches (l : Link) : l.startNext.latches = l.latches := by
  rcases l with ⟨r, g, sv, rs, bs, ns, lo, tx, la, c⟩
  cases tx <;> cases rs <;> cases bs <;> cases ns <;> rfl

theorem Link.startNext_lost (l : Link) : l.startNext.lost = l.lost := by
  rcases l with ⟨r, g, sv, rs, bs, ns, lo, tx, la, c⟩
  cases tx <;> cases rs <;> cases bs <;> cases ns <;> rfl

theorem Latches.follow_idem (l c : Latches) : (l.follow c).follow c = l.follow c := by
  simp [Latches.follow]

/-- What a controller sends leaves it with nothing more to send. -/
theorem startDisplay_idem (i : Side) (s : State) (d : PerSide Display) (hd : d.get i = startDisplay i s) (r : State)
    (hr : r.display = d) : startDisplay i r = d.get i := by
  rw [hd]
  have hr' : r.display.get i = startDisplay i s := by rw [hr, hd]
  unfold startDisplay at hr' ⊢
  dsimp only at hr' ⊢
  rw [hr']
  generalize s.display.get i = x
  rcases x with ⟨c, la, tr, so, te, ho, re, tp, th, sh, hw, da, se, rt, fa, st, rf, ec, sa⟩
  cases tr
  · cases c
    · rfl
    · cases so <;> rfl
    · cases te with
      | none => rfl
      | some w => rcases w with ⟨k, ph, du, ti⟩; cases du <;> rfl
    · cases so <;> rfl
    · rfl
  · rfl

theorem startMain_running (s : State) : (startMain s).running = none →
    s.power.mode ≠ .loading → s.store.running = none → nextJob s.supplyFailInput (startMain s).waiting = none := by
  unfold startMain
  split
  · rename_i h
    intro h1 h2 h3
    simp [h2, h3] at h
  · split
    · intro _ _ _; assumption
    · intro h; cases h

theorem startSave_saving (t : Store) (q : PerSide (List SaleRecord)) :
    (t.startSave q).saving = none → (t.startSave q).saveWaiting = [] := by
  rcases t with ⟨c, f, p, tt, r, w, sl, sv, sw, a, d⟩
  cases sv with
  | some x => intro h; cases h
  | none =>
    cases sw with
    | nil => intro _; rfl
    | cons o rest => rcases o with ⟨k, i⟩; cases k <;> (intro h; cases h)

theorem startSave_main (t : Store) (q : PerSide (List SaleRecord)) :
    (t.startSave q).running = t.running ∧ (t.startSave q).waiting = t.waiting := by
  rcases t with ⟨c, f, p, tt, r, w, sl, sv, sw, a, d⟩
  cases sv with
  | some x => exact ⟨rfl, rfl⟩
  | none =>
    cases sw with
    | nil => exact ⟨rfl, rfl⟩
    | cons o rest => rcases o with ⟨k, i⟩; cases k <;> exact ⟨rfl, rfl⟩

/-- The store after both banks have started what they can: neither can start another. -/
theorem startBanks_idem (s r : State) (hs : r.store = (startMain s).startSave s.register.queues)
    (hm : r.power.mode = s.power.mode) (hf : r.supplyFailInput = s.supplyFailInput) : startBanks r = r := by
  have hmain : startMain r = r.store := by
    unfold startMain
    split
    · rfl
    · rename_i h
      have hr : (startMain s).running = none := by
        rcases Option.eq_none_or_eq_some r.store.running with h0 | ⟨x, h0⟩
        · rw [hs, (startSave_main _ _).1] at h0; exact h0
        · exact absurd (Or.inr (by rw [h0]; rfl)) h
      have hl : s.power.mode ≠ .loading := by
        intro h0; exact h (Or.inl (by rw [hm]; exact h0))
      have hsr : s.store.running = none := by
        by_contra h0
        have : (startMain s).running = s.store.running := by
          unfold startMain
          rw [if_pos (Or.inr (Option.isSome_iff_ne_none.mpr h0))]
        exact h0 (this ▸ hr)
      have := startMain_running s hr hl hsr
      rw [hf, hs, (startSave_main _ _).2, this]
  have hsave : ∀ q, r.store.startSave q = r.store := by
    intro q
    rcases Option.eq_none_or_eq_some r.store.saving with h0 | ⟨x, h0⟩
    · have h1 : r.store.saveWaiting = [] := by
        rw [hs] at h0 ⊢; exact startSave_saving _ _ h0
      unfold Store.startSave
      rw [h0, h1]
    · unfold Store.startSave
      rw [h0]
  unfold startBanks
  rw [hmain, hsave]
  rfl

theorem startReader_state (s : State) (i : Side) : (startReader s i).state = (s.ports.get i).state := by
  unfold startReader Port.startNext
  dsimp only
  split
  · rfl
  · split
    · rfl
    · split
      · rfl
      · split
        · rfl
        · split
          · rfl
          · split <;> rfl
  · rfl

theorem startMain_regions (s : State) :
    (startMain s).cal = s.store.cal ∧ (startMain s).cfg = s.store.cfg ∧ (startMain s).price = s.store.price ∧
      (startMain s).totals = s.store.totals := by
  unfold startMain
  split
  · exact ⟨rfl, rfl, rfl, rfl⟩
  · split <;> exact ⟨rfl, rfl, rfl, rfl⟩

theorem startSave_regions (t : Store) (q : PerSide (List SaleRecord)) :
    (t.startSave q).cal = t.cal ∧ (t.startSave q).cfg = t.cfg ∧ (t.startSave q).price = t.price ∧
      (t.startSave q).totals = t.totals := by
  rcases t with ⟨c, f, p, tt, r, w, sl, sv, sw, a, d⟩
  cases sv with
  | some x => exact ⟨rfl, rfl, rfl, rfl⟩
  | none =>
    cases sw with
    | nil => exact ⟨rfl, rfl, rfl, rfl⟩
    | cons o rest => rcases o with ⟨k, i⟩; cases k <;> exact ⟨rfl, rfl, rfl, rfl⟩

/-- The conditions of the latches read these things alone. -/
theorem latchConditions_congr {s t : State} (hf : s.fill = t.fill) (hm : s.sideMeters = t.sideMeters)
    (hc : s.store.cal = t.store.cal) (hg : s.store.cfg = t.store.cfg) (hp : s.store.price = t.store.price)
    (ht : s.store.totals = t.store.totals) (ha : s.ports.a.state = t.ports.a.state) (hb : s.ports.b.state = t.ports.b.state)
    (hl : s.link.lost = t.link.lost) (hs : s.sidePower = t.sidePower) : latchConditions s = latchConditions t := by
  unfold latchConditions
  rw [hf, hm, hc, hg, hp, ht, ha, hb, hl, hs]

/-- What a port's transmitter starts leaves it with nothing more to start. -/
theorem startReader_idem (i : Side) (s r : State) (hp : r.ports.get i = startReader s i) (hr : r.register = s.register) :
    startReader r i = r.ports.get i := by
  have key : ∀ p : Port, ∀ d : Option SaleRecord,
      (let q := match p.tx, p.state with
        | none, .negotiating => { p with tx := p.owed, owed := none }
        | none, .admitted => p.startNext d
        | _, _ => p
       (match q.tx, q.state with
        | none, .negotiating => { q with tx := q.owed, owed := none }
        | none, .admitted => q.startNext d
        | _, _ => q) = q) := by
    intro p d
    rcases p with ⟨st, sp, sti, bt, fa, te, of, ow, co, ex, rm, rr, ct, et, tx, pa, pn, qu, em, re, ll, ri, ti, cn⟩
    cases tx with
    | some x => rfl
    | none =>
      cases st
      · rfl
      · cases ow <;> rfl
      · cases pa with
        | some a => rfl
        | none =>
          cases d with
          | some y => rfl
          | none =>
            cases em with
            | some e => rfl
            | none =>
              cases pn with
              | some n => rfl
              | none => cases qu <;> rfl
      · rfl
      · rfl
      · rfl
  have hd : pendingDelivery r i = pendingDelivery s i := by unfold pendingDelivery; rw [hr]
  have := key (s.ports.get i) (pendingDelivery s i)
  unfold startReader at hp ⊢
  rw [hd]
  dsimp only at hp ⊢
  rw [hp]
  exact this

/-- Every event leaves a settled state. -/
theorem settle_settled (old s : State) : Settled (settle old s) := by
  have hst := settle_store old s
  have hlink := settle_link old s
  refine ⟨?_, ?_, ?_, ?_, ?_, settle_changes old s⟩
  · intro i
    exact startDisplay_idem i s _ (settle_display old s i) _ rfl
  · exact startBanks_idem s _ hst (by rw [settle_power]) (settle_supplyFailInput old s)
  · intro i
    exact startReader_idem i s _ (settle_ports old s i) (settle_register old s)
  · rw [hlink]; exact Link.startNext_idem _
  · have hl : (settle old s).link.latches = (reported old s).latches := by rw [hlink, Link.startNext_latches]
    have hlost : (settle old s).link.lost = (reported old s).lost := by rw [hlink, Link.startNext_lost]
    obtain ⟨x, hx, hxf⟩ : ∃ x : Link, reported old s = { x with latches := x.latches.follow (latchConditions ((sendDisplays s).setLink x)) } ∧
        True := by
      unfold reported followLatches
      obtain ⟨l1, h1⟩ := reportSide_eq .a old.fill.a (sendDisplays s)
      obtain ⟨l2, h2⟩ := reportSide_eq .b old.fill.b ((sendDisplays s).setLink l1)
      obtain ⟨l3, h3⟩ := reportPower_eq old (((sendDisplays s).setLink l1).setLink l2)
      rw [h1, h2, h3]
      exact ⟨l3, rfl, trivial⟩
    have hc : latchConditions (settle old s) = latchConditions ((sendDisplays s).setLink x) := by
      have r1 := startMain_regions s
      have r2 := startSave_regions (startMain s) s.register.queues
      apply latchConditions_congr
      · rw [settle_fill]; rfl
      · rw [settle_sideMeters]; rfl
      · rw [hst, r2.1, r1.1]; rfl
      · rw [hst, r2.2.1, r1.2.1]; rfl
      · rw [hst, r2.2.2.1, r1.2.2.1]; rfl
      · rw [hst, r2.2.2.2, r1.2.2.2]; rfl
      · have := settle_ports old s .a
        rw [PerSide.get_a] at this
        rw [this, startReader_state]; rfl
      · have := settle_ports old s .b
        change (settle old s).ports.b = _ at this
        rw [this, startReader_state]; rfl
      · rw [hlost, hx]; rfl
      · rw [settle_sidePower]; rfl
    rw [hc, hl, hx]
    exact Latches.follow_idem _ _

/-! ### What a settled state keeps -/

/-- A controller that had nothing to send has nothing to send, whatever has changed elsewhere. -/
theorem Settled.display_of_same {s : State} (h : Settled s) {u : State} {i : Side}
    (hu : u.display.get i = s.display.get i) : startDisplay i u = s.display.get i := by
  have hs := h.display i
  unfold startDisplay at hs ⊢
  dsimp only at hs ⊢
  rw [hu]
  generalize s.display.get i = x at hs ⊢
  rcases x with ⟨c, la, tr, so, te, ho, re, tp, th, sh, hw, da, se, rt, fa, st, rf, ec, sa⟩
  cases tr with
  | some x => rfl
  | none =>
    cases c with
    | unpowered => rfl
    | standby => cases so with
      | false => rfl
      | true => simp [Display.send] at hs
    | testing =>
      cases te with
      | none => rfl
      | some w =>
        rcases w with ⟨k, ph, du, ti⟩
        cases du with
        | false => rfl
        | true => simp [Display.send] at hs
    | showing => cases so with
      | false => rfl
      | true => simp [Display.send] at hs
    | shutting => simp [Display.send] at hs

/-- A transmitter that had nothing to start has nothing to start while its port and its side's deliveries stand. -/
theorem Settled.port_of_same {s : State} (h : Settled s) {u : State} {i : Side}
    (hu : u.ports.get i = s.ports.get i) (hd : pendingDelivery u i = pendingDelivery s i) :
    startReader u i = s.ports.get i := by
  have hs := h.reader i
  unfold startReader at hs ⊢
  dsimp only at hs ⊢
  rw [hu, hd]
  exact hs

/-- Banks that could start nothing start nothing while the store, the part mode and the warning input stand. -/
theorem Settled.store_of_same {s : State} (h : Settled s) {u : State} (hu : u.store = s.store)
    (hm : u.power.mode = s.power.mode) (hf : u.supplyFailInput = s.supplyFailInput) :
    (startMain u).startSave u.register.queues = s.store := by
  have hs : (startMain s).startSave s.register.queues = s.store := congrArg State.store h.banks
  have hrun : (startMain s).running = s.store.running := by rw [← (startSave_main _ s.register.queues).1, hs]
  have hmain : startMain s = s.store := by
    unfold startMain at hrun ⊢
    split at hrun
    · rename_i hc; rw [if_pos hc]
    · rename_i hc
      rw [if_neg hc]
      split at hrun
      · rfl
      · rename_i j hn
        exfalso
        have : s.store.running.isSome = true := by rw [← hrun]; rfl
        exact hc (Or.inr this)
  have hmu : startMain u = s.store := by
    rw [← hmain]
    unfold startMain at hmain ⊢
    rw [hu, hm, hf]
    split at hmain
    · rename_i hc; simp only [if_pos hc]
    · rename_i hc
      simp only [if_neg hc]
      split at hmain
      · simp only
      · rename_i j hn
        exfalso
        have hr : s.store.running.isSome = true := by rw [← hmain]; rfl
        exact hc (Or.inr hr)
  rw [hmu]
  rw [hmain] at hs
  have hsv : s.store.saving = none → s.store.saveWaiting = [] := by
    intro h0
    by_contra hne
    rcases hst : s.store with ⟨c, f, p, tt, r, w, sl, sv, sw, a, d⟩
    rw [hst] at hs h0 hne
    cases sw with
    | nil => exact hne rfl
    | cons o rest =>
      dsimp only at h0; subst h0
      rcases o with ⟨k, j⟩
      cases k <;> exact absurd (congrArg Store.saving hs) (by intro h1; cases h1)
  rcases Option.eq_none_or_eq_some s.store.saving with h0 | ⟨x, h0⟩
  · unfold Store.startSave
    rw [h0, hsv h0]
  · unfold Store.startSave
    rw [h0]

/-- The end of an event leaves alone what its effect has left alone, but for the link. -/
theorem OnlyChanges.settle {s u : State} {bs : List Block} (old : State) (h : Settled s) (hu : OnlyChanges bs s u)
    (hl : Block.link ∈ bs) (hp : ∀ i, Block.port i ∉ bs → pendingDelivery u i = pendingDelivery s i)
    (hs : Block.store ∉ bs → u.power.mode = s.power.mode ∧ u.supplyFailInput = s.supplyFailInput) :
    OnlyChanges bs s (Machine.settle old u) := by
  intro b hb
  have hb' := hu b hb
  cases b <;> simp only [Block.same, State.meter, settle_meters, settle_sideMeters, settle_prices, settle_figures, settle_fill,
    settle_motors, settle_valves, settle_blend, settle_grades, settle_register, settle_arbiter, settle_classes,
    settle_conversations, settle_agingTimer, settle_power, settle_sidePower, settle_clock, settle_params, settle_estopInput,
    settle_supplyFailInput, settle_pending, settle_display, settle_ports, settle_store] at hb' ⊢
  case link => exact absurd hl hb
  case display i => exact h.display_of_same hb'
  case port i => exact h.port_of_same hb' (hp i hb)
  case store => exact h.store_of_same hb' (hs hb).1 (hs hb).2
  all_goals exact hb'

theorem reportSide_same (i : Side) (s u : State) (hf : u.fill.get i = s.fill.get i) : reportSide i (s.fill.get i) u = u := by
  dsimp only [reportSide]
  rw [hf, if_pos ⟨rfl, rfl⟩]

/-- An event without a change of mode, of a power state or of ATTENDED has no POWER_STAGE notice. -/
theorem reportPower_same (s u : State) (hc : u.changes = []) : reportPower s u = u := by
  unfold reportPower powerNotices
  rw [hc]
  rfl

/-- An event that changes the mode has one POWER_STAGE notice, with the part as the event leaves it (R157). -/
theorem reportPower_mode {old s : State} {c : PowerCause} (h : s.changes.findSome? PowerChange.modeCause = some c) :
    reportPower old s = notify (powerNotice (changedSide old.sidePower s.sidePower) c s) s := by
  unfold reportPower powerNotices
  rw [h]
  rfl

/-- An event that does not change the mode has a POWER_STAGE notice for each of its changes, in their order (R157). -/
theorem reportPower_stages {old s : State} {ns : List Notice} (h : s.changes = ns.map PowerChange.stage) :
    reportPower old s = ns.foldl (fun u n => notify n u) s := by
  have hm : (ns.map PowerChange.stage).findSome? PowerChange.modeCause = none := by
    induction ns generalizing s with
    | nil => rfl
    | cons n ns ih => exact ih (s := { s with changes := ns.map .stage }) rfl
  have hn : (ns.map PowerChange.stage).filterMap PowerChange.notice = ns := by
    rw [List.filterMap_map]
    exact List.filterMap_some
  unfold reportPower powerNotices
  rw [h, hm]
  dsimp only
  rw [hn]

/-- An effect on the link alone, short of the latches and the lost count, ends with the start of the next frame. -/
theorem Settled.settle_link {s : State} (h : Settled s) (l : Link) (hla : l.latches = s.link.latches) (hlo : l.lost = s.link.lost) :
    Machine.settle s (s.setLink l) = s.setLink l.startNext := by
  rw [settle_eq]
  have hd (i : Side) : startDisplay i (s.setLink l) = s.display.get i := h.display_of_same rfl
  have hp (i : Side) : startReader (s.setLink l) i = s.ports.get i := h.port_of_same rfl rfl
  have hs : (startMain (s.setLink l)).startSave (s.setLink l).register.queues = s.store := h.store_of_same rfl rfl rfl
  have hr : reported s (s.setLink l) = l := by
    unfold reported
    rw [sendDisplays_eq, hd, hd]
    have e : ({ (s.setLink l) with display := { a := s.display.get .a, b := s.display.get .b } } : State) = s.setLink l := rfl
    rw [e]
    have ea : reportSide .a s.fill.a (s.setLink l) = s.setLink l := reportSide_same .a s _ rfl
    have eb : reportSide .b s.fill.b (s.setLink l) = s.setLink l := reportSide_same .b s _ rfl
    have ep : reportPower s (s.setLink l) = s.setLink l := reportPower_same s _ h.changes
    rw [ea, eb, ep]
    have hc : latchConditions (s.setLink l) = latchConditions s :=
      latchConditions_congr rfl rfl rfl rfl rfl rfl rfl rfl hlo rfl
    unfold followLatches
    rw [hc]
    have : (s.setLink l).link.latches.follow (latchConditions s) = l.latches := by
      change l.latches.follow _ = _
      rw [hla]; exact h.latches
    rw [this]
    rfl
  rw [hd, hd, hp, hp, hs, hr]
  have hchanges := h.changes
  cases s
  dsimp only at hchanges
  subst hchanges
  rfl

/-- An effect that leaves nothing to send, to start or to report ends with the start of the link's next frame. -/
theorem Settled.settle_calm {s u : State} (h : Settled s) (hd : ∀ i, startDisplay i u = u.display.get i)
    (hp : ∀ i, startReader u i = u.ports.get i) (hst : (startMain u).startSave u.register.queues = u.store)
    (hf : ∀ i, (u.fill.get i).state = (s.fill.get i).state ∧ (u.fill.get i).closures = (s.fill.get i).closures)
    (hc : latchConditions u = latchConditions s) (hla : u.link.latches = s.link.latches) (hchanges : u.changes = []) :
    Machine.settle s u = u.setLink u.link.startNext := by
  have hr : reported s u = u.link := by
    unfold reported
    rw [sendDisplays_eq, hd, hd]
    have e : ({ u with display := { a := u.display.get .a, b := u.display.get .b } } : State) = u := rfl
    rw [e]
    have ea : reportSide .a s.fill.a u = u := if_pos (hf .a)
    have eb : reportSide .b s.fill.b u = u := if_pos (hf .b)
    have ep : reportPower s u = u := reportPower_same s u hchanges
    rw [ea, eb, ep]
    unfold followLatches
    have : u.link.latches.follow (latchConditions u) = u.link.latches := by rw [hc, hla]; exact h.latches
    rw [this]
    rfl
  rw [settle_eq, hd, hd, hp, hp, hst, hr]
  cases u
  dsimp only at hchanges
  subst hchanges
  rfl

/-- A link whose transmitter had nothing to start has nothing to start while what it could send stands. -/
theorem Settled.startNext_link {s : State} (h : Settled s) : s.link.startNext = s.link := h.link

/-- A request that finds none in service has its fields taken by its owner's rule. -/
theorem request_free {α : Type} {s : State} (h : Free s) (kind tag : Nat) (x : α) (take : α → State → State) :
    request kind tag (.fields x) take s = take x (s.setLink (s.link.frameTaken.enterService kind tag)) := by
  have h' : s.link.frameTaken.service = none := h
  unfold request
  dsimp only
  rw [h']

/-- A request whose owner's rule only answers it changes nothing but the link. -/
theorem replied_of_answer {α : Type} {s : State} (hs : Settled s) (h : Free s) (kind tag : Nat) (x : α) (take : α → State → State)
    (status : Status) (fields : List Field)
    (ht : take x (s.setLink (s.link.frameTaken.enterService kind tag)) =
      answer status fields (s.setLink (s.link.frameTaken.enterService kind tag))) :
    event (request kind tag (.fields x) take) s = .next (s.replied kind tag status fields) := by
  rw [event_next, request_free h, ht]
  congr 1
  exact hs.settle_link _ rfl rfl

end Sys2Proof.Machine
end

