-- ==== Sys2Proof/Laws/Frames.lean ====
section
/-! SUPPORT. What each shared operation can change: everything but the blocks named stands as before. -/

namespace Sys2Proof.Machine

open Sys2Proof

/-! ### Composing frames -/

theorem OnlyChanges.refl (bs : List Block) (s : State) : OnlyChanges bs s s := by
  intro b _; cases b <;> rfl

theorem Block.same_trans {s t u : State} {b : Block} (h : b.same s t) (h' : b.same t u) : b.same s u := by
  cases b <;> exact Eq.trans h' h

theorem OnlyChanges.step {bs bs' : List Block} {s t u : State} (h : OnlyChanges bs s t) (h' : OnlyChanges bs' t u)
    (hb : bs' ⊆ bs) : OnlyChanges bs s u := fun b hn => Block.same_trans (h b hn) (h' b (fun hm => hn (hb hm)))

theorem OnlyChanges.mono {bs bs' : List Block} {s t : State} (h : OnlyChanges bs' s t) (hb : bs' ⊆ bs) : OnlyChanges bs s t :=
  (OnlyChanges.refl bs s).step h hb

theorem OnlyChanges.trans {bs : List Block} {s t u : State} (h : OnlyChanges bs s t) (h' : OnlyChanges bs t u) :
    OnlyChanges bs s u := h.step h' (List.Subset.refl bs)

/-- Either way of a choice. -/
theorem OnlyChanges.ite {bs : List Block} {s t u : State} {p : Prop} [Decidable p] (h : OnlyChanges bs s t)
    (h' : OnlyChanges bs s u) : OnlyChanges bs s (if p then t else u) := by
  split
  · exact h
  · exact h'

/-! ### The updates of one block -/

theorem setMeter_only (s : State) (m : Meter) (c : MeterChannel) : OnlyChanges [.meter m] s (s.setMeter m c) := by
  intro b hb
  cases b <;> try rfl
  rename_i k
  have hk : k ≠ m := by intro h; subst h; simp at hb
  simp only [Block.same, State.meter, State.setMeter_meters]
  rcases k with ⟨ki, kp⟩
  rcases m with ⟨mi, mp⟩
  rw [PerSide.get_set]
  split
  · rename_i h
    have h2 : ki = mi := h
    subst h2
    rw [PerProduct.get_set_other]
    intro h3
    apply hk
    have : kp = mp := h3
    rw [this]
  · rfl

theorem setSideMeters_only (s : State) (i : Side) (x : SideMeters) : OnlyChanges [.sideMeters i] s (s.setSideMeters i x) := by
  intro b hb
  cases b <;> try rfl
  exact PerSide.get_set_other _ _ (by intro h; subst h; simp at hb)

theorem setPrices_only (s : State) (x : Prices) : OnlyChanges [.prices] s (s.setPrices x) := by
  intro b hb
  cases b <;> first | rfl | exact absurd (List.mem_singleton.mpr rfl) hb

theorem setFigures_only (s : State) (i : Side) (x : Figures) : OnlyChanges [.figures i] s (s.setFigures i x) := by
  intro b hb
  cases b <;> try rfl
  exact PerSide.get_set_other _ _ (by intro h; subst h; simp at hb)

theorem setFill_only (s : State) (i : Side) (x : Fill) : OnlyChanges [.fill i] s (s.setFill i x) := by
  intro b hb
  cases b <;> try rfl
  exact PerSide.get_set_other _ _ (by intro h; subst h; simp at hb)

theorem setMotor_only (s : State) (p : Product) (x : Motor) : OnlyChanges [.motor p] s (s.setMotor p x) := by
  intro b hb
  cases b <;> try rfl
  exact PerProduct.get_set_other _ _ (by intro h; subst h; simp at hb)

theorem setValves_only (s : State) (i : Side) (x : PerProduct Nat) : OnlyChanges [.valves i] s (s.setValves i x) := by
  intro b hb
  cases b <;> try rfl
  exact PerSide.get_set_other _ _ (by intro h; subst h; simp at hb)

theorem setBlend_only (s : State) (i : Side) (x : Blend) : OnlyChanges [.blend i] s (s.setBlend i x) := by
  intro b hb
  cases b <;> try rfl
  exact PerSide.get_set_other _ _ (by intro h; subst h; simp at hb)

theorem setRegister_only (s : State) (x : Register) : OnlyChanges [.register] s (s.setRegister x) := by
  intro b hb
  cases b <;> first | rfl | exact absurd (List.mem_singleton.mpr rfl) hb

theorem setDisplay_only (s : State) (i : Side) (x : Display) : OnlyChanges [.display i] s (s.setDisplay i x) := by
  intro b hb
  cases b <;> try rfl
  exact PerSide.get_set_other _ _ (by intro h; subst h; simp at hb)

theorem setArbiter_only (s : State) (x : Arbiter) : OnlyChanges [.arbiter] s (s.setArbiter x) := by
  intro b hb
  cases b <;> first | rfl | exact absurd (List.mem_singleton.mpr rfl) hb

theorem setPort_only (s : State) (i : Side) (x : Port) : OnlyChanges [.port i] s (s.setPort i x) := by
  intro b hb
  cases b <;> try rfl
  exact PerSide.get_set_other _ _ (by intro h; subst h; simp at hb)

theorem setPower_only (s : State) (x : Power) : OnlyChanges [.power] s (s.setPower x) := by
  intro b hb
  cases b <;> first | rfl | exact absurd (List.mem_singleton.mpr rfl) hb

theorem setSidePower_only (s : State) (i : Side) (x : SidePower) : OnlyChanges [.sidePower i] s (s.setSidePower i x) := by
  intro b hb
  cases b <;> try rfl
  exact PerSide.get_set_other _ _ (by intro h; subst h; simp at hb)

theorem setStore_only (s : State) (x : Store) : OnlyChanges [.store] s (s.setStore x) := by
  intro b hb
  cases b <;> first | rfl | exact absurd (List.mem_singleton.mpr rfl) hb

theorem setLink_only (s : State) (x : Link) : OnlyChanges [.link] s (s.setLink x) := by
  intro b hb
  cases b <;> first | rfl | exact absurd (List.mem_singleton.mpr rfl) hb

theorem setConversations_only (s : State) (x : List Conversation) :
    OnlyChanges [.conversations] s { s with conversations := x } := by
  intro b hb
  cases b <;> first | rfl | exact absurd (List.mem_singleton.mpr rfl) hb

end Sys2Proof.Machine
end

