-- ==== Sys2Proof/Laws/OpFrames.lean ====
section
/-! SUPPORT. What each shared operation of the link, the store, the prices, the displays, the fills, the ports and the sales can
change. -/

namespace Sys2Proof.Machine

open Sys2Proof

/-! ### The blocks that go together -/

/-- What a change of side state writes. -/
abbrev stateBlocks (i : Side) : List Block := [.fill i, .blend i, .valves i, .display i]

/-- What the withdrawal of an authorization or a closure writes. -/
abbrev closureBlocks (i : Side) : List Block := [.fill i, .blend i, .valves i, .display i, .link, .port i]

/-- What a STARTING entry writes. -/
abbrev startBlocks (i : Side) : List Block :=
  [.fill i, .blend i, .valves i, .display i, .link, .port i, .register, .figures i, .meter { side := i, product := .lo },
    .meter { side := i, product := .hi }, .sideMeters i, .motor .lo, .motor .hi]

/-- What a port's leaving of ADMITTED writes. -/
abbrev portBlocks (i : Side) : List Block := [.fill i, .blend i, .valves i, .display i, .link, .port i, .conversations]

/-- What a sale close writes. -/
abbrev closeBlocks (i : Side) : List Block :=
  [.fill i, .blend i, .valves i, .display i, .link, .port i, .register, .figures i, .meter { side := i, product := .lo },
    .meter { side := i, product := .hi }, .motor .lo, .motor .hi, .prices, .store]

/-! ### The link -/

theorem notify_only (n : Notice) (s : State) : OnlyChanges [.link] s (notify n s) := setLink_only _ _

theorem notifyFault_only (i : Option Side) (k : FaultKind) (m : Option Meter) (n : Option Nat) (r : Option Region)
    (x : Option Nat) (s : State) : OnlyChanges [.link] s (notifyFault i k m n r x s) := setLink_only _ _

theorem answer_only (st : Status) (f : List Field) (s : State) : OnlyChanges [.link] s (answer st f s) := setLink_only _ _

theorem refuse_only (st : Status) (s : State) : OnlyChanges [.link] s (refuse st s) := answer_only _ _ _

theorem request_only {α : Type} {bs : List Block} (kind tag : Nat) (body : Body α) (take : α → State → State)
    (h : ∀ x s, OnlyChanges bs s (take x s)) (hl : Block.link ∈ bs) (s : State) :
    OnlyChanges bs s (request kind tag body take s) := by
  have hb : [Block.link] ⊆ bs := by simpa using hl
  unfold request
  dsimp only
  split
  · exact (setLink_only _ _).mono hb
  · cases body with
    | badLength => exact ((setLink_only _ _).mono hb).step (refuse_only _ _) hb
    | unreadable => exact ((setLink_only _ _).mono hb).step (refuse_only _ _) hb
    | fields x => exact ((setLink_only _ _).mono hb).trans (h x _)

theorem withSide_only {bs : List Block} (take : Side → State → State) (h : ∀ i s, OnlyChanges bs s (take i s))
    (hl : Block.link ∈ bs) (n : Nat) (s : State) : OnlyChanges bs s (withSide take n s) := by
  unfold withSide
  split
  · exact (refuse_only _ _).mono (by simpa using hl)
  · exact h _ _

/-! ### The store -/

theorem queueJob_only (k : JobKind) (s : State) : OnlyChanges [.store] s (queueJob k s) := setStore_only _ _

theorem serveByJob_only (k : JobKind) (f : List Field) (s : State) : OnlyChanges [.store, .link] s (serveByJob k f s) :=
  ((setStore_only s _).mono (by simp)).step (setLink_only _ _) (by simp)

/-! ### Prices -/

theorem commitBanks_only (s : State) : OnlyChanges [.prices, .link] s (commitBanks s) :=
  ((setPrices_only s _).mono (by simp)).step (notify_only _ _) (by simp)

theorem adoptAtClose_only (i : Side) (s : State) : OnlyChanges [.prices, .link] s (adoptAtClose i s) := by
  unfold adoptAtClose
  split
  · exact .refl _ _
  · exact ((setPrices_only s _).mono (by simp)).step (notify_only _ _) (by simp)

/-! ### Displays -/

theorem updateHeat_only (i : Side) (s : State) : OnlyChanges [.display i, .arbiter] s (updateHeat i s) := by
  dsimp only [updateHeat]
  split
  · exact .refl _ _
  · exact ((setDisplay_only s _ _).mono (by simp)).step (setArbiter_only _ _) (by simp)

theorem unpowerDisplay_only (i : Side) (s : State) : OnlyChanges [.display i, .arbiter] s (unpowerDisplay i s) :=
  ((setDisplay_only s _ _).mono (by simp)).step (updateHeat_only i _) (by simp)

/-- A frame sent, or held back until the transfer in flight ends, is a change of the display alone. -/
theorem sendDue_only (i : Side) (s : State) : OnlyChanges [.display i] s (sendDue i s) := setDisplay_only _ _ _

/-! ### Side states and authorizations -/

theorem enterState_only (i : Side) (new : SideState) (s : State) : OnlyChanges (stateBlocks i) s (enterState i new s) := by
  dsimp only [enterState]
  split
  · exact .refl _ _
  · exact (((((setFill_only s _ _).mono (by simp)).step (setBlend_only _ _ _) (by simp)).step (setValves_only _ _ _)
      (by simp)).step (setDisplay_only _ _ _) (by simp)).step (sendDue_only _ _) (by simp)

theorem reportState_only (i : Side) (s : State) : OnlyChanges [.link] s (reportState i s) := notify_only _ _

theorem enterImplied_only (i : Side) (s : State) : OnlyChanges (stateBlocks i) s (enterImplied i s) := enterState_only _ _ _

theorem pendAuthState_only (i : Side) (k : AuthStateKind) (r : Nat) (s : State) :
    OnlyChanges [.port i] s (pendAuthState i k r s) := setPort_only _ _ _

theorem pendNozzleState_only (i : Side) (n : Nozzle) (g : Option Grade) (up : Bool) (s : State) :
    OnlyChanges [.port i] s (pendNozzleState i n g up s) := setPort_only _ _ _

theorem removeWaiting_only (i : Side) (why : RemovalReason) (tell : Bool) (s : State) :
    OnlyChanges [.fill i, .link, .port i] s (removeWaiting i why tell s) := by
  have h (a : Auth) : OnlyChanges [.fill i, .link, .port i] s
      (notify (.authEvent i a.source a.reference (.removed why)) (s.setFill i { s.fill.get i with slot := none, authTimer := none })) :=
    ((setFill_only s _ _).mono (by simp)).step (notify_only _ _) (by simp)
  dsimp only [removeWaiting]
  split
  · split
    · exact .refl _ _
    · split
      · exact (h _).step (pendAuthState_only _ _ _ _) (by simp)
      · exact h _
  · exact .refl _ _

theorem withdrawWaiting_only (i : Side) (why : RemovalReason) (tell : Bool) (s : State) :
    OnlyChanges (closureBlocks i) s (withdrawWaiting i why tell s) := by
  have h : OnlyChanges (closureBlocks i) s (removeWaiting i why tell s) := (removeWaiting_only i why tell s).mono (by simp)
  dsimp only [withdrawWaiting]
  split
  · exact h.step (enterImplied_only i _) (by simp)
  · exact h

theorem closeIfWaiting_only (i : Side) (s : State) : OnlyChanges (closureBlocks i) s (closeIfWaiting i s) := by
  unfold closeIfWaiting
  split
  · exact .refl _ _
  · exact ((removeWaiting_only i _ _ s).mono (by simp)).step (enterState_only i _ _) (by simp)

theorem addClosure_only (i : Side) (r : ClosureReason) (s : State) : OnlyChanges (closureBlocks i) s (addClosure i r s) :=
  ((setFill_only s _ _).mono (by simp)).step (closeIfWaiting_only i _) (List.Subset.refl _)

theorem setClosures_only (i : Side) (c : Closures) (s : State) : OnlyChanges (stateBlocks i) s (setClosures i c s) := by
  dsimp only [setClosures]
  split
  · exact ((setFill_only s _ _).mono (by simp)).step (enterImplied_only i _) (List.Subset.refl _)
  · exact (setFill_only s _ _).mono (by simp)

theorem addClosureBoth_only (r : ClosureReason) (s : State) :
    OnlyChanges (closureBlocks .a ++ closureBlocks .b) s (addClosureBoth r s) :=
  ((addClosure_only .a r s).mono (by simp)).step (addClosure_only .b r _) (by simp)

/-! ### Motors -/

theorem raiseDemand_only (i : Side) (p : Product) (s : State) : OnlyChanges [.fill i, .motor p] s (raiseDemand i p s) :=
  ((setFill_only s _ _).mono (by simp)).step (setMotor_only _ _ _) (by simp)

theorem dropDemand_only (i : Side) (p : Product) (s : State) : OnlyChanges [.fill i, .motor p] s (dropDemand i p s) := by
  dsimp only [dropDemand]
  split
  · split
    · exact ((setFill_only s _ _).mono (by simp)).step (setMotor_only _ _ _) (by simp)
    · exact (setFill_only s _ _).mono (by simp)
  · exact .refl _ _

theorem dropBoth_only (i : Side) (s : State) : OnlyChanges [.fill i, .motor .lo, .motor .hi] s (dropBoth i s) :=
  ((dropDemand_only i .lo s).mono (by simp)).step (dropDemand_only i .hi _) (by simp)

/-! ### Stops, faults and STARTING -/

theorem setSale_only (i : Side) (f : SaleContext → SaleContext) (s : State) : OnlyChanges [.fill i] s (setSale i f s) :=
  setFill_only _ _ _

theorem hold_only (i : Side) (r : StopReason) (s : State) : OnlyChanges (stateBlocks i) s (hold i r s) :=
  ((setSale_only i _ s).mono (by simp)).step (enterState_only i _ _) (List.Subset.refl _)

theorem endFill_only (i : Side) (r : EndReason) (s : State) : OnlyChanges (stateBlocks i) s (endFill i r s) :=
  ((setSale_only i _ s).mono (by simp)).step (enterState_only i _ _) (List.Subset.refl _)

theorem fillFault_only (i : Side) (k : FaultKind) (m : Option Meter) (s : State) :
    OnlyChanges (closureBlocks i) s (fillFault i k m s) := by
  unfold fillFault
  split
  · exact ((addClosure_only i _ s).step (endFill_only i _ _) (by simp)).step (notifyFault_only _ _ _ _ _ _ _) (by simp)
  · exact .refl _ _

theorem chooseFlow_only (i : Side) (s : State) : OnlyChanges (stateBlocks i) s (chooseFlow i s) := by
  dsimp only [chooseFlow]
  exact (hold_only i _ s).ite ((hold_only i _ s).ite ((enterState_only i _ s).ite (enterState_only i _ s)))

theorem tryLeaveStarting_only (i : Side) (s : State) : OnlyChanges (stateBlocks i) s (tryLeaveStarting i s) :=
  (chooseFlow_only i s).ite (.refl _ _)

theorem setMeters_only (s : State) (i : Side) (x : PerProduct MeterChannel) :
    OnlyChanges [.meter { side := i, product := .lo }, .meter { side := i, product := .hi }] s
      { s with meters := s.meters.set i x } := by
  intro b hb
  cases b <;> try rfl
  rename_i k
  rcases k with ⟨j, p⟩
  simp only [Block.same, State.meter]
  rw [PerSide.get_set]
  split
  · rename_i h
    have h' : j = i := h
    subst h'
    cases p <;> simp at hb
  · rfl

theorem zeroSale_only (i : Side) (s : State) :
    OnlyChanges [.meter { side := i, product := .lo }, .meter { side := i, product := .hi }, .sideMeters i] s (zeroSale i s) :=
  ((setMeters_only s i _).mono (by simp)).step (setSideMeters_only _ _ _) (by simp)

theorem zeroCreep_only (i : Side) (s : State) :
    OnlyChanges [.meter { side := i, product := .lo }, .meter { side := i, product := .hi }] s (zeroCreep i s) :=
  setMeters_only _ _ _

theorem raiseNeeded_only (i : Side) (s : State) : OnlyChanges [.fill i, .motor .lo, .motor .hi] s (raiseNeeded i s) := by
  have h : OnlyChanges [.fill i, .motor .lo, .motor .hi] s (if (s.blend.get i).needs .lo then raiseDemand i .lo s else s) :=
    ((raiseDemand_only i .lo s).mono (by simp)).ite (.refl _ _)
  dsimp only [raiseNeeded]
  exact (h.step (raiseDemand_only i .hi _) (by simp)).ite h

theorem startSale_only (i : Side) (a : Auth) (n : Nozzle) (g : Grade) (s : State) :
    OnlyChanges (startBlocks i) s (startSale i a n g s) := by
  unfold startSale
  extract_lets c gen price f reg s1 s2 s3 s4 s5
  have h1 : OnlyChanges (startBlocks i) s s1 :=
    (((setRegister_only s _).mono (by simp)).step (setFigures_only _ _ _) (by simp)).step (zeroSale_only i _) (by simp)
  have h2 : OnlyChanges (startBlocks i) s s2 := (h1.step (setFill_only _ _ _) (by simp)).step (setBlend_only _ _ _) (by simp)
  have h3 : OnlyChanges (startBlocks i) s s3 := (h2.step (enterState_only i _ _) (by simp)).step (notify_only _ _) (by simp)
  have h4 : OnlyChanges (startBlocks i) s s4 := (h3.step (pendAuthState_only i _ _ _) (by simp)).ite h3
  have h5 : OnlyChanges (startBlocks i) s s5 := (h4.step (setDisplay_only _ _ _) (by simp)).step (sendDue_only _ _) (by simp)
  exact (h5.step (fillFault_only i _ _ _) (by simp)).ite
    ((h5.step (raiseNeeded_only i _) (by simp)).step (tryLeaveStarting_only i _) (by simp))

theorem testLift_only (i : Side) (a : Auth) (c : Counted) (s : State) : OnlyChanges (startBlocks i) s (testLift i a c s) := by
  have h (n : Notice) : OnlyChanges (startBlocks i) s (notify n (enterState i .authorized s)) :=
    ((enterState_only i _ s).mono (by simp)).step (notify_only _ _) (by simp)
  unfold testLift
  split
  · exact h _
  · split
    · exact startSale_only _ _ _ _ _
    · exact h _

theorem acceptAuth_only (i : Side) (a : Auth) (s : State) : OnlyChanges (startBlocks i) s (acceptAuth i a s) := by
  unfold acceptAuth
  extract_lets f t s1 s2
  have h1 : OnlyChanges (startBlocks i) s s1 := ((setFill_only s _ _).mono (by simp)).step (notify_only _ _) (by simp)
  have h2 : OnlyChanges (startBlocks i) s s2 := (h1.step (pendAuthState_only i _ _ _) (by simp)).ite h1
  split
  · exact h2.trans (testLift_only i _ _ _)
  · exact h2.step (enterState_only i _ _) (by simp)

theorem reportNozzle_only (i : Side) (c : Counted) (up : Bool) (s : State) :
    OnlyChanges [.link, .port i] s (reportNozzle i c up s) :=
  ((notify_only _ s).mono (by simp)).step (pendNozzleState_only i _ _ _ _) (by simp)

theorem countLift_only (i : Side) (n : Nozzle) (s : State) : OnlyChanges (startBlocks i) s (countLift i n s) := by
  unfold countLift
  extract_lets f c s1
  have h1 : OnlyChanges (startBlocks i) s s1 := ((setFill_only s _ _).mono (by simp)).step (reportNozzle_only i _ _ _) (by simp)
  split
  · exact (h1.step (enterState_only i _ _) (by simp)).ite h1
  · cases f.slot with
    | none => exact h1
    | some a => exact h1.trans (testLift_only i _ _ _)
  · exact h1

theorem moveAtHangUp_only (i : Side) (s : State) : OnlyChanges (stateBlocks i) s (moveAtHangUp i s) :=
  (endFill_only i _ s).ite ((enterState_only i _ s).ite (.refl _ _))

theorem countAgain_only (i : Side) (old : SideState) (n : Nozzle) (s : State) :
    OnlyChanges (startBlocks i) s (countAgain i old n s) :=
  ((((reportState_only i s).mono (by simp)).trans (countLift_only i n _)).step (reportState_only i _) (by simp)).ite
    (countLift_only i n s)

theorem countHangUp_only (i : Side) (c : Counted) (s : State) : OnlyChanges (startBlocks i) s (countHangUp i c s) := by
  unfold countHangUp
  extract_lets f s1
  have h1 : OnlyChanges (startBlocks i) s s1 :=
    (((setFill_only s _ _).mono (by simp)).step (reportNozzle_only i _ _ _) (by simp)).step (moveAtHangUp_only i _) (by simp)
  split
  · exact h1.trans (countAgain_only i _ _ _)
  · exact h1

/-! ### Ports -/

theorem notifyPort_only (i : Side) (r : PortReason) (s : State) : OnlyChanges [.link] s (notifyPort i r s) := notify_only _ _

theorem changePort_only (i : Side) (r : PortReason) (p : Port) (s : State) :
    OnlyChanges [.port i, .link] s (changePort i r p s) :=
  ((setPort_only s _ _).mono (by simp)).step (notifyPort_only _ _ _) (by simp)

theorem failAttempt_only (i : Side) (r : PortReason) (s : State) : OnlyChanges [.port i, .link] s (failAttempt i r s) :=
  changePort_only _ _ _ _

theorem startRequest_only (i : Side) (s : State) : OnlyChanges [.port i, .link] s (startRequest i s) := by
  dsimp only [startRequest]
  split <;> first | exact changePort_only _ _ _ _ | exact .refl _ _

theorem readerLost_only (i : Side) (s : State) : OnlyChanges (closureBlocks i) s (readerLost i s) :=
  (withdrawWaiting_only i _ _ s).ite (.refl _ _)

theorem leavePort_only (i : Side) (r : PortReason) (f : Port → Port) (s : State) :
    OnlyChanges (portBlocks i) s (leavePort i r f s) := by
  dsimp only [leavePort]
  refine OnlyChanges.ite ?_ ((changePort_only _ _ _ _).mono (by simp))
  exact (((setConversations_only s _).mono (by simp)).step (changePort_only _ _ _ _) (by simp)).step (readerLost_only i _) (by simp)

theorem lineLoss_only (i : Side) (s : State) : OnlyChanges (portBlocks i) s (lineLoss i s) := by
  dsimp only [lineLoss]
  split
  · exact leavePort_only _ _ _ _
  · exact (failAttempt_only _ _ _).mono (by simp)
  · exact (failAttempt_only _ _ _).mono (by simp)
  · exact .refl _ _

theorem disablePort_only (i : Side) (r : PortReason) (s : State) : OnlyChanges (portBlocks i) s (disablePort i r s) := by
  unfold disablePort
  split <;> first | exact leavePort_only _ _ _ _ | exact .refl _ _

theorem dropDeliveries_only (i : Side) (s : State) : OnlyChanges [.register, .port i] s (dropDeliveries i s) :=
  ((setRegister_only s _).mono (by simp)).step (setPort_only _ _ _) (by simp)

theorem tamperPort_only (i : Side) (s : State) : OnlyChanges (.register :: portBlocks i) s (tamperPort i s) := by
  dsimp only [tamperPort]
  refine OnlyChanges.ite ((setLink_only _ _).mono (by simp)) ?_
  exact (((setLink_only s _).mono (by simp)).step (leavePort_only _ _ _ _) (by simp)).step (dropDeliveries_only i _) (by simp)

theorem floodPort_only (i : Side) (s : State) : OnlyChanges (portBlocks i) s (floodPort i s) := leavePort_only _ _ _ _

theorem takeAbility_only (i : Side) (r : BitVec 8) (m : Nat) (f : BitVec 8) (s : State) :
    OnlyChanges [.port i, .link] s (takeAbility i r m f s) := by
  dsimp only [takeAbility]
  split
  · exact failAttempt_only _ _ _
  · exact (setPort_only _ _ _).mono (by simp)

theorem discardRecord_only (i : Side) (r : DropReason) (s : State) : OnlyChanges [.port i, .link] s (discardRecord i r s) := by
  dsimp only [discardRecord]
  exact (((setPort_only s _ _).mono (by simp)).step (failAttempt_only _ _ _) (List.Subset.refl _)).ite
    ((setPort_only s _ _).mono (by simp))

theorem arrive_only {bs : List Block} (i : Side) (good : Bool) (cls tag len : Nat) (accept : State → State)
    (h : ∀ s, OnlyChanges bs s (accept s)) (hp : Block.port i ∈ bs) (hl : Block.link ∈ bs) (s : State) :
    OnlyChanges bs s (arrive i good cls tag len accept s) := by
  have hb : [Block.port i] ⊆ bs := by simpa using hp
  have hb' : [Block.port i, Block.link] ⊆ bs := by simpa using ⟨hp, hl⟩
  dsimp only [arrive]
  split
  · split
    · exact (((setPort_only s _ _).mono hb).step (setPort_only _ _ _) hb).trans (h _)
    · exact (((setPort_only s _ _).mono hb).step (setPort_only _ _ _) hb).step (discardRecord_only _ _ _) hb'
  · exact .refl _ _

theorem countConsumed_only (i : Side) (s : State) : OnlyChanges [.port i] s (countConsumed i s) := setPort_only _ _ _

theorem forwardRecord_only (i : Side) (cls tag : Nat) (body : List Byte) (s : State) :
    OnlyChanges [.port i, .conversations, .link] s (forwardRecord i cls tag body s) :=
  (((setPort_only s _ _).mono (by simp)).step (setConversations_only _ _) (by simp)).step (notify_only _ _) (by simp)

theorem redRunTest_only (i : Side) (s : State) : OnlyChanges (portBlocks i) s (redRunTest i s) := by
  dsimp only [redRunTest]
  refine OnlyChanges.ite (OnlyChanges.ite ?_ ((setPort_only _ _ _).mono (by simp))) (.refl _ _)
  exact ((setPort_only s _ _).mono (by simp)).step (floodPort_only i _) (List.Subset.refl _)

theorem readerSent_only (i : Side) (s : State) : OnlyChanges [.register, .port i] s (readerSent i s) := by
  dsimp only [readerSent]
  split
  · exact .refl _ _
  · split
    · split
      · exact (setPort_only _ _ _).mono (by simp)
      · exact ((setRegister_only s _).mono (by simp)).step (setPort_only _ _ _) (by simp)
    · exact (setPort_only _ _ _).mono (by simp)

/-! ### Sales -/

theorem removeSale_only (i : Side) (n : Nat) (who : Settler) (s : State) :
    OnlyChanges [.register, .link] s (removeSale i n who s) :=
  ((setRegister_only s _).mono (by simp)).step (notify_only _ _) (by simp)

theorem takeRecord_only (r : SaleRecord) (s : State) : OnlyChanges [.register, .link, .store] s (takeRecord r s) := by
  dsimp only [takeRecord]
  refine OnlyChanges.step (OnlyChanges.ite ((notify_only _ s).mono (by simp)) ?_) (queueJob_only _ _) (by simp)
  exact ((setRegister_only s _).mono (by simp)).step (notify_only _ _) (by simp)

theorem handOver_only (r : SaleRecord) (s : State) : OnlyChanges [.register, .port r.side] s (handOver r s) := by
  dsimp only [handOver]
  refine OnlyChanges.ite ((OnlyChanges.refl _ _).ite ((setPort_only _ _ _).mono (by simp))) ?_
  exact (setRegister_only _ _).mono (by simp)

theorem endAuth_only (i : Side) (s : State) : OnlyChanges [.fill i, .link] s (endAuth i s) := by
  dsimp only [endAuth]
  split
  · exact ((setFill_only s _ _).mono (by simp)).step (notify_only _ _) (by simp)
  · exact .refl _ _

theorem closeRecord_only (i : Side) (c : SaleContext) (s : State) : OnlyChanges (closeBlocks i) s (closeRecord i c s) := by
  unfold closeRecord
  extract_lets m s1 r s2 s3
  have h1 : OnlyChanges (closeBlocks i) s s1 := (setFigures_only s _ _).mono (by simp)
  have h2 : OnlyChanges (closeBlocks i) s s2 := h1.step (takeRecord_only r _) (by simp)
  have h3 : OnlyChanges (closeBlocks i) s s3 :=
    (h2.step (handOver_only r _) (by have : r.side = i := rfl; rw [this]; simp)).ite h2
  exact h3.step (setDisplay_only _ _ _) (by simp)

theorem closeSide_only (i : Side) (s : State) : OnlyChanges (closeBlocks i) s (closeSide i s) := by
  unfold closeSide
  extract_lets s1 f s2
  have h1 : OnlyChanges (closeBlocks i) s s1 :=
    (((endAuth_only i s).mono (by simp)).step (dropBoth_only i _) (by simp)).step (adoptAtClose_only i _) (by simp)
  have h2 : OnlyChanges (closeBlocks i) s s2 := h1.step (setFill_only _ _ _) (by simp)
  exact (h2.step (enterState_only i _ _) (by simp)).step (zeroCreep_only i _) (by simp)

theorem closeSale_only (i : Side) (why : Option EndReason) (s : State) : OnlyChanges (closeBlocks i) s (closeSale i why s) := by
  unfold closeSale
  split
  · exact closeSide_only i s
  · exact (((setSale_only i _ s).mono (by simp)).step (closeRecord_only i _ _) (List.Subset.refl _)).trans (closeSide_only i _)

theorem applyDeferred_only (s : State) : OnlyChanges [.register, .store] s (applyDeferred s) := by
  dsimp only [applyDeferred]
  exact (((setRegister_only s _).mono (by simp)).step (queueJob_only _ _) (by simp)).ite ((setRegister_only s _).mono (by simp))

theorem takeWarning_only (s : State) : OnlyChanges [.register, .store] s (takeWarning s) :=
  ((setRegister_only s _).mono (by simp)).step (setStore_only _ _) (by simp)

theorem restoreRecords_only (i : Side) (q : List SaleRecord) (s : State) :
    OnlyChanges [.register, .store, .display i] s (restoreRecords i q s) := by
  have h (d : Display) (g : Register) (t : Store) :
      OnlyChanges [.register, .store, .display i] s (((s.setRegister g).setStore t).setDisplay i d) :=
    (((setRegister_only s g).mono (by simp)).step (setStore_only _ t) (by simp)).step (setDisplay_only _ i d) (by simp)
  dsimp only [restoreRecords]
  exact ((h _ _ _).step (queueJob_only _ _) (by simp)).ite (h _ _ _)

theorem examineSlot_only (i : Side) (s : State) : OnlyChanges [.register, .store, .display i, .link] s (examineSlot i s) := by
  unfold examineSlot
  extract_lets t st s1
  have h1 : OnlyChanges [.register, .store, .display i, .link] s s1 := (setStore_only s _).mono (by simp)
  split
  · exact h1
  · exact h1.step (restoreRecords_only i _ _) (by simp)
  · exact (h1.step (setStore_only _ _) (by simp)).step (notify_only _ _) (by simp)

theorem setParams_only (s : State) (c : Params) : OnlyChanges [.params] s { s with params := c } := by
  intro b hb
  cases b <;> first | rfl | exact absurd (List.mem_singleton.mpr rfl) hb

theorem raiseDepth_only (s : State) : OnlyChanges [.params, .store] s (raiseDepth s) := by
  dsimp only [raiseDepth]
  exact (((setParams_only s _).mono (by simp)).step (queueJob_only _ _) (by simp)).ite (.refl _ _)

end Sys2Proof.Machine
end

