-- ==== Sys2Proof/Laws/PowerFrames.lean ====
section
/-! SUPPORT. What each shared operation of the Power Sequencer and of Meter Inputs can change. -/

namespace Sys2Proof.Machine

open Sys2Proof

/-! ### The blocks that go together -/

/-- What the checking of a side into service writes: its power state, the mode, a store job, its closures, its port and display. -/
abbrev bringUpBlocks (i : Side) : List Block :=
  [.sidePower i, .power, .store, .fill i, .blend i, .valves i, .display i, .link, .port i, .arbiter, .sideMeters i,
    .meter { side := i, product := .lo }, .meter { side := i, product := .hi }]

/-- What the Power Sequencer can write of both sides. -/
abbrev powerBlocks : List Block := bringUpBlocks .a ++ bringUpBlocks .b ++ [.conversations]

theorem bringUp_sub (i : Side) : bringUpBlocks i ⊆ powerBlocks := by cases i <;> simp [powerBlocks]

theorem closure_sub (i : Side) : closureBlocks i ⊆ bringUpBlocks i := by simp

theorem port_sub (i : Side) : portBlocks i ⊆ powerBlocks := by cases i <;> simp [powerBlocks]

/-! ### Modes and power states -/

/-- A change that POWER_STAGE is to tell is no block of the part. -/
theorem addChange_only (s : State) (x : PowerChange) : OnlyChanges [] s (s.addChange x) := by
  intro b _; cases b <;> rfl

theorem editSide_only (i : Side) (f : SidePower → SidePower) (s : State) : OnlyChanges [.sidePower i] s (editSide i f s) :=
  setSidePower_only _ _ _

theorem setMode_only (m : PartMode) (c : PowerCause) (s : State) : OnlyChanges [.power] s (setMode m c s) :=
  (setPower_only s _).step (addChange_only _ _) (by simp)

theorem setStage_only (i : Side) (p : PowerState) (c : PowerCause) (f : SidePower → SidePower) (s : State) :
    OnlyChanges [.sidePower i] s (setStage i p c f s) := (editSide_only i _ s).step (addChange_only _ _) (by simp)

theorem clearAttended_only (i : Side) (s : State) : OnlyChanges [.sidePower i] s (clearAttended i s) :=
  ((editSide_only i _ s).step (addChange_only _ _) (by simp)).ite (.refl _ _)

/-- What a change of a power state leaves of the side's power, and what it tells (R157). -/
theorem setStage_spec (i : Side) (p : PowerState) (c : PowerCause) (f : SidePower → SidePower) (s : State) :
    (setStage i p c f s).sidePower.get i = { f (s.sidePower.get i) with state := p } ∧
      (setStage i p c f s).changes =
        s.changes ++ [.stage (powerNotice (some i) c (editSide i (fun q => { f q with state := p }) s))] :=
  ⟨PerSide.get_set_same _ _ _, rfl⟩

/-- What the clearing of ATTENDED leaves of the side's power (R169). -/
theorem clearAttended_sidePower (i : Side) (s : State) :
    (clearAttended i s).sidePower.get i = { s.sidePower.get i with attended := false } := by
  unfold clearAttended
  split
  · exact PerSide.get_set_same _ _ _
  · rename_i h
    generalize s.sidePower.get i = p at h ⊢
    cases p
    simp_all

theorem runTest_only (c : PowerCause) (s : State) : OnlyChanges [.power] s (runTest c s) := (setMode_only _ c s).ite (.refl _ _)

theorem enterUp_only (i : Side) (c : PowerCause) (s : State) : OnlyChanges (bringUpBlocks i) s (enterUp i c s) :=
  (((setStage_only i _ c _ s).mono (by simp)).step (setClosures_only i _ _) (by simp)).step (runTest_only _ _) (by simp)

theorem enterVerify_only (i : Side) (c : PowerCause) (s : State) : OnlyChanges (bringUpBlocks i) s (enterVerify i c s) := by
  unfold enterVerify
  extract_lets s1
  have h1 : OnlyChanges (bringUpBlocks i) s s1 := (setStage_only i _ c _ s).mono (by simp)
  split
  · exact ((h1.step (setPower_only _ _) (by simp)).step (queueJob_only _ _) (by simp)).step (editSide_only i _ _) (by simp)
  · exact h1.step (editSide_only i _ _) (by simp)
  · exact h1.trans (enterUp_only i _ _)
  · exact h1.trans (enterUp_only i _ _)

theorem upIfWaiting_only (c : PowerCause) (i : Side) (s : State) : OnlyChanges (bringUpBlocks i) s (upIfWaiting c i s) :=
  (enterUp_only i _ s).ite (.refl _ _)

theorem addClosureBoth_power (r : ClosureReason) (s : State) : OnlyChanges powerBlocks s (addClosureBoth r s) :=
  (addClosureBoth_only r s).mono (by simp [powerBlocks])

theorem makeResult_only (cal price : Comparison) (s : State) : OnlyChanges powerBlocks s (makeResult cal price s) := by
  unfold makeResult
  split
  · extract_lets w s1 s2 s3
    have h1 : OnlyChanges powerBlocks s s1 := (setPower_only s _).mono (by simp [powerBlocks])
    have h2 : OnlyChanges powerBlocks s s2 := (h1.trans (addClosureBoth_power _ _)).ite h1
    have h3 : OnlyChanges powerBlocks s s3 := (h2.trans (addClosureBoth_power _ _)).ite h2
    exact (h3.step (upIfWaiting_only _ .a _) (bringUp_sub .a)).step (upIfWaiting_only _ .b _) (bringUp_sub .b)
  · exact .refl _ _

theorem verifyExpired_only (s : State) : OnlyChanges powerBlocks s (verifyExpired s) := by
  unfold verifyExpired
  have h1 : OnlyChanges powerBlocks s (s.setPower { s.power with verification := .unverified }) :=
    (setPower_only s _).mono (by simp [powerBlocks])
  exact (((h1.trans (addClosureBoth_power _ _)).trans (addClosureBoth_power _ _)).step (upIfWaiting_only _ .a _)
    (bringUp_sub .a)).step (upIfWaiting_only _ .b _) (bringUp_sub .b)

/-! ### The stages -/

theorem enterAdmit_only (i : Side) (s : State) : OnlyChanges (bringUpBlocks i) s (enterAdmit i s) := by
  unfold enterAdmit
  extract_lets s1
  have h1 : OnlyChanges (bringUpBlocks i) s s1 := (setStage_only i _ _ _ s).mono (by simp)
  exact (OnlyChanges.ite (h1.trans (enterVerify_only i _ _))
    ((h1.step (startRequest_only i _) (by simp)).step (editSide_only i _ _) (by simp))).ite (h1.trans (enterVerify_only i _ _))

theorem endCheck_only (i : Side) (s : State) : OnlyChanges (bringUpBlocks i) s (endCheck i s) := by
  unfold endCheck
  extract_lets s1
  have h1 : OnlyChanges (bringUpBlocks i) s s1 := ((addClosure_only i _ s).mono (closure_sub i)).ite (.refl _ _)
  exact ((h1.step (setSideMeters_only _ i _) (by simp)).step (zeroCreep_only i _) (by simp)).trans (enterAdmit_only i _)

theorem tryEndCheck_only (i : Side) (s : State) : OnlyChanges (bringUpBlocks i) s (tryEndCheck i s) :=
  (endCheck_only i s).ite (.refl _ _)

theorem enterCheck_only (i : Side) (c : PowerCause) (s : State) : OnlyChanges (bringUpBlocks i) s (enterCheck i c s) :=
  (((setStage_only i _ c _ s).mono (by simp)).step (setDisplay_only _ i _) (by simp)).step (sendDue_only i _) (by simp)

theorem reportCheck_only (i : Side) (s : State) : OnlyChanges (bringUpBlocks i) s (reportCheck i s) :=
  ((editSide_only i _ s).mono (by simp)).step (tryEndCheck_only i _) (List.Subset.refl _)

theorem setStageHeat_only (i : Side) (on : Bool) (s : State) : OnlyChanges [.display i, .arbiter] s (setStageHeat i on s) :=
  ((setDisplay_only s i _).mono (by simp)).step (updateHeat_only i _) (List.Subset.refl _)

theorem enterHeat_only (i : Side) (s : State) : OnlyChanges (bringUpBlocks i) s (enterHeat i s) := by
  unfold enterHeat
  extract_lets s1
  have h1 : OnlyChanges (bringUpBlocks i) s s1 := (setStage_only i _ _ _ s).mono (by simp)
  exact (h1.trans (enterCheck_only i _ _)).ite
    ((h1.step (setStageHeat_only i _ _) (by simp)).step (editSide_only i _ _) (by simp))

theorem endHeat_only (i : Side) (c : PowerCause) (s : State) : OnlyChanges (bringUpBlocks i) s (endHeat i c s) :=
  ((setStageHeat_only i _ s).mono (by simp)).step (enterCheck_only i _ _) (List.Subset.refl _)

theorem heatExpired_only (i : Side) (s : State) : OnlyChanges (bringUpBlocks i) s (heatExpired i s) :=
  OnlyChanges.step (((addClosure_only i _ s).mono (closure_sub i)).ite ((editSide_only i _ s).mono (by simp)))
    (endHeat_only i _ _) (List.Subset.refl _)

theorem takeSupplyGood_only (i : Side) (s : State) : OnlyChanges (bringUpBlocks i) s (takeSupplyGood i s) := by
  unfold takeSupplyGood
  extract_lets w s1 s2
  have h1 : OnlyChanges (bringUpBlocks i) s s1 := (setClosures_only i _ s).mono (by simp)
  have h2 : OnlyChanges (bringUpBlocks i) s s2 := ((h1.step (setDisplay_only _ i _) (by simp)).step (sendDue_only i _) (by simp)).step (updateHeat_only i _) (by simp)
  exact (h2.step (setPower_only _ _) (by simp)).trans (enterHeat_only i _)

theorem takePermit_only (i : Side) (s : State) : OnlyChanges (bringUpBlocks i) s (takePermit i s) := by
  unfold takePermit
  extract_lets w s1
  have h1 : OnlyChanges (bringUpBlocks i) s s1 :=
    ((setPower_only s _).mono (by simp)).step (setStage_only i _ _ _ _) (by simp)
  exact (h1.trans (takeSupplyGood_only i _)).ite h1

theorem grantPermit_only (s : State) : OnlyChanges powerBlocks s (grantPermit s) := by
  unfold grantPermit
  split
  · exact (takePermit_only _ s).mono (bringUp_sub _)
  · exact .refl _ _

theorem leavePermit_only (i : Side) (s : State) : OnlyChanges [.power] s (leavePermit i s) := by
  dsimp only [leavePermit]
  exact (setPower_only s _).ite (setPower_only s _)

theorem joinPermit_only (i : Side) (s : State) : OnlyChanges [.power] s (joinPermit i s) := setPower_only _ _

theorem beginBringUp_only (i : Side) (s : State) : OnlyChanges (bringUpBlocks i) s (beginBringUp i s) := by
  unfold beginBringUp
  extract_lets s0 s1
  have h0 : OnlyChanges (bringUpBlocks i) s s0 := ((editSide_only i _ s).mono (by simp)).step (clearAttended_only i _) (by simp)
  have h1 : OnlyChanges (bringUpBlocks i) s s1 := (h0.step (editSide_only i _ _) (by simp)).step (addClosure_only i _ _) (closure_sub i)
  exact h1.ite (h1.step (joinPermit_only i _) (by simp))

theorem wakingEntry_only (c : PowerCause) (s : State) : OnlyChanges powerBlocks s (wakingEntry c s) := by
  unfold wakingEntry
  extract_lets w s1
  have h1 : OnlyChanges powerBlocks s s1 := ((setPower_only s _).mono (by simp [powerBlocks])).step (setMode_only _ _ _) (by simp [powerBlocks])
  exact ((h1.step (beginBringUp_only .a _) (bringUp_sub .a)).step (beginBringUp_only .b _) (bringUp_sub .b)).trans (grantPermit_only _)

theorem cancelNight_only (s : State) : OnlyChanges powerBlocks s (cancelNight s) := by
  unfold cancelNight
  extract_lets offA offB w s2 s3 s4
  have h2 : OnlyChanges powerBlocks s s2 :=
    ((setPower_only s _).mono (by simp [powerBlocks])).step (setMode_only _ _ _) (by simp [powerBlocks])
  have h3 : OnlyChanges powerBlocks s s3 := (h2.step (beginBringUp_only .a _) (bringUp_sub .a)).ite h2
  have h4 : OnlyChanges powerBlocks s s4 := (h3.step (beginBringUp_only .b _) (bringUp_sub .b)).ite h3
  exact (h4.trans (grantPermit_only _)).ite ((setMode_only _ _ s).mono (by simp [powerBlocks]))

/-! ### The end of a side's supply -/

theorem supplyOff_only (i : Side) (s : State) : OnlyChanges powerBlocks s (supplyOff i s) :=
  ((((editSide_only i _ s).mono (by simp)).step (unpowerDisplay_only i _) (by simp) : OnlyChanges (bringUpBlocks i) s _).mono
    (bringUp_sub i)).step (disablePort_only i _ _) (port_sub i)

theorem darkReport_only (i : Side) (s : State) : OnlyChanges powerBlocks s (darkReport i s) := by
  dsimp only [darkReport]
  refine OnlyChanges.ite (OnlyChanges.ite ?_ (supplyOff_only i s)) (.refl _ _)
  exact ((supplyOff_only i s).step (joinPermit_only i _) (by simp [powerBlocks])).trans (grantPermit_only _)

theorem beginShut_only (i : Side) (s : State) : OnlyChanges powerBlocks s (beginShut i s) := by
  dsimp only [beginShut]
  have h1 : OnlyChanges powerBlocks s (editSide i (fun p => { p with shutting := true }) s) :=
    ((editSide_only i _ s).mono (by simp) : OnlyChanges (bringUpBlocks i) s _).mono (bringUp_sub i)
  have hd : [Block.display i] ⊆ powerBlocks := List.Subset.trans (by simp) (bringUp_sub i)
  exact OnlyChanges.ite (OnlyChanges.ite (h1.trans (darkReport_only i _)) ((h1.step (setDisplay_only _ i _) hd).step
    (sendDue_only i _) hd)) (.refl _ _)

theorem stopSide_only (i : Side) (r : PortReason) (s : State) : OnlyChanges powerBlocks s (stopSide i r s) := by
  unfold stopSide
  extract_lets s1 s2
  have h1 : OnlyChanges powerBlocks s s1 :=
    ((disablePort_only i r s).mono (port_sub i)).step (setStageHeat_only i _ _)
      (List.Subset.trans (by simp : [Block.display i, .arbiter] ⊆ bringUpBlocks i) (bringUp_sub i))
  have h2 : OnlyChanges powerBlocks s s2 :=
    h1.step (editSide_only i _ _) (List.Subset.trans (by simp : [Block.sidePower i] ⊆ bringUpBlocks i) (bringUp_sub i))
  exact (h2.step (leavePermit_only i _) (by simp [powerBlocks])).trans (beginShut_only i _)

/-! ### Night -/

theorem nightClose_only (i : Side) (s : State) : OnlyChanges (closureBlocks i) s (nightClose i s) :=
  ((removeWaiting_only i _ _ s).mono (by simp)).step (addClosure_only i _ _) (List.Subset.refl _)

theorem nightClose_power (i : Side) (s : State) : OnlyChanges powerBlocks s (nightClose i s) :=
  ((nightClose_only i s).mono (closure_sub i)).mono (bringUp_sub i)

theorem nightEntry_only (c : PowerCause) (s : State) : OnlyChanges powerBlocks s (nightEntry c s) := by
  unfold nightEntry
  extract_lets s1
  have h1 : OnlyChanges powerBlocks s s1 :=
    (((nightClose_power .a s).trans (stopSide_only .a _ _)).trans (nightClose_power .b _)).trans (stopSide_only .b _ _)
  exact (h1.step (setMode_only _ _ _) (by simp [powerBlocks])).trans (grantPermit_only _)

theorem nightIfLast_only (s : State) : OnlyChanges powerBlocks s (nightIfLast s) := (nightEntry_only _ s).ite (.refl _ _)

theorem stopBringUp_only (i : Side) (s : State) : OnlyChanges powerBlocks s (stopBringUp i s) := by
  dsimp only [stopBringUp]
  exact (stopSide_only i _ s).ite (.refl _ _)

theorem withdrawWaiting_power (i : Side) (why : RemovalReason) (tell : Bool) (s : State) :
    OnlyChanges powerBlocks s (withdrawWaiting i why tell s) :=
  ((withdrawWaiting_only i why tell s).mono (closure_sub i)).mono (bringUp_sub i)

theorem goNight_only (c : PowerCause) (s : State) : OnlyChanges powerBlocks s (goNight c s) := by
  unfold goNight
  extract_lets s1
  have h1 : OnlyChanges powerBlocks s s1 := (withdrawWaiting_power .a _ _ s).trans (withdrawWaiting_power .b _ _ _)
  refine OnlyChanges.ite ?_ (h1.trans (nightEntry_only _ _))
  exact (((h1.trans (stopBringUp_only .a _)).trans (stopBringUp_only .b _)).step (setMode_only _ _ _) (by simp [powerBlocks])).trans
    (grantPermit_only _)

theorem portAdmitted_only (i : Side) (s : State) : OnlyChanges (bringUpBlocks i) s (portAdmitted i s) := by
  unfold portAdmitted
  extract_lets s1
  have h1 : OnlyChanges (bringUpBlocks i) s s1 := (clearAttended_only i s).mono (by simp)
  exact (h1.trans (enterVerify_only i _ _)).ite h1

theorem admitPort_only (i : Side) (t : Terms) (s : State) : OnlyChanges (bringUpBlocks i) s (admitPort i t s) :=
  ((changePort_only i _ _ s).mono (by simp)).step (portAdmitted_only i _) (List.Subset.refl _)

theorem downFault_only (i : Side) (c : PowerCause) (s : State) : OnlyChanges powerBlocks s (downFault i c s) := by
  unfold downFault
  extract_lets s1 s2
  have h1 : OnlyChanges powerBlocks s s1 :=
    ((((addClosure_only i _ s).mono (closure_sub i)).mono (bringUp_sub i)).trans (supplyOff_only i _)).step
      (setStageHeat_only i _ _) (List.Subset.trans (by simp : [Block.display i, .arbiter] ⊆ bringUpBlocks i) (bringUp_sub i))
  have h2 : OnlyChanges powerBlocks s s2 :=
    h1.step (setStage_only i _ _ _ _)
      (List.Subset.trans (by simp : [Block.sidePower i] ⊆ bringUpBlocks i) (bringUp_sub i))
  exact ((h2.step (leavePermit_only i _) (by simp [powerBlocks])).step (runTest_only _ _) (by simp [powerBlocks])).trans
    (grantPermit_only _)

/-- What the loss of a side's supply can write: its sale close, and both sides' power. -/
abbrev lossBlocks (i : Side) : List Block := closeBlocks i ++ powerBlocks

theorem supplyLost_only (i : Side) (s : State) : OnlyChanges (lossBlocks i) s (supplyLost i s) := by
  have hl : [Block.link] ⊆ lossBlocks i := by simp
  have hp : powerBlocks ⊆ lossBlocks i := List.subset_append_right _ _
  dsimp only [supplyLost]
  refine OnlyChanges.ite ?_ ?_
  · exact ((((closeSale_only i _ s).mono (List.subset_append_left _ _)).step (notifyFault_only _ _ _ _ _ _ _) hl).step
      (downFault_only i _ _) hp).step (nightIfLast_only _) hp
  · exact ((notifyFault_only _ _ _ _ _ _ s).mono hl).step (downFault_only i _ _) hp

/-! ### Meter Inputs -/

/-- What a taken pair of one meter can write. -/
abbrev edgeBlocks (m : Meter) : List Block :=
  [.meter m, .sidePower m.side, .sideMeters m.side, .figures m.side, .fill m.side, .blend m.side, .valves m.side,
    .display m.side, .link, .port m.side]

theorem stopTests_only (i : Side) (s : State) : OnlyChanges (stateBlocks i) s (stopTests i s) := by
  dsimp only [stopTests]
  exact ((hold_only i _ s).ite ((hold_only i _ s).ite ((enterState_only i _ s).ite (.refl _ _)))).ite (.refl _ _)

theorem applyTrim_only (i : Side) (b : Blend) (s : State) : OnlyChanges [.valves i] s (applyTrim i b s) := by
  unfold applyTrim
  split
  · exact setValves_only _ _ _
  · exact .refl _ _

theorem windowUpdate_only (i : Side) (s : State) : OnlyChanges (closureBlocks i) s (windowUpdate i s) := by
  dsimp only [windowUpdate]
  split
  · exact .refl _ _
  · have h (b : Blend) : OnlyChanges (closureBlocks i) s (applyTrim i b (s.setBlend i b)) :=
      ((setBlend_only s i b).mono (by simp)).step (applyTrim_only i b _) (by simp)
    exact (((h _).trans (fillFault_only i _ _ _)).ite (h _)).ite (.refl _ _)

theorem crossflowTest_only (m : Meter) (s : State) : OnlyChanges (closureBlocks m.side) s (crossflowTest m s) := by
  dsimp only [crossflowTest]
  exact (((setBlend_only s _ _).mono (by simp)).step (fillFault_only _ _ _ _) (List.Subset.refl _)).ite (.refl _ _)

theorem volumeUpdate_only (m : Meter) (s : State) : OnlyChanges (edgeBlocks m) s (volumeUpdate m s) := by
  unfold volumeUpdate
  extract_lets i ms s1 w s2
  have h1 : OnlyChanges (edgeBlocks m) s s1 := (setFigures_only s _ _).mono (by simp [i])
  have h2 : OnlyChanges (edgeBlocks m) s s2 :=
    ((h1.step (setSideMeters_only _ _ _) (by simp [i])).step (fillFault_only _ _ _ _) (by simp [i])).ite
      (h1.step (stopTests_only _ _) (by simp [i]))
  exact (h2.step (windowUpdate_only _ _) (by simp [i])).step (crossflowTest_only m _) (by simp)

theorem saleEdge_only (i : Side) (f : Bool) (s : State) : OnlyChanges [.fill i] s (saleEdge i f s) := setFill_only _ _ _

theorem creepFires_only (m : Meter) (s : State) : OnlyChanges (edgeBlocks m) s (creepFires m s) := by
  have h1 (c : MeterChannel) (l : Link) : OnlyChanges (edgeBlocks m) s ((s.setMeter m c).setLink l) :=
    ((setMeter_only s m c).mono (by simp)).step (setLink_only _ l) (by simp)
  have h2 (c : MeterChannel) (l : Link) (x : SideMeters) :
      OnlyChanges (edgeBlocks m) s (((s.setMeter m c).setLink l).setSideMeters m.side x) :=
    (h1 c l).step (setSideMeters_only _ _ x) (by simp)
  dsimp only [creepFires]
  exact ((h2 _ _ _).ite ((h2 _ _ _).step (notify_only _ _) (by simp))).ite ((h1 _ _).step (addClosure_only _ _ _) (by simp))

theorem creepEdge_only (i : Side) (s : State) : OnlyChanges [.sidePower i] s (creepEdge i s) := by
  dsimp only [creepEdge]
  exact (editSide_only i _ s).ite (.refl _ _)

theorem weighCreep_only (m : Meter) (x : Int) (s : State) : OnlyChanges (edgeBlocks m) s (weighCreep m x s) := by
  unfold weighCreep
  extract_lets c v s1
  have h1 : OnlyChanges (edgeBlocks m) s s1 := ((setMeter_only s m _).mono (by simp)).step (creepEdge_only _ _) (by simp)
  exact (h1.trans (creepFires_only m _)).ite h1

theorem weighSale_only (m : Meter) (f : Bool) (x : Int) (s : State) : OnlyChanges (edgeBlocks m) s (weighSale m f x s) := by
  unfold weighSale
  extract_lets c v s1
  have h1 : OnlyChanges (edgeBlocks m) s s1 := ((setMeter_only s m _).mono (by simp)).step (saleEdge_only _ _ _) (by simp)
  exact (h1.trans (volumeUpdate_only m _)).ite h1

theorem takeEdge_only (m : Meter) (f : Bool) (s : State) : OnlyChanges (edgeBlocks m) s (takeEdge m f s) := by
  dsimp only [takeEdge]
  refine OnlyChanges.ite ?_ ((setMeter_only s m _).mono (by simp))
  exact OnlyChanges.ite (((setMeter_only s m _).mono (by simp)).trans (weighSale_only m _ _ _))
    (((setMeter_only s m _).mono (by simp)).trans (weighCreep_only m _ _))

theorem takeError_only (m : Meter) (s : State) : OnlyChanges (edgeBlocks m) s (takeError m s) := by
  unfold takeError
  extract_lets i c s1 x n
  have h1 : OnlyChanges (edgeBlocks m) s s1 := (setMeter_only s m _).mono (by simp)
  refine OnlyChanges.ite ?_ h1
  exact ((h1.step (setSideMeters_only _ _ _) (by simp [i])).step (fillFault_only _ _ _ _) (by simp [i])).ite
    (h1.step (setSideMeters_only _ _ _) (by simp [i]))

theorem takeLevels_only (m : Meter) (p q : Option Bool) (s : State) : OnlyChanges (edgeBlocks m) s (takeLevels m p q s) := by
  unfold takeLevels
  extract_lets c last c1 s1
  have h1 : OnlyChanges (edgeBlocks m) s s1 := (setMeter_only s m _).mono (by simp)
  split
  · split
    · exact h1.trans (takeEdge_only m _ _)
    · exact h1.trans (takeEdge_only m _ _)
    · exact h1.trans (takeError_only m _)
    · exact h1
  · exact h1

theorem rateExpiry_only (m : Meter) (s : State) : OnlyChanges (edgeBlocks m) s (rateExpiry m s) := by
  dsimp only [rateExpiry]
  have h (c : MeterChannel) : OnlyChanges (edgeBlocks m) s (s.setMeter m c) := (setMeter_only s m c).mono (by simp)
  exact (((h _).step (fillFault_only _ _ _ _) (by simp)).ite (h _)).ite (h _)

end Sys2Proof.Machine
end

