-- ==== Sys2Proof/Laws/CommandFrames.lean ====
section
/-! SUPPORT. What the effect of each command can change, before the end of its event. -/

namespace Sys2Proof.Machine

open Sys2Proof

/-- Every block that any command but a reset can write. -/
abbrev anyBlocks : List Block :=
  powerBlocks ++ [.prices, .figures .a, .figures .b, .motor .lo, .motor .hi, .grades, .register, .classes, .agingTimer, .clock,
    .params, .estopInput, .supplyFailInput]

theorem power_any : powerBlocks ⊆ anyBlocks := List.subset_append_left _ _

theorem close_any (i : Side) : closeBlocks i ⊆ anyBlocks := by cases i <;> simp

theorem start_any (i : Side) : startBlocks i ⊆ anyBlocks := by cases i <;> simp

theorem edge_any (m : Meter) : edgeBlocks m ⊆ anyBlocks := by
  rcases m with ⟨i, p⟩; cases i <;> cases p <;> simp

theorem loss_any (i : Side) : lossBlocks i ⊆ anyBlocks := List.append_subset.mpr ⟨close_any i, power_any⟩

/-! ### Fills -/

theorem setNozzles_only (s : State) (i : Side) (f : Fill) : OnlyChanges anyBlocks s (s.setFill i f) :=
  (setFill_only s i f).mono (by cases i <;> simp)

theorem nozzleLift_only (i : Side) (n : Nozzle) (s : State) : OnlyChanges anyBlocks s (nozzleLift i n s) := by
  dsimp only [nozzleLift, wakingLift, recordLift]
  refine OnlyChanges.ite (OnlyChanges.ite ?_ (OnlyChanges.ite ?_ (setNozzles_only _ _ _))) (.refl _ _)
  · exact (setNozzles_only s i _).step (wakingEntry_only _ _) power_any
  · exact (setNozzles_only s i _).step (countLift_only i n _) (start_any i)

theorem nozzleHangUp_only (i : Side) (n : Nozzle) (s : State) : OnlyChanges (startBlocks i) s (nozzleHangUp i n s) := by
  have h (f : Fill) : OnlyChanges (startBlocks i) s (s.setFill i f) := (setFill_only s i f).mono (by simp)
  dsimp only [nozzleHangUp]
  refine OnlyChanges.ite (.refl _ _) ?_
  split
  · exact (countHangUp_only i _ s).ite (h _)
  · exact h _

theorem primeExpiry_only (p : Product) (s : State) :
    OnlyChanges (.motor p :: (stateBlocks .a ++ stateBlocks .b)) s (primeExpiry p s) := by
  unfold primeExpiry
  extract_lets m s1 s2
  have h1 : OnlyChanges (.motor p :: (stateBlocks .a ++ stateBlocks .b)) s s1 := (setMotor_only s p _).mono (by simp)
  have h2 : OnlyChanges (.motor p :: (stateBlocks .a ++ stateBlocks .b)) s s2 :=
    (h1.step (tryLeaveStarting_only .a _) (by simp)).ite h1
  exact ((h2.step (tryLeaveStarting_only .b _) (by simp)).ite h2).ite (.refl _ _)

/-- What a close that may enter NIGHT writes. -/
theorem closeThenNight_only (i : Side) (why : Option EndReason) (s : State) :
    OnlyChanges (lossBlocks i) s (nightIfLast (closeSale i why s)) :=
  ((closeSale_only i why s).mono (List.subset_append_left _ _)).step (nightIfLast_only _) (List.subset_append_right _ _)

theorem driversOff_only (s : State) : OnlyChanges [.motor .lo, .motor .hi, .valves .a, .valves .b] s (driversOff s) := by
  intro b hb
  cases b with
  | motor p => cases p <;> simp at hb
  | valves i => cases i <;> simp at hb
  | _ => rfl

theorem stopSideNow_only (i : Side) (s : State) :
    OnlyChanges (closureBlocks i ++ [.motor .lo, .motor .hi]) s (stopSideNow i s) := by
  unfold stopSideNow
  exact (OnlyChanges.step (((dropBoth_only i s).mono (by simp)).ite (.refl _ _)) (fillFault_only i _ _ _) (by simp)).step
    (addClosure_only i _ _) (by simp)

theorem setEstop_only (s : State) (b : Bool) : OnlyChanges [.estopInput] s { s with estopInput := b } := by
  intro b hb
  cases b <;> first | rfl | exact absurd (List.mem_singleton.mpr rfl) hb

theorem setSupplyFail_only (s : State) (b : Bool) : OnlyChanges [.supplyFailInput] s { s with supplyFailInput := b } := by
  intro b hb
  cases b <;> first | rfl | exact absurd (List.mem_singleton.mpr rfl) hb

/-- What the emergency stop writes. -/
abbrev estopBlocks : List Block := .estopInput :: .motor .lo :: .motor .hi :: (closureBlocks .a ++ closureBlocks .b)

theorem estopAssert_only (s : State) : OnlyChanges estopBlocks s (estopAssert s) := by
  unfold estopAssert
  refine OnlyChanges.ite (.refl _ _) ?_
  exact ((((setEstop_only s _).mono (by simp)).step (driversOff_only _) (by simp)).step (stopSideNow_only .a _) (by simp)).step
    (stopSideNow_only .b _) (by simp)

theorem closeAtWarning_only (i : Side) (s : State) : OnlyChanges (closeBlocks i) s (closeAtWarning i s) :=
  (closeSale_only i _ s).ite (.refl _ _)

theorem updateHeat_any (i : Side) (s : State) : OnlyChanges anyBlocks s (updateHeat i s) :=
  (updateHeat_only i s).mono (by cases i <;> simp)

theorem supplyFailWarning_only (s : State) : OnlyChanges anyBlocks s (supplyFailWarning s) := by
  unfold supplyFailWarning
  extract_lets s1 s2
  have h1 : OnlyChanges anyBlocks s s1 :=
    ((((setSupplyFail_only s _).mono (by simp)).step (closeAtWarning_only .a _) (close_any .a)).step (closeAtWarning_only .b _)
      (close_any .b)).step (driversOff_only _) (by simp)
  have h2 : OnlyChanges anyBlocks s s2 :=
    ((h1.step (addClosureBoth_power _ _) power_any).trans (updateHeat_any .a _)).trans (updateHeat_any .b _)
  refine OnlyChanges.ite (.refl _ _) (OnlyChanges.step ?_ (nightIfLast_only _) power_any)
  exact h2.ite (h2.step (takeWarning_only _) (by simp))

/-- What the release of the warning writes. -/
abbrev releaseBlocks : List Block := [.supplyFailInput, .display .a, .display .b, .arbiter, .register, .store]

theorem supplyFailRelease_only (s : State) : OnlyChanges releaseBlocks s (supplyFailRelease s) := by
  unfold supplyFailRelease
  extract_lets s1 w s2
  have h1 : OnlyChanges releaseBlocks s s1 :=
    (((setSupplyFail_only s _).mono (by simp)).step (updateHeat_only .a _) (by simp)).step (updateHeat_only .b _) (by simp)
  have h2 : OnlyChanges releaseBlocks s s2 := (h1.step (setRegister_only _ _) (by simp)).step (applyDeferred_only _) (by simp)
  exact (h1.ite (h2.step (setStore_only _ _) (by simp))).ite (.refl _ _)

theorem takeAuthorize_only (x : AuthorizeFields) (s : State) : OnlyChanges anyBlocks s (takeAuthorize x s) := by
  have hr (st : Status) : OnlyChanges anyBlocks s (refuse st s) := (refuse_only st s).mono (by simp)
  unfold takeAuthorize
  split
  · refine (hr _).ite ((hr _).ite ((hr _).ite ((hr _).ite ((hr _).ite ?_))))
    exact ((answer_only _ _ s).mono (by simp)).step (acceptAuth_only _ _ _) (start_any _)
  · exact hr _

theorem takeCancelAuth_only (i : Side) (s : State) : OnlyChanges (closureBlocks i) s (takeCancelAuth i s) := by
  unfold takeCancelAuth
  split
  · exact (refuse_only _ s).mono (by simp)
  · split
    · exact (refuse_only _ s).mono (by simp)
    · exact ((answer_only _ _ s).mono (by simp)).step (withdrawWaiting_only i _ _ _) (List.Subset.refl _)

/-- What a request on a fill writes. -/
abbrev fillBlocks (i : Side) : List Block := [.fill i, .blend i, .valves i, .display i, .link]

theorem answerState_only (i : Side) (s : State) : OnlyChanges [.link] s (answerState i s) := answer_only _ _ _

theorem takeSuspend_only (i : Side) (s : State) : OnlyChanges (fillBlocks i) s (takeSuspend i s) :=
  (((hold_only i _ s).mono (by simp)).step (answerState_only i _) (by simp)).ite ((refuse_only _ s).mono (by simp))

theorem takeResume_only (i : Side) (s : State) : OnlyChanges (fillBlocks i) s (takeResume i s) :=
  OnlyChanges.ite ((((setSale_only i _ s).mono (by simp)).step (chooseFlow_only i _) (by simp)).step (answerState_only i _) (by simp))
    ((refuse_only _ s).mono (by simp))

theorem finalStop_only (i : Side) (r : StopReason) (s : State) : OnlyChanges (stateBlocks i) s (finalStop i r s) := by
  unfold finalStop
  split
  · exact ((setSale_only i _ s).mono (by simp)).step (endFill_only i _ _) (List.Subset.refl _)
  · exact hold_only i _ s
  · exact hold_only i _ s
  · exact ((setSale_only i _ s).mono (by simp)).ite (.refl _ _)
  all_goals exact .refl _ _

theorem takeStopFill_only (i : Side) (s : State) : OnlyChanges (fillBlocks i) s (takeStopFill i s) :=
  (((finalStop_only i _ s).mono (by simp)).step (answerState_only i _) (by simp)).ite ((refuse_only _ s).mono (by simp))

theorem takeEndSale_only (i : Side) (s : State) : OnlyChanges (fillBlocks i) s (takeEndSale i s) :=
  (((endFill_only i _ s).mono (by simp)).step (answer_only _ _ _) (by simp)).ite ((refuse_only _ s).mono (by simp))

/-- What OPEN_SIDE writes. -/
abbrev openBlocks (i : Side) : List Block :=
  [.fill i, .blend i, .valves i, .display i, .link, .meter { side := i, product := .lo }, .meter { side := i, product := .hi }]

theorem takeOpenSide_only (i : Side) (s : State) : OnlyChanges (openBlocks i) s (takeOpenSide i s) := by
  unfold takeOpenSide
  extract_lets old c s1
  have h1 : OnlyChanges (openBlocks i) s s1 :=
    OnlyChanges.step (((zeroCreep_only i s).mono (by simp)).ite (.refl _ _)) (setClosures_only i _ _) (by simp)
  exact h1.step (answer_only _ _ _) (by simp)

theorem takeCloseSide_only (i : Side) (s : State) : OnlyChanges (closureBlocks i) s (takeCloseSide i s) :=
  (addClosure_only i _ s).step (answer_only _ _ _) (by simp)

theorem takeNozzleMap_only (x : NozzleMapFields) (s : State) :
    OnlyChanges [.fill .a, .fill .b, .store, .link] s (takeNozzleMap x s) := by
  have hr (st : Status) : OnlyChanges [.fill .a, .fill .b, .store, .link] s (refuse st s) := (refuse_only st s).mono (by simp)
  unfold takeNozzleMap
  refine (hr _).ite ?_
  split
  · rename_i i m _ _
    refine (hr _).ite ?_
    exact ((setFill_only s i _).mono (by cases i <;> simp)).step (serveByJob_only _ _ _) (by simp)
  · exact hr _

/-! ### Meters, prices, blends and sales -/

theorem takeReadMeter_only (x : ReadMeterFields) (s : State) : OnlyChanges anyBlocks s (takeReadMeter x s) := by
  dsimp only [takeReadMeter]
  split
  · rename_i m _ _ _
    have h := (answer_only .ok (meterReport s m) s).mono (by simp : [Block.link] ⊆ anyBlocks)
    exact (h.step (setMeter_only _ m _) (by rcases m with ⟨i, p⟩; cases i <;> cases p <;> simp)).ite h
  · exact (refuse_only _ s).mono (by simp)

theorem takeCalibration_only (sw : Bool) (x : CalibrationFields) (s : State) : OnlyChanges anyBlocks s (takeCalibration sw x s) := by
  have hr (st : Status) : OnlyChanges anyBlocks s (refuse st s) := (refuse_only st s).mono (by simp)
  unfold takeCalibration
  refine (hr _).ite ((hr _).ite ((hr _).ite ?_))
  split
  · exact hr _
  · rename_i m _
    refine OnlyChanges.ite ?_ (hr _)
    exact (((setMeter_only s m _).mono (by rcases m with ⟨i, p⟩; cases i <;> cases p <;> simp)).step (setStore_only _ _)
      (by simp)).step (serveByJob_only _ _ _) (by simp)

theorem takeQuote_only (x : QuoteFields) (s : State) : OnlyChanges [.link] s (takeQuote x s) := by
  dsimp only [takeQuote]
  split
  · exact (refuse_only _ s).ite ((refuse_only _ s).ite (answer_only _ _ s))
  · exact refuse_only _ s

theorem takeStagePrice_only (x : StagePriceFields) (s : State) : OnlyChanges [.prices, .link] s (takeStagePrice x s) := by
  have hr (st : Status) : OnlyChanges [.prices, .link] s (refuse st s) := (refuse_only st s).mono (by simp)
  dsimp only [takeStagePrice]
  split
  · exact (hr _).ite ((hr _).ite (((setPrices_only s _).mono (by simp)).step (answer_only _ _ _) (by simp)))
  · exact hr _

theorem takeCommitNow_only (x : Nat) (s : State) : OnlyChanges [.prices, .link, .store] s (takeCommitNow x s) := by
  have hr (st : Status) : OnlyChanges [.prices, .link, .store] s (refuse st s) := (refuse_only st s).mono (by simp)
  dsimp only [takeCommitNow]
  exact (hr _).ite ((hr _).ite ((hr _).ite (((commitBanks_only s).mono (by simp)).step (serveByJob_only _ _ _) (by simp))))

theorem takeCommitAt_only (x : Nat) (s : State) : OnlyChanges [.prices, .link] s (takeCommitAt x s) := by
  have hr (st : Status) : OnlyChanges [.prices, .link] s (refuse st s) := (refuse_only st s).mono (by simp)
  unfold takeCommitAt
  exact (hr _).ite ((hr _).ite ((hr _).ite ((hr _).ite (((setPrices_only s _).mono (by simp)).step (answer_only _ _ _) (by simp)))))

theorem takeReadPrices_only (x : Nat) (s : State) : OnlyChanges [.link] s (takeReadPrices x s) := by
  unfold takeReadPrices
  split
  · exact answer_only _ _ s
  · split
    · exact answer_only _ _ s
    · exact refuse_only _ s
  · exact answer_only _ _ s
  · exact refuse_only _ s

theorem setGrades_only (s : State) (x : PerGrade GradeEntry) : OnlyChanges [.grades] s { s with grades := x } := by
  intro b hb
  cases b <;> first | rfl | exact absurd (List.mem_singleton.mpr rfl) hb

theorem takeSetGrade_only (x : GradeFields) (s : State) : OnlyChanges [.grades, .store, .link] s (takeSetGrade x s) := by
  have hr (st : Status) : OnlyChanges [.grades, .store, .link] s (refuse st s) := (refuse_only st s).mono (by simp)
  unfold takeSetGrade
  refine (hr _).ite ?_
  split
  · exact (hr _).ite (((setGrades_only s _).mono (by simp)).step (serveByJob_only _ _ _) (by simp))
  · exact hr _

theorem takeReadBlend_only (x : SideClearFields) (s : State) : OnlyChanges [.blend .a, .blend .b, .link] s (takeReadBlend x s) := by
  dsimp only [takeReadBlend]
  split
  · rename_i i _ _ _
    have h := (answer_only .ok (blendReport s i) s).mono (by simp : [Block.link] ⊆ [.blend .a, .blend .b, .link])
    exact (h.step (setBlend_only _ i _) (by cases i <;> simp)).ite h
  · exact (refuse_only _ s).mono (by simp)

theorem takeReadSale_only (x : SaleFields) (s : State) : OnlyChanges [.link] s (takeReadSale x s) := by
  unfold takeReadSale
  split
  · exact refuse_only _ s
  · refine (refuse_only _ s).ite ?_
    split
    · exact answer_only _ _ s
    · exact refuse_only _ s

theorem takeSettleSale_only (x : SaleFields) (s : State) : OnlyChanges [.register, .link] s (takeSettleSale x s) := by
  have hr (st : Status) : OnlyChanges [.register, .link] s (refuse st s) := (refuse_only st s).mono (by simp)
  unfold takeSettleSale
  split
  · exact hr _
  · refine (hr _).ite ((hr _).ite ?_)
    split
    · exact (removeSale_only _ _ _ s).step (answer_only _ _ _) (by simp)
    · exact hr _

/-! ### Displays -/

theorem refreshExpiry_only (i : Side) (s : State) : OnlyChanges [.display i] s (refreshExpiry i s) := by
  dsimp only [refreshExpiry]
  exact ((setDisplay_only s i _).ite (setDisplay_only s i _)).ite (.refl _ _)

theorem testDone_only (i : Side) (k : TestKind) (s : State) : OnlyChanges (bringUpBlocks i) s (testDone i k s) := by
  have h : OnlyChanges (bringUpBlocks i) s (s.setDisplay i ((s.display.get i).toShowing (refreshInterval s))) :=
    (setDisplay_only s i _).mono (by simp)
  unfold testDone
  cases k with
  | fill => exact (h.step (setFill_only _ i _) (by simp)).step (tryLeaveStarting_only i _) (by simp)
  | check => exact h.trans (reportCheck_only i _)

theorem tryEndTest_only (i : Side) (s : State) : OnlyChanges (bringUpBlocks i) s (tryEndTest i s) := by
  dsimp only [tryEndTest]
  split
  · exact (testDone_only i _ s).ite (.refl _ _)
  · exact .refl _ _

theorem phaseExpiry_only (i : Side) (s : State) : OnlyChanges (bringUpBlocks i) s (phaseExpiry i s) := by
  dsimp only [phaseExpiry]
  split
  · exact .refl _ _
  · refine (OnlyChanges.refl _ _).ite (OnlyChanges.ite ?_ ((setDisplay_only s i _).mono (by simp)))
    exact ((setDisplay_only s i _).mono (by simp)).step (tryEndTest_only i _) (List.Subset.refl _)

theorem raiseDisplay_only (i : Side) (s : State) : OnlyChanges (closureBlocks i) s (raiseDisplay i s) := by
  unfold raiseDisplay
  exact (fillFault_only i _ _ s).ite ((OnlyChanges.refl _ _).ite ((addClosure_only i _ s).step (notifyFault_only _ _ _ _ _ _ _) (by simp)))

theorem failTransfer_only (i : Side) (s : State) : OnlyChanges (bringUpBlocks i) s (failTransfer i s) := by
  dsimp only [failTransfer]
  have h : OnlyChanges (bringUpBlocks i) s (raiseDisplay i (s.setDisplay i ((s.display.get i).toShowing (refreshInterval s)))) :=
    ((setDisplay_only s i _).mono (by simp)).step (raiseDisplay_only i _) (closure_sub i)
  split
  · split
    · exact h
    · exact h.step (reportCheck_only i _) (List.Subset.refl _)
  · exact (raiseDisplay_only i s).mono (closure_sub i)

theorem endTransfer_only (i : Side) (x : Transfer) (c : Bool) (s : State) : OnlyChanges powerBlocks s (endTransfer i x c s) := by
  have h : OnlyChanges powerBlocks s (s.setDisplay i ((s.display.get i).ended x.frame c)) :=
    ((setDisplay_only s i _).mono (by simp) : OnlyChanges (bringUpBlocks i) s _).mono (bringUp_sub i)
  have h2 : OnlyChanges powerBlocks s
      (if c then tryEndTest i (s.setDisplay i ((s.display.get i).ended x.frame c))
        else failTransfer i (s.setDisplay i ((s.display.get i).ended x.frame c))) :=
    (h.step (tryEndTest_only i _) (bringUp_sub i)).ite (h.step (failTransfer_only i _) (bringUp_sub i))
  dsimp only [endTransfer]
  split
  · exact (h.trans (darkReport_only i _)).ite h
  all_goals exact h2

theorem attemptLost_only (i : Side) (x : Transfer) (s : State) : OnlyChanges powerBlocks s (attemptLost i x s) := by
  dsimp only [attemptLost]
  exact (endTransfer_only i x _ s).ite
    (((setDisplay_only s i _).mono (by simp) : OnlyChanges (bringUpBlocks i) s _).mono (bringUp_sub i))

theorem displayEcho_only (i : Side) (c : Byte) (s : State) : OnlyChanges powerBlocks s (displayEcho i c s) := by
  dsimp only [displayEcho]
  split
  · exact ((setDisplay_only s i _).mono (by simp) : OnlyChanges (bringUpBlocks i) s _).mono (bringUp_sub i)
  · exact (endTransfer_only i _ _ s).ite (attemptLost_only i _ s)

theorem echoTimeout_only (i : Side) (s : State) : OnlyChanges powerBlocks s (echoTimeout i s) := by
  dsimp only [echoTimeout]
  split
  · exact .refl _ _
  · exact (attemptLost_only i _ s).ite (.refl _ _)

theorem takeSample_only (i : Side) (r : Nat) (s : State) : OnlyChanges (bringUpBlocks i) s (takeSample i r s) := by
  have h1 (d : Display) : OnlyChanges (bringUpBlocks i) s (s.setDisplay i d) := (setDisplay_only s i d).mono (by simp)
  unfold takeSample
  extract_lets d d' s1 s2 s3
  have h2 : OnlyChanges (bringUpBlocks i) s s2 := ((h1 _).step (notifyFault_only _ _ _ _ _ _ _) (by simp)).ite (h1 _)
  have h3 : OnlyChanges (bringUpBlocks i) s s3 := h2.step (updateHeat_only i _) (by simp)
  exact (h3.trans (endHeat_only i _ _)).ite h3

/-! ### Readers and payments -/

theorem readerReady_only (i : Side) (s : State) : OnlyChanges [.port i] s (readerReady i s) := by
  dsimp only [readerReady]
  exact (setPort_only s i _).ite (setPort_only s i _)

theorem abandonFrame_only (i : Side) (s : State) : OnlyChanges [.port i] s (abandonFrame i s) := by
  dsimp only [abandonFrame]
  exact (setPort_only s i _).ite (.refl _ _)

theorem stepTimeout_only (i : Side) (s : State) : OnlyChanges [.port i, .link] s (stepTimeout i s) := by
  dsimp only [stepTimeout]
  exact (failAttempt_only i _ s).ite (.refl _ _)

theorem recordDiscarded_only (i : Side) (g : Bool) (c t l : Nat) (s : State) :
    OnlyChanges [.port i, .link] s (recordDiscarded i g c t l s) := by
  unfold recordDiscarded
  split
  · exact .refl _ _
  · exact arrive_only i g c t l id (fun _ => .refl _ _) (by simp) (by simp) s

theorem takeAck_only (i : Side) (r : Nat) (s : State) : OnlyChanges (bringUpBlocks i) s (takeAck i r s) := by
  unfold takeAck
  split
  · exact (admitPort_only i _ s).ite ((failAttempt_only i _ s).mono (by simp))
  · exact (failAttempt_only i _ s).mono (by simp)

theorem committedRefill_only (i : Side) (s : State) : OnlyChanges [.port i] s (committedRefill i s) := by
  dsimp only [committedRefill]
  exact (setPort_only s i _).ite (.refl _ _)

theorem excessRefill_only (i : Side) (s : State) : OnlyChanges [.port i] s (excessRefill i s) := by
  dsimp only [excessRefill]
  exact (setPort_only s i _).ite (.refl _ _)

theorem setAging_only (s : State) (c : List Conversation) (x : Timer) :
    OnlyChanges [.conversations, .agingTimer] s { s with conversations := c, agingTimer := x } := by
  intro b hb
  cases b <;> first | rfl | simp at hb

/-- What an aging scan writes. -/
abbrev agingBlocks : List Block := .agingTimer :: (portBlocks .a ++ portBlocks .b)

theorem agingScan_only (s : State) : OnlyChanges agingBlocks s (agingScan s) := by
  unfold agingScan
  extract_lets t s1
  have h1 : OnlyChanges agingBlocks s s1 := ((setPort_only s .a _).mono (by simp)).step (setPort_only _ .b _) (by simp)
  exact ((h1.step (setAging_only _ _ _) (by simp)).step (redRunTest_only .a _) (by simp)).step (redRunTest_only .b _) (by simp)

theorem takeEnableReader_only (i : Side) (s : State) : OnlyChanges [.port i, .link] s (takeEnableReader i s) :=
  ((refuse_only _ s).mono (by simp)).ite ((startRequest_only i s).step (answer_only _ _ _) (by simp))

theorem takeDisableReader_only (i : Side) (s : State) : OnlyChanges (portBlocks i) s (takeDisableReader i s) :=
  ((refuse_only _ s).mono (by simp)).ite ((disablePort_only i _ s).step (answer_only _ _ _) (by simp))

theorem takeClearTamper_only (b : Bool) (i : Side) (s : State) : OnlyChanges [.port i, .link] s (takeClearTamper b i s) := by
  have h1 (p : Port) : OnlyChanges [.port i, .link] s (s.setPort i p) := (setPort_only s i p).mono (by simp)
  dsimp only [takeClearTamper]
  exact ((h1 _).step (refuse_only _ _) (by simp)).ite (((h1 _).step (changePort_only i _ _ _) (by simp)).step (answer_only _ _ _) (by simp))

theorem takeReadReader_only (b : Bool) (x : ReadReaderFields) (s : State) :
    OnlyChanges [.port .a, .port .b, .link] s (takeReadReader b x s) := by
  have hr (st : Status) : OnlyChanges [.port .a, .port .b, .link] s (refuse st s) := (refuse_only st s).mono (by simp)
  have ha (f : List Field) : OnlyChanges [.port .a, .port .b, .link] s (answer .ok f s) := (answer_only .ok f s).mono (by simp)
  dsimp only [takeReadReader]
  split
  · rename_i i _ _ _
    split
    · exact ((ha _).step (setPort_only _ i _) (by cases i <;> simp)).ite (ha _)
    · exact ha _
    · exact ha _
    · exact hr _
  · exact hr _

theorem setClasses_only (s : State) (c : List ClassEntry) (v : List Conversation) :
    OnlyChanges [.classes, .conversations] s { s with classes := c, conversations := v } := by
  intro b hb
  cases b <;> first | rfl | simp at hb

/-- What SET_CLASS and DELETE_CLASS write. -/
abbrev classBlocks : List Block := [.classes, .conversations, .store, .link]

theorem takeSetClass_only (x : ClassFields) (s : State) : OnlyChanges classBlocks s (takeSetClass x s) := by
  have hr (st : Status) : OnlyChanges classBlocks s (refuse st s) := (refuse_only st s).mono (by simp)
  unfold takeSetClass
  refine (hr _).ite ((hr _).ite ?_)
  split
  · exact hr _
  · exact (hr _).ite (((setClasses_only s _ _).mono (by simp)).step (serveByJob_only _ _ _) (by simp))

theorem takeDeleteClass_only (c : Nat) (s : State) : OnlyChanges classBlocks s (takeDeleteClass c s) := by
  have hr (st : Status) : OnlyChanges classBlocks s (refuse st s) := (refuse_only st s).mono (by simp)
  unfold takeDeleteClass
  exact (hr _).ite ((hr _).ite ((hr _).ite ((hr _).ite (((setClasses_only s _ _).mono (by simp)).step (serveByJob_only _ _ _) (by simp)))))

theorem queueRecord_only (i : Side) (e : ClassEntry) (x : SendFields) (s : State) :
    OnlyChanges [.port i, .conversations, .link] s (queueRecord i e x s) := by
  unfold queueRecord
  extract_lets p s1 s2
  have h1 : OnlyChanges [.port i, .conversations, .link] s s1 := (setPort_only s i _).mono (by simp)
  have h2 : OnlyChanges [.port i, .conversations, .link] s s2 := by
    change OnlyChanges _ s (match e.asks with
      | some a => { s1 with conversations := askConversation i x.tag a s1.conversations }
      | none => s1)
    cases e.asks with
    | none => exact h1
    | some a => exact h1.step (setConversations_only _ _) (by simp)
  exact h2.step (answer_only _ _ _) (by simp)

/-- What SEND_TO_READER writes. -/
abbrev sendBlocks : List Block := [.port .a, .port .b, .conversations, .link]

theorem takeSend_only (x : SendFields) (s : State) : OnlyChanges sendBlocks s (takeSend x s) := by
  have hr (st : Status) : OnlyChanges sendBlocks s (refuse st s) := (refuse_only st s).mono (by simp)
  dsimp only [takeSend]
  split
  · rename_i i e _ _
    refine (hr _).ite ((hr _).ite ((hr _).ite ((hr _).ite ((hr _).ite ?_))))
    exact (queueRecord_only i e x s).mono (by cases i <;> simp)
  · exact hr _

theorem takeGrant_only (i : Side) (r : Nat) (g : BitVec 8) (k v : Nat) (s : State) :
    OnlyChanges (startBlocks i) s (takeGrant i r g k v s) := by
  unfold takeGrant
  split
  · exact (pendAuthState_only i _ _ s).mono (by simp)
  · exact acceptAuth_only i _ s

theorem takeCancel_only (i : Side) (r : Nat) (s : State) : OnlyChanges (closureBlocks i) s (takeCancel i r s) := by
  have hp (k : AuthStateKind) : OnlyChanges (closureBlocks i) s (pendAuthState i k r s) := (pendAuthState_only i k r s).mono (by simp)
  unfold takeCancel
  split
  · exact hp _
  · refine OnlyChanges.ite ?_ (hp _)
    split
    · exact (withdrawWaiting_only i _ _ s).step (pendAuthState_only i _ _ _) (by simp)
    · exact ((finalStop_only i _ s).mono (by simp)).step (pendAuthState_only i _ _ _) (by simp)

theorem takeCapture_only (i : Side) (n r a : Nat) (s : State) :
    OnlyChanges [.register, .link, .port i] s (takeCapture i n r a s) := by
  have hp (k : AuthStateKind) : OnlyChanges [.register, .link, .port i] s (pendAuthState i k r s) :=
    (pendAuthState_only i k r s).mono (by simp)
  unfold takeCapture
  split
  · exact hp _
  · refine (hp _).ite ((hp _).ite ?_)
    exact ((removeSale_only i n _ s).mono (by simp)).step (pendAuthState_only i _ _ _) (by simp)

/-! ### Power -/

theorem editSide_power (i : Side) (f : SidePower → SidePower) (s : State) : OnlyChanges powerBlocks s (editSide i f s) :=
  ((editSide_only i f s).mono (by simp) : OnlyChanges (bringUpBlocks i) s _).mono (bringUp_sub i)

theorem supplyGood_only (i : Side) (s : State) : OnlyChanges (bringUpBlocks i) s (supplyGood i s) := by
  have h (f : SidePower → SidePower) : OnlyChanges (bringUpBlocks i) s (editSide i f s) := (editSide_only i f s).mono (by simp)
  dsimp only [supplyGood]
  exact ((h _).trans (takeSupplyGood_only i _)).ite (h _)

theorem supplyGoodLoss_only (i : Side) (s : State) : OnlyChanges (lossBlocks i) s (supplyGoodLoss i s) := by
  have h (f : SidePower → SidePower) : OnlyChanges (lossBlocks i) s (editSide i f s) :=
    (editSide_power i f s).mono (List.subset_append_right _ _)
  dsimp only [supplyGoodLoss]
  split
  · exact (h _).step (darkReport_only i _) (List.subset_append_right _ _)
  · exact h _
  · exact h _
  all_goals exact (h _).trans (supplyLost_only i _)

theorem supplyTimeout_only (i : Side) (s : State) : OnlyChanges powerBlocks s (supplyTimeout i s) :=
  ((downFault_only i _ s).step (notifyFault_only _ _ _ _ _ _ _) (by simp)).ite (.refl _ _)

theorem permitHoldExpiry_only (s : State) : OnlyChanges powerBlocks s (permitHoldExpiry s) := by
  unfold permitHoldExpiry
  exact (((setPower_only s _).mono (by simp)).trans (grantPermit_only _)).ite (.refl _ _)

theorem checkQuietExpiry_only (i : Side) (s : State) : OnlyChanges (bringUpBlocks i) s (checkQuietExpiry i s) := by
  unfold checkQuietExpiry
  exact (((editSide_only i _ s).mono (by simp)).trans (tryEndCheck_only i _)).ite (.refl _ _)

theorem setClock_only (s : State) (c : Clock) : OnlyChanges [.clock] s { s with clock := c } := by
  intro b hb
  cases b <;> first | rfl | exact absurd (List.mem_singleton.mpr rfl) hb

theorem scheduleActs_only (t : Nat) (s : State) : OnlyChanges powerBlocks s (scheduleActs t s) := by
  dsimp only [scheduleActs]
  exact (wakingEntry_only _ s).ite ((goNight_only _ s).ite (.refl _ _))

theorem timedCommit_only (t : Nat) (s : State) : OnlyChanges [.prices, .link, .store] s (timedCommit t s) :=
  (((commitBanks_only s).mono (by simp)).step (queueJob_only _ _) (by simp)).ite (.refl _ _)

theorem clockAdvance_only (s : State) : OnlyChanges (.clock :: .prices :: powerBlocks) s (clockAdvance s) := by
  dsimp only [clockAdvance]
  refine OnlyChanges.ite ?_ (.refl _ _)
  exact (((setClock_only s _).mono (by simp)).step (scheduleActs_only _ _)
    (List.subset_cons_of_subset _ (List.subset_cons_self _ _))).step (timedCommit_only _ _) (by simp)

theorem answerMode_only (s : State) : OnlyChanges [.link] s (answerMode s) := answer_only _ _ _

theorem takeGoNight_only (s : State) : OnlyChanges powerBlocks s (takeGoNight s) := by
  unfold takeGoNight
  split
  · exact (refuse_only _ s).mono (by simp)
  · exact (goNight_only _ s).step (answerMode_only _) (by simp)
  · exact (goNight_only _ s).step (answerMode_only _) (by simp)
  · exact (answerMode_only s).mono (by simp)
  · exact (answerMode_only s).mono (by simp)

theorem takeWake_only (s : State) : OnlyChanges powerBlocks s (takeWake s) := by
  unfold takeWake
  split
  · exact (refuse_only _ s).mono (by simp)
  · exact (wakingEntry_only _ s).step (answerMode_only _) (by simp)
  · exact (cancelNight_only s).step (answerMode_only _) (by simp)
  · exact (answerMode_only s).mono (by simp)
  · exact (answerMode_only s).mono (by simp)

theorem takeSetClock_only (v : Nat) (s : State) : OnlyChanges [.clock, .link] s (takeSetClock v s) :=
  ((setClock_only s _).mono (by simp)).step (answer_only _ _ _) (by simp)

theorem takeSetSchedule_only (x : ScheduleFields) (s : State) : OnlyChanges [.power, .store, .link] s (takeSetSchedule x s) := by
  have hr (st : Status) : OnlyChanges [.power, .store, .link] s (refuse st s) := (refuse_only st s).mono (by simp)
  unfold takeSetSchedule
  exact (hr _).ite ((((setPower_only s _).mono (by simp)).step (serveByJob_only _ _ _) (by simp)).ite (hr _))

theorem takeRestart_only (s : State) : OnlyChanges powerBlocks s (takeRestart s) := by
  dsimp only [takeRestart]
  refine ((refuse_only _ s).mono (by simp)).ite ?_
  exact ((addClosureBoth_power _ s).step (answer_only _ _ _) (by simp)).step (setLink_only _ _) (by simp)

theorem takePowerSide_only (i : Side) (s : State) : OnlyChanges powerBlocks s (takePowerSide i s) := by
  have hr (st : Status) : OnlyChanges powerBlocks s (refuse st s) := (refuse_only st s).mono (by simp)
  unfold takePowerSide
  refine (hr _).ite ((hr _).ite ?_)
  refine OnlyChanges.step ?_ (answer_only _ _ _) (by simp)
  unfold rerun
  extract_lets w s1
  have h1 : OnlyChanges powerBlocks s s1 :=
    ((OnlyChanges.refl _ _).ite ((setPower_only s _).mono (by simp))).step (beginBringUp_only i _) (bringUp_sub i)
  exact (h1.step (addChange_only _ _) (by simp)).trans (grantPermit_only _)

/-! ### The store and the parameters -/

/-- What a job's end hands on. -/
abbrev jobBlocks : List Block := .store :: .register :: .link :: (stateBlocks .a ++ stateBlocks .b)

theorem ownerVerified_only (x : Image) (s : State) : OnlyChanges jobBlocks s (ownerVerified x s) := by
  unfold ownerVerified
  split
  · exact ((setClosures_only .a _ s).mono (by simp)).step (setClosures_only .b _ _) (by simp)
  · exact ((setClosures_only .a _ s).mono (by simp)).step (setClosures_only .b _ _) (by simp)
  · exact (setRegister_only s _).mono (by simp)
  · exact .refl _ _

theorem answerJob_only (j : RunningJob) (st : Status) (s : State) : OnlyChanges [.link] s (answerJob j st s) :=
  (answer_only _ _ s).ite (.refl _ _)

theorem writeAttemptEnd_only (r : ReadBack) (s : State) : OnlyChanges jobBlocks s (writeAttemptEnd r s) := by
  have hs (t : Store) : OnlyChanges jobBlocks s (s.setStore t) := (setStore_only s t).mono (by simp)
  have hf (j : RunningJob) (x : Image) : OnlyChanges jobBlocks s (jobFailed j x r s) := by
    dsimp only [jobFailed]
    exact (((hs _).step (setLink_only _ _) (by simp)).step (answerJob_only _ _ _) (by simp)).ite
      (((hs _).step (setLink_only _ _) (by simp)).step (notifyFault_only _ _ _ _ _ _ _) (by simp))
  dsimp only [writeAttemptEnd]
  split
  · exact .refl _ _
  · split
    · exact .refl _ _
    · exact (((hs _).step (answerJob_only _ _ _) (by simp)).trans (ownerVerified_only _ _)).ite ((hf _ _).ite (hs _))

theorem verifyJobEnd_only (s : State) : OnlyChanges powerBlocks s (verifyJobEnd s) := by
  unfold verifyJobEnd
  exact (((setStore_only s _).mono (by simp)).trans (makeResult_only _ _ _)).ite (.refl _ _)

theorem slotWriteEnd_only (s : State) : OnlyChanges [.store] s (slotWriteEnd s) := by
  unfold slotWriteEnd
  split
  · split
    · exact setStore_only _ _
    · exact .refl _ _
  · exact .refl _ _

theorem slotEraseEnd_only (s : State) : OnlyChanges [.store] s (slotEraseEnd s) := by
  unfold slotEraseEnd
  split
  · split
    · exact setStore_only _ _
    · exact .refl _ _
  · exact .refl _ _

theorem setBothPorts_only (s : State) (x : PerSide Port) : OnlyChanges [.port .a, .port .b] s { s with ports := x } := by
  intro b hb
  cases b with
  | port i => cases i <;> simp at hb
  | _ => rfl

/-- What SET_CONFIG writes. -/
abbrev paramBlocks : List Block := [.params, .arbiter, .port .a, .port .b, .store, .link]

theorem applyParam_only (p : Param) (v : Int) (s : State) : OnlyChanges paramBlocks s (applyParam p v s) := by
  have h : OnlyChanges paramBlocks s { s with params := s.params.set p v } := (setParams_only s _).mono (by simp)
  dsimp only [applyParam]
  split
  · exact h.step (setBothPorts_only _ _) (by simp)
  · exact h.step (setBothPorts_only _ _) (by simp)
  · exact h.step (setArbiter_only _ _) (by simp)
  · exact h

theorem takeSetConfig_only (x : ConfigFields) (s : State) : OnlyChanges paramBlocks s (takeSetConfig x s) := by
  have hr (st : Status) : OnlyChanges paramBlocks s (refuse st s) := (refuse_only st s).mono (by simp)
  dsimp only [takeSetConfig]
  refine (hr _).ite ?_
  split
  · exact hr _
  · exact (hr _).ite ((applyParam_only _ _ s).step (serveByJob_only _ _ _) (by simp))

theorem takeReadConfig_only (n : Nat) (s : State) : OnlyChanges [.link] s (takeReadConfig n s) := by
  unfold takeReadConfig
  refine (answer_only _ _ s).ite ?_
  split
  · exact answer_only _ _ s
  · exact refuse_only _ s

theorem takeReadCounters_only (n : Nat) (s : State) : OnlyChanges [.link] s (takeReadCounters n s) := by
  dsimp only [takeReadCounters]
  split
  · exact ((answer_only _ _ s).trans (setLink_only _ _)).ite (answer_only _ _ s)
  · exact refuse_only _ s

theorem takeReadStatus_only (s : State) : OnlyChanges [.link] s (takeReadStatus s) :=
  (answer_only _ _ s).trans (setLink_only _ _)

theorem nonRequestFrame_only (k : Nat) (s : State) : OnlyChanges [.link] s (nonRequestFrame k s) := by
  dsimp only [nonRequestFrame]
  exact (setLink_only _ _).ite (.refl _ _)

theorem frameSent_only (s : State) : OnlyChanges [.link] s (frameSent s) := by
  dsimp only [frameSent]
  split
  · exact .refl _ _
  all_goals exact setLink_only _ _

/-! ### Loading -/

theorem setBothMeters_only (s : State) (x : PerSide (PerProduct MeterChannel)) : OnlyChanges anyBlocks s { s with meters := x } := by
  intro b hb
  cases b with
  | meter m => rcases m with ⟨i, p⟩; cases i <;> cases p <;> simp at hb
  | _ => rfl

theorem setLoaded_only (s : State) (c : Params) (g : PerGrade GradeEntry) (l : List ClassEntry) (f : PerSide Fill) :
    OnlyChanges anyBlocks s { s with params := c, grades := g, classes := l, fill := f } := by
  intro b hb
  cases b with
  | fill i => cases i <;> simp at hb
  | params => simp at hb
  | grades => simp at hb
  | classes => simp at hb
  | _ => rfl

theorem readRegion_only (r : Region) (s : State) : OnlyChanges anyBlocks s (readRegion r s) := by
  have hs (t : Store) : OnlyChanges anyBlocks s (s.setStore t) := (setStore_only s t).mono (by simp)
  unfold readRegion
  split
  · dsimp only [readCal]
    exact (hs _).trans (setBothMeters_only _ _)
  · dsimp only [readCfg]
    exact ((hs _).step (setPower_only _ _) (by simp)).trans (setLoaded_only _ _ _ _ _)
  · dsimp only [readPrice]
    exact (hs _).step (setPrices_only _ _) (by simp)
  · dsimp only [readTotalsRegion]
    exact (hs _).step (setRegister_only _ _) (by simp)

theorem loadingEnd_only (s : State) : OnlyChanges anyBlocks s (loadingEnd s) := by
  unfold loadingEnd
  extract_lets s1 s2
  have h1 : OnlyChanges anyBlocks s s1 :=
    (((examineSlot_only .a s).mono (by simp)).step (examineSlot_only .b _) (by simp)).step (raiseDepth_only _) (by simp)
  have h2 : OnlyChanges anyBlocks s s2 := by
    have h0 := (h1.step (setFill_only _ .a _) (by simp)).step (setFill_only _ .b _) (by simp) (u := spendNozzles .b (spendNozzles .a s1))
    dsimp only [s2, loadedClosures]
    have hc := (h0.step (addClosureBoth_power .calibration _) power_any).ite (p := (spendNozzles .b (spendNozzles .a s1)).store.cal.state = .invalid) h0
    exact (hc.step (addClosureBoth_power _ _) power_any).ite hc
  have h3 : OnlyChanges anyBlocks s (loadedWarning s2) :=
    ((h2.step (addClosureBoth_power _ _) power_any).step (takeWarning_only _) (by simp)).ite h2
  have h4 : OnlyChanges anyBlocks s (notifyPowerOn (loadedWarning s2)) := h3.step (notify_only _ _) (by simp)
  unfold leaveLoading
  exact (h4.step (wakingEntry_only _ _) power_any).ite (h4.step (nightEntry_only _ _) power_any)

theorem tamperAtReset_only (i : Side) (s : State) : OnlyChanges (.register :: portBlocks i) s (tamperAtReset i s) :=
  (tamperPort_only i s).ite (.refl _ _)

end Sys2Proof.Machine
end

