-- ==== Sys2Proof/Laws/Effects.lean ====
section
/-! SUPPORT. The effect of every command but the resets as a function of the state, and what each effect can change. -/

namespace Sys2Proof.Machine

open Sys2Proof

/-- The effect of a command before the end of its event; the resets have none here. -/
def effect (c : Instr) (s : State) : State :=
  match c with
  | .powerOnReset _ _ _ | .restartReset _ _ => s
  | .loadingEnd => if s.power.mode = .loading ∧ s.store.nextRead = none then loadingEnd s else s
  | .phaseLevelTaken m p q => takeLevels m p q s
  | .rateWindowExpiry m => rateExpiry m s
  | .nozzleLift i n => nozzleLift i n s
  | .nozzleHangUp i n => nozzleHangUp i n s
  | .primeExpiry p => primeExpiry p s
  | .authorizationTimerExpiry i => if (s.fill.get i).authTimer.isSome then withdrawWaiting i .expired true s else s
  | .noFlowExpiry i => if (s.sideState i).isOpen ∧ (s.fill.get i).noFlowTimer.isSome then hold i .noFlow s else s
  | .endingQuietExpiry i =>
    if s.sideState i = .ending ∧ (s.fill.get i).quietTimer.isSome then nightIfLast (closeSale i none s) else s
  | .afterFlowExpiry i =>
    if s.sideState i = .ending ∧ (s.fill.get i).afterFlowTimer.isSome then nightIfLast (closeSale i none s) else s
  | .estopAssert => estopAssert s
  | .estopRelease => { s with estopInput := false }
  | .supplyFailWarning => supplyFailWarning s
  | .supplyFailRelease => supplyFailRelease s
  | .tamperAssert i => tamperPort i (s.setPort i { s.ports.get i with tamperInput := true })
  | .readerReady i => readerReady i s
  | .readerReadyLoss i => lineLoss i (s.setPort i { s.ports.get i with readyInput := false })
  | .lineLowTimeout i b => lineLoss i (if b then abandonFrame i s else s)
  | .readerStepTimeout i => stepTimeout i s
  | .backoffExpiry i =>
    if (s.ports.get i).state = .backoff ∧ (s.ports.get i).backoffTimer.isSome then changePort i .enabled (s.ports.get i).negotiate s else s
  | .readerGapTimeout i => abandonFrame i s
  | .readerFrameOverlength i => abandonFrame i s
  | .readerRecordDiscarded i g c t b => recordDiscarded i g c t b.length s
  | .ability i t r m f =>
    arrive i true Cls.ability t (Cls.length Cls.ability) (fun s => takeAbility i r m f (countConsumed i s)) s
  | .admitAck i t r => arrive i true Cls.ack t (Cls.length Cls.ack) (fun s => takeAck i r (countConsumed i s)) s
  | .authGrant i t r g k v =>
    arrive i true Cls.grant t (Cls.length Cls.grant) (fun s => takeGrant i r g k v (countConsumed i s)) s
  | .authCancel i t r => arrive i true Cls.cancel t (Cls.length Cls.cancel) (fun s => takeCancel i r (countConsumed i s)) s
  | .saleCapture i t n r a =>
    arrive i true Cls.capture t (Cls.length Cls.capture) (fun s => takeCapture i n r a (countConsumed i s)) s
  | .readerRecord i c t b => if c ∈ Cls.builtIn then s else arrive i true c t b.length (forwardRecord i c t b) s
  | .readerTransmissionEnd i => readerSent i s
  | .committedRefill i => committedRefill i s
  | .excessRefill i => excessRefill i s
  | .agingScan => agingScan s
  | .refreshExpiry i => refreshExpiry i s
  | .displayEcho i c => displayEcho i c s
  | .echoTimeout i => echoTimeout i s
  | .testPhaseExpiry i => phaseExpiry i s
  | .temperatureSample i r => takeSample i r s
  | .supplyGood i => supplyGood i s
  | .supplyGoodLoss i => supplyGoodLoss i s
  | .supplyStageTimeout i => supplyTimeout i s
  | .permitHoldExpiry => permitHoldExpiry s
  | .heatMaximumExpiry i => if stageRuns s i .heat then heatExpired i s else s
  | .checkQuietExpiry i => checkQuietExpiry i s
  | .admitStageExpiry i =>
    if stageRuns s i .admitStage then enterVerify i .admitExpired (editSide i (fun p => { p with attended := true }) s) else s
  | .verifyWaitExpiry i => if stageRuns s i .verify ∧ s.power.verification = .running then verifyExpired s else s
  | .clockAdvance => clockAdvance s
  | .writeAttemptEnd r => writeAttemptEnd r s
  | .verifyJobEnd => verifyJobEnd s
  | .slotWriteEnd => slotWriteEnd s
  | .slotEraseEnd => slotEraseEnd s
  | .linkGapTimeout => s.setLink (s.link.dropFrame { s.link.counters with gap := s.link.counters.gap + 1 })
  | .linkBadLength => s.setLink (s.link.dropFrame { s.link.counters with badLength := s.link.counters.badLength + 1 })
  | .linkBadCheck => s.setLink (s.link.dropFrame { s.link.counters with badCheck := s.link.counters.badCheck + 1 })
  | .nonRequestFrame k => nonRequestFrame k s
  | .unknownKindRequest k t =>
    if nonRequestKind k ∨ k ∈ Kind.catalogue then s else request k t (.fields ()) (fun _ s => refuse .unknownKind s) s
  | .linkFrameSent => frameSent s
  | .identify t b => request Kind.identify t b (fun _ s => answer .ok (identityReport s) s) s
  | .readStatus t b => request Kind.readStatus t b (fun _ s => takeReadStatus s) s
  | .readCounters t b => request Kind.readCounters t b (takeReadCounters) s
  | .setConfig t b => request Kind.setConfig t b (takeSetConfig) s
  | .readConfig t b => request Kind.readConfig t b (takeReadConfig) s
  | .readMeter t b => request Kind.readMeter t b (takeReadMeter) s
  | .setCalibration t w b => request Kind.setCalibration t b (takeCalibration w) s
  | .quote t b => request Kind.quote t b (takeQuote) s
  | .stagePrice t b => request Kind.stagePrice t b (takeStagePrice) s
  | .commitPricesNow t b => request Kind.commitPrices t b (takeCommitNow) s
  | .commitPricesAt t b => request Kind.commitPrices t b (takeCommitAt) s
  | .readPrices t b => request Kind.readPrices t b (takeReadPrices) s
  | .authorize t b => request Kind.authorize t b (takeAuthorize) s
  | .cancelAuth t b => request Kind.cancelAuth t b (withSide takeCancelAuth) s
  | .suspend t b => request Kind.suspend t b (withSide takeSuspend) s
  | .resume t b => request Kind.resume t b (withSide takeResume) s
  | .stopFill t b => request Kind.stopFill t b (withSide takeStopFill) s
  | .endSale t b => request Kind.endSale t b (withSide takeEndSale) s
  | .openSide t b => request Kind.openSide t b (withSide takeOpenSide) s
  | .closeSide t b => request Kind.closeSide t b (withSide takeCloseSide) s
  | .readSide t b => request Kind.readSide t b (withSide (fun i s => answer .ok (sideReport s i) s)) s
  | .setNozzleMap t b => request Kind.setNozzleMap t b (takeNozzleMap) s
  | .setGrade t b => request Kind.setGrade t b (takeSetGrade) s
  | .readBlend t b => request Kind.readBlend t b (takeReadBlend) s
  | .listSales t b => request Kind.listSales t b (withSide (fun i s => answer .ok (salesReport s i) s)) s
  | .readSale t b => request Kind.readSale t b (takeReadSale) s
  | .settleSale t b => request Kind.settleSale t b (takeSettleSale) s
  | .readTotals t b => request Kind.readTotals t b (fun _ s => answer .ok (totalsReport s) s) s
  | .readDisplay t b => request Kind.readDisplay t b (withSide (fun i s => answer .ok (displayReport s i) s)) s
  | .enableReader t b => request Kind.enableReader t b (withSide takeEnableReader) s
  | .disableReader t b => request Kind.disableReader t b (withSide takeDisableReader) s
  | .clearTamper t w b => request Kind.clearTamper t b (withSide (takeClearTamper w)) s
  | .readReader t w b => request Kind.readReader t b (takeReadReader w) s
  | .setClass t b => request Kind.setClass t b (takeSetClass) s
  | .deleteClass t b => request Kind.deleteClass t b (takeDeleteClass) s
  | .sendToReader t b => request Kind.sendToReader t b (takeSend) s
  | .goNight t b => request Kind.goNight t b (fun _ s => takeGoNight s) s
  | .wake t b => request Kind.wake t b (fun _ s => takeWake s) s
  | .setClock t b => request Kind.setClock t b (takeSetClock) s
  | .setSchedule t b => request Kind.setSchedule t b (takeSetSchedule) s
  | .readPower t b => request Kind.readPower t b (fun _ s => answer .ok (powerReport s) s) s
  | .restart t b => request Kind.restart t b (fun _ s => takeRestart s) s
  | .powerSide t b => request Kind.powerSide t b (withSide takePowerSide) s
  | .regionRead r => if s.power.mode = .loading ∧ s.store.nextRead = some r then readRegion r s else s

/-- What a command other than a reset can change, before the end of its event. -/
def footprint : Instr → List Block
  | .powerOnReset _ _ _ | .restartReset _ _ => anyBlocks
  | .loadingEnd => anyBlocks
  | .phaseLevelTaken m _ _ => edgeBlocks m
  | .rateWindowExpiry m => edgeBlocks m
  | .nozzleLift _ _ => anyBlocks
  | .nozzleHangUp i _ => startBlocks i
  | .primeExpiry p => .motor p :: (stateBlocks .a ++ stateBlocks .b)
  | .authorizationTimerExpiry i => closureBlocks i
  | .noFlowExpiry i => stateBlocks i
  | .endingQuietExpiry i => lossBlocks i
  | .afterFlowExpiry i => lossBlocks i
  | .estopAssert => estopBlocks
  | .estopRelease => [.estopInput]
  | .supplyFailWarning => anyBlocks
  | .supplyFailRelease => releaseBlocks
  | .tamperAssert i => .register :: portBlocks i
  | .readerReady i => [.port i]
  | .readerReadyLoss i => portBlocks i
  | .lineLowTimeout i _ => portBlocks i
  | .readerStepTimeout i => [.port i, .link]
  | .backoffExpiry i => [.port i, .link]
  | .readerGapTimeout i => [.port i]
  | .readerFrameOverlength i => [.port i]
  | .readerRecordDiscarded i _ _ _ _ => [.port i, .link]
  | .ability i _ _ _ _ => [.port i, .link]
  | .admitAck i _ _ => bringUpBlocks i
  | .authGrant i _ _ _ _ _ => startBlocks i
  | .authCancel i _ _ => closureBlocks i
  | .saleCapture i _ _ _ _ => [.register, .link, .port i]
  | .readerRecord i _ _ _ => [.port i, .conversations, .link]
  | .readerTransmissionEnd i => [.register, .port i]
  | .committedRefill i => [.port i]
  | .excessRefill i => [.port i]
  | .agingScan => agingBlocks
  | .refreshExpiry i => [.display i]
  | .displayEcho _ _ => powerBlocks
  | .echoTimeout _ => powerBlocks
  | .testPhaseExpiry i => bringUpBlocks i
  | .temperatureSample i _ => bringUpBlocks i
  | .supplyGood i => bringUpBlocks i
  | .supplyGoodLoss i => lossBlocks i
  | .supplyStageTimeout _ => powerBlocks
  | .permitHoldExpiry => powerBlocks
  | .heatMaximumExpiry i => bringUpBlocks i
  | .checkQuietExpiry i => bringUpBlocks i
  | .admitStageExpiry i => bringUpBlocks i
  | .verifyWaitExpiry _ => powerBlocks
  | .clockAdvance => .clock :: .prices :: powerBlocks
  | .writeAttemptEnd _ => jobBlocks
  | .verifyJobEnd => powerBlocks
  | .slotWriteEnd => [.store]
  | .slotEraseEnd => [.store]
  | .linkGapTimeout => [.link]
  | .linkBadLength => [.link]
  | .linkBadCheck => [.link]
  | .nonRequestFrame _ => [.link]
  | .unknownKindRequest _ _ => [.link]
  | .linkFrameSent => [.link]
  | .identify _ _ => [.link]
  | .readStatus _ _ => [.link]
  | .readCounters _ _ => [.link]
  | .setConfig _ _ => paramBlocks
  | .readConfig _ _ => [.link]
  | .readMeter _ _ => anyBlocks
  | .setCalibration _ _ _ => anyBlocks
  | .quote _ _ => [.link]
  | .stagePrice _ _ => [.prices, .link]
  | .commitPricesNow _ _ => [.prices, .link, .store]
  | .commitPricesAt _ _ => [.prices, .link]
  | .readPrices _ _ => [.link]
  | .authorize _ _ => anyBlocks
  | .cancelAuth _ _ => anyBlocks
  | .suspend _ _ => anyBlocks
  | .resume _ _ => anyBlocks
  | .stopFill _ _ => anyBlocks
  | .endSale _ _ => anyBlocks
  | .openSide _ _ => anyBlocks
  | .closeSide _ _ => anyBlocks
  | .readSide _ _ => [.link]
  | .setNozzleMap _ _ => [.fill .a, .fill .b, .store, .link]
  | .setGrade _ _ => [.grades, .store, .link]
  | .readBlend _ _ => [.blend .a, .blend .b, .link]
  | .listSales _ _ => [.link]
  | .readSale _ _ => [.link]
  | .settleSale _ _ => [.register, .link]
  | .readTotals _ _ => [.link]
  | .readDisplay _ _ => [.link]
  | .enableReader _ _ => anyBlocks
  | .disableReader _ _ => anyBlocks
  | .clearTamper _ _ _ => anyBlocks
  | .readReader _ _ _ => [.port .a, .port .b, .link]
  | .setClass _ _ => classBlocks
  | .deleteClass _ _ => classBlocks
  | .sendToReader _ _ => sendBlocks
  | .goNight _ _ => powerBlocks
  | .wake _ _ => powerBlocks
  | .setClock _ _ => [.clock, .link]
  | .setSchedule _ _ => [.power, .store, .link]
  | .readPower _ _ => [.link]
  | .restart _ _ => powerBlocks
  | .powerSide _ _ => powerBlocks
  | .regionRead _ => anyBlocks

/-- A command that puts every block at its reset values. -/
def Instr.isReset : Instr → Bool
  | .powerOnReset _ _ _ | .restartReset _ _ => true
  | _ => false

theorem exec_loadingEnd : ∀ s, exec (.loadingEnd) s = event (effect (.loadingEnd)) s := fun _ => rfl

theorem effect_loadingEnd : ∀ s, OnlyChanges (footprint (.loadingEnd)) s (effect (.loadingEnd) s) := fun s =>
  show OnlyChanges (anyBlocks) s _ from (loadingEnd_only s).ite (.refl _ _)

theorem exec_phaseLevelTaken : ∀ m p q s, exec (.phaseLevelTaken m p q) s = event (effect (.phaseLevelTaken m p q)) s := fun _ _ _ _ => rfl

theorem effect_phaseLevelTaken : ∀ m p q s, OnlyChanges (footprint (.phaseLevelTaken m p q)) s (effect (.phaseLevelTaken m p q) s) := fun m p q s =>
  show OnlyChanges (edgeBlocks m) s _ from takeLevels_only m p q s

theorem exec_rateWindowExpiry : ∀ m s, exec (.rateWindowExpiry m) s = event (effect (.rateWindowExpiry m)) s := fun _ _ => rfl

theorem effect_rateWindowExpiry : ∀ m s, OnlyChanges (footprint (.rateWindowExpiry m)) s (effect (.rateWindowExpiry m) s) := fun m s =>
  show OnlyChanges (edgeBlocks m) s _ from rateExpiry_only m s

theorem exec_nozzleLift : ∀ i n s, exec (.nozzleLift i n) s = event (effect (.nozzleLift i n)) s := fun _ _ _ => rfl

theorem effect_nozzleLift : ∀ i n s, OnlyChanges (footprint (.nozzleLift i n)) s (effect (.nozzleLift i n) s) := fun i n s =>
  show OnlyChanges (anyBlocks) s _ from nozzleLift_only i n s

theorem exec_nozzleHangUp : ∀ i n s, exec (.nozzleHangUp i n) s = event (effect (.nozzleHangUp i n)) s := fun _ _ _ => rfl

theorem effect_nozzleHangUp : ∀ i n s, OnlyChanges (footprint (.nozzleHangUp i n)) s (effect (.nozzleHangUp i n) s) := fun i n s =>
  show OnlyChanges (startBlocks i) s _ from nozzleHangUp_only i n s

theorem exec_primeExpiry : ∀ p s, exec (.primeExpiry p) s = event (effect (.primeExpiry p)) s := fun _ _ => rfl

theorem effect_primeExpiry : ∀ p s, OnlyChanges (footprint (.primeExpiry p)) s (effect (.primeExpiry p) s) := fun p s =>
  show OnlyChanges (.motor p :: (stateBlocks .a ++ stateBlocks .b)) s _ from primeExpiry_only p s

theorem exec_authorizationTimerExpiry : ∀ i s, exec (.authorizationTimerExpiry i) s = event (effect (.authorizationTimerExpiry i)) s := fun _ _ => rfl

theorem effect_authorizationTimerExpiry : ∀ i s, OnlyChanges (footprint (.authorizationTimerExpiry i)) s (effect (.authorizationTimerExpiry i) s) := fun i s =>
  show OnlyChanges (closureBlocks i) s _ from (withdrawWaiting_only i _ _ s).ite (.refl _ _)

theorem exec_noFlowExpiry : ∀ i s, exec (.noFlowExpiry i) s = event (effect (.noFlowExpiry i)) s := fun _ _ => rfl

theorem effect_noFlowExpiry : ∀ i s, OnlyChanges (footprint (.noFlowExpiry i)) s (effect (.noFlowExpiry i) s) := fun i s =>
  show OnlyChanges (stateBlocks i) s _ from (hold_only i _ s).ite (.refl _ _)

theorem exec_endingQuietExpiry : ∀ i s, exec (.endingQuietExpiry i) s = event (effect (.endingQuietExpiry i)) s := fun _ _ => rfl

theorem effect_endingQuietExpiry : ∀ i s, OnlyChanges (footprint (.endingQuietExpiry i)) s (effect (.endingQuietExpiry i) s) := fun i s =>
  show OnlyChanges (lossBlocks i) s _ from (closeThenNight_only i _ s).ite (.refl _ _)

theorem exec_afterFlowExpiry : ∀ i s, exec (.afterFlowExpiry i) s = event (effect (.afterFlowExpiry i)) s := fun _ _ => rfl

theorem effect_afterFlowExpiry : ∀ i s, OnlyChanges (footprint (.afterFlowExpiry i)) s (effect (.afterFlowExpiry i) s) := fun i s =>
  show OnlyChanges (lossBlocks i) s _ from (closeThenNight_only i _ s).ite (.refl _ _)

theorem exec_estopAssert : ∀ s, exec (.estopAssert) s = event (effect (.estopAssert)) s := fun _ => rfl

theorem effect_estopAssert : ∀ s, OnlyChanges (footprint (.estopAssert)) s (effect (.estopAssert) s) := fun s =>
  show OnlyChanges (estopBlocks) s _ from estopAssert_only s

theorem exec_estopRelease : ∀ s, exec (.estopRelease) s = event (effect (.estopRelease)) s := fun _ => rfl

theorem effect_estopRelease : ∀ s, OnlyChanges (footprint (.estopRelease)) s (effect (.estopRelease) s) := fun s =>
  show OnlyChanges ([.estopInput]) s _ from setEstop_only s _

theorem exec_supplyFailWarning : ∀ s, exec (.supplyFailWarning) s = event (effect (.supplyFailWarning)) s := fun _ => rfl

theorem effect_supplyFailWarning : ∀ s, OnlyChanges (footprint (.supplyFailWarning)) s (effect (.supplyFailWarning) s) := fun s =>
  show OnlyChanges (anyBlocks) s _ from supplyFailWarning_only s

theorem exec_supplyFailRelease : ∀ s, exec (.supplyFailRelease) s = event (effect (.supplyFailRelease)) s := fun _ => rfl

theorem effect_supplyFailRelease : ∀ s, OnlyChanges (footprint (.supplyFailRelease)) s (effect (.supplyFailRelease) s) := fun s =>
  show OnlyChanges (releaseBlocks) s _ from supplyFailRelease_only s

theorem exec_tamperAssert : ∀ i s, exec (.tamperAssert i) s = event (effect (.tamperAssert i)) s := fun _ _ => rfl

theorem effect_tamperAssert : ∀ i s, OnlyChanges (footprint (.tamperAssert i)) s (effect (.tamperAssert i) s) := fun i s =>
  show OnlyChanges (.register :: portBlocks i) s _ from ((setPort_only s i _).mono (by simp)).trans (tamperPort_only i _)

theorem exec_readerReady : ∀ i s, exec (.readerReady i) s = event (effect (.readerReady i)) s := fun _ _ => rfl

theorem effect_readerReady : ∀ i s, OnlyChanges (footprint (.readerReady i)) s (effect (.readerReady i) s) := fun i s =>
  show OnlyChanges ([.port i]) s _ from readerReady_only i s

theorem exec_readerReadyLoss : ∀ i s, exec (.readerReadyLoss i) s = event (effect (.readerReadyLoss i)) s := fun _ _ => rfl

theorem effect_readerReadyLoss : ∀ i s, OnlyChanges (footprint (.readerReadyLoss i)) s (effect (.readerReadyLoss i) s) := fun i s =>
  show OnlyChanges (portBlocks i) s _ from ((setPort_only s i _).mono (by simp)).trans (lineLoss_only i _)

theorem exec_lineLowTimeout : ∀ i b s, exec (.lineLowTimeout i b) s = event (effect (.lineLowTimeout i b)) s := fun _ _ _ => rfl

theorem effect_lineLowTimeout : ∀ i b s, OnlyChanges (footprint (.lineLowTimeout i b)) s (effect (.lineLowTimeout i b) s) := fun i _ s =>
  show OnlyChanges (portBlocks i) s _ from OnlyChanges.trans (((abandonFrame_only i s).mono (by simp)).ite (.refl _ _)) (lineLoss_only i _)

theorem exec_readerStepTimeout : ∀ i s, exec (.readerStepTimeout i) s = event (effect (.readerStepTimeout i)) s := fun _ _ => rfl

theorem effect_readerStepTimeout : ∀ i s, OnlyChanges (footprint (.readerStepTimeout i)) s (effect (.readerStepTimeout i) s) := fun i s =>
  show OnlyChanges ([.port i, .link]) s _ from stepTimeout_only i s

theorem exec_backoffExpiry : ∀ i s, exec (.backoffExpiry i) s = event (effect (.backoffExpiry i)) s := fun _ _ => rfl

theorem effect_backoffExpiry : ∀ i s, OnlyChanges (footprint (.backoffExpiry i)) s (effect (.backoffExpiry i) s) := fun i s =>
  show OnlyChanges ([.port i, .link]) s _ from (changePort_only i _ _ s).ite (.refl _ _)

theorem exec_readerGapTimeout : ∀ i s, exec (.readerGapTimeout i) s = event (effect (.readerGapTimeout i)) s := fun _ _ => rfl

theorem effect_readerGapTimeout : ∀ i s, OnlyChanges (footprint (.readerGapTimeout i)) s (effect (.readerGapTimeout i) s) := fun i s =>
  show OnlyChanges ([.port i]) s _ from abandonFrame_only i s

theorem exec_readerFrameOverlength : ∀ i s, exec (.readerFrameOverlength i) s = event (effect (.readerFrameOverlength i)) s := fun _ _ => rfl

theorem effect_readerFrameOverlength : ∀ i s, OnlyChanges (footprint (.readerFrameOverlength i)) s (effect (.readerFrameOverlength i) s) := fun i s =>
  show OnlyChanges ([.port i]) s _ from abandonFrame_only i s

theorem exec_readerRecordDiscarded : ∀ i g c t b s, exec (.readerRecordDiscarded i g c t b) s = event (effect (.readerRecordDiscarded i g c t b)) s := fun _ _ _ _ _ _ => rfl

theorem effect_readerRecordDiscarded : ∀ i g c t b s, OnlyChanges (footprint (.readerRecordDiscarded i g c t b)) s (effect (.readerRecordDiscarded i g c t b) s) := fun i g c t _ s =>
  show OnlyChanges ([.port i, .link]) s _ from recordDiscarded_only i g c t _ s

theorem exec_ability : ∀ i t r m f s, exec (.ability i t r m f) s = event (effect (.ability i t r m f)) s := fun _ _ _ _ _ _ => rfl

theorem effect_ability : ∀ i t r m f s, OnlyChanges (footprint (.ability i t r m f)) s (effect (.ability i t r m f) s) := fun i _ _ _ _ s =>
  show OnlyChanges ([.port i, .link]) s _ from arrive_only i _ _ _ _ _ (fun s => ((countConsumed_only i s).mono (by simp)).trans (takeAbility_only i _ _ _ _)) (by simp) (by simp) s

theorem exec_admitAck : ∀ i t r s, exec (.admitAck i t r) s = event (effect (.admitAck i t r)) s := fun _ _ _ _ => rfl

theorem effect_admitAck : ∀ i t r s, OnlyChanges (footprint (.admitAck i t r)) s (effect (.admitAck i t r) s) := fun i _ _ s =>
  show OnlyChanges (bringUpBlocks i) s _ from arrive_only i _ _ _ _ _ (fun s => ((countConsumed_only i s).mono (by simp)).trans (takeAck_only i _ _)) (by simp) (by simp) s

theorem exec_authGrant : ∀ i t r g k v s, exec (.authGrant i t r g k v) s = event (effect (.authGrant i t r g k v)) s := fun _ _ _ _ _ _ _ => rfl

theorem effect_authGrant : ∀ i t r g k v s, OnlyChanges (footprint (.authGrant i t r g k v)) s (effect (.authGrant i t r g k v) s) := fun i _ _ _ _ _ s =>
  show OnlyChanges (startBlocks i) s _ from arrive_only i _ _ _ _ _ (fun s => ((countConsumed_only i s).mono (by simp)).trans (takeGrant_only i _ _ _ _ _)) (by simp) (by simp) s

theorem exec_authCancel : ∀ i t r s, exec (.authCancel i t r) s = event (effect (.authCancel i t r)) s := fun _ _ _ _ => rfl

theorem effect_authCancel : ∀ i t r s, OnlyChanges (footprint (.authCancel i t r)) s (effect (.authCancel i t r) s) := fun i _ _ s =>
  show OnlyChanges (closureBlocks i) s _ from arrive_only i _ _ _ _ _ (fun s => ((countConsumed_only i s).mono (by simp)).trans (takeCancel_only i _ _)) (by simp) (by simp) s

theorem exec_saleCapture : ∀ i t n r a s, exec (.saleCapture i t n r a) s = event (effect (.saleCapture i t n r a)) s := fun _ _ _ _ _ _ => rfl

theorem effect_saleCapture : ∀ i t n r a s, OnlyChanges (footprint (.saleCapture i t n r a)) s (effect (.saleCapture i t n r a) s) := fun i _ _ _ _ s =>
  show OnlyChanges ([.register, .link, .port i]) s _ from arrive_only i _ _ _ _ _ (fun s => ((countConsumed_only i s).mono (by simp)).trans (takeCapture_only i _ _ _ _)) (by simp) (by simp) s

theorem exec_readerRecord : ∀ i c t b s, exec (.readerRecord i c t b) s = event (effect (.readerRecord i c t b)) s := fun _ _ _ _ _ => rfl

theorem effect_readerRecord : ∀ i c t b s, OnlyChanges (footprint (.readerRecord i c t b)) s (effect (.readerRecord i c t b) s) := fun i _ _ _ s =>
  show OnlyChanges ([.port i, .conversations, .link]) s _ from OnlyChanges.ite (.refl _ _) (arrive_only i _ _ _ _ _ (fun s => forwardRecord_only i _ _ _ s) (by simp) (by simp) s)

theorem exec_readerTransmissionEnd : ∀ i s, exec (.readerTransmissionEnd i) s = event (effect (.readerTransmissionEnd i)) s := fun _ _ => rfl

theorem effect_readerTransmissionEnd : ∀ i s, OnlyChanges (footprint (.readerTransmissionEnd i)) s (effect (.readerTransmissionEnd i) s) := fun i s =>
  show OnlyChanges ([.register, .port i]) s _ from readerSent_only i s

theorem exec_committedRefill : ∀ i s, exec (.committedRefill i) s = event (effect (.committedRefill i)) s := fun _ _ => rfl

theorem effect_committedRefill : ∀ i s, OnlyChanges (footprint (.committedRefill i)) s (effect (.committedRefill i) s) := fun i s =>
  show OnlyChanges ([.port i]) s _ from committedRefill_only i s

theorem exec_excessRefill : ∀ i s, exec (.excessRefill i) s = event (effect (.excessRefill i)) s := fun _ _ => rfl

theorem effect_excessRefill : ∀ i s, OnlyChanges (footprint (.excessRefill i)) s (effect (.excessRefill i) s) := fun i s =>
  show OnlyChanges ([.port i]) s _ from excessRefill_only i s

theorem exec_agingScan : ∀ s, exec (.agingScan) s = event (effect (.agingScan)) s := fun _ => rfl

theorem effect_agingScan : ∀ s, OnlyChanges (footprint (.agingScan)) s (effect (.agingScan) s) := fun s =>
  show OnlyChanges (agingBlocks) s _ from agingScan_only s

theorem exec_refreshExpiry : ∀ i s, exec (.refreshExpiry i) s = event (effect (.refreshExpiry i)) s := fun _ _ => rfl

theorem effect_refreshExpiry : ∀ i s, OnlyChanges (footprint (.refreshExpiry i)) s (effect (.refreshExpiry i) s) := fun i s =>
  show OnlyChanges ([.display i]) s _ from refreshExpiry_only i s

theorem exec_displayEcho : ∀ i c s, exec (.displayEcho i c) s = event (effect (.displayEcho i c)) s := fun _ _ _ => rfl

theorem effect_displayEcho : ∀ i c s, OnlyChanges (footprint (.displayEcho i c)) s (effect (.displayEcho i c) s) := fun i c s =>
  show OnlyChanges (powerBlocks) s _ from displayEcho_only i c s

theorem exec_echoTimeout : ∀ i s, exec (.echoTimeout i) s = event (effect (.echoTimeout i)) s := fun _ _ => rfl

theorem effect_echoTimeout : ∀ i s, OnlyChanges (footprint (.echoTimeout i)) s (effect (.echoTimeout i) s) := fun i s =>
  show OnlyChanges (powerBlocks) s _ from echoTimeout_only i s

theorem exec_testPhaseExpiry : ∀ i s, exec (.testPhaseExpiry i) s = event (effect (.testPhaseExpiry i)) s := fun _ _ => rfl

theorem effect_testPhaseExpiry : ∀ i s, OnlyChanges (footprint (.testPhaseExpiry i)) s (effect (.testPhaseExpiry i) s) := fun i s =>
  show OnlyChanges (bringUpBlocks i) s _ from phaseExpiry_only i s

theorem exec_temperatureSample : ∀ i r s, exec (.temperatureSample i r) s = event (effect (.temperatureSample i r)) s := fun _ _ _ => rfl

theorem effect_temperatureSample : ∀ i r s, OnlyChanges (footprint (.temperatureSample i r)) s (effect (.temperatureSample i r) s) := fun i r s =>
  show OnlyChanges (bringUpBlocks i) s _ from takeSample_only i r s

theorem exec_supplyGood : ∀ i s, exec (.supplyGood i) s = event (effect (.supplyGood i)) s := fun _ _ => rfl

theorem effect_supplyGood : ∀ i s, OnlyChanges (footprint (.supplyGood i)) s (effect (.supplyGood i) s) := fun i s =>
  show OnlyChanges (bringUpBlocks i) s _ from supplyGood_only i s

theorem exec_supplyGoodLoss : ∀ i s, exec (.supplyGoodLoss i) s = event (effect (.supplyGoodLoss i)) s := fun _ _ => rfl

theorem effect_supplyGoodLoss : ∀ i s, OnlyChanges (footprint (.supplyGoodLoss i)) s (effect (.supplyGoodLoss i) s) := fun i s =>
  show OnlyChanges (lossBlocks i) s _ from supplyGoodLoss_only i s

theorem exec_supplyStageTimeout : ∀ i s, exec (.supplyStageTimeout i) s = event (effect (.supplyStageTimeout i)) s := fun _ _ => rfl

theorem effect_supplyStageTimeout : ∀ i s, OnlyChanges (footprint (.supplyStageTimeout i)) s (effect (.supplyStageTimeout i) s) := fun i s =>
  show OnlyChanges (powerBlocks) s _ from supplyTimeout_only i s

theorem exec_permitHoldExpiry : ∀ s, exec (.permitHoldExpiry) s = event (effect (.permitHoldExpiry)) s := fun _ => rfl

theorem effect_permitHoldExpiry : ∀ s, OnlyChanges (footprint (.permitHoldExpiry)) s (effect (.permitHoldExpiry) s) := fun s =>
  show OnlyChanges (powerBlocks) s _ from permitHoldExpiry_only s

theorem exec_heatMaximumExpiry : ∀ i s, exec (.heatMaximumExpiry i) s = event (effect (.heatMaximumExpiry i)) s := fun _ _ => rfl

theorem effect_heatMaximumExpiry : ∀ i s, OnlyChanges (footprint (.heatMaximumExpiry i)) s (effect (.heatMaximumExpiry i) s) := fun i s =>
  show OnlyChanges (bringUpBlocks i) s _ from (heatExpired_only i s).ite (.refl _ _)

theorem exec_checkQuietExpiry : ∀ i s, exec (.checkQuietExpiry i) s = event (effect (.checkQuietExpiry i)) s := fun _ _ => rfl

theorem effect_checkQuietExpiry : ∀ i s, OnlyChanges (footprint (.checkQuietExpiry i)) s (effect (.checkQuietExpiry i) s) := fun i s =>
  show OnlyChanges (bringUpBlocks i) s _ from checkQuietExpiry_only i s

theorem exec_admitStageExpiry : ∀ i s, exec (.admitStageExpiry i) s = event (effect (.admitStageExpiry i)) s := fun _ _ => rfl

theorem effect_admitStageExpiry : ∀ i s, OnlyChanges (footprint (.admitStageExpiry i)) s (effect (.admitStageExpiry i) s) := fun i s =>
  show OnlyChanges (bringUpBlocks i) s _ from OnlyChanges.ite (((editSide_only i _ s).mono (by simp)).trans (enterVerify_only i _ _)) (.refl _ _)

theorem exec_verifyWaitExpiry : ∀ i s, exec (.verifyWaitExpiry i) s = event (effect (.verifyWaitExpiry i)) s := fun _ _ => rfl

theorem effect_verifyWaitExpiry : ∀ i s, OnlyChanges (footprint (.verifyWaitExpiry i)) s (effect (.verifyWaitExpiry i) s) := fun _ s =>
  show OnlyChanges (powerBlocks) s _ from (verifyExpired_only s).ite (.refl _ _)

theorem exec_clockAdvance : ∀ s, exec (.clockAdvance) s = event (effect (.clockAdvance)) s := fun _ => rfl

theorem effect_clockAdvance : ∀ s, OnlyChanges (footprint (.clockAdvance)) s (effect (.clockAdvance) s) := fun s =>
  show OnlyChanges (.clock :: .prices :: powerBlocks) s _ from clockAdvance_only s

theorem exec_writeAttemptEnd : ∀ r s, exec (.writeAttemptEnd r) s = event (effect (.writeAttemptEnd r)) s := fun _ _ => rfl

theorem effect_writeAttemptEnd : ∀ r s, OnlyChanges (footprint (.writeAttemptEnd r)) s (effect (.writeAttemptEnd r) s) := fun r s =>
  show OnlyChanges (jobBlocks) s _ from writeAttemptEnd_only r s

theorem exec_verifyJobEnd : ∀ s, exec (.verifyJobEnd) s = event (effect (.verifyJobEnd)) s := fun _ => rfl

theorem effect_verifyJobEnd : ∀ s, OnlyChanges (footprint (.verifyJobEnd)) s (effect (.verifyJobEnd) s) := fun s =>
  show OnlyChanges (powerBlocks) s _ from verifyJobEnd_only s

theorem exec_slotWriteEnd : ∀ s, exec (.slotWriteEnd) s = event (effect (.slotWriteEnd)) s := fun _ => rfl

theorem effect_slotWriteEnd : ∀ s, OnlyChanges (footprint (.slotWriteEnd)) s (effect (.slotWriteEnd) s) := fun s =>
  show OnlyChanges ([.store]) s _ from slotWriteEnd_only s

theorem exec_slotEraseEnd : ∀ s, exec (.slotEraseEnd) s = event (effect (.slotEraseEnd)) s := fun _ => rfl

theorem effect_slotEraseEnd : ∀ s, OnlyChanges (footprint (.slotEraseEnd)) s (effect (.slotEraseEnd) s) := fun s =>
  show OnlyChanges ([.store]) s _ from slotEraseEnd_only s

theorem exec_linkGapTimeout : ∀ s, exec (.linkGapTimeout) s = event (effect (.linkGapTimeout)) s := fun _ => rfl

theorem effect_linkGapTimeout : ∀ s, OnlyChanges (footprint (.linkGapTimeout)) s (effect (.linkGapTimeout) s) := fun s =>
  show OnlyChanges ([.link]) s _ from setLink_only s _

theorem exec_linkBadLength : ∀ s, exec (.linkBadLength) s = event (effect (.linkBadLength)) s := fun _ => rfl

theorem effect_linkBadLength : ∀ s, OnlyChanges (footprint (.linkBadLength)) s (effect (.linkBadLength) s) := fun s =>
  show OnlyChanges ([.link]) s _ from setLink_only s _

theorem exec_linkBadCheck : ∀ s, exec (.linkBadCheck) s = event (effect (.linkBadCheck)) s := fun _ => rfl

theorem effect_linkBadCheck : ∀ s, OnlyChanges (footprint (.linkBadCheck)) s (effect (.linkBadCheck) s) := fun s =>
  show OnlyChanges ([.link]) s _ from setLink_only s _

theorem exec_nonRequestFrame : ∀ k s, exec (.nonRequestFrame k) s = event (effect (.nonRequestFrame k)) s := fun _ _ => rfl

theorem effect_nonRequestFrame : ∀ k s, OnlyChanges (footprint (.nonRequestFrame k)) s (effect (.nonRequestFrame k) s) := fun k s =>
  show OnlyChanges ([.link]) s _ from nonRequestFrame_only k s

theorem exec_unknownKindRequest : ∀ k t s, exec (.unknownKindRequest k t) s = event (effect (.unknownKindRequest k t)) s := fun _ _ _ => rfl

theorem effect_unknownKindRequest : ∀ k t s, OnlyChanges (footprint (.unknownKindRequest k t)) s (effect (.unknownKindRequest k t) s) := fun k t s =>
  show OnlyChanges ([.link]) s _ from OnlyChanges.ite (.refl _ _) (request_only k t _ _ (fun _ s => refuse_only _ s) (by simp) s)

theorem exec_linkFrameSent : ∀ s, exec (.linkFrameSent) s = event (effect (.linkFrameSent)) s := fun _ => rfl

theorem effect_linkFrameSent : ∀ s, OnlyChanges (footprint (.linkFrameSent)) s (effect (.linkFrameSent) s) := fun s =>
  show OnlyChanges ([.link]) s _ from frameSent_only s

theorem exec_identify : ∀ t b s, exec (.identify t b) s = event (effect (.identify t b)) s := fun _ _ _ => rfl

theorem effect_identify : ∀ t b s, OnlyChanges (footprint (.identify t b)) s (effect (.identify t b) s) := fun _ b s =>
  show OnlyChanges ([.link]) s _ from request_only _ _ b _ (fun _ s => answer_only _ _ s) (by simp) s

theorem exec_readStatus : ∀ t b s, exec (.readStatus t b) s = event (effect (.readStatus t b)) s := fun _ _ _ => rfl

theorem effect_readStatus : ∀ t b s, OnlyChanges (footprint (.readStatus t b)) s (effect (.readStatus t b) s) := fun _ b s =>
  show OnlyChanges ([.link]) s _ from request_only _ _ b _ (fun _ s => takeReadStatus_only s) (by simp) s

theorem exec_readCounters : ∀ t b s, exec (.readCounters t b) s = event (effect (.readCounters t b)) s := fun _ _ _ => rfl

theorem effect_readCounters : ∀ t b s, OnlyChanges (footprint (.readCounters t b)) s (effect (.readCounters t b) s) := fun _ b s =>
  show OnlyChanges ([.link]) s _ from request_only _ _ b _ (takeReadCounters_only) (by simp) s

theorem exec_setConfig : ∀ t b s, exec (.setConfig t b) s = event (effect (.setConfig t b)) s := fun _ _ _ => rfl

theorem effect_setConfig : ∀ t b s, OnlyChanges (footprint (.setConfig t b)) s (effect (.setConfig t b) s) := fun _ b s =>
  show OnlyChanges (paramBlocks) s _ from request_only _ _ b _ (takeSetConfig_only) (by simp) s

theorem exec_readConfig : ∀ t b s, exec (.readConfig t b) s = event (effect (.readConfig t b)) s := fun _ _ _ => rfl

theorem effect_readConfig : ∀ t b s, OnlyChanges (footprint (.readConfig t b)) s (effect (.readConfig t b) s) := fun _ b s =>
  show OnlyChanges ([.link]) s _ from request_only _ _ b _ (takeReadConfig_only) (by simp) s

theorem exec_readMeter : ∀ t b s, exec (.readMeter t b) s = event (effect (.readMeter t b)) s := fun _ _ _ => rfl

theorem effect_readMeter : ∀ t b s, OnlyChanges (footprint (.readMeter t b)) s (effect (.readMeter t b) s) := fun _ b s =>
  show OnlyChanges (anyBlocks) s _ from request_only _ _ b _ (takeReadMeter_only) (by simp) s

theorem exec_setCalibration : ∀ t w b s, exec (.setCalibration t w b) s = event (effect (.setCalibration t w b)) s := fun _ _ _ _ => rfl

theorem effect_setCalibration : ∀ t w b s, OnlyChanges (footprint (.setCalibration t w b)) s (effect (.setCalibration t w b) s) := fun _ w b s =>
  show OnlyChanges (anyBlocks) s _ from request_only _ _ b _ (takeCalibration_only w) (by simp) s

theorem exec_quote : ∀ t b s, exec (.quote t b) s = event (effect (.quote t b)) s := fun _ _ _ => rfl

theorem effect_quote : ∀ t b s, OnlyChanges (footprint (.quote t b)) s (effect (.quote t b) s) := fun _ b s =>
  show OnlyChanges ([.link]) s _ from request_only _ _ b _ (takeQuote_only) (by simp) s

theorem exec_stagePrice : ∀ t b s, exec (.stagePrice t b) s = event (effect (.stagePrice t b)) s := fun _ _ _ => rfl

theorem effect_stagePrice : ∀ t b s, OnlyChanges (footprint (.stagePrice t b)) s (effect (.stagePrice t b) s) := fun _ b s =>
  show OnlyChanges ([.prices, .link]) s _ from request_only _ _ b _ (takeStagePrice_only) (by simp) s

theorem exec_commitPricesNow : ∀ t b s, exec (.commitPricesNow t b) s = event (effect (.commitPricesNow t b)) s := fun _ _ _ => rfl

theorem effect_commitPricesNow : ∀ t b s, OnlyChanges (footprint (.commitPricesNow t b)) s (effect (.commitPricesNow t b) s) := fun _ b s =>
  show OnlyChanges ([.prices, .link, .store]) s _ from request_only _ _ b _ (takeCommitNow_only) (by simp) s

theorem exec_commitPricesAt : ∀ t b s, exec (.commitPricesAt t b) s = event (effect (.commitPricesAt t b)) s := fun _ _ _ => rfl

theorem effect_commitPricesAt : ∀ t b s, OnlyChanges (footprint (.commitPricesAt t b)) s (effect (.commitPricesAt t b) s) := fun _ b s =>
  show OnlyChanges ([.prices, .link]) s _ from request_only _ _ b _ (takeCommitAt_only) (by simp) s

theorem exec_readPrices : ∀ t b s, exec (.readPrices t b) s = event (effect (.readPrices t b)) s := fun _ _ _ => rfl

theorem effect_readPrices : ∀ t b s, OnlyChanges (footprint (.readPrices t b)) s (effect (.readPrices t b) s) := fun _ b s =>
  show OnlyChanges ([.link]) s _ from request_only _ _ b _ (takeReadPrices_only) (by simp) s

theorem exec_authorize : ∀ t b s, exec (.authorize t b) s = event (effect (.authorize t b)) s := fun _ _ _ => rfl

theorem effect_authorize : ∀ t b s, OnlyChanges (footprint (.authorize t b)) s (effect (.authorize t b) s) := fun _ b s =>
  show OnlyChanges (anyBlocks) s _ from request_only _ _ b _ (takeAuthorize_only) (by simp) s

theorem exec_cancelAuth : ∀ t b s, exec (.cancelAuth t b) s = event (effect (.cancelAuth t b)) s := fun _ _ _ => rfl

theorem effect_cancelAuth : ∀ t b s, OnlyChanges (footprint (.cancelAuth t b)) s (effect (.cancelAuth t b) s) := fun _ b s =>
  show OnlyChanges (anyBlocks) s _ from request_only _ _ b _ (fun n s => withSide_only _ (fun i s => (takeCancelAuth_only i s).mono (by cases i <;> simp)) (by simp) n s) (by simp) s

theorem exec_suspend : ∀ t b s, exec (.suspend t b) s = event (effect (.suspend t b)) s := fun _ _ _ => rfl

theorem effect_suspend : ∀ t b s, OnlyChanges (footprint (.suspend t b)) s (effect (.suspend t b) s) := fun _ b s =>
  show OnlyChanges (anyBlocks) s _ from request_only _ _ b _ (fun n s => withSide_only _ (fun i s => (takeSuspend_only i s).mono (by cases i <;> simp)) (by simp) n s) (by simp) s

theorem exec_resume : ∀ t b s, exec (.resume t b) s = event (effect (.resume t b)) s := fun _ _ _ => rfl

theorem effect_resume : ∀ t b s, OnlyChanges (footprint (.resume t b)) s (effect (.resume t b) s) := fun _ b s =>
  show OnlyChanges (anyBlocks) s _ from request_only _ _ b _ (fun n s => withSide_only _ (fun i s => (takeResume_only i s).mono (by cases i <;> simp)) (by simp) n s) (by simp) s

theorem exec_stopFill : ∀ t b s, exec (.stopFill t b) s = event (effect (.stopFill t b)) s := fun _ _ _ => rfl

theorem effect_stopFill : ∀ t b s, OnlyChanges (footprint (.stopFill t b)) s (effect (.stopFill t b) s) := fun _ b s =>
  show OnlyChanges (anyBlocks) s _ from request_only _ _ b _ (fun n s => withSide_only _ (fun i s => (takeStopFill_only i s).mono (by cases i <;> simp)) (by simp) n s) (by simp) s

theorem exec_endSale : ∀ t b s, exec (.endSale t b) s = event (effect (.endSale t b)) s := fun _ _ _ => rfl

theorem effect_endSale : ∀ t b s, OnlyChanges (footprint (.endSale t b)) s (effect (.endSale t b) s) := fun _ b s =>
  show OnlyChanges (anyBlocks) s _ from request_only _ _ b _ (fun n s => withSide_only _ (fun i s => (takeEndSale_only i s).mono (by cases i <;> simp)) (by simp) n s) (by simp) s

theorem exec_openSide : ∀ t b s, exec (.openSide t b) s = event (effect (.openSide t b)) s := fun _ _ _ => rfl

theorem effect_openSide : ∀ t b s, OnlyChanges (footprint (.openSide t b)) s (effect (.openSide t b) s) := fun _ b s =>
  show OnlyChanges (anyBlocks) s _ from request_only _ _ b _ (fun n s => withSide_only _ (fun i s => (takeOpenSide_only i s).mono (by cases i <;> simp)) (by simp) n s) (by simp) s

theorem exec_closeSide : ∀ t b s, exec (.closeSide t b) s = event (effect (.closeSide t b)) s := fun _ _ _ => rfl

theorem effect_closeSide : ∀ t b s, OnlyChanges (footprint (.closeSide t b)) s (effect (.closeSide t b) s) := fun _ b s =>
  show OnlyChanges (anyBlocks) s _ from request_only _ _ b _ (fun n s => withSide_only _ (fun i s => (takeCloseSide_only i s).mono (by cases i <;> simp)) (by simp) n s) (by simp) s

theorem exec_readSide : ∀ t b s, exec (.readSide t b) s = event (effect (.readSide t b)) s := fun _ _ _ => rfl

theorem effect_readSide : ∀ t b s, OnlyChanges (footprint (.readSide t b)) s (effect (.readSide t b) s) := fun _ b s =>
  show OnlyChanges ([.link]) s _ from request_only _ _ b _ (fun n s => withSide_only (fun i s => answer .ok (sideReport s i) s) (fun i s => answer_only .ok (sideReport s i) s) (by simp) n s) (by simp) s

theorem exec_setNozzleMap : ∀ t b s, exec (.setNozzleMap t b) s = event (effect (.setNozzleMap t b)) s := fun _ _ _ => rfl

theorem effect_setNozzleMap : ∀ t b s, OnlyChanges (footprint (.setNozzleMap t b)) s (effect (.setNozzleMap t b) s) := fun _ b s =>
  show OnlyChanges ([.fill .a, .fill .b, .store, .link]) s _ from request_only _ _ b _ (takeNozzleMap_only) (by simp) s

theorem exec_setGrade : ∀ t b s, exec (.setGrade t b) s = event (effect (.setGrade t b)) s := fun _ _ _ => rfl

theorem effect_setGrade : ∀ t b s, OnlyChanges (footprint (.setGrade t b)) s (effect (.setGrade t b) s) := fun _ b s =>
  show OnlyChanges ([.grades, .store, .link]) s _ from request_only _ _ b _ (takeSetGrade_only) (by simp) s

theorem exec_readBlend : ∀ t b s, exec (.readBlend t b) s = event (effect (.readBlend t b)) s := fun _ _ _ => rfl

theorem effect_readBlend : ∀ t b s, OnlyChanges (footprint (.readBlend t b)) s (effect (.readBlend t b) s) := fun _ b s =>
  show OnlyChanges ([.blend .a, .blend .b, .link]) s _ from request_only _ _ b _ (takeReadBlend_only) (by simp) s

theorem exec_listSales : ∀ t b s, exec (.listSales t b) s = event (effect (.listSales t b)) s := fun _ _ _ => rfl

theorem effect_listSales : ∀ t b s, OnlyChanges (footprint (.listSales t b)) s (effect (.listSales t b) s) := fun _ b s =>
  show OnlyChanges ([.link]) s _ from request_only _ _ b _ (fun n s => withSide_only (fun i s => answer .ok (salesReport s i) s) (fun i s => answer_only .ok (salesReport s i) s) (by simp) n s) (by simp) s

theorem exec_readSale : ∀ t b s, exec (.readSale t b) s = event (effect (.readSale t b)) s := fun _ _ _ => rfl

theorem effect_readSale : ∀ t b s, OnlyChanges (footprint (.readSale t b)) s (effect (.readSale t b) s) := fun _ b s =>
  show OnlyChanges ([.link]) s _ from request_only _ _ b _ (takeReadSale_only) (by simp) s

theorem exec_settleSale : ∀ t b s, exec (.settleSale t b) s = event (effect (.settleSale t b)) s := fun _ _ _ => rfl

theorem effect_settleSale : ∀ t b s, OnlyChanges (footprint (.settleSale t b)) s (effect (.settleSale t b) s) := fun _ b s =>
  show OnlyChanges ([.register, .link]) s _ from request_only _ _ b _ (takeSettleSale_only) (by simp) s

theorem exec_readTotals : ∀ t b s, exec (.readTotals t b) s = event (effect (.readTotals t b)) s := fun _ _ _ => rfl

theorem effect_readTotals : ∀ t b s, OnlyChanges (footprint (.readTotals t b)) s (effect (.readTotals t b) s) := fun _ b s =>
  show OnlyChanges ([.link]) s _ from request_only _ _ b _ (fun _ s => answer_only _ _ s) (by simp) s

theorem exec_readDisplay : ∀ t b s, exec (.readDisplay t b) s = event (effect (.readDisplay t b)) s := fun _ _ _ => rfl

theorem effect_readDisplay : ∀ t b s, OnlyChanges (footprint (.readDisplay t b)) s (effect (.readDisplay t b) s) := fun _ b s =>
  show OnlyChanges ([.link]) s _ from request_only _ _ b _ (fun n s => withSide_only (fun i s => answer .ok (displayReport s i) s) (fun i s => answer_only .ok (displayReport s i) s) (by simp) n s) (by simp) s

theorem exec_enableReader : ∀ t b s, exec (.enableReader t b) s = event (effect (.enableReader t b)) s := fun _ _ _ => rfl

theorem effect_enableReader : ∀ t b s, OnlyChanges (footprint (.enableReader t b)) s (effect (.enableReader t b) s) := fun _ b s =>
  show OnlyChanges (anyBlocks) s _ from request_only _ _ b _ (fun n s => withSide_only _ (fun i s => (takeEnableReader_only i s).mono (by cases i <;> simp)) (by simp) n s) (by simp) s

theorem exec_disableReader : ∀ t b s, exec (.disableReader t b) s = event (effect (.disableReader t b)) s := fun _ _ _ => rfl

theorem effect_disableReader : ∀ t b s, OnlyChanges (footprint (.disableReader t b)) s (effect (.disableReader t b) s) := fun _ b s =>
  show OnlyChanges (anyBlocks) s _ from request_only _ _ b _ (fun n s => withSide_only _ (fun i s => (takeDisableReader_only i s).mono (by cases i <;> simp)) (by simp) n s) (by simp) s

theorem exec_clearTamper : ∀ t w b s, exec (.clearTamper t w b) s = event (effect (.clearTamper t w b)) s := fun _ _ _ _ => rfl

theorem effect_clearTamper : ∀ t w b s, OnlyChanges (footprint (.clearTamper t w b)) s (effect (.clearTamper t w b) s) := fun _ w b s =>
  show OnlyChanges (anyBlocks) s _ from request_only _ _ b _ (fun n s => withSide_only _ (fun i s => (takeClearTamper_only w i s).mono (by cases i <;> simp)) (by simp) n s) (by simp) s

theorem exec_readReader : ∀ t w b s, exec (.readReader t w b) s = event (effect (.readReader t w b)) s := fun _ _ _ _ => rfl

theorem effect_readReader : ∀ t w b s, OnlyChanges (footprint (.readReader t w b)) s (effect (.readReader t w b) s) := fun _ w b s =>
  show OnlyChanges ([.port .a, .port .b, .link]) s _ from request_only _ _ b _ (takeReadReader_only w) (by simp) s

theorem exec_setClass : ∀ t b s, exec (.setClass t b) s = event (effect (.setClass t b)) s := fun _ _ _ => rfl

theorem effect_setClass : ∀ t b s, OnlyChanges (footprint (.setClass t b)) s (effect (.setClass t b) s) := fun _ b s =>
  show OnlyChanges (classBlocks) s _ from request_only _ _ b _ (takeSetClass_only) (by simp) s

theorem exec_deleteClass : ∀ t b s, exec (.deleteClass t b) s = event (effect (.deleteClass t b)) s := fun _ _ _ => rfl

theorem effect_deleteClass : ∀ t b s, OnlyChanges (footprint (.deleteClass t b)) s (effect (.deleteClass t b) s) := fun _ b s =>
  show OnlyChanges (classBlocks) s _ from request_only _ _ b _ (takeDeleteClass_only) (by simp) s

theorem exec_sendToReader : ∀ t b s, exec (.sendToReader t b) s = event (effect (.sendToReader t b)) s := fun _ _ _ => rfl

theorem effect_sendToReader : ∀ t b s, OnlyChanges (footprint (.sendToReader t b)) s (effect (.sendToReader t b) s) := fun _ b s =>
  show OnlyChanges (sendBlocks) s _ from request_only _ _ b _ (takeSend_only) (by simp) s

theorem exec_goNight : ∀ t b s, exec (.goNight t b) s = event (effect (.goNight t b)) s := fun _ _ _ => rfl

theorem effect_goNight : ∀ t b s, OnlyChanges (footprint (.goNight t b)) s (effect (.goNight t b) s) := fun _ b s =>
  show OnlyChanges (powerBlocks) s _ from request_only _ _ b _ (fun _ s => takeGoNight_only s) (by simp) s

theorem exec_wake : ∀ t b s, exec (.wake t b) s = event (effect (.wake t b)) s := fun _ _ _ => rfl

theorem effect_wake : ∀ t b s, OnlyChanges (footprint (.wake t b)) s (effect (.wake t b) s) := fun _ b s =>
  show OnlyChanges (powerBlocks) s _ from request_only _ _ b _ (fun _ s => takeWake_only s) (by simp) s

theorem exec_setClock : ∀ t b s, exec (.setClock t b) s = event (effect (.setClock t b)) s := fun _ _ _ => rfl

theorem effect_setClock : ∀ t b s, OnlyChanges (footprint (.setClock t b)) s (effect (.setClock t b) s) := fun _ b s =>
  show OnlyChanges ([.clock, .link]) s _ from request_only _ _ b _ (takeSetClock_only) (by simp) s

theorem exec_setSchedule : ∀ t b s, exec (.setSchedule t b) s = event (effect (.setSchedule t b)) s := fun _ _ _ => rfl

theorem effect_setSchedule : ∀ t b s, OnlyChanges (footprint (.setSchedule t b)) s (effect (.setSchedule t b) s) := fun _ b s =>
  show OnlyChanges ([.power, .store, .link]) s _ from request_only _ _ b _ (takeSetSchedule_only) (by simp) s

theorem exec_readPower : ∀ t b s, exec (.readPower t b) s = event (effect (.readPower t b)) s := fun _ _ _ => rfl

theorem effect_readPower : ∀ t b s, OnlyChanges (footprint (.readPower t b)) s (effect (.readPower t b) s) := fun _ b s =>
  show OnlyChanges ([.link]) s _ from request_only _ _ b _ (fun _ s => answer_only _ _ s) (by simp) s

theorem exec_restart : ∀ t b s, exec (.restart t b) s = event (effect (.restart t b)) s := fun _ _ _ => rfl

theorem effect_restart : ∀ t b s, OnlyChanges (footprint (.restart t b)) s (effect (.restart t b) s) := fun _ b s =>
  show OnlyChanges (powerBlocks) s _ from request_only _ _ b _ (fun _ s => takeRestart_only s) (by simp) s

theorem exec_powerSide : ∀ t b s, exec (.powerSide t b) s = event (effect (.powerSide t b)) s := fun _ _ _ => rfl

theorem effect_powerSide : ∀ t b s, OnlyChanges (footprint (.powerSide t b)) s (effect (.powerSide t b) s) := fun _ b s =>
  show OnlyChanges (powerBlocks) s _ from request_only _ _ b _ (fun n s => withSide_only _ takePowerSide_only (by simp) n s) (by simp) s

theorem exec_regionRead : ∀ r s, exec (.regionRead r) s = event (effect (.regionRead r)) s := fun _ _ => rfl

theorem effect_regionRead : ∀ r s, OnlyChanges (footprint (.regionRead r)) s (effect (.regionRead r) s) := fun r s =>
  show OnlyChanges (anyBlocks) s _ from (readRegion_only r s).ite (.refl _ _)

/-- Every command but a reset leaves alone what its footprint does not name. -/
theorem effect_only (c : Instr) (s : State) : OnlyChanges (footprint c) s (effect c s) := by
  cases c with
  | powerOnReset _ _ _ => exact .refl _ _
  | restartReset _ _ => exact .refl _ _
  | loadingEnd => exact effect_loadingEnd s
  | phaseLevelTaken _ _ _ => exact effect_phaseLevelTaken _ _ _ s
  | rateWindowExpiry _ => exact effect_rateWindowExpiry _ s
  | nozzleLift _ _ => exact effect_nozzleLift _ _ s
  | nozzleHangUp _ _ => exact effect_nozzleHangUp _ _ s
  | primeExpiry _ => exact effect_primeExpiry _ s
  | authorizationTimerExpiry _ => exact effect_authorizationTimerExpiry _ s
  | noFlowExpiry _ => exact effect_noFlowExpiry _ s
  | endingQuietExpiry _ => exact effect_endingQuietExpiry _ s
  | afterFlowExpiry _ => exact effect_afterFlowExpiry _ s
  | estopAssert => exact effect_estopAssert s
  | estopRelease => exact effect_estopRelease s
  | supplyFailWarning => exact effect_supplyFailWarning s
  | supplyFailRelease => exact effect_supplyFailRelease s
  | tamperAssert _ => exact effect_tamperAssert _ s
  | readerReady _ => exact effect_readerReady _ s
  | readerReadyLoss _ => exact effect_readerReadyLoss _ s
  | lineLowTimeout _ _ => exact effect_lineLowTimeout _ _ s
  | readerStepTimeout _ => exact effect_readerStepTimeout _ s
  | backoffExpiry _ => exact effect_backoffExpiry _ s
  | readerGapTimeout _ => exact effect_readerGapTimeout _ s
  | readerFrameOverlength _ => exact effect_readerFrameOverlength _ s
  | readerRecordDiscarded _ _ _ _ _ => exact effect_readerRecordDiscarded _ _ _ _ _ s
  | ability _ _ _ _ _ => exact effect_ability _ _ _ _ _ s
  | admitAck _ _ _ => exact effect_admitAck _ _ _ s
  | authGrant _ _ _ _ _ _ => exact effect_authGrant _ _ _ _ _ _ s
  | authCancel _ _ _ => exact effect_authCancel _ _ _ s
  | saleCapture _ _ _ _ _ => exact effect_saleCapture _ _ _ _ _ s
  | readerRecord _ _ _ _ => exact effect_readerRecord _ _ _ _ s
  | readerTransmissionEnd _ => exact effect_readerTransmissionEnd _ s
  | committedRefill _ => exact effect_committedRefill _ s
  | excessRefill _ => exact effect_excessRefill _ s
  | agingScan => exact effect_agingScan s
  | refreshExpiry _ => exact effect_refreshExpiry _ s
  | displayEcho _ _ => exact effect_displayEcho _ _ s
  | echoTimeout _ => exact effect_echoTimeout _ s
  | testPhaseExpiry _ => exact effect_testPhaseExpiry _ s
  | temperatureSample _ _ => exact effect_temperatureSample _ _ s
  | supplyGood _ => exact effect_supplyGood _ s
  | supplyGoodLoss _ => exact effect_supplyGoodLoss _ s
  | supplyStageTimeout _ => exact effect_supplyStageTimeout _ s
  | permitHoldExpiry => exact effect_permitHoldExpiry s
  | heatMaximumExpiry _ => exact effect_heatMaximumExpiry _ s
  | checkQuietExpiry _ => exact effect_checkQuietExpiry _ s
  | admitStageExpiry _ => exact effect_admitStageExpiry _ s
  | verifyWaitExpiry _ => exact effect_verifyWaitExpiry _ s
  | clockAdvance => exact effect_clockAdvance s
  | writeAttemptEnd _ => exact effect_writeAttemptEnd _ s
  | verifyJobEnd => exact effect_verifyJobEnd s
  | slotWriteEnd => exact effect_slotWriteEnd s
  | slotEraseEnd => exact effect_slotEraseEnd s
  | linkGapTimeout => exact effect_linkGapTimeout s
  | linkBadLength => exact effect_linkBadLength s
  | linkBadCheck => exact effect_linkBadCheck s
  | nonRequestFrame _ => exact effect_nonRequestFrame _ s
  | unknownKindRequest _ _ => exact effect_unknownKindRequest _ _ s
  | linkFrameSent => exact effect_linkFrameSent s
  | identify _ _ => exact effect_identify _ _ s
  | readStatus _ _ => exact effect_readStatus _ _ s
  | readCounters _ _ => exact effect_readCounters _ _ s
  | setConfig _ _ => exact effect_setConfig _ _ s
  | readConfig _ _ => exact effect_readConfig _ _ s
  | readMeter _ _ => exact effect_readMeter _ _ s
  | setCalibration _ _ _ => exact effect_setCalibration _ _ _ s
  | quote _ _ => exact effect_quote _ _ s
  | stagePrice _ _ => exact effect_stagePrice _ _ s
  | commitPricesNow _ _ => exact effect_commitPricesNow _ _ s
  | commitPricesAt _ _ => exact effect_commitPricesAt _ _ s
  | readPrices _ _ => exact effect_readPrices _ _ s
  | authorize _ _ => exact effect_authorize _ _ s
  | cancelAuth _ _ => exact effect_cancelAuth _ _ s
  | suspend _ _ => exact effect_suspend _ _ s
  | resume _ _ => exact effect_resume _ _ s
  | stopFill _ _ => exact effect_stopFill _ _ s
  | endSale _ _ => exact effect_endSale _ _ s
  | openSide _ _ => exact effect_openSide _ _ s
  | closeSide _ _ => exact effect_closeSide _ _ s
  | readSide _ _ => exact effect_readSide _ _ s
  | setNozzleMap _ _ => exact effect_setNozzleMap _ _ s
  | setGrade _ _ => exact effect_setGrade _ _ s
  | readBlend _ _ => exact effect_readBlend _ _ s
  | listSales _ _ => exact effect_listSales _ _ s
  | readSale _ _ => exact effect_readSale _ _ s
  | settleSale _ _ => exact effect_settleSale _ _ s
  | readTotals _ _ => exact effect_readTotals _ _ s
  | readDisplay _ _ => exact effect_readDisplay _ _ s
  | enableReader _ _ => exact effect_enableReader _ _ s
  | disableReader _ _ => exact effect_disableReader _ _ s
  | clearTamper _ _ _ => exact effect_clearTamper _ _ _ s
  | readReader _ _ _ => exact effect_readReader _ _ _ s
  | setClass _ _ => exact effect_setClass _ _ s
  | deleteClass _ _ => exact effect_deleteClass _ _ s
  | sendToReader _ _ => exact effect_sendToReader _ _ s
  | goNight _ _ => exact effect_goNight _ _ s
  | wake _ _ => exact effect_wake _ _ s
  | setClock _ _ => exact effect_setClock _ _ s
  | setSchedule _ _ => exact effect_setSchedule _ _ s
  | readPower _ _ => exact effect_readPower _ _ s
  | restart _ _ => exact effect_restart _ _ s
  | powerSide _ _ => exact effect_powerSide _ _ s
  | regionRead _ => exact effect_regionRead _ s

/-- Every command but a reset is the event of its effect. -/
theorem exec_eq_event (c : Instr) (s : State) (h : Instr.isReset c = false) : exec c s = event (effect c) s := by
  cases c with
  | powerOnReset _ _ _ => cases h
  | restartReset _ _ => cases h
  | loadingEnd => exact exec_loadingEnd s
  | phaseLevelTaken _ _ _ => exact exec_phaseLevelTaken _ _ _ s
  | rateWindowExpiry _ => exact exec_rateWindowExpiry _ s
  | nozzleLift _ _ => exact exec_nozzleLift _ _ s
  | nozzleHangUp _ _ => exact exec_nozzleHangUp _ _ s
  | primeExpiry _ => exact exec_primeExpiry _ s
  | authorizationTimerExpiry _ => exact exec_authorizationTimerExpiry _ s
  | noFlowExpiry _ => exact exec_noFlowExpiry _ s
  | endingQuietExpiry _ => exact exec_endingQuietExpiry _ s
  | afterFlowExpiry _ => exact exec_afterFlowExpiry _ s
  | estopAssert => exact exec_estopAssert s
  | estopRelease => exact exec_estopRelease s
  | supplyFailWarning => exact exec_supplyFailWarning s
  | supplyFailRelease => exact exec_supplyFailRelease s
  | tamperAssert _ => exact exec_tamperAssert _ s
  | readerReady _ => exact exec_readerReady _ s
  | readerReadyLoss _ => exact exec_readerReadyLoss _ s
  | lineLowTimeout _ _ => exact exec_lineLowTimeout _ _ s
  | readerStepTimeout _ => exact exec_readerStepTimeout _ s
  | backoffExpiry _ => exact exec_backoffExpiry _ s
  | readerGapTimeout _ => exact exec_readerGapTimeout _ s
  | readerFrameOverlength _ => exact exec_readerFrameOverlength _ s
  | readerRecordDiscarded _ _ _ _ _ => exact exec_readerRecordDiscarded _ _ _ _ _ s
  | ability _ _ _ _ _ => exact exec_ability _ _ _ _ _ s
  | admitAck _ _ _ => exact exec_admitAck _ _ _ s
  | authGrant _ _ _ _ _ _ => exact exec_authGrant _ _ _ _ _ _ s
  | authCancel _ _ _ => exact exec_authCancel _ _ _ s
  | saleCapture _ _ _ _ _ => exact exec_saleCapture _ _ _ _ _ s
  | readerRecord _ _ _ _ => exact exec_readerRecord _ _ _ _ s
  | readerTransmissionEnd _ => exact exec_readerTransmissionEnd _ s
  | committedRefill _ => exact exec_committedRefill _ s
  | excessRefill _ => exact exec_excessRefill _ s
  | agingScan => exact exec_agingScan s
  | refreshExpiry _ => exact exec_refreshExpiry _ s
  | displayEcho _ _ => exact exec_displayEcho _ _ s
  | echoTimeout _ => exact exec_echoTimeout _ s
  | testPhaseExpiry _ => exact exec_testPhaseExpiry _ s
  | temperatureSample _ _ => exact exec_temperatureSample _ _ s
  | supplyGood _ => exact exec_supplyGood _ s
  | supplyGoodLoss _ => exact exec_supplyGoodLoss _ s
  | supplyStageTimeout _ => exact exec_supplyStageTimeout _ s
  | permitHoldExpiry => exact exec_permitHoldExpiry s
  | heatMaximumExpiry _ => exact exec_heatMaximumExpiry _ s
  | checkQuietExpiry _ => exact exec_checkQuietExpiry _ s
  | admitStageExpiry _ => exact exec_admitStageExpiry _ s
  | verifyWaitExpiry _ => exact exec_verifyWaitExpiry _ s
  | clockAdvance => exact exec_clockAdvance s
  | writeAttemptEnd _ => exact exec_writeAttemptEnd _ s
  | verifyJobEnd => exact exec_verifyJobEnd s
  | slotWriteEnd => exact exec_slotWriteEnd s
  | slotEraseEnd => exact exec_slotEraseEnd s
  | linkGapTimeout => exact exec_linkGapTimeout s
  | linkBadLength => exact exec_linkBadLength s
  | linkBadCheck => exact exec_linkBadCheck s
  | nonRequestFrame _ => exact exec_nonRequestFrame _ s
  | unknownKindRequest _ _ => exact exec_unknownKindRequest _ _ s
  | linkFrameSent => exact exec_linkFrameSent s
  | identify _ _ => exact exec_identify _ _ s
  | readStatus _ _ => exact exec_readStatus _ _ s
  | readCounters _ _ => exact exec_readCounters _ _ s
  | setConfig _ _ => exact exec_setConfig _ _ s
  | readConfig _ _ => exact exec_readConfig _ _ s
  | readMeter _ _ => exact exec_readMeter _ _ s
  | setCalibration _ _ _ => exact exec_setCalibration _ _ _ s
  | quote _ _ => exact exec_quote _ _ s
  | stagePrice _ _ => exact exec_stagePrice _ _ s
  | commitPricesNow _ _ => exact exec_commitPricesNow _ _ s
  | commitPricesAt _ _ => exact exec_commitPricesAt _ _ s
  | readPrices _ _ => exact exec_readPrices _ _ s
  | authorize _ _ => exact exec_authorize _ _ s
  | cancelAuth _ _ => exact exec_cancelAuth _ _ s
  | suspend _ _ => exact exec_suspend _ _ s
  | resume _ _ => exact exec_resume _ _ s
  | stopFill _ _ => exact exec_stopFill _ _ s
  | endSale _ _ => exact exec_endSale _ _ s
  | openSide _ _ => exact exec_openSide _ _ s
  | closeSide _ _ => exact exec_closeSide _ _ s
  | readSide _ _ => exact exec_readSide _ _ s
  | setNozzleMap _ _ => exact exec_setNozzleMap _ _ s
  | setGrade _ _ => exact exec_setGrade _ _ s
  | readBlend _ _ => exact exec_readBlend _ _ s
  | listSales _ _ => exact exec_listSales _ _ s
  | readSale _ _ => exact exec_readSale _ _ s
  | settleSale _ _ => exact exec_settleSale _ _ s
  | readTotals _ _ => exact exec_readTotals _ _ s
  | readDisplay _ _ => exact exec_readDisplay _ _ s
  | enableReader _ _ => exact exec_enableReader _ _ s
  | disableReader _ _ => exact exec_disableReader _ _ s
  | clearTamper _ _ _ => exact exec_clearTamper _ _ _ s
  | readReader _ _ _ => exact exec_readReader _ _ _ s
  | setClass _ _ => exact exec_setClass _ _ s
  | deleteClass _ _ => exact exec_deleteClass _ _ s
  | sendToReader _ _ => exact exec_sendToReader _ _ s
  | goNight _ _ => exact exec_goNight _ _ s
  | wake _ _ => exact exec_wake _ _ s
  | setClock _ _ => exact exec_setClock _ _ s
  | setSchedule _ _ => exact exec_setSchedule _ _ s
  | readPower _ _ => exact exec_readPower _ _ s
  | restart _ _ => exact exec_restart _ _ s
  | powerSide _ _ => exact exec_powerSide _ _ s
  | regionRead _ => exact exec_regionRead _ s

end Sys2Proof.Machine
end

