-- ==== Sys2Proof/Laws/PerInstr.lean ====
section
/-! SUPPORT. A family of statements about every command as syntax, one lemma for each constructor: what a command is as a request of
the link's catalogue. -/

namespace Sys2Proof.Laws.Catalogue

open Sys2Proof Sys2Proof.Machine

/-- A command that is a request has a KIND of the catalogue (R194), and the TAG that its frame carries (R183). -/
def Statement (c : Instr) : Prop :=
  ∀ (kind tag : Nat) (b : BodyState), requestParts c = some (kind, tag, b) → kind ∈ Kind.catalogue ∧ tag = requestTag c

theorem powerOnReset (foundA foundB : FoundAtReset) (cutEraseReadsErased : Bool) :
    Statement (.powerOnReset foundA foundB cutEraseReadsErased) := by
  rintro kind t x ⟨⟩

theorem loadingEnd : Statement .loadingEnd := by
  rintro kind t x ⟨⟩

theorem restartReset (foundA foundB : FoundAtReset) : Statement (.restartReset foundA foundB) := by
  rintro kind t x ⟨⟩

theorem phaseLevelTaken (m : Meter) (phase1 phase2 : Option Bool) : Statement (.phaseLevelTaken m phase1 phase2) := by
  rintro kind t x ⟨⟩

theorem rateWindowExpiry (m : Meter) : Statement (.rateWindowExpiry m) := by
  rintro kind t x ⟨⟩

theorem nozzleLift (side : Side) (nozzle : Nozzle) : Statement (.nozzleLift side nozzle) := by
  rintro kind t x ⟨⟩

theorem nozzleHangUp (side : Side) (nozzle : Nozzle) : Statement (.nozzleHangUp side nozzle) := by
  rintro kind t x ⟨⟩

theorem primeExpiry (product : Product) : Statement (.primeExpiry product) := by
  rintro kind t x ⟨⟩

theorem authorizationTimerExpiry (side : Side) : Statement (.authorizationTimerExpiry side) := by
  rintro kind t x ⟨⟩

theorem noFlowExpiry (side : Side) : Statement (.noFlowExpiry side) := by
  rintro kind t x ⟨⟩

theorem endingQuietExpiry (side : Side) : Statement (.endingQuietExpiry side) := by
  rintro kind t x ⟨⟩

theorem afterFlowExpiry (side : Side) : Statement (.afterFlowExpiry side) := by
  rintro kind t x ⟨⟩

theorem estopAssert : Statement .estopAssert := by
  rintro kind t x ⟨⟩

theorem estopRelease : Statement .estopRelease := by
  rintro kind t x ⟨⟩

theorem supplyFailWarning : Statement .supplyFailWarning := by
  rintro kind t x ⟨⟩

theorem supplyFailRelease : Statement .supplyFailRelease := by
  rintro kind t x ⟨⟩

theorem tamperAssert (port : Side) : Statement (.tamperAssert port) := by
  rintro kind t x ⟨⟩

theorem readerReady (port : Side) : Statement (.readerReady port) := by
  rintro kind t x ⟨⟩

theorem readerReadyLoss (port : Side) : Statement (.readerReadyLoss port) := by
  rintro kind t x ⟨⟩

theorem lineLowTimeout (port : Side) (inFrame : Bool) : Statement (.lineLowTimeout port inFrame) := by
  rintro kind t x ⟨⟩

theorem readerStepTimeout (port : Side) : Statement (.readerStepTimeout port) := by
  rintro kind t x ⟨⟩

theorem backoffExpiry (port : Side) : Statement (.backoffExpiry port) := by
  rintro kind t x ⟨⟩

theorem readerGapTimeout (port : Side) : Statement (.readerGapTimeout port) := by
  rintro kind t x ⟨⟩

theorem readerFrameOverlength (port : Side) : Statement (.readerFrameOverlength port) := by
  rintro kind t x ⟨⟩

theorem readerRecordDiscarded (port : Side) (checkGood : Bool) (cls tag : Nat) (body : List Byte) : Statement (.readerRecordDiscarded port checkGood cls tag body) := by
  rintro kind t x ⟨⟩

theorem ability (port : Side) (tag : Nat) (revisions : BitVec 8) (maxBody : Nat) (features : BitVec 8) : Statement (.ability port tag revisions maxBody features) := by
  rintro kind t x ⟨⟩

theorem admitAck (port : Side) (tag : Nat) (revision : Nat) : Statement (.admitAck port tag revision) := by
  rintro kind t x ⟨⟩

theorem authGrant (port : Side) (tag : Nat) (reference : Nat) (grades : BitVec 8) (limitKind value : Nat) : Statement (.authGrant port tag reference grades limitKind value) := by
  rintro kind t x ⟨⟩

theorem authCancel (port : Side) (tag : Nat) (reference : Nat) : Statement (.authCancel port tag reference) := by
  rintro kind t x ⟨⟩

theorem saleCapture (port : Side) (tag : Nat) (number reference amount : Nat) : Statement (.saleCapture port tag number reference amount) := by
  rintro kind t x ⟨⟩

theorem readerRecord (port : Side) (cls tag : Nat) (body : List Byte) : Statement (.readerRecord port cls tag body) := by
  rintro kind t x ⟨⟩

theorem readerTransmissionEnd (port : Side) : Statement (.readerTransmissionEnd port) := by
  rintro kind t x ⟨⟩

theorem committedRefill (port : Side) : Statement (.committedRefill port) := by
  rintro kind t x ⟨⟩

theorem excessRefill (port : Side) : Statement (.excessRefill port) := by
  rintro kind t x ⟨⟩

theorem agingScan : Statement .agingScan := by
  rintro kind t x ⟨⟩

theorem refreshExpiry (side : Side) : Statement (.refreshExpiry side) := by
  rintro kind t x ⟨⟩

theorem displayEcho (side : Side) (sum : Byte) : Statement (.displayEcho side sum) := by
  rintro kind t x ⟨⟩

theorem echoTimeout (side : Side) : Statement (.echoTimeout side) := by
  rintro kind t x ⟨⟩

theorem testPhaseExpiry (side : Side) : Statement (.testPhaseExpiry side) := by
  rintro kind t x ⟨⟩

theorem temperatureSample (side : Side) (reading : Nat) : Statement (.temperatureSample side reading) := by
  rintro kind t x ⟨⟩

theorem supplyGood (side : Side) : Statement (.supplyGood side) := by
  rintro kind t x ⟨⟩

theorem supplyGoodLoss (side : Side) : Statement (.supplyGoodLoss side) := by
  rintro kind t x ⟨⟩

theorem supplyStageTimeout (side : Side) : Statement (.supplyStageTimeout side) := by
  rintro kind t x ⟨⟩

theorem permitHoldExpiry : Statement .permitHoldExpiry := by
  rintro kind t x ⟨⟩

theorem heatMaximumExpiry (side : Side) : Statement (.heatMaximumExpiry side) := by
  rintro kind t x ⟨⟩

theorem checkQuietExpiry (side : Side) : Statement (.checkQuietExpiry side) := by
  rintro kind t x ⟨⟩

theorem admitStageExpiry (side : Side) : Statement (.admitStageExpiry side) := by
  rintro kind t x ⟨⟩

theorem verifyWaitExpiry (side : Side) : Statement (.verifyWaitExpiry side) := by
  rintro kind t x ⟨⟩

theorem clockAdvance : Statement .clockAdvance := by
  rintro kind t x ⟨⟩

theorem writeAttemptEnd (readBack : ReadBack) : Statement (.writeAttemptEnd readBack) := by
  rintro kind t x ⟨⟩

theorem verifyJobEnd : Statement .verifyJobEnd := by
  rintro kind t x ⟨⟩

theorem slotWriteEnd : Statement .slotWriteEnd := by
  rintro kind t x ⟨⟩

theorem slotEraseEnd : Statement .slotEraseEnd := by
  rintro kind t x ⟨⟩

theorem linkGapTimeout : Statement .linkGapTimeout := by
  rintro kind t x ⟨⟩

theorem linkBadLength : Statement .linkBadLength := by
  rintro kind t x ⟨⟩

theorem linkBadCheck : Statement .linkBadCheck := by
  rintro kind t x ⟨⟩

theorem nonRequestFrame (kind : Nat) : Statement (.nonRequestFrame kind) := by
  rintro kind t x ⟨⟩

theorem unknownKindRequest (kind tag : Nat) : Statement (.unknownKindRequest kind tag) := by
  rintro kind t x ⟨⟩

theorem linkFrameSent : Statement .linkFrameSent := by
  rintro kind t x ⟨⟩

theorem identify (tag : Nat) (body : Body Unit) : Statement (.identify tag body) := by
  rintro kind t x ⟨⟩
  exact ⟨by decide, rfl⟩

theorem readStatus (tag : Nat) (body : Body Unit) : Statement (.readStatus tag body) := by
  rintro kind t x ⟨⟩
  exact ⟨by decide, rfl⟩

theorem readCounters (tag : Nat) (body : Body Nat) : Statement (.readCounters tag body) := by
  rintro kind t x ⟨⟩
  exact ⟨by decide, rfl⟩

theorem setConfig (tag : Nat) (body : Body ConfigFields) : Statement (.setConfig tag body) := by
  rintro kind t x ⟨⟩
  exact ⟨by decide, rfl⟩

theorem readConfig (tag : Nat) (body : Body Nat) : Statement (.readConfig tag body) := by
  rintro kind t x ⟨⟩
  exact ⟨by decide, rfl⟩

theorem readMeter (tag : Nat) (body : Body ReadMeterFields) : Statement (.readMeter tag body) := by
  rintro kind t x ⟨⟩
  exact ⟨by decide, rfl⟩

theorem setCalibration (tag : Nat) (switchClosed : Bool) (body : Body CalibrationFields) : Statement (.setCalibration tag switchClosed body) := by
  rintro kind t x ⟨⟩
  exact ⟨by decide, rfl⟩

theorem quote (tag : Nat) (body : Body QuoteFields) : Statement (.quote tag body) := by
  rintro kind t x ⟨⟩
  exact ⟨by decide, rfl⟩

theorem stagePrice (tag : Nat) (body : Body StagePriceFields) : Statement (.stagePrice tag body) := by
  rintro kind t x ⟨⟩
  exact ⟨by decide, rfl⟩

theorem commitPricesNow (tag : Nat) (body : Body Nat) : Statement (.commitPricesNow tag body) := by
  rintro kind t x ⟨⟩
  exact ⟨by decide, rfl⟩

theorem commitPricesAt (tag : Nat) (body : Body Nat) : Statement (.commitPricesAt tag body) := by
  rintro kind t x ⟨⟩
  exact ⟨by decide, rfl⟩

theorem readPrices (tag : Nat) (body : Body Nat) : Statement (.readPrices tag body) := by
  rintro kind t x ⟨⟩
  exact ⟨by decide, rfl⟩

theorem authorize (tag : Nat) (body : Body AuthorizeFields) : Statement (.authorize tag body) := by
  rintro kind t x ⟨⟩
  exact ⟨by decide, rfl⟩

theorem cancelAuth (tag : Nat) (body : Body Nat) : Statement (.cancelAuth tag body) := by
  rintro kind t x ⟨⟩
  exact ⟨by decide, rfl⟩

theorem suspend (tag : Nat) (body : Body Nat) : Statement (.suspend tag body) := by
  rintro kind t x ⟨⟩
  exact ⟨by decide, rfl⟩

theorem resume (tag : Nat) (body : Body Nat) : Statement (.resume tag body) := by
  rintro kind t x ⟨⟩
  exact ⟨by decide, rfl⟩

theorem stopFill (tag : Nat) (body : Body Nat) : Statement (.stopFill tag body) := by
  rintro kind t x ⟨⟩
  exact ⟨by decide, rfl⟩

theorem endSale (tag : Nat) (body : Body Nat) : Statement (.endSale tag body) := by
  rintro kind t x ⟨⟩
  exact ⟨by decide, rfl⟩

theorem openSide (tag : Nat) (body : Body Nat) : Statement (.openSide tag body) := by
  rintro kind t x ⟨⟩
  exact ⟨by decide, rfl⟩

theorem closeSide (tag : Nat) (body : Body Nat) : Statement (.closeSide tag body) := by
  rintro kind t x ⟨⟩
  exact ⟨by decide, rfl⟩

theorem readSide (tag : Nat) (body : Body Nat) : Statement (.readSide tag body) := by
  rintro kind t x ⟨⟩
  exact ⟨by decide, rfl⟩

theorem setNozzleMap (tag : Nat) (body : Body NozzleMapFields) : Statement (.setNozzleMap tag body) := by
  rintro kind t x ⟨⟩
  exact ⟨by decide, rfl⟩

theorem setGrade (tag : Nat) (body : Body GradeFields) : Statement (.setGrade tag body) := by
  rintro kind t x ⟨⟩
  exact ⟨by decide, rfl⟩

theorem readBlend (tag : Nat) (body : Body SideClearFields) : Statement (.readBlend tag body) := by
  rintro kind t x ⟨⟩
  exact ⟨by decide, rfl⟩

theorem listSales (tag : Nat) (body : Body Nat) : Statement (.listSales tag body) := by
  rintro kind t x ⟨⟩
  exact ⟨by decide, rfl⟩

theorem readSale (tag : Nat) (body : Body SaleFields) : Statement (.readSale tag body) := by
  rintro kind t x ⟨⟩
  exact ⟨by decide, rfl⟩

theorem settleSale (tag : Nat) (body : Body SaleFields) : Statement (.settleSale tag body) := by
  rintro kind t x ⟨⟩
  exact ⟨by decide, rfl⟩

theorem readTotals (tag : Nat) (body : Body Unit) : Statement (.readTotals tag body) := by
  rintro kind t x ⟨⟩
  exact ⟨by decide, rfl⟩

theorem readDisplay (tag : Nat) (body : Body Nat) : Statement (.readDisplay tag body) := by
  rintro kind t x ⟨⟩
  exact ⟨by decide, rfl⟩

theorem enableReader (tag : Nat) (body : Body Nat) : Statement (.enableReader tag body) := by
  rintro kind t x ⟨⟩
  exact ⟨by decide, rfl⟩

theorem disableReader (tag : Nat) (body : Body Nat) : Statement (.disableReader tag body) := by
  rintro kind t x ⟨⟩
  exact ⟨by decide, rfl⟩

theorem clearTamper (tag : Nat) (tamperAsserted : Bool) (body : Body Nat) : Statement (.clearTamper tag tamperAsserted body) := by
  rintro kind t x ⟨⟩
  exact ⟨by decide, rfl⟩

theorem readReader (tag : Nat) (tamperAsserted : Bool) (body : Body ReadReaderFields) : Statement (.readReader tag tamperAsserted body) := by
  rintro kind t x ⟨⟩
  exact ⟨by decide, rfl⟩

theorem setClass (tag : Nat) (body : Body ClassFields) : Statement (.setClass tag body) := by
  rintro kind t x ⟨⟩
  exact ⟨by decide, rfl⟩

theorem deleteClass (tag : Nat) (body : Body Nat) : Statement (.deleteClass tag body) := by
  rintro kind t x ⟨⟩
  exact ⟨by decide, rfl⟩

theorem sendToReader (tag : Nat) (body : Body SendFields) : Statement (.sendToReader tag body) := by
  rintro kind t x ⟨⟩
  exact ⟨by decide, rfl⟩

theorem goNight (tag : Nat) (body : Body Unit) : Statement (.goNight tag body) := by
  rintro kind t x ⟨⟩
  exact ⟨by decide, rfl⟩

theorem wake (tag : Nat) (body : Body Unit) : Statement (.wake tag body) := by
  rintro kind t x ⟨⟩
  exact ⟨by decide, rfl⟩

theorem setClock (tag : Nat) (body : Body Nat) : Statement (.setClock tag body) := by
  rintro kind t x ⟨⟩
  exact ⟨by decide, rfl⟩

theorem setSchedule (tag : Nat) (body : Body ScheduleFields) : Statement (.setSchedule tag body) := by
  rintro kind t x ⟨⟩
  exact ⟨by decide, rfl⟩

theorem readPower (tag : Nat) (body : Body Unit) : Statement (.readPower tag body) := by
  rintro kind t x ⟨⟩
  exact ⟨by decide, rfl⟩

theorem restart (tag : Nat) (body : Body Unit) : Statement (.restart tag body) := by
  rintro kind t x ⟨⟩
  exact ⟨by decide, rfl⟩

theorem powerSide (tag : Nat) (body : Body Nat) : Statement (.powerSide tag body) := by
  rintro kind t x ⟨⟩
  exact ⟨by decide, rfl⟩

theorem regionRead (region : Region) : Statement (.regionRead region) := by
  rintro kind t x ⟨⟩

end Sys2Proof.Laws.Catalogue
end

