-- ==== Sys2Proof/Tests/Slice0.lean ====
section
/-! SUPPORT. The model's own tests. First small states and the check that a state is at rest; then the smoke test of
well-formedness; then the spec's worked numbers; then, for every statement that has hypotheses, states and operands that meet
them, clause by clause. -/

namespace Sys2Proof.Tests

open Sys2Proof.Machine

set_option maxRecDepth 20000

/-! ### States to test on -/

/-- The state a command leaves. -/
def after (c : Instr) (s : State) : State :=
  match exec c s with
  | .next t => t
  | _ => s

/-- Nothing that could start waits, as a computation. -/
def settledB (s : State) : Bool :=
  decide (startDisplay .a s = s.display.a) && decide (startDisplay .b s = s.display.b) && decide (startBanks s = s) &&
    decide (startReader s .a = s.ports.a) && decide (startReader s .b = s.ports.b) && decide (s.link.startNext = s.link) &&
    decide (s.link.latches.follow (latchConditions s) = s.link.latches) && decide (s.changes = [])

/-- What the check says. -/
theorem settledB_iff (s : State) : settledB s = true ↔ Settled s := by
  unfold settledB
  simp only [Bool.and_eq_true, decide_eq_true_eq]
  constructor
  · rintro ⟨⟨⟨⟨⟨⟨⟨a, b⟩, c⟩, d⟩, e⟩, f⟩, g⟩, h⟩
    exact ⟨fun i => by cases i; exact a; exact b, c, fun i => by cases i; exact d; exact e, f, g, h⟩
  · rintro ⟨a, c, d, f, g, h⟩
    exact ⟨⟨⟨⟨⟨⟨⟨a .a, a .b⟩, c⟩, d .a⟩, d .b⟩, f⟩, g⟩, h⟩

/-- At rest, with no request in service. -/
def calm (s : State) : Bool := settledB s && decide (s.link.service = none)

/-- What the check says. -/
theorem calm_iff (s : State) : calm s = true ↔ Settled s ∧ Free s := by
  unfold calm
  rw [Bool.and_eq_true, settledB_iff, decide_eq_true_eq]
  rfl

/-- The latches follow the conditions of a state put together by hand. -/
def latched (s : State) : State := s.setLink { s.link with latches := s.link.latches.follow (latchConditions s) }

def fillA (f : Fill → Fill) (s : State) : State := s.setFill .a (f s.fill.a)
def fillB (f : Fill → Fill) (s : State) : State := s.setFill .b (f s.fill.b)
def portA (f : Port → Port) (s : State) : State := s.setPort .a (f s.ports.a)
def displayA (f : Display → Display) (s : State) : State := s.setDisplay .a (f s.display.a)
def supplyA (f : SidePower → SidePower) (s : State) : State := s.setSidePower .a (f s.sidePower.a)
def supplyB (f : SidePower → SidePower) (s : State) : State := s.setSidePower .b (f s.sidePower.b)
def blendA (f : Blend → Blend) (s : State) : State := s.setBlend .a (f s.blend.a)
def figuresA (f : Figures → Figures) (s : State) : State := s.setFigures .a (f s.figures.a)
def meterA (p : Product) (f : MeterChannel → MeterChannel) (s : State) : State :=
  s.setMeter { side := .a, product := p } (f (s.meter { side := .a, product := p }))
def storeBy (f : Store → Store) (s : State) : State := s.setStore (f s.store)
def linkBy (f : Link → Link) (s : State) : State := s.setLink (f s.link)
def powerBy (f : Power → Power) (s : State) : State := s.setPower (f s.power)
def modeBy (m : PartMode) (s : State) : State := s.setPower { s.power with mode := m }
def paramsBy (f : Params → Params) (s : State) : State := { s with params := f s.params }

/-- A region that has been read. -/
def read {α : Type} : RegionCell α := { state := .valid, stored := .unreadable }

/-- A part in RUN: both sides UP and IDLE on generation 1, grades 1 to 7 at 1,859 and 1,400 mil/L and grade 8 not sold, nozzles 1 to 3
of each side mapped to grades 1 to 3. -/
def ready : State :=
  let f : Fill := { Fill.reset (PerNozzle.all .hung) with
    state := .idle, closures := Closures.empty, map := { n1 := some .g1, n2 := some .g2, n3 := some .g3, n4 := none } }
  let d : Display := { Display.reset 372 with controller := .showing, refreshTimer := some 100 }
  let p : SidePower := { SidePower.reset with state := .up, supplyOn := true, supplyGood := true }
  let bank : Bank := { PerGrade.all { l1 := 1859, l2 := 1400 } with g8 := { l1 := 0, l2 := 0 } }
  { State.reset with
    fill := PerSide.both f, display := PerSide.both d, sidePower := PerSide.both p
    power := { State.reset.power with mode := .run, verification := .made .isMatch .isMatch }
    prices :=
      { active := bank, generation := 1, retained := none, staged := bank, sideGeneration := PerSide.both 1, schedule := none }
    store := { State.reset.store with
      cal := read, cfg := read, price := read, totals := read
      slots := PerSide.both { state := .erased, contents := .empty } }
    link := { Link.reset with tx := none } }

/-- A WAITING authorization of the host for grades 1 and 2 at level 1. -/
def auth : Auth :=
  { source := .link, reference := some 7, grades := 3, level := .l1, limit := none, phase := .waiting, acceptedAt := none }

/-- Side A AUTHORIZED. -/
def authorized : State := fillA (fun f => { f with state := .authorized, slot := some auth, authTimer := some 60000 }) ready

/-- The sale that side A's fills below run. -/
def sale : SaleContext :=
  { number := 1, nozzle := .n1, grade := .g1, source := .link, reference := some 7, limit := none, level := .l1, start := none
    stop := none, ended := none, running := true }

/-- Side A's figures opened with a target and a slow point. -/
def preset (target slow : Option Nat) (s : State) : State :=
  let o : Opened := { price := 1859, level := .l1, generation := 1, limit := none, target := target, slowPoint := slow }
  figuresA (fun g => { g with opened := some o }) s

/-- Side A in a fill state, on a pure grade. -/
def inFill (x : SideState) : State :=
  let f := fillA (fun f => { f with
    state := x, slot := some { auth with phase := .inUse }, sale := some sale, counted := some { nozzle := .n1, grade := some .g1 }
    nozzles := f.nozzles.set .n1 .up, demand := { lo := true, hi := false }, testDone := true }) ready
  let g := preset none none f
  let m := meterA .lo (fun c => { c with level1 := some false, level2 := some false, lastPair := some (false, false) }) g
  { blendA (fun b => { b with copy := some { share := 0, startDuty := 8, trim := true } }) m with
    motors := { m.motors with lo := { state := .running, relay := true, primeTimer := none } } }

/-- Side A FLOWING, its no-flow timer running. -/
def flowing : State :=
  { fillA (fun f => { f with noFlowTimer := some 60000 }) (inFill .flowing) with
    valves := { a := { lo := 15, hi := 0 }, b := { lo := 0, hi := 0 } } }

/-- Side A HELD for a reason. -/
def held (r : StopReason) : State := fillA (fun f => { f with sale := some { sale with stop := some r } }) (inFill .held)

/-- Side A in ENDING, both timers of ENDING running. -/
def ending : State :=
  fillA (fun f => { f with
    sale := some { sale with ended := some .hungUp }, quietTimer := some 2000, afterFlowTimer := some 10000 }) (inFill .ending)

/-- Port RA ADMITTED with revision 2 and both features. -/
def admitted : State :=
  portA (fun p => { p with
    state := .admitted, readyInput := true, terms := some { revision := 2, maxBody := 64, features := 3 }, committed := 16
    excess := 8, committedTimer := some 250, excessTimer := some 1000 }) ready

/-- Port RA NEGOTIATING at a step. -/
def negotiating (x : PortStep) : State :=
  portA (fun p => { p with state := .negotiating, step := some x, stepTimer := some 2000, readyInput := true }) ready

/-- A sale of a reader in side A's queue. -/
def queued : SaleRecord :=
  { number := 42, side := .a, nozzle := .n2, grade := .g2, level := .l2, price := 1859, generation := 1, volume := 1078, money := 2004
    lo := 1078, hi := 0, share := none, source := .reader, reference := some 70015
    limit := some { kind := .money, value := 2000 }, stop := some .target, ended := .hungUp, overrun := some 4, payable := 2000
    flags := { clamped := false, crossflow := false, restored := false, deliveryPending := false, undeliverable := false }
    start := none, endTime := none }

/-- That sale queued at side A. -/
def withSale (s : State) : State := { s with register := { s.register with queues := { s.register.queues with a := [queued] } } }

/-- The part in NIGHT, both sides OFF. -/
def night : State :=
  let off : SidePower := { SidePower.reset with state := .off }
  let d : Display := Display.reset 372
  let f (x : Fill) : Fill := { x with state := .closed, closures := { Closures.empty with night := true } }
  { modeBy .night (fillA f (fillB f ready)) with sidePower := PerSide.both off, display := PerSide.both d }

/-- The part LOADING with every region read. -/
def loaded : State := storeBy (fun t => { t with cal := read, cfg := read, price := read, totals := read })
  (linkBy (fun l => { l with tx := none }) State.reset)

/-- Meters of side A. -/
def aLo : Meter := { side := .a, product := .lo }
def aHi : Meter := { side := .a, product := .hi }

/-- A request in service. -/
def served (s : State) : State := linkBy (fun l => { l with
  service := some { kind := Kind.setConfig, tag := 3, fields := [], restart := false } }) s

theorem test_states_are_at_rest : calm ready = true ∧ calm authorized = true ∧ calm flowing = true ∧ calm (held .suspend) = true ∧
    calm ending = true ∧ calm admitted = true ∧ calm (withSale admitted) = true ∧ calm night = true ∧ calm loaded = true ∧
    settledB (served ready) = true ∧ settledB State.reset = true := by decide

/-! ### Well-formedness: one ill-formed command for each check -/

theorem test_good_commands : Instr.wellFormed (.powerOnReset { reading := 1023, tamper := false } { reading := 0, tamper := true } true) = true ∧
    Instr.wellFormed (.setConfig 255 (.fields { id := 255, value := -2147483648 })) = true ∧
    Instr.wellFormed (.readerRecord .a 0x40 255 []) = true ∧ Instr.wellFormed (.unknownKindRequest 0x5F 0) = true ∧
    Instr.wellFormed (.setClock 0 (.fields 4294967295)) = true ∧ Instr.wellFormed (.identify 0 .badLength) = true := by decide

theorem test_ill_formed_events : Instr.wellFormed (.powerOnReset { reading := 1024, tamper := false } { reading := 0, tamper := false } true) = false ∧
    Instr.wellFormed (.restartReset { reading := 0, tamper := false } { reading := 1024, tamper := false }) = false ∧ Instr.wellFormed (.temperatureSample .a 1024) = false ∧
    Instr.wellFormed (.phaseLevelTaken aLo none none) = false ∧
    Instr.wellFormed (.readerRecordDiscarded .a true 256 0 []) = false ∧
    Instr.wellFormed (.readerRecordDiscarded .a true 0 256 []) = false ∧
    Instr.wellFormed (.readerRecordDiscarded .a true 0 0 (List.replicate 201 0)) = false ∧
    Instr.wellFormed (.readerRecord .a 0x3F 0 []) = false ∧ Instr.wellFormed (.readerRecord .a 0x100 0 []) = false ∧
    Instr.wellFormed (.ability .a 256 0 0 0) = false ∧ Instr.wellFormed (.ability .a 0 0 256 0) = false ∧
    Instr.wellFormed (.admitAck .a 256 0) = false ∧ Instr.wellFormed (.admitAck .a 0 256) = false ∧
    Instr.wellFormed (.authGrant .a 0 4294967296 0 0 0) = false ∧ Instr.wellFormed (.authGrant .a 0 0 0 256 0) = false ∧
    Instr.wellFormed (.authGrant .a 0 0 0 0 16777216) = false ∧ Instr.wellFormed (.authCancel .a 0 4294967296) = false ∧
    Instr.wellFormed (.saleCapture .a 0 65536 0 0) = false ∧ Instr.wellFormed (.saleCapture .a 0 0 0 16777216) = false ∧
    Instr.wellFormed (.nonRequestFrame 0x5F) = false ∧ Instr.wellFormed (.nonRequestFrame 256) = false ∧
    Instr.wellFormed (.unknownKindRequest Kind.identify 0) = false ∧ Instr.wellFormed (.unknownKindRequest 0x60 0) = false := by
  decide

theorem test_ill_formed_requests : Instr.wellFormed (.identify 256 (.fields ())) = false ∧
    Instr.wellFormed (.readPrices 0 (.fields 256)) = false ∧
    Instr.wellFormed (.setConfig 0 (.fields { id := 256, value := 0 })) = false ∧
    Instr.wellFormed (.setConfig 0 (.fields { id := 0, value := 2147483648 })) = false ∧
    Instr.wellFormed (.readMeter 0 (.fields { meter := 0, clear := 256 })) = false ∧
    Instr.wellFormed (.setCalibration 0 true (.fields { meter := 0, weight := 65536, maxFlow := 0 })) = false ∧
    Instr.wellFormed (.quote 0 (.fields { grade := 0, level := 0, form := 0, value := 16777216 })) = false ∧
    Instr.wellFormed (.stagePrice 0 (.fields { grade := 0, level := 256, price := 0 })) = false ∧
    Instr.wellFormed (.commitPricesNow 0 (.fields 1)) = false ∧ Instr.wellFormed (.commitPricesAt 0 (.fields 16777216)) = false ∧
    Instr.wellFormed (.authorize 0 (.fields
      { side := 0, reference := some 4294967296, grades := 1, level := 1, limit := none })) = false ∧
    Instr.wellFormed (.authorize 0 (.fields
      { side := 0, reference := none, grades := 1, level := 1, limit := some { kind := 256, value := 0 } })) = false ∧
    Instr.wellFormed (.setNozzleMap 0 (.fields { side := 0, n1 := 0, n2 := 0, n3 := 0, n4 := 256 })) = false ∧
    Instr.wellFormed (.setGrade 0 (.fields { grade := 1, share := 65536, startDuty := 1, trim := 0 })) = false ∧
    Instr.wellFormed (.readBlend 0 (.fields { side := 256, clear := 0 })) = false ∧
    Instr.wellFormed (.settleSale 0 (.fields { side := 0, number := 65536 })) = false ∧
    Instr.wellFormed (.readReader 0 false (.fields { port := 0, selector := 256, clear := 0 })) = false ∧
    Instr.wellFormed (.setClass 0 (.fields
      { code := 0x40, direction := 0, maxBody := 0, weight := 1, essential := 0, asks := some 256, answer := 0 })) = false ∧
    Instr.wellFormed (.sendToReader 0 (.fields { port := 0, cls := 0x40, tag := 0, body := List.replicate 248 0 })) = false ∧
    Instr.wellFormed (.setClock 0 (.fields 4294967296)) = false ∧
    Instr.wellFormed (.setSchedule 0 (.fields { nightAt := some 16777216, wakeAt := none })) = false := by decide

/-! ### The spec's worked numbers -/

/-- R192: the CRC of the text "123456789", and the sum check of the display frame that closes chapter 12. -/
theorem test_checks : crc16 [0x31, 0x32, 0x33, 0x34, 0x35, 0x36, 0x37, 0x38, 0x39] = 0x29B1 ∧
    (let f : Frame := { plainFrame .normal with money := 7497, volume := 4033, price := 1859, decimal := 3, grade := 3 }
     f.bytes = [0x01, 0x00, 0x74, 0x97, 0x00, 0x40, 0x33, 0x30, 0x18, 0x59, 0x03, 0x00] ∧ f.sumCheck = 0x23) := by decide

/-- R192, R193: a QUOTE frame byte by byte, and the command read from it. -/
theorem test_frame : linkFrame Kind.quote 9 [3, 1, 0, 0x00, 0x0F, 0xC1] =
      [0xD5, 8, 0x0C, 9, 3, 1, 0, 0x00, 0x0F, 0xC1] ++ checkBytes [8, 0x0C, 9, 3, 1, 0, 0x00, 0x0F, 0xC1] ∧
    linkCommand false false (linkFrame Kind.quote 9 [3, 1, 0, 0x00, 0x0F, 0xC1]) =
      some (.quote 9 (.fields { grade := 3, level := 1, form := 0, value := 4033 })) ∧
    linkCommand false false (linkFrame Kind.quote 9 [3, 1]) = some (.quote 9 .badLength) := by decide

/-- Section 1.3: the 40th edge leaves the creep accumulator short of the limit, the 41st fires the alarm, and tells NIGHT_FLOW. -/
theorem test_creep : let weeping (n : Int) : State := meterA .lo (fun c =>
      { c with weight := 24987, creep := n * 24987, level1 := some false, level2 := some false, lastPair := some (false, false) }) night
    (let t := after (.phaseLevelTaken aLo none (some true)) (weeping 39)
     (t.meter aLo).creep = 999480 ∧ (t.meter aLo).creepFired = false ∧ t.link.tx = none) ∧
    (let t := after (.phaseLevelTaken aLo none (some true)) (weeping 40)
     (t.meter aLo).creep = 1024467 ∧ (t.meter aLo).creepFired = true ∧ t.sideMeters.a.nightLeak = true ∧
      t.link.tx = some (.notice (.nightFlow .a aLo 1024467)) ∧ t.sideState .a = .closed) := by decide

/-- Section 1.4: windows of 2.5 and 2.6 million vu, and the fourth expiry above the maximum flow. -/
theorem test_overspeed : let s (run : Nat) (w : Windows) : State := meterA .lo (fun c =>
      { c with windows := w, openWindow := 2600000, overspeedRun := run }) flowing
    (let t := after (.rateWindowExpiry aLo) (s 0 { w1 := 2500000, w2 := 2500000, w3 := 2500000, w4 := 2500000 })
     (t.meter aLo).rate = 6060 ∧ (t.meter aLo).overspeedRun = 1 ∧ t.sideState .a = .flowing) ∧
    (let t := after (.rateWindowExpiry aLo) (s 3 { w1 := 2500000, w2 := 2600000, w3 := 2600000, w4 := 2600000 })
     (t.meter aLo).rate = 6240 ∧ (t.meter aLo).overspeedRun = 0 ∧ t.sideState .a = .ending ∧
      (t.fill.a.sale.bind (fun c => c.ended)) = some (.fault .overspeed)) := by decide

/-- Section 1.5: a forward edge, an edge against the order, and a change of both phases. -/
theorem test_decoding : let s (last : Bool × Bool) (v : Int) : State := meterA .lo (fun c =>
      { c with weight := 25013, level1 := some last.1, level2 := some last.2, lastPair := some last, sale := v }) flowing
    ((after (.phaseLevelTaken aLo none (some true)) (s (false, false) 0)).meter aLo).sale = 25013 ∧
    ((after (.phaseLevelTaken aLo (some false) none) (s (true, true) 50026)).meter aLo).sale = 25013 ∧
    (let t := after (.phaseLevelTaken aLo (some false) (some false)) (s (true, true) 50026)
     (t.meter aLo).sale = 50026 ∧ (t.meter aLo).phaseErrors = 1 ∧ t.sideMeters.a.fillErrors = 1) := by decide

/-- Section 2.6: the blended sale, its final share (R85), and the same sale with the fractions over a centilitre. -/
theorem test_blended_sale :
    displayedVolume 403399794 = 4033 ∧ moneyOf 4033 1859 = 7497 ∧ recordedVolumes 4033 249870000 153529794 = (2498, 1535) ∧
    displayedVolume 403410000 = 4034 ∧ recordedVolumes 4034 249870000 153540000 = (2498, 1535) ∧
    finalShare 249870000 153529794 = some 381 := by decide

/-- Section 2.6: the money presets. -/
theorem test_money_presets : moneyTarget 2000 1859 = 1076 ∧ moneyOf 1076 1859 = 2000 ∧ moneyOf 1077 1859 = 2002 ∧
    slowPointOf 1076 40 = some 1036 ∧ moneyOf 1036 1859 = 1926 ∧ moneyTarget 2001 1859 = 1076 ∧ moneyTarget 2000 3 = 666833 ∧
    moneyOf 666834 3 = 2001 ∧ overrunOf (some { kind := .money, value := 2000 }) 1078 2004 = some 4 ∧
    payableOf (some { kind := .money, value := 2000 }) 1078 2004 1859 = 2000 := by decide

/-- Section 3.7: a price is staged and clamped; a commit keeps the bank of a side that fills. -/
theorem test_prices : let t := after (.stagePrice 1 (.fields { grade := 2, level := 1, price := 1899 })) ready
    bankPrice t.prices.staged .g2 .l1 = 1899 ∧ bankPrice t.prices.active .g2 .l1 = 1859 ∧
    bankPrice (after (.stagePrice 1 (.fields { grade := 5, level := 2, price := 120000 })) ready).prices.staged .g5 .l2 = 99999 ∧
    (let u := after (.commitPricesNow 1 (.fields 0)) flowing
     u.prices.generation = 2 ∧ u.prices.retained.map (fun r => r.generation) = some 1 ∧ u.prices.sideGeneration = { a := 1, b := 2 } ∧
      u.link.tx = some (.notice (.priceAdopted 2 false true (some 1))) ∧ u.link.service.isSome = true) := by decide

/-- Section 5.6: the shares of the windows W1, W2, W4 and W7, and the steps of the duty. -/
theorem test_blend : shareOf 1905000 5025000 = 379 ∧ shareOf 2010000 5010000 = 401 ∧ shareOf 1420000 5020000 = 283 ∧
    shareOf 1330000 5020000 = 265 ∧
    (let b : Blend := { Blend.reset with
       copy := some { share := 400, startDuty := 6, trim := true }, trimmed := some .hi, duty := some 6, ceiling := 15 }
     let w : BlendWindow := { kind := .settling, lo := 0, hi := 0, size := 5000000 }
     let x := b.evaluate Params.defaults w 3120000 1905000
     let y := b.evaluate Params.defaults { w with kind := .ordinary } 3630000 1390000
     x.duty = some 7 ∧ x.alarmCount = 0 ∧ y.duty = some 7 ∧ y.alarmCount = 1 ∧ y.alarms = 1) := by decide

/-- Section 7.5 (R114): the example readings. -/
theorem test_temperatures : temperatureOf 200 = some (-8) ∧ temperatureOf 248 = some 0 ∧ temperatureOf 0 = none ∧
    temperatureOf 1023 = none := by decide

/-- Section 8.7: 0x61 of weight 2 is green with 2 tokens, yellow and ESSENTIAL with none, red when the excess bucket is empty too. -/
theorem test_essential_flood :
    let entry : ClassEntry :=
      { code := 0x61, direction := .readerToLink, maxBody := 10, weight := 2, essential := true, asks := none, answer := false }
    let s (committed excess : Nat) : State :=
      { portA (fun p => { p with committed := committed, excess := excess }) admitted with classes := [entry] }
    (let t := after (.readerRecord .a 0x61 0 []) (s 2 8)
     t.ports.a.committed = 0 ∧ t.ports.a.excess = 8 ∧ t.ports.a.counters.forwarded = 1) ∧
    (let t := after (.readerRecord .a 0x61 0 []) (s 0 8)
     t.ports.a.committed = 0 ∧ t.ports.a.excess = 6 ∧ t.ports.a.counters.forwarded = 1) ∧
    (let t := after (.readerRecordDiscarded .a true 0x61 0 []) (s 0 0)
     t.ports.a.redMark = true ∧ t.ports.a.counters.rate = 1 ∧ t.ports.a.counters.forwarded = 0) := by decide

/-- Sections 6.3 and 9.6: who comes second finds the sale gone; an amount above the payable is refused. -/
theorem test_settling :
    (let t := after (.settleSale 1 (.fields { side := 0, number := 42 })) (withSale admitted)
     t.register.queues.a = [] ∧ t.register.totals = Totals.zero ∧
      (after (.saleCapture .a 0 42 70015 2000) t).ports.a.tx =
        some (.authState { kind := .captureRefused 42 .unknown, reference := 70015 })) ∧
    (after (.saleCapture .a 0 42 70015 2004) (withSale admitted)).ports.a.tx =
      some (.authState { kind := .captureRefused 42 .amount, reference := 70015 }) ∧
    (let t := after (.saleCapture .a 0 42 70015 2000) (withSale admitted)
     t.register.queues.a = [] ∧ t.ports.a.tx = some (.authState { kind := .captured 42 2000, reference := 70015 }) ∧
      t.link.tx = some (.notice (.saleSettled .a 42 (.reader 2000)))) := by decide

/-- Section 9.6: a grant at a CALLING side whose lift is allowed starts the fill in the same event, and STARTED is sent alone. -/
theorem test_grant_at_calling :
    let s : State := fillA (fun f => { f with
      state := .calling, nozzles := f.nozzles.set .n3 .up, map := { f.map with n3 := some .g2 }
      counted := some { nozzle := .n3, grade := some .g2 } })
      { admitted with register := { admitted.register with next := { admitted.register.next with a := 212 } } }
    let t := after (.authGrant .a 0 88406 2 1 2000) s
    calm s = true ∧ t.sideState .a = .starting ∧ t.fill.a.sale.map (fun c => c.number) = some 212 ∧
      t.ports.a.tx = some (.authState { kind := .started 212, reference := 88406 }) ∧ t.register.next.a = 213 ∧
      t.figures.a.opened.bind (fun o => o.target) = some (moneyTarget 2000 1400) := by decide

/-- A block has no instruction words: the table gives its rows no bits. -/
theorem test_no_words : decodeTableWord 8 0 = none := by decide

/-! ### One step each, family by family; what is expected is the rule named -/

/-- R55, R65: STARTING entry opens the sale and primes the motor of the one product the grade needs. -/
theorem test_lift_starts : let t := after (.nozzleLift .a .n1) authorized
    t.sideState .a = .starting ∧ t.motors.lo = { state := .priming, relay := true, primeTimer := some 1000 } ∧
      t.motors.hi.state = .off ∧ t.register.next.a = 2 ∧ t.valves.a = { lo := 0, hi := 0 } ∧ t.display.a.controller = .testing := by
  decide

/-- R49, R61: a hang-up of the counted nozzle of a flowing side is HUNG_UP, with the quiet time and 10 s of after-flow. -/
theorem test_hang_up_ends : let t := after (.nozzleHangUp .a .n1) flowing
    t.sideState .a = .ending ∧ t.fill.a.sale.bind (fun c => c.ended) = some .hungUp ∧ t.fill.a.counted = none ∧
      t.fill.a.quietTimer = some 2000 ∧ t.fill.a.afterFlowTimer = some 10000 ∧ t.valves.a = { lo := 0, hi := 0 } := by decide

/-- R63, R92, R97: the close queues the record and adds it to the totals. -/
theorem test_close : let t := after (.afterFlowExpiry .a) (figuresA (fun g => { g with displayed := 1, money := 2 })
      (meterA .lo (fun c => { c with sale := 100000 }) ending))
    t.sideState .a = .idle ∧ t.register.queues.a.map (fun r => (r.number, r.volume, r.money, r.lo)) = [(1, 1, 2, 1)] ∧
      t.register.totals.gradeVolume.g1 = 1 ∧ t.register.totals.gradeMoney.g1.l1 = 2 ∧ t.motors.lo.state = .off ∧
      t.fill.a.nozzles.n1 = .spent ∧ t.store.running.map (fun j => j.kind) = some .totalsWrite := by decide

/-- R68: the emergency stop ends a fill with fault ESTOP and closes a waiting side. -/
theorem test_estop : let t := after .estopAssert flowing
    t.sideState .a = .ending ∧ t.sideState .b = .closed ∧ t.motors.lo.state = .off ∧
      t.fill.a.sale.bind (fun c => c.ended) = some (.fault .estop) := by decide

/-- R70, R100: the warning closes a running sale with POWER_FAIL and the slot write takes its record. -/
theorem test_warning : let t := after .supplyFailWarning (meterA .lo (fun c => { c with sale := 100000 }) flowing)
    t.sideState .a = .closed ∧ t.register.queues.a.map (fun r => r.ended) = [.powerFail] ∧
      t.store.saving.map (fun x => (x.op, x.records.length)) = some ({ kind := .write, side := .a }, 1) := by decide

/-- R110: the second late echo of a side outside a fill fails the transfer and closes the side for DISPLAY. -/
theorem test_late_echo :
    let s (retry : Bool) : State := displayA (fun d => { d with
      transfer := some { frame := plainFrame .blank, retry := retry }, echoTimer := some 1 }) ready
    (after (.echoTimeout .a) (s false)).display.a.transfer = some { frame := plainFrame .blank, retry := true } ∧
      (after (.echoTimeout .a) (s true)).display.a.failed = 1 ∧ (after (.echoTimeout .a) (s true)).sideState .a = .closed := by decide

/-- R108: supply-good at a warm side sends the BLANK frame of STANDBY, and the ALL pattern of the check test waits for its end. -/
def goodAtWarm : State := after (.supplyGood .a)
  (supplyA (fun p => { p with state := .supply, supplyGood := false, stageTimer := some 2000 })
    (displayA (fun d => { d with controller := .unpowered, refreshTimer := none }) (modeBy .waking ready)))

theorem test_blank_on_standby :
    goodAtWarm.display.a.controller = .testing ∧ goodAtWarm.display.a.sent = 1 ∧
      goodAtWarm.display.a.transfer = some { frame := plainFrame .blank, retry := false } ∧
      (after (.displayEcho .a (plainFrame .blank).sumCheck) goodAtWarm).display.a.transfer =
        some { frame := plainFrame .all, retry := false } := by decide

/-- R109: GO_NIGHT at an IDLE side closes it, and the frame of that change is sent before the controller shuts. -/
theorem test_change_then_shut : let t := after (.goNight 1 (.fields ())) ready
    t.display.a.controller = .shutting ∧ t.display.a.sent = 1 ∧ t.display.a.transfer.map (fun x => x.frame.mode) = some .normal := by
  decide

/-- R48: a counted nozzle hung up at CALLING with another up: the side goes to IDLE and back to CALLING, and tells both. -/
theorem test_two_changes_at_a_hang_up :
    let s : State := fillA (fun f => { f with
      state := .calling, nozzles := (f.nozzles.set .n1 .up).set .n3 .up, counted := some { nozzle := .n1, grade := some .g1 } }) ready
    let t := after (.nozzleHangUp .a .n1) s
    (t.link.tx.toList.length + t.link.notices.length = 4) ∧
      t.link.notices.filter (fun n => match n with | .sideState .a _ _ _ _ => true | _ => false) =
        [.sideState .a .idle Closures.empty none none,
          .sideState .a .calling Closures.empty (some { nozzle := .n3, grade := some .g3 }) none] := by decide

/-- R157: with supply-good already asserted at the end of loading, the one POWER_STAGE notice carries AUTOSTART. -/
theorem test_autostart_cause : let t := after .loadingEnd (supplyA (fun p => { p with supplyGood := true }) loaded)
    (t.link.tx.map (fun x => match x with | .notice (.powerStage _ _ _ _ c _ _ _ _) => decide (c = .autostart) | _ => false) = some true
      ∨ t.link.notices.any (fun n => match n with | .powerStage _ _ _ _ c _ _ _ _ => decide (c = .autostart) | _ => false) = true) ∧
      t.sidePower.a.state ≠ .supply := by decide

/-- R93: a next sale number that a queued record holds is passed over, from 9,999 to 1. -/
theorem test_number_passed_over :
    let s : State := { ready with register := { ready.register with
      next := { a := 9999, b := 5 }, queues := { a := [{ queued with number := 9999 }, { queued with number := 1 }], b := [] } } }
    takenNumber s .a = 2 ∧ takenNumber s .b = 5 := by decide

/-- R80, R193: the last result's T takes four bytes, and the outcomes of a made result stand behind a presence byte. -/
theorem test_result_fields :
    fieldBytes (resultFields { total := 20059999, share := -1, error := -501 }) =
      [0x01, 0x32, 0x17, 0x5F, 0xFF, 0xFF, 0xFF, 0xFF, 0xFF, 0xFF, 0xFE, 0x0B] ∧
    fieldBytes (verificationFields (.made .isMatch .mismatch)) = [2, 1, 0, 1] ∧ fieldBytes (verificationFields .running) = [1, 0] := by
  decide

/-- R57, R84: the update that reaches the target of a blended side holds it and discards its window, though the window is at its size. -/
theorem test_stop_discards_window :
    let s : State := preset (some 1) none (blendA (fun b => { b with
      copy := some { share := 400, startDuty := 6, trim := true }, trimmed := some .hi, duty := some 6, ceiling := 15
      window := some { kind := .ordinary, lo := 0, hi := 0, size := 100000 } })
      (meterA .lo (fun c => { c with weight := 10000, sale := 90000 }) flowing))
    let t := after (.phaseLevelTaken aLo none (some true)) s
    t.sideState .a = .held ∧ t.blend.a.window = none ∧ t.blend.a.evaluated = 0 ∧ t.blend.a.lastResult = none := by decide

/-- R98, R103: the release adds the totals of a queued POWER_FAIL record once, and queues a TOTALS_WRITE. -/
theorem test_release_applies : let s : State := { ready with
      supplyFailInput := true
      register := { ready.register with warning := true, queues := { a := [{ queued with ended := .powerFail }], b := [] } } }
    let t := after .supplyFailRelease s
    t.register.totals.gradeVolume.g2 = 1078 ∧ t.register.totals.gradeMoney.g2.l2 = 2004 ∧
      t.register.queues.a.map (fun r => r.flags.restored) = [true] ∧ t.store.running.map (fun j => j.kind) = some .totalsWrite ∧
      (after .supplyFailRelease { t with supplyFailInput := true }).register.totals = t.register.totals := by decide

/-- R163: in NIGHT_PENDING the close of the last sale enters NIGHT with cause LAST_CLOSE. -/
theorem test_last_close : let t := after (.afterFlowExpiry .a) (modeBy .nightPending ending)
    t.power.mode = .night ∧ t.sidePower.a.state = .off ∧ t.sideState .a = .closed ∧
      t.link.notices.any (fun n => match n with | .powerStage .night _ _ _ c _ _ _ _ => decide (c = .lastClose) | _ => false) = true := by
  decide

/-- R169: an admission ends the ADMIT stage, and clears ATTENDED. -/
theorem test_admission_ends_stage :
    let terms : Terms := { revision := 2, maxBody := 32, features := 3 }
    let s (x : PowerState) (attended : Bool) : State := powerBy (fun p => { p with verification := .none })
      (supplyA (fun p => { p with state := x, attended := attended, stageTimer := some 10000 })
        (portA (fun p => { p with offered := some terms }) (negotiating .ackWait)))
    (after (.admitAck .a 0 2) (s .admitStage false)).sidePower.a.state = .verify ∧
      (after (.admitAck .a 0 2) (s .up true)).sidePower.a.attended = false := by decide

/-- R125: the first failed attempt waits 1 s, the seventh 32 s, and the eighth is FAILED. -/
theorem test_backoff : let t (n : Nat) : Port :=
      (after (.readerStepTimeout .a) (portA (fun p => { p with failures := n }) (negotiating .ackWait))).ports.a
    (t 0).backoffTimer = some 1000 ∧ (t 5).backoffTimer = some 32000 ∧ (t 6).backoffTimer = some 32000 ∧ (t 7).state = .failed := by
  decide

/-- R163, R164: into NIGHT and out of it. -/
theorem test_night_and_wake : let t := after (.goNight 1 (.fields ())) ready
    let u := after (.wake 1 (.fields ())) night
    t.power.mode = .night ∧ t.sideState .a = .closed ∧ t.display.a.controller = .shutting ∧ t.sidePower.a.supplyOn = true ∧
      u.power.mode = .waking ∧ u.power.holder = some .a ∧ u.power.waiting = [.b] ∧ u.sidePower.a.state = .supply ∧
      u.sidePower.b.state = .off := by decide

/-- R160: the clock runs modulo 2^32. -/
theorem test_clock_wraps :
    (after .clockAdvance { ready with clock := { value := 4294967295, valid := true, second := some 1 } }).clock.value = 0 := by decide

/-- R178: a mismatch is written again, a second one fails the region, and contents that are the image already match. -/
theorem test_rewrite :
    let job (r : Bool) : RunningJob :=
      { kind := .priceWrite, serves := false, image := some (.price { generation := 1, bank := Bank.zero }), rewrite := r, timer := some 1 }
    let s (r : Bool) : State := storeBy (fun t => { t with running := some (job r) }) ready
    (after (.writeAttemptEnd .damaged) (s false)).store.running.map (fun j => j.rewrite) = some true ∧
      (after (.writeAttemptEnd .damaged) (s true)).store.price.state = .failed ∧
      (after (.writeAttemptEnd .unchanged) (s true)).store.price.state = .failed ∧
      (let same := storeBy (fun t => { t with price := { t.price with stored := .image { generation := 1, bank := Bank.zero } } }) (s false)
       (after (.writeAttemptEnd .unchanged) same).store.running = none) ∧
      (after (.writeAttemptEnd .damaged) (s true)).link.tx = some (.notice (.fault none .store none none (some .price) none)) := by decide

/-- R159, R165: the end of loading begins both bring-ups, A first to the permit, or with AUTOSTART off goes to NIGHT. -/
theorem test_loading_end : let t := after .loadingEnd loaded
    let u := after .loadingEnd (paramsBy (fun c => { c with autostart := 0 }) loaded)
    t.power.mode = .waking ∧ t.sideState .a = .closed ∧ t.sidePower.a.state = .supply ∧ t.sidePower.b.bringUp = true ∧
      t.store.slots.a.state = .erased ∧ u.power.mode = .night ∧ u.sidePower.a.state = .off := by decide

/-- R144, R158, R182: after power-on the part is LOADING, what the store holds is kept, and a tamper input found asserted is taken. -/
theorem test_power_on : let t := after (.powerOnReset { reading := 200, tamper := true } { reading := 372, tamper := false } true) flowing
    t.power.mode = .loading ∧ t.sideState .a = .closed ∧ t.display.a.temperature = some (-8) ∧ t.store.cal.state = .unread ∧
      t.fill.a.nozzles.n1 = .up ∧ t.prices.generation = 0 ∧ t.ports.a.state = .tampered ∧ t.ports.b.state = .disabled := by decide

/-- R186, R187: a notice sent makes way for the next, and the reply goes first. -/
theorem test_transmitter :
    let r : Reply := { kind := Kind.identify, tag := 1, status := .ok, fields := [] }
    let s : State := linkBy (fun l => { l with tx := some (.notice (.saveLost .a)), replySlot := some r, notices := [.saveLost .b] }) ready
    let t := after .linkFrameSent s
    t.link.tx = some (.reply r) ∧ (after .linkFrameSent t).link.tx = some (.notice (.saveLost .b)) ∧
      t.link.counters.noticesSent = 1 := by decide

/-- Every step of the front command is exec of it, and an idle step lets a millisecond pass. -/
theorem test_step : (match step { authorized with pending := [.nozzleLift .a .n1, .agingScan] } with
      | .next t => decide (t.pending = [.agingScan]) && decide (t.sideState .a = .starting)
      | _ => false) = true ∧
    (match step authorized with
      | .next t => decide (t.fill.a.authTimer = some 59999)
      | _ => false) = true := by decide

/-! ### Witnesses: the machine and the link -/

theorem witness_StepTakesTheFrontCommand :
    ({ ready with pending := [.clockAdvance, .agingScan] } : State).pending = [.clockAdvance, .agingScan] := rfl

theorem witness_AnEmptyQueuePassesAMillisecond : ready.pending = [] ∧ State.reset.pending = [] := ⟨rfl, rfl⟩

/-- Each invariant holds of a state in use and of the state its step leaves. -/
theorem witness_EveryStepKeeps :
    let s : State := { flowing with
      pending := [.suspend 1 (.fields 0)]
      conversations := [] }
    let t : State := after (.suspend 1 (.fields 0)) { s with pending := [] }
    (match step s with | .next u => decide (u = t) | _ => false) = true ∧ settledB s = true ∧ settledB t = true ∧ s.valves.b = { lo := 0, hi := 0 } ∧
      (s.sideState .a).isOpen = true ∧ (s.sideState .b).isOpen = false ∧
      s.motors.lo = { state := .running, relay := true, primeTimer := none } ∧
      s.motors.hi = { state := .off, relay := false, primeTimer := none } ∧
      s.filling .a = true ∧ s.sideState .b = .idle ∧ s.fill.b.closures.isEmpty = true ∧
      s.link.notices.length ≤ 32 ∧ s.link.lost ≤ 65535 := by decide

/-- The invariants hold, as the statements spell them, of a state with a fill, and a step leads on from it. -/
theorem witness_Invariants : Settled flowing ∧ ValvesShut flowing ∧ MotorsSound flowing ∧ ClosuresSound flowing ∧
    NoticesBounded flowing ∧ ConversationsSound flowing ∧ ∃ t, step { flowing with pending := [.estopAssert] } = .next t := by
  refine ⟨(settledB_iff _).1 (by decide), fun i => ?_, fun p => ?_, fun i => ?_, by unfold NoticesBounded; decide, ?_, ⟨_, rfl⟩⟩
  · cases i <;> decide
  · unfold Motor.sound; cases p <;> decide
  · cases i <;> decide
  · unfold ConversationsSound; decide

theorem witness_EveryStepKeepsConversationsSound :
    let s : State := { admitted with conversations := [{ port := .a, tag := 1, answer := 0x41, age := true }] }
    settledB s = true ∧ (∀ c ∈ s.conversations, (s.ports.get c.port).state = .admitted) ∧
      s.conversations.length ≤ 16 := by decide

theorem witness_EncodedRequestsDecodeToThemselves :
    let c : Instr := .sendToReader 255 (.fields { port := 255, cls := 255, tag := 255, body := [0x12, 0x34] })
    Instr.wellFormed c = true ∧ encodeRequest c = some (Kind.sendToReader, [255, 255, 255, 0x12, 0x34]) := by decide

theorem witness_NoticesQueueInOrder :
    let n : Notice := .saveLost .a
    let l (k lost : Nat) : Link := { Link.reset with notices := List.replicate k n, lost := lost }
    32 ≤ (l 32 65535).notices.length ∧ (l 31 0).notices.length < 32 ∧ (l 31 0).lost = 0 ∧ (l 30 1).notices.length < 31 ∧
      0 < (l 30 1).lost ∧ (l 31 1).notices.length = 31 ∧ 0 < (l 31 1).lost := by decide

theorem witness_ASentFrameMakesWayForTheNext :
    let n : Notice := .saveLost .a
    let r : Reply := { kind := Kind.identify, tag := 1, status := .busy, fields := [] }
    let s (reply busy : Option Reply) (l : List Notice) : State :=
      linkBy (fun k => { k with tx := some (.notice n), replySlot := reply, busySlot := busy, notices := l }) ready
    settledB (s (some r) (some r) [n]) = true ∧ settledB (s none (some r) [n]) = true ∧ settledB (s none none [n]) = true ∧
      settledB (s none none []) = true ∧ (s none none []).link.tx = some (.notice n) := by decide

theorem witness_BadFramesAndRequestsAreTurnedAway : calm ready = true ∧
    requestParts (.readSide 1 .badLength) = some (Kind.readSide, 1, .badLength) ∧
    requestParts (.authorize 1 .unreadable) = some (Kind.authorize, 1, .unreadable) ∧
    (1 ≤ 0x5F ∧ 0x5F < 0x60 ∧ 0x5F ∉ Kind.catalogue) ∧ (0x60 ≤ 0x60) := by decide

theorem witness_ARequestInServiceMakesOthersBusy :
    let r : Reply := { kind := Kind.identify, tag := 1, status := .busy, fields := [] }
    let full : State := linkBy (fun l => { l with tx := some (.notice (.saveLost .a)), busySlot := some r }) (served ready)
    settledB (served ready) = true ∧ (served ready).link.service ≠ none ∧ (served ready).link.busySlot = none ∧
      settledB full = true ∧ full.link.service ≠ none ∧ full.link.busySlot ≠ none ∧
      requestParts (.identify 9 (.fields ())) = some (Kind.identify, 9, .readable) ∧
      (1 ≤ 0x5F ∧ 0x5F < 0x60 ∧ 0x5F ∉ Kind.catalogue) := by decide

theorem witness_ReadOutsReportWhatStands :
    let kept : State := { ready with prices := { ready.prices with retained := some { generation := 65535, bank := Bank.zero } } }
    calm ready = true ∧ calm kept = true ∧ kept.prices.retained.isSome = true ∧ ready.prices.retained = none ∧
      findSale (withSale ready) .a 42 = some queued ∧ calm (withSale ready) = true ∧ findSale (withSale ready) .a 1 = none ∧
      findSale (withSale ready) .a 9999 = none ∧ Param.ofId 255 = none := by decide

theorem witness_SettingAParameter : calm ready = true ∧ ready.power.mode ≠ .loading ∧
    (calm State.reset = true ∧ State.reset.power.mode = .loading ∧ State.reset.store.cfg.state = .unread) ∧
    (calm loaded = true ∧ loaded.power.mode = .loading ∧ loaded.store.cfg.state ≠ .unread) ∧
    (((ready.register.queues.get .a).length : Int) + boolNat ready.fill.a.slot.isSome ≤ max 1 (min 2 1)) ∧
    (((ready.register.queues.get .b).length : Int) + boolNat ready.fill.b.slot.isSome ≤ max 1 (min 2 1)) ∧
    (let s := withSale authorized
     calm s = true ∧ max 1 (min 2 (1 : Int)) < ((s.register.queues.get .a).length : Int) + boolNat s.fill.a.slot.isSome) ∧
    Param.ofId 0 = none ∧ Param.ofId 255 = none := by decide

/-! ### Witnesses: meters -/

/-- A meter of side A whose phases both stand at 0. -/
def metered (f : MeterChannel → MeterChannel) (s : State) : State :=
  meterA .lo (fun c => f { c with level1 := some false, level2 := some false, lastPair := some (false, false) }) s

theorem witness_PairsAreFormedAndDecoded : settledB ready = true ∧ (ready.meter aLo).lastPair = none := by decide

theorem witness_AnEdgeOutsideAFillCreeps :
    let unread : State := storeBy (fun t => { t with cal := RegionCell.reset .unreadable }) (metered id ready)
    let below : State := metered (fun c => { c with weight := 10000, creep := 989999 }) ready
    let at' : State := metered (fun c => { c with weight := 10000, creep := 990000 }) ready
    let dark : State := metered (fun c => { c with weight := 10000, creep := 990000 }) night
    let seen : State := latched { dark with sideMeters := { dark.sideMeters with a := { dark.sideMeters.a with nightLeak := true } } }
    let here (s : State) : Bool := settledB s && decide (s.filling .a = false) &&
      decide ((s.meter aLo).lastPair = some (false, false)) &&
      decide (((s.meter aLo).take none (some true)).pair = some (false, true))
    decodePair (false, false) (false, true) = some .forward ∧ decodePair (false, false) (true, false) = some .reverse ∧
    (here unread = true ∧ unread.store.cal.state = .unread) ∧
    (here below = true ∧ below.store.cal.state ≠ .unread ∧
      |(below.meter aLo).creep + (below.meter aLo).weight| < below.params.creepLimit * 100000) ∧
    (here at' = true ∧ (at'.meter aLo).creepFired = false ∧ 0 < (at'.meter aLo).weight ∧
      at'.params.creepLimit * 100000 ≤ |(at'.meter aLo).creep + (at'.meter aLo).weight| ∧
      at'.sidePower.a.state ∈ [PowerState.admitStage, .verify, .up, .downFault]) ∧
    (here dark = true ∧ dark.store.cal.state ≠ .unread ∧ dark.sidePower.a.state ∈ [PowerState.off, .supply, .heat, .check] ∧
      dark.sideMeters.a.nightLeak = false) ∧
    (let back : State := metered (fun c => { c with weight := 10000, creep := -990000 }) ready
     settledB back = true ∧ back.filling .a = false ∧ (back.meter aLo).lastPair = some (false, false) ∧
      ((back.meter aLo).take (some true) none).pair = some (true, false) ∧ (back.meter aLo).creepFired = false ∧
      back.params.creepLimit * 100000 ≤ |(back.meter aLo).creep - (back.meter aLo).weight|) ∧
    (here seen = true ∧ seen.sideMeters.a.nightLeak = true) := by decide

/-- What the statements on the edges of a fill ask for, but for the figures. -/
def soldB (s : State) : Bool :=
  settledB s && s.filling .a && decide ((s.meter aLo).lastPair = some (false, false)) &&
    decide (((s.meter aLo).take none (some true)).pair = some (false, true)) && decide (s.store.cal.state ≠ .unread) &&
    decide (0 < (s.meter aLo).weight) && decide ((s.meter aLo).sale + (s.meter aLo).weight ≤ 549755813887) &&
    decide (-549755813888 ≤ (s.meter aLo).sale) && decide (-(s.params.reverseLimit * 100000) < (s.meter aLo).sale)

theorem witness_AnEdgeInAFillIsSold :
    let top : State := metered (fun c => { c with sale := 549755813887 }) flowing
    soldB flowing = true ∧ settledB top = true ∧ top.filling .a = true ∧
      (top.meter aLo).lastPair = some (false, false) ∧
      max (-549755813888) (min 549755813887 ((top.meter aLo).sale + (top.meter aLo).weight)) = (top.meter aLo).sale ∧
      (flowing.fill.a.state.isOpen = true ∧ (after (.phaseLevelTaken aLo none (some true)) flowing).fill.a.state.isOpen = true) ∧
      (settledB (metered id ending) = true ∧ (metered id ending).fill.a.state = .ending) := by decide

theorem witness_AVolumeUpdateStopsTheFill :
    let s (target slow : Option Nat) (sold : Int) (x : SideState) : State := fillA (fun f => { f with state := x })
      (preset target slow (metered (fun c => { c with weight := 10000, sale := sold }) flowing))
    let g (t : State) : Figures := (t.figures.get .a).recompute ((t.meter aLo).sale + (t.meter aLo).weight) (t.meters.get .a).hi.sale
    let here (t : State) : Bool := soldB t && decide ((t.blend.get .a).window = none) && decide ((t.blend.get .a).unused ≠ some .lo)
    let blended (t : State) : State := blendA (fun b => { b with
      copy := some { share := 400, startDuty := 6, trim := true }, trimmed := some .hi, duty := some 6, ceiling := 15
      window := some { kind := .ordinary, lo := 0, hi := 0, size := 100000 } }) t
    let open' (t : State) : Bool := soldB t && decide (t.sideState .a = .flowing) && decide ((t.blend.get .a).window.isSome = true) &&
      decide ((t.blend.get .a).unused ≠ some .lo)
    (open' (blended (s (some 1) none 90000 .flowing)) = true ∧ (g (blended (s (some 1) none 90000 .flowing))).targetReached = true) ∧
    (open' (blended (s none none 99899990000 .flowing)) = true ∧ (g (blended (s none none 99899990000 .flowing))).limitReached = true) ∧
    (open' (blended (s (some 50) (some 10) 990000 .flowing)) = true ∧ (g (blended (s (some 50) (some 10) 990000 .flowing))).slowPassed = true) ∧
    (here (s (some 1) none 90000 .slowing) = true ∧ (g (s (some 1) none 90000 .slowing)).targetReached = true) ∧
    (here (s none none 99899990000 .flowing) = true ∧ (g (s none none 99899990000 .flowing)).limitReached = true) ∧
    (here (s (some 50) (some 10) 990000 .flowing) = true ∧ (g (s (some 50) (some 10) 990000 .flowing)).targetReached = false ∧
      (g (s (some 50) (some 10) 990000 .flowing)).limitReached = false ∧
      (g (s (some 50) (some 10) 990000 .flowing)).slowPassed = true) ∧
    (here (s (some 50) (some 10) 980000 .flowing) = true ∧ (g (s (some 50) (some 10) 980000 .flowing)).slowPassed = false ∧
      (g (s (some 50) (some 10) 980000 .flowing)).targetReached = false ∧
      (g (s (some 50) (some 10) 980000 .flowing)).limitReached = false) := by decide

/-- The second part: REVERSE and CROSSFLOW, in a fill before ENDING and in ENDING. -/
theorem witness_AVolumeUpdateRaisesFaults :
    let s (x : SideState) (share : Nat) (sold : Int) : State := fillA (fun f => { f with state := x })
      (blendA (fun b => { b with copy := some { share := share, startDuty := 8, trim := true } })
        (metered (fun c => { c with weight := 10000, sale := sold }) flowing))
    let e (share : Nat) (sold : Int) : State := blendA (fun b => { b with copy := some { share := share, startDuty := 8, trim := true } })
      (metered (fun c => { c with weight := 10000, sale := sold }) ending)
    let here (t : State) : Bool := settledB t && t.filling .a && decide ((t.meter aLo).lastPair = some (false, false)) &&
      decide (((t.meter aLo).take (some true) none).pair = some (true, false)) && decide (t.store.cal.state ≠ .unread)
    let back (t : State) : Bool := decide ((t.meter aLo).sale - (t.meter aLo).weight ≤ -(t.params.reverseLimit * 100000)) &&
      decide (t.sideMeters.a.reverseRaised = false)
    let cross (t : State) : Bool := decide (t.blend.a.unused = some .lo) && decide (t.blend.a.crossflowRaised = false) &&
      decide (t.params.crossflowLimit * 100000 ≤ (t.meter aLo).sale + (t.meter aLo).weight) && decide (t.blend.a.window = none)
    let low (t : State) : Int := -(t.params.reverseLimit * 100000)
    let high (t : State) : Int := t.params.crossflowLimit * 100000 - 10000
    (here (s .flowing 0 (low ready + 10000)) = true ∧ back (s .flowing 0 (low ready + 10000)) = true) ∧
    (here (e 0 (low ready + 10000)) = true ∧ back (e 0 (low ready + 10000)) = true ∧ (e 0 0).sideState .a = .ending) ∧
    (here (s .slowing 1000 (high ready)) = true ∧ cross (s .slowing 1000 (high ready)) = true) ∧
    (here (e 1000 (high ready)) = true ∧ cross (e 1000 (high ready)) = true) := by decide

theorem witness_PhaseErrorsAreCounted :
    let s (n : Nat) (raised : Bool) : State :=
      { flowing with sideMeters := { flowing.sideMeters with a := { flowing.sideMeters.a with fillErrors := n, pulserRaised := raised } } }
    let here (t : State) : Bool := settledB t && decide ((t.meter aLo).lastPair = some (false, false)) &&
      decide (((t.meter aLo).take (some true) (some true)).pair = some (true, true))
    decodePair (false, false) (true, true) = some .error ∧
    (here (metered id ready) = true ∧ (metered id ready).filling .a = false) ∧
    (here (s 7 false) = true ∧ (s 7 false).filling .a = true ∧ ((min (7 + 1) 65535 : Nat) : Int) ≤ (s 7 false).params.phaseErrorLimit) ∧
    (here (s 65535 true) = true ∧ (s 65535 true).sideMeters.a.pulserRaised = true) ∧
    (here (s 8 false) = true ∧ (s 8 false).params.phaseErrorLimit < (min (8 + 1) 65535 : Nat) ∧
      ((s 8 false).sideState .a).beforeEnding = true) := by decide

theorem witness_RateWindowsGiveRateAndOverspeed :
    let s (run : Nat) (sum : Int) : State := metered (fun c => { c with overspeedRun := run, openWindow := sum }) flowing
    let rate (x : Int) : Nat := (Int.floor ((x * 60 : Int) / (100000 : Rat))).toNat
    (settledB (s 2 10000000) = true ∧ (s 2 10000000).meters.a.lo.maxFlow = 6000 ∧ rate 10000000 = 6000 ∧ rate 10001667 = 6001) ∧
    (settledB (s 2 10001667) = true ∧ ((s 2 10001667).sideState .a).isOpen = true ∧ (s 2 10001667).meters.a.lo.overspeedRun < 3) ∧
    (settledB (s 3 10001667) = true ∧ 3 ≤ (s 3 10001667).meters.a.lo.overspeedRun) := by decide +kernel

theorem witness_CalibrationIsGuardedAndWritten : calm ready = true ∧ ready.power.mode ≠ .loading ∧ ready.anyFilling = false ∧
    (calm State.reset = true ∧ State.reset.power.mode = .loading ∧ State.reset.store.cal.state = .unread) ∧
    calm flowing = true ∧ flowing.anyFilling = true ∧ meterNumber { side := .b, product := .hi } = 3 ∧
    (4 ≤ 4 ∨ 999 < 1000) := by decide

theorem witness_BlendWindowsTrimAndAlarm :
    let entry : GradeEntry := { share := 400, startDuty := 6, trim := true }
    let s (kind : WindowKind) (count : Nat) (size : Int) (duty : Nat) : State :=
      { blendA (fun b => { b with
          copy := some entry, trimmed := some .hi, duty := some duty, ceiling := 15, alarmCount := count
          window := some { kind := kind, lo := 0, hi := 0, size := size } })
          (metered (fun c => { c with weight := 10000, sale := 4990000 }) flowing) with valves := { a := { lo := 15, hi := duty }, b := { lo := 0, hi := 0 } } }
    let here (t : State) : Bool := soldB t && decide (t.sideState .a = .flowing)
    let g (t : State) : Figures := (t.figures.get .a).recompute ((t.meter aLo).sale + (t.meter aLo).weight) (t.meters.get .a).hi.sale
    let quiet (t : State) : Bool := !(g t).targetReached && !(g t).limitReached && !(g t).slowPassed
    -- below the window's size; at its size, a trim up, at the ceiling, and the alarm that is the fault
    (here (s .settling 0 5000001 6) = true ∧ quiet (s .settling 0 5000001 6) = true) ∧
    (here (s .settling 0 5000000 6) = true ∧ quiet (s .settling 0 5000000 6) = true) ∧
    (here (s .ordinary 0 5000000 15) = true ∧ quiet (s .ordinary 0 5000000 15) = true) ∧
    (here (s .ordinary 2 5000000 6) = true ∧ (s .ordinary 2 5000000 6).params.blendFaultCount ≤ 2 + 1 ∧
      0 ≤ (s .ordinary 2 5000000 6).params.trimTolerance) := by decide

/-! ### Witnesses: prices -/

theorem witness_SaleArithmeticIsExact : (100 ≤ 100 ∧ 1 ≤ 99999 ∧ moneyTarget 100 99999 = 1) ∧
    (999000 ≤ 999000 ∧ moneyTarget 999000 1 = 999000) ∧ moneyTarget 2000 2 = 999000 ∧ moneyTarget 2000 3 < 999000 ∧
    moneyOf 666833 3 ≤ 2000 ∧ 2000 < moneyOf 666834 3 ∧ |(-60000 : Int)| ≤ 60000 := by decide

theorem witness_QuotingStagingAndSchedulingPrices :
    let unpriced : State := { ready with prices := { ready.prices with generation := 0 } }
    let due : State := { ready with prices := { ready.prices with schedule := some 86399 } }
    let kept : State := { ready with prices := { ready.prices with retained := some { generation := 65535, bank := Bank.zero } } }
    let timed : State := { ready with clock := { value := 0, valid := true, second := some 1000 } }
    (calm ready = true ∧ ready.prices.generation ≠ 0 ∧ bankPrice ready.prices.active .g1 .l1 ≠ 0 ∧
      bankPrice ready.prices.active .g8 .l1 = 0 ∧ ready.prices.schedule = none ∧ ready.power.mode ≠ .loading ∧
      ready.clock.valid = false) ∧
    (calm State.reset = true ∧ State.reset.power.mode = .loading ∧ State.reset.store.price.state = .unread) ∧
    (calm unpriced = true ∧ unpriced.prices.generation = 0) ∧ (calm due = true ∧ due.prices.schedule ≠ none) ∧
    (calm kept = true ∧ kept.prices.retained ≠ none) ∧ (calm timed = true ∧ timed.clock.valid = true) := by decide

theorem witness_CommitsChangeTheBanks :
    let s (value : BitVec 32) (schedule : Option Nat) : State :=
      { ready with
        clock := { value := value, valid := true, second := some 1000 }, prices := { ready.prices with schedule := schedule } }
    (settledB (s 86399 (some 0)) = true ∧ ((s 86399 (some 0)).clock.value + 1).toNat % 86400 = 0 ∧
      (s 86399 (some 0)).power.nightAt ≠ some 0 ∧ (s 86399 (some 0)).power.wakeAt ≠ some 0) ∧
    (settledB (s 4294967295 none) = true ∧ ((s 4294967295 none).clock.value + 1).toNat % 86400 = 0) ∧
    (calm State.reset = true ∧ State.reset.power.mode = .loading ∧ State.reset.store.price.state = .unread) ∧
    (calm flowing = true ∧ flowing.prices.retained = none ∧ flowing.power.mode ≠ .loading) ∧ Room 1 flowing := by
  refine ⟨by decide, by decide, by decide, by decide, by unfold Room; decide⟩

/-! ### Witnesses: fills -/

theorem witness_NozzlesAreCounted :
    let up (s : State) : State :=
      fillA (fun f => { f with nozzles := f.nozzles.set .n1 .up, counted := some { nozzle := .n1, grade := some .g1 } }) s
    let calling : State := fillA (fun f => { f with state := .calling }) (up ready)
    let two : State := fillA (fun f => { f with nozzles := f.nozzles.set .n3 .up }) calling
    -- a lift: up already; counted; a second nozzle; an unmapped one
    (settledB ready = true ∧ ready.fill.a.nozzles.get .n4 = .hung ∧ ready.fill.a.counted = none ∧ ready.fill.a.state ≠ .authorized ∧
      ready.power.mode ≠ .night ∧ (ready.fill.a.map.get .n1).isSome = true ∧ (ready.fill.a.map.get .n4).isSome = false) ∧
    (settledB calling = true ∧ calling.fill.a.nozzles.get .n1 ≠ .hung ∧ calling.fill.a.nozzles.get .n2 = .hung ∧
      calling.fill.a.counted ≠ none) ∧
    -- a hang-up: of the only nozzle; of one that does not count; with another up
    (calling.fill.a.counted = some { nozzle := .n1, grade := some .g1 } ∧ calling.fill.a.state.isFill = false ∧
      ∀ m ∈ allNozzles, (calling.fill.a.nozzles.set .n1 .hung).get m ≠ .up) ∧
    (settledB two = true ∧ (two.fill.a.nozzles.set .n1 .hung).get .n3 = .up ∧ two.fill.a.map.get .n3 = some .g3 ∧
      (∀ m ∈ allNozzles, nozzleNumber m < 3 → (two.fill.a.nozzles.set .n1 .hung).get m ≠ .up) ∧
      ∀ c ∈ two.fill.a.counted, c.nozzle ≠ .n3) ∧
    -- a lift at an AUTHORIZED side of a nozzle without a grade, at an ADMITTED reader
    (let s : State := portA (fun _ => admitted.ports.a) authorized
     settledB s = true ∧ s.ports.a.state = .admitted ∧ s.fill.a.state = .authorized ∧ s.fill.a.slot = some auth ∧
      s.fill.a.counted = none ∧ s.fill.a.map.get .n4 = none ∧ s.fill.a.nozzles.get .n4 = .hung) := by decide

/-- Side A with nozzle 1 counted for grade 1, nozzle 2 up too, and its map changed. -/
def twoUp (second : Option Grade) (s : State) : State := fillA (fun f => { f with
  nozzles := (f.nozzles.set .n1 .up).set .n2 .up, counted := some { nozzle := .n1, grade := some .g1 }
  map := { f.map with n2 := second } }) s

/-- The count passes to a mapped and to an unmapped nozzle at a CALLING, an IDLE, a CLOSED and an AUTHORIZED side, and in a fill. -/
theorem witness_CountPassesOn :
    let at' (x : SideState) (s : State) : State := fillA (fun f => { f with state := x }) s
    let here (k : Option Counted) (s : State) : Bool := settledB s && decide (s.fill.a.nozzles.get .n1 ≠ .hung) &&
      decide (s.fill.a.counted = some { nozzle := .n1, grade := some .g1 }) &&
      decide (k = some { nozzle := .n2, grade := s.fill.a.map.get .n2 }) &&
      decide ((s.fill.a.nozzles.set .n1 .hung).get .n2 = .up ∧ (s.fill.a.nozzles.set .n1 .hung).get .n1 ≠ .up)
    let mapped : Option Counted := some { nozzle := .n2, grade := some .g2 }
    let unmapped : Option Counted := some { nozzle := .n2, grade := none }
    let both (s : State) : Bool := here mapped (twoUp (some .g2) s) && here unmapped (twoUp none s)
    let granted (s : State) : State := twoUp (some .g2) s
    both (at' .calling admitted) = true ∧ both admitted = true ∧
      both (fillA (fun f => { f with state := .closed, closures := { Closures.empty with command := true } }) admitted) = true ∧
      both authorized = true ∧ both (inFill .starting) = true ∧ both ending = true ∧
      ((granted authorized).fill.a.slot = some auth ∧ auth.grades.getLsbD (Grade.g2.number - 1) = true ∧
        (granted authorized).prices.lookup ((granted authorized).prices.sideGeneration.get .a) .g2 auth.level ≠ 0 ∧
        (granted authorized).display.a.dark = false ∧ (granted authorized).store.slots.a.state = .erased ∧
        (granted authorized).estopInput = false ∧ (granted authorized).supplyFailInput = false) ∧
      (auth.grades.getLsbD (Grade.g3.number - 1) = false ∧ here (some { nozzle := .n2, grade := some .g3 }) (twoUp (some .g3) authorized) = true) := by
  decide

theorem witness_AuthorizationsEnterAndLeaveTheSlot :
    let stacked (s : State) : State := { withSale s with register :=
      { s.register with queues := { s.register.queues with a := [queued, { queued with number := 43 }] } } }
    let closedA : State := fillA (fun f => { f with state := .closed, closures := { Closures.empty with command := true } }) ready
    (calm ready = true ∧ (1 : BitVec 8) ≠ 0 ∧ ready.fill.a.slot = none ∧ ready.fill.a.state = .idle ∧
      ¬(ready.params.stackDepth ≤ (ready.register.queues.get .a).length)) ∧
    (calm night = true ∧ night.power.mode = .night) ∧ (calm closedA = true ∧ closedA.fill.a.state = .closed) ∧
    (calm (paramsBy (fun c => { c with stackDepth := 2 }) (stacked ready)) = true ∧
      ((2 : Int) ≤ ((stacked ready).register.queues.get .a).length)) ∧
    (calm authorized = true ∧ authorized.fill.a.slot = some auth ∧ auth.phase = .waiting ∧ authorized.fill.a.state = .authorized ∧
      authorized.fill.a.authTimer ≠ none) ∧
    (calm flowing = true ∧ flowing.fill.a.slot = some { auth with phase := .inUse } ∧ flowing.fill.a.authTimer = none) ∧
    (2 ≤ 2 ∧ (0 : BitVec 8) = 0 ∧ ((0 ≠ 1 ∧ 0 ≠ 2) ∧ 3 ≠ 1 ∧ 3 ≠ 2) ∧
      ∃ y ∈ (some { kind := 2, value := 100 } : Option LimitFields), 2 ≤ y.kind) := by decide

/-- Side A CALLING with nozzle 1 up for grade 1. -/
def calling (s : State) : State := fillA (fun f => { f with
  state := .calling, nozzles := f.nozzles.set .n1 .up, counted := some { nozzle := .n1, grade := some .g1 } }) s

/-- A side CALLING at which AUTHORIZE and AUTH_GRANT find each outcome of the lift: allowed, and refused for its price, its display and its
save slot; for its grade where the authorization names another. -/
theorem witness_AuthorizedWhileCalling :
    let here (s : State) : Bool := calm s && decide (s.fill.a.state = .calling) && decide (s.fill.a.slot = none) &&
      decide (s.fill.a.counted = some { nozzle := .n1, grade := some .g1 }) && decide (s.power.mode = .run) &&
      decide (¬(s.params.stackDepth ≤ (s.register.queues.get .a).length)) && decide (s.ports.a.state = .admitted) &&
      decide (1 ≤ s.ports.a.committed) && decide (9 ≤ s.ports.a.terms.elim 200 (fun x => x.maxBody))
    let s : State := calling admitted
    let unpriced : State := { s with prices := { s.prices with active := Bank.zero } }
    let dark : State := displayA (fun d => { d with dark := true }) s
    let full : State := storeBy (fun t => { t with slots := { t.slots with a := { state := .written, contents := .empty } } }) s
    (2 : BitVec 8).getLsbD (Grade.g1.number - 1) = false ∧ (1 : BitVec 8).getLsbD (Grade.g1.number - 1) = true ∧
    (here s = true ∧ s.prices.lookup (s.prices.sideGeneration.get .a) .g1 .l1 ≠ 0 ∧
      s.prices.lookup (s.prices.sideGeneration.get .a) .g1 .l2 ≠ 0 ∧ s.display.a.dark = false ∧ s.store.slots.a.state = .erased ∧
      s.estopInput = false ∧ s.supplyFailInput = false) ∧
    (here unpriced = true ∧ unpriced.prices.lookup (unpriced.prices.sideGeneration.get .a) .g1 .l1 = 0) ∧
    (here dark = true ∧ dark.display.a.dark = true) ∧ (here full = true ∧ full.store.slots.a.state ≠ .erased) := by decide

theorem witness_AnAllowedLiftStartsTheFill :
    let instant : State := paramsBy (fun c => { c with primeDelay := 0 }) authorized
    let here (s : State) : Bool := settledB s && decide (s.fill.a.state = .authorized) && decide (s.fill.a.slot = some auth) &&
      decide (s.fill.a.nozzles.get .n1 = .hung) && decide (s.fill.a.nozzles.get .n3 = .hung) && decide (s.fill.a.counted = none) &&
      decide (s.fill.a.map.get .n1 = some .g1) && decide (s.fill.a.map.get .n3 = some .g3) && decide (s.power.mode ≠ .night) &&
      decide ((s.display.get .a).dark = false) && decide ((s.store.slots.get .a).state = .erased) &&
      decide (s.estopInput = false) && decide (s.supplyFailInput = false)
    here authorized = true ∧ here instant = true ∧ instant.params.primeDelay.toNat = 0 ∧ authorized.params.primeDelay.toNat ≠ 0 ∧
      auth.grades.getLsbD (Grade.g1.number - 1) = true ∧ auth.grades.getLsbD (Grade.g3.number - 1) = false ∧
      authorized.prices.lookup (authorized.prices.sideGeneration.get .a) .g1 auth.level ≠ 0 ∧
      (authorized.grades.get .g1).share ≠ 1000 ∧ (authorized.motors.get .lo).state = .off := by decide

/-- The target and the slow point that STARTING entry opens, by section 2.6's worked preset of 2,000 cents at 1,859 mil/L; a target that
does not lie above the slow-down volume has no slow point (R23 to R25). -/
theorem test_starting_entry_opens_target_and_slow_point :
    let at' (l : Limit) (down : Int) : Option (Option Nat × Option Nat) :=
      let s := paramsBy (fun c => { c with slowDownA := down })
        (fillA (fun f => { f with slot := some { auth with limit := some l } }) authorized)
      ((after (.nozzleLift .a .n1) s).figures.a.opened).map (fun o => (o.target, o.slowPoint))
    at' { kind := .money, value := 2000 } 40 = some (some 1076, some 1036) ∧
      at' { kind := .volume, value := 500 } 500 = some (some 500, none) ∧
      at' { kind := .volume, value := 501 } 500 = some (some 501, some 1) := by decide

/-- Section 6's save work at a warning: an erase of A's slot before its write, and B's work after A's (R101). -/
theorem test_the_warning_orders_the_save_work :
    let b : SaleRecord := { queued with side := .b }
    let s : State := storeBy (fun t => { t with slots := PerSide.both { state := .written, contents := .empty } })
      { ready with register := { ready.register with queues := { a := [queued], b := [b] } } }
    let t := after .supplyFailWarning s
    t.store.saving.map (fun r => r.op) = some { kind := .erase, side := .a } ∧
      t.store.saveWaiting = [{ kind := .write, side := .a }, { kind := .erase, side := .b }, { kind := .write, side := .b }] := by decide

/-- Side A in STARTING with its test done, waiting for a motor. -/
def starting (entry : GradeEntry) (target slow : Option Nat) : State :=
  let s := preset target slow (blendA (fun b =>
    { b with copy := some entry, trimmed := entry.trimmedProduct, duty := none }) (inFill .starting))
  { s with motors :=
    { lo := { state := .priming, relay := true, primeTimer := some 1 }, hi := { state := .running, relay := true, primeTimer := none } } }

theorem witness_PrimingEndsAndTheFillFlows :
    let pure : GradeEntry := { share := 0, startDuty := 8, trim := true }
    let blended : GradeEntry := { share := 400, startDuty := 8, trim := true }
    let here (s : State) (e : GradeEntry) : Bool := settledB s && decide (s.motors.lo.primeTimer ≠ none) &&
      decide (s.sideState .a = .starting) && decide (s.sideState .b ≠ .starting) && s.fill.a.testDone &&
      decide (s.blend.a.copy = some e) && e.needs .lo && decide (s.motors.hi.state = .running)
    let reached : State := figuresA (fun g => { g with targetReached := true }) (starting pure (some 1) none)
    let limited : State := figuresA (fun g => { g with limitReached := true }) (starting pure none none)
    let upper : State := starting { blended with share := 600 } none none
    here reached pure = true ∧ here limited pure = true ∧
    (here (starting pure (some 30) none) pure = true ∧ (starting pure (some 30) none).figures.a.targetReached = false) ∧
    here (starting pure none none) pure = true ∧
    (here (starting blended none none) blended = true ∧ blended.needs .hi = true ∧
      (starting blended none none).blend.a.trimmed = some .hi ∧ (starting blended none none).blend.a.duty = none) ∧
    (here upper { blended with share := 600 } = true ∧ upper.blend.a.trimmed = some .lo) ∧
    (let s : State := { ready with motors := { ready.motors with lo := { state := .priming, relay := true, primeTimer := some 1 } } }
     settledB s = true ∧ s.motors.lo.primeTimer ≠ none ∧ s.sideState .a ≠ .starting ∧ s.sideState .b ≠ .starting) ∧
    (settledB ready = true ∧ ready.motors.lo.primeTimer = none) := by decide

theorem witness_StopsHoldTheFill :
    let at' (target : Bool) (limit : Bool) : State :=
      figuresA (fun g => { g with targetReached := target, limitReached := limit }) (held .suspend)
    (calm flowing = true ∧ flowing.fill.a.state.isOpen = true ∧ flowing.fill.a.noFlowTimer ≠ none) ∧
    (calm ready = true ∧ ready.fill.a.state.isOpen = false ∧ ready.fill.a.state.isFill = false) ∧
    (calm (inFill .starting) = true ∧ (inFill .starting).fill.a.state = .starting) ∧
    (calm (held .suspend) = true ∧ (held .suspend).fill.a.state = .held ∧
      (held .suspend).fill.a.sale.bind (fun c => c.stop) = some .suspend) ∧
    (calm (held .target) = true ∧ (held .target).fill.a.sale.bind (fun c => c.stop) ≠ some .suspend) ∧
    (calm ending = true ∧ ending.fill.a.state = .ending) ∧
    (calm (at' true false) = true ∧ calm (at' false true) = true ∧ calm (preset (some 9) none (held .suspend)) = true ∧
      calm (preset (some 9) (some 5) (held .suspend)) = true ∧
      (preset (some 9) (some 5) (held .suspend)).figures.a.slowPassed = false) := by decide

theorem witness_EndsTakeTheFillToEnding :
    let here (s : State) : Bool := calm s && decide (s.fill.a.nozzles.get .n1 ≠ .hung) &&
      decide (s.fill.a.counted = some { nozzle := .n1, grade := some .g1 }) &&
      allNozzles.all (fun m => decide ((s.fill.a.nozzles.set .n1 .hung).get m ≠ .up))
    (here (inFill .starting) = true ∧ (inFill .starting).fill.a.state.beforeEnding = true) ∧
    (here (held .noFlow) = true ∧ (held .noFlow).fill.a.state.beforeEnding = true) ∧
    (here ending = true ∧ ending.fill.a.state = .ending) ∧ (calm ready = true ∧ ready.fill.a.state.beforeEnding = false) := by decide

theorem witness_ASaleClosesFromEnding :
    let sold (v : Int) : State := meterA .lo (fun c => { c with sale := v }) ending
    let g (s : State) : Figures := (s.figures.get .a).finalize s.meters.a.lo.sale s.meters.a.hi.sale
    let here (s : State) : Bool := settledB s && decide (s.fill.a.quietTimer ≠ none) && decide (s.fill.a.afterFlowTimer ≠ none) &&
      decide (s.fill.a.state = .ending) && decide (s.fill.a.sale = some { sale with ended := some .hungUp }) &&
      decide (s.power.mode ≠ .nightPending) && decide (s.register.queues.a = []) && decide (s.fill.a.slot.isSome = true) &&
      decide (s.blend.a.copy.isSome = true)
    (here (sold 99999) = true ∧ (g (sold 99999)).displayed = 0) ∧ (here (sold 100000) = true ∧ (g (sold 100000)).displayed = 1) := by
  decide

/-- A close of side A's sale at an adoption, with side B on a generation. -/
def adopting (b : Nat) (s : State) : State :=
  { s with prices := { s.prices with
      generation := 2, retained := some { generation := 1, bank := Bank.zero }, sideGeneration := { a := 1, b := b } } }

/-- Side A in ENDING with an empty sale of the reader at its port. -/
def emptyEnding (f : Port → Port) : State :=
  latched (portA f (fillA (fun x => { x with sale := some { sale with source := .reader, ended := some .hungUp } }) ending))

/-- What an empty result place holds before. -/
def earlier : SaleResult :=
  { number := 9, reference := 1, grade := .g1, price := 0, volume := 0, money := 0, payable := 0, overrun := false, empty := true
    restored := false }

theorem witness_SalesCloseOverARetainedBank :
    (settledB (adopting 1 ending) = true ∧ (adopting 1 ending).prices.sideGeneration.b = 1) ∧
    (settledB (adopting 2 ending) = true ∧ (adopting 2 ending).prices.sideGeneration.a ≠ (adopting 2 ending).prices.generation) ∧
    Room 4 ending := by
  refine ⟨by decide, by decide, by unfold Room; decide⟩

theorem witness_EmptySalesOfAReaderClose :
    let idle : State := emptyEnding (fun p => { p with state := .admitted, terms := some { revision := 2, maxBody := 64, features := 3 } })
    let full : State := emptyEnding (fun p => { p with emptyPlace := some { result := earlier, sending := false } })
    let shut : State := emptyEnding (fun p => { p with state := .tampered })
    (settledB idle = true ∧ idle.ports.a.state = .admitted ∧ idle.ports.a.tx = none) ∧
    (settledB full = true ∧ full.ports.a.state = .disabled) ∧ (settledB shut = true ∧ shut.ports.a.state = .tampered) ∧
    ((idle.figures.get .a).finalize 0 0).displayed = 0 := by decide

theorem witness_TheEmergencyStopStopsEverything :
    let pressed : State := { ready with estopInput := true }
    (settledB pressed = true ∧ pressed.estopInput = true) ∧
    (settledB authorized = true ∧ authorized.estopInput = false ∧ authorized.filling .a = false ∧ authorized.fill.a.slot = some auth) ∧
    (settledB flowing = true ∧ flowing.filling .a = true ∧ (flowing.sideState .a).beforeEnding = true ∧ flowing.filling .b = false) ∧
    (settledB ending = true ∧ ending.sideState .a = .ending) := by decide

theorem witness_TheSupplyFailWarningClosesEverySale :
    let warned (s : State) : State := { s with supplyFailInput := true, register := { s.register with warning := true } }
    let powerless : SaleRecord := { queued with ended := .powerFail }
    let owed : State := warned { ready with register := { ready.register with queues := { ready.register.queues with a := [powerless] } } }
    let sold : State := meterA .lo (fun c => { c with sale := 100000 }) flowing
    (settledB sold = true ∧ sold.supplyFailInput = false ∧ sold.power.mode ≠ .loading ∧ sold.power.mode ≠ .nightPending ∧
      sold.filling .a = true ∧ sold.fill.a.sale = some sale ∧
      ((sold.figures.get .a).finalize sold.meters.a.lo.sale sold.meters.a.hi.sale).displayed ≠ 0 ∧ sold.register.queues.a = []) ∧
    (settledB flowing = true ∧
      ((flowing.figures.get .a).finalize flowing.meters.a.lo.sale flowing.meters.a.hi.sale).displayed = 0) ∧
    (let erasing : State := storeBy (fun t => { t with
       slots := { t.slots with a := { state := .erasing, contents := .empty } }
       saving := some { op := { kind := .erase, side := .a }, records := [], timer := some 20 } }) (withSale ready)
     let full : State := storeBy (fun t => { t with slots := { t.slots with a := { state := .written, contents := .empty } } }) (withSale ready)
     settledB erasing = true ∧ erasing.store.saving ≠ none ∧ settledB full = true ∧ full.store.saving = none) ∧
    (settledB owed = true ∧ owed.supplyFailInput = true ∧ owed.power.mode ≠ .loading ∧
      owed.register.queues.a.map (fun r => r.ended) = [.powerFail] ∧ powerless.flags.restored = false ∧
      (storeBy (fun t => { t with slots := { t.slots with a := { state := .written, contents := .saved [powerless] } } }) owed).store.slots.a.state
        ≠ .erased) := by decide

theorem witness_SidesOpenAndClose :
    let shut (c : Closures) : State := latched (fillA (fun f => { f with state := .closed, closures := c }) ready)
    (calm flowing = true ∧ flowing.filling .a = true) ∧ (calm authorized = true ∧ authorized.fill.a.slot = some auth) ∧
    (calm (shut { Closures.empty with leak := true, fault := some .pulser }) = true) ∧
    (calm (shut { Closures.empty with night := true }) = true ∧
      ({ Closures.empty with night := true } : Closures).isEmpty = false) := by decide

/-! ### Witnesses: the CFG region's contents and the clock -/

theorem witness_ConfigurationsAndTheClockAreSet :
    let e (code : Nat) : ClassEntry :=
      { code := code, direction := .both, maxBody := 200, weight := 4, essential := true, asks := some 0xFF, answer := true }
    let full : State := { ready with classes := (List.range 14).map (fun n => e (0x40 + n)) }
    (calm ready = true ∧ ready.power.mode ≠ .loading ∧ ready.filling .a = false ∧ ready.filling .b = false) ∧
    (calm flowing = true ∧ flowing.filling .a = true ∧ flowing.fill.a.sale.map (fun x => x.grade) = some .g1) ∧
    (86399 < 86400 ∧ ¬(86400 < 86400)) ∧
    (calm full = true ∧ 14 ≤ full.classes.length ∧ lookupClass full.classes 0x50 = none ∧ lookupClass full.classes 0x40 = some (e 0x40) ∧
      (e 0x50).direction ≠ .readerToLink ∧ (e 0x50).direction ≠ .linkToReader ∧ 0xFF ≠ (e 0x50).code) ∧
    (0x22 ∈ Cls.builtIn ∧ 0x3F ∉ Cls.builtIn ∧ 0x3F < 0x40) ∧
    (calm (modeBy .loading ready) = true ∧ (modeBy .loading ready).store.cfg.state ≠ .unread) ∧
    (let s : State := linkBy (fun l => { l with tx := none }) State.reset
     calm s = true ∧ s.power.mode = .loading ∧ s.store.cfg.state = .unread) := by decide

/-- The edges of what SET_GRADE and SET_CLASS refuse, and what each is answered (R88, R131). -/
theorem test_grades_and_classes_at_their_edges :
    let status (c : Instr) : Option Status := match (after c ready).link.tx with
      | some (.reply r) => some r.status
      | _ => none
    let grade (n share duty trim : Nat) : Option Status :=
      status (.setGrade 1 (.fields { grade := n, share := share, startDuty := duty, trim := trim }))
    let good : ClassFields :=
      { code := 0x40, direction := 1, maxBody := 200, weight := 4, essential := 0, asks := some 0xFF, answer := 0 }
    let cls (x : ClassFields) : Option Status := status (.setClass 1 (.fields x))
    grade 9 0 1 0 = some .badValue ∧ grade 1 49 1 0 = some .badValue ∧ grade 1 951 1 0 = some .badValue ∧
      grade 1 0 16 0 = some .badValue ∧ grade 1 50 15 2 = some .badValue ∧ grade 8 950 15 1 = none ∧
      cls good = none ∧ cls { good with code := 0x3F } = some .badValue ∧ cls { good with code := 0x22 } = some .classRefused ∧
      cls { good with direction := 0 } = some .badValue ∧ cls { good with direction := 3 } = some .badValue ∧
      cls { good with maxBody := 201 } = some .badValue ∧ cls { good with weight := 5 } = some .badValue ∧
      cls { good with asks := some 0x40 } = some .badValue ∧ cls { good with answer := 1 } = some .badValue := by decide

/-! ### Witnesses: displays -/

theorem witness_FramesAreSentEchoedAndRetried :
    let blank : Frame := plainFrame .blank
    let sent (retry owed : Bool) : State := displayA (fun d => { d with
      transfer := some { frame := blank, retry := retry }, echoTimer := some 20, sendOwed := owed }) ready
    let same : State := displayA (fun d => { d with last := some { frame := currentFrame ready .a, confirmed := true } }) ready
    (settledB ready = true ∧ ready.display.a.controller = .showing ∧ ready.display.a.refreshTimer ≠ none ∧
      ready.display.a.transfer = none ∧ ready.display.a.last.map (fun e => e.frame) ≠ some (currentFrame ready .a)) ∧
    (settledB same = true ∧ same.display.a.last.map (fun e => e.frame) = some (currentFrame same .a)) ∧
    (settledB night = true ∧ night.display.a.controller ≠ .showing ∧ night.display.a.echoTimer = none) ∧
    (settledB (sent false false) = true ∧ settledB (sent false true) = true ∧ settledB (sent true false) = true ∧
      (0 : Byte) ≠ blank.sumCheck ∧ blank.sumCheck = blank.bytes.foldl (· + ·) 0 ∧ (sent true false).filling .a = false ∧
      (sent true false).fill.a.closures.display = false) ∧
    (let retried (s : State) : State := displayA (fun d => { d with transfer := some { frame := blank, retry := true }, echoTimer := some 20 }) s
     let marked : State := fillA (fun f => { f with state := .closed, closures := { f.closures with display := true } }) ready
     settledB (retried flowing) = true ∧ flowing.fill.a.state.beforeEnding = true ∧ settledB (retried ending) = true ∧
      settledB (retried marked) = true ∧ marked.filling .a = false ∧ marked.fill.a.closures.display = true) ∧
    (let moving : State := displayA (fun d => { d with transfer := some { frame := blank, retry := false }, echoTimer := some 20 }) flowing
     calm flowing = true ∧ calm moving = true ∧ (flowing.sideState .a).isOpen = true ∧ flowing.display.a.controller = .showing ∧
      moving.display.a.controller = .showing ∧ flowing.display.a.transfer = none) := by decide

theorem witness_DisplayTestsRunThroughTheirPhases :
    let testing (x : DisplayTest) (s : State) : State :=
      displayA (fun d => { d with controller := .testing, test := some x, refreshTimer := none }) s
    let busy (s : State) : State :=
      displayA (fun d => { d with transfer := some { frame := plainFrame .all, retry := false }, echoTimer := some 20 }) s
    let x (k : TestKind) (p : TestPhase) : DisplayTest := { kind := k, phase := p, due := false, timer := some 1 }
    let start : State := fillA (fun f => { f with testDone := false })
      { inFill .starting with
        motors := { lo := { state := .priming, relay := true, primeTimer := some 1 }, hi := { state := .off, relay := false, primeTimer := none } } }
    let check : State := supplyA (fun p => { p with state := .check, quietTimer := some 3000 }) ready
    (settledB ready = true ∧ ready.display.a.test = none) ∧
    settledB (testing { x .fill .all with timer := none } start) = true ∧
    settledB (testing (x .fill .all) start) = true ∧ settledB (busy (testing (x .fill .all) start)) = true ∧
    settledB (testing (x .check .blank) check) = true ∧ settledB (busy (testing (x .check .blank) check)) = true ∧
    (settledB (testing (x .fill .blank) start) = true ∧ start.fill.a.state = .starting ∧ motorsReady start .a = false) ∧
    (settledB (testing (x .check .audit) check) = true ∧ check.sidePower.a.quietTimer ≠ none) ∧
    -- the last frame still in flight, a frame due behind it, motors that run, and a retry about to fail
    (let done1 (k : TestKind) (p : TestPhase) : DisplayTest := { kind := k, phase := p, due := false, timer := none }
     let run : State := { start with motors := { lo := { state := .running, relay := true, primeTimer := none }, hi := start.motors.hi } }
     let retried (s : State) : State :=
       displayA (fun d => { d with transfer := some { frame := plainFrame .all, retry := true }, echoTimer := some 20 }) s
     settledB (busy (testing (done1 .fill .blank) start)) = true ∧ settledB (busy (testing (done1 .fill .blank) run)) = true ∧
      motorsReady run .a = true ∧ settledB (busy (testing (done1 .check .audit) check)) = true ∧
      settledB (busy (testing { done1 .fill .blank with due := true } start)) = true ∧
      settledB (retried (testing (x .fill .all) start)) = true ∧ settledB (retried (testing (x .check .all) check)) = true ∧
      check.filling .a = false ∧ check.fill.a.closures.display = false ∧ (0 : Byte) ≠ (plainFrame .all).sumCheck) := by decide

theorem witness_SamplesGovernHeatingAndDark :
    let heat : State := supplyA (fun p => { p with state := .heat, stageTimer := some 60000 })
      (displayA (fun d => { d with controller := .standby, stageHeat := true, heatWant := true, temperature := some (-1) })
        { ready with arbiter := { holders := [.a], waiting := [] } })
    let warm (h w : List Side) : State := displayA (fun d => { d with heatWant := true, thermostat := true, temperature := some 0 })
      { ready with arbiter := { holders := h, waiting := w } }
    settledB ready = true ∧ settledB heat = true ∧ heat.sidePower.a.state = .heat ∧ settledB (warm [.a] []) = true ∧
      settledB (warm [.b] [.a]) = true ∧ ready.display.a.temperature = temperatureOf 372 ∧ temperatureOf 1 = some (-40) ∧
      temperatureOf 1022 = some 124 ∧ temperatureOf 279 = some 5 ∧ temperatureOf 278 = some 4 := by decide

/-! ### Witnesses: readers -/

theorem witness_AReaderIsAdmittedStepByStep :
    let failed : State := portA (fun p => { p with state := .failed, failures := 8, readyInput := true }) ready
    let waiting : State := portA (fun p => { p with readyInput := false, stepTimer := some 3000 }) (negotiating .readyWait)
    let offering : State := portA (fun p => { p with stepTimer := none, tx := some .offer }) (negotiating .abilityWait)
    let agreed : Terms := { revision := 2, maxBody := 32, features := 3 }
    let acking : State := portA (fun p => { p with offered := some agreed }) (negotiating .ackWait)
    (calm ready = true ∧ ready.ports.a.state = .disabled ∧ ready.sidePower.a.state = .up) ∧
    (let back : State := portA (fun p => { p with state := .backoff, failures := 7, backoffTimer := some 32000 }) ready
     calm back = true ∧ back.ports.a.state = .backoff) ∧
    (calm failed = true ∧ failed.ports.a.state = .failed) ∧ (calm night = true ∧ night.sidePower.a.state = .off) ∧
    (calm admitted = true ∧ admitted.ports.a.state = .admitted) ∧
    (settledB waiting = true ∧ waiting.ports.a.step = some .readyWait ∧ waiting.ports.a.tx = none) ∧
    (settledB offering = true ∧ offering.ports.a.tx = some .offer ∧ offering.ports.a.owed = none) ∧
    (let confirming : State := portA (fun p => { p with stepTimer := none, offered := some agreed, tx := some (.confirm agreed) }) (negotiating .ackWait)
     settledB confirming = true ∧ confirming.ports.a.tx = some (.confirm agreed) ∧ confirming.ports.a.owed = none) ∧
    (settledB (negotiating .abilityWait) = true ∧ (negotiating .abilityWait).ports.a.tx = none ∧ (2 : BitVec 8).getLsbD 1 = true ∧
      (1 : BitVec 8).getLsbD 0 = true ∧ 32 ≤ 32) ∧
    (settledB acking = true ∧ acking.ports.a.offered = some agreed ∧ acking.sidePower.a.state ≠ .admitStage ∧
      acking.sidePower.a.attended = false) ∧
    (let at' (x : PowerState) (attended : Bool) (v : Verification) : State := powerBy (fun p => { p with verification := v })
       (supplyA (fun p => { p with state := x, attended := attended, stageTimer := some 10000 }) acking)
     settledB (at' .up true .none) = true ∧ settledB (at' .admitStage false .none) = true ∧
      settledB (at' .admitStage false .running) = true ∧ settledB (at' .admitStage false .unverified) = true) := by decide

theorem witness_FailedAttemptsBackOff :
    let after' (f : Nat) (x : PortStep) : State := portA (fun p => { p with failures := f }) (negotiating x)
    let back : State := portA (fun p => { p with state := .backoff, failures := 1, backoffTimer := some 1000 }) ready
    let granted : State := fillA (fun f => { f with
      state := .authorized, slot := some { auth with source := .reader } }) admitted
    (settledB (after' 6 .readyWait) = true ∧ settledB (after' 7 .ackWait) = true ∧ (after' 6 .readyWait).ports.a.state = .negotiating ∧ (after' 6 .readyWait).ports.a.stepTimer ≠ none) ∧
    (settledB (after' 0 .abilityWait) = true ∧ (4 : BitVec 8).getLsbD 0 = false ∧ (4 : BitVec 8).getLsbD 1 = false ∧
      (1 : BitVec 8).getLsbD 0 = true ∧ 31 < 32) ∧
    (let agreed : Terms := { revision := 2, maxBody := 32, features := 3 }
     settledB (portA (fun p => { p with offered := some agreed }) (negotiating .ackWait)) = true ∧ 1 ≠ agreed.revision) ∧
    (settledB back = true ∧ back.ports.a.state = .backoff ∧ back.ports.a.backoffTimer ≠ none) ∧
    (settledB ready = true ∧ ready.ports.a.state = .disabled) ∧
    (settledB granted = true ∧ granted.ports.a.state = .admitted ∧ granted.fill.a.slot.isSome = true) := by decide

theorem witness_TamperShutsThePort :
    let tampered : State := latched (portA (fun p => { p with state := .tampered, tamperInput := true }) ready)
    (calm ready = true ∧ ready.ports.a.state = .disabled) ∧ (calm tampered = true ∧ tampered.ports.a.state = .tampered) ∧
    (calm admitted = true ∧ admitted.ports.a.state ∉ [PortState.tampered, .disabled]) := by decide

/-- A class a reader answers with, in its table, and one the link alone sends. -/
def answerClass : ClassEntry :=
  { code := 0x61, direction := .both, maxBody := 2, weight := 4, essential := true, asks := some 0x62, answer := true }
def classed (s : State) : State :=
  { s with classes := [answerClass, { answerClass with code := 0x62, direction := .linkToReader, asks := none, answer := false }] }

theorem witness_RecordsAreJudgedInOrder :
    let s (committed excess : Nat) : State :=
      classed (portA (fun p => { p with committed := committed, excess := excess }) admitted)
    let asked : State := { s 4 0 with conversations := [{ port := .a, tag := 9, answer := 0x61, age := true }] }
    let calmly : State := { s 3 4 with classes := [{ answerClass with essential := false, answer := false }] }
    (settledB ready = true ∧ ready.ports.a.state ∉ [PortState.negotiating, .admitted]) ∧
    -- NEGOTIATING: bodies about 200 bytes, a class that is not the step's, and the step's with a wrong length
    (settledB (negotiating .ackWait) = true ∧ settledB (negotiating .readyWait) = true ∧ settledB (negotiating .abilityWait) = true ∧
      200 < (List.replicate 201 (0 : Byte)).length ∧ (List.replicate 200 (0 : Byte)).length ≤ 200 ∧
      some Cls.ack ≠ some Cls.ability ∧ [(0 : Byte), 0].length ≠ 3) ∧
    (settledB (s 4 0) = true ∧ lookupClass (s 4 0).classes 0x61 = some answerClass ∧ lookupClass (s 4 0).classes 0x40 = none ∧
      (lookupClass (s 4 0).classes 0x62).map (fun e => e.direction) = some .linkToReader ∧ answerClass.direction ≠ .linkToReader ∧
      Cls.isAdmission 0x04 = true ∧ (s 4 0).ports.a.terms.elim 200 (fun x => x.maxBody) = 64 ∧
      (64 < (List.replicate 65 (0 : Byte)).length ∧ (List.replicate 64 (0 : Byte)).length ≤ 64) ∧
      (answerClass.maxBody < [(0 : Byte), 0, 0].length ∧ [(0 : Byte), 0].length ≤ answerClass.maxBody)) ∧
    (settledB (s 3 3) = true ∧ (s 3 3).ports.a.committed < 4 ∧ (s 3 3).ports.a.excess < 4) ∧
    (settledB calmly = true ∧ calmly.ports.a.committed < 4 ∧ 4 ≤ calmly.ports.a.excess) ∧
    (settledB (s 3 4) = true ∧ 4 ≤ (s 3 4).ports.a.excess) ∧
    (settledB asked = true ∧ asked.conversations.any (fun c => decide (c.port = .a ∧ c.tag = 9 ∧ c.answer = 0x61)) = true ∧
      4 ≤ asked.ports.a.committed) := by decide

theorem witness_RecordsAreSentInOrder :
    let busy (n : Nat) : State := classed (portA (fun p => { p with
      tx := some (.authState { kind := .cancelled, reference := 1 }), queue := List.replicate n { cls := 0x61, tag := 1, body := [] } }) admitted)
    let asked : List Conversation := (List.range 16).map (fun n => { port := .a, tag := n + 1, answer := 0x62, age := true })
    let full : State := { busy 0 with conversations := asked }
    let sending (r : SaleRecord) : State := withSale (portA (fun p => { p with
      tx := some (.saleResult (resultOf r)), pendingAuth := some { kind := .cancelled, reference := 1 } }) admitted)
    let here (s : State) : Bool := calm s && decide (lookupClass s.classes 0x61 = some answerClass) &&
      decide (s.ports.a.terms.isSome = true)
    (here (classed admitted) = true ∧ (classed admitted).ports.a.tx = none ∧ answerClass.direction ≠ .readerToLink ∧
      [(0 : Byte), 0].length ≤ answerClass.maxBody ∧ answerClass.maxBody < [(0 : Byte), 0, 0].length) ∧
    (here (busy 4) = true ∧ 4 ≤ (busy 4).ports.a.queue.length) ∧
    (here (busy 3) = true ∧ (busy 3).ports.a.queue.length < 4 ∧ (busy 3).ports.a.tx ≠ none) ∧
    (here full = true ∧ 16 ≤ full.conversations.length ∧
      full.conversations.any (fun y => decide (y.port = .a ∧ y.tag = 17)) = false ∧
      full.conversations.any (fun y => decide (y.port = .a ∧ y.tag = 16)) = true) ∧
    (settledB (sending queued) = true ∧ (sending queued).ports.a.state = .admitted) ∧
    (calm (classed ready) = true ∧ (classed ready).ports.a.state ≠ .admitted) := by decide

theorem witness_RefillsAndAgingKeepTheLine :
    let red (run : Nat) : State := portA (fun p => { p with redMark := true, redRun := run }) admitted
    let aged (s : State) : State := { s with conversations :=
      [{ port := .a, tag := 1, answer := 0x61, age := true }, { port := .a, tag := 2, answer := 0x61, age := false }] }
    (settledB admitted = true ∧ admitted.ports.a.committedTimer ≠ none ∧ admitted.ports.a.excessTimer ≠ none) ∧
    (settledB ready = true ∧ ready.ports.a.committedTimer = none ∧ ready.ports.a.excessTimer = none) ∧
    (settledB (aged (red 1)) = true ∧ (aged (red 1)).ports.a.redRun < 2) ∧ (settledB (red 2) = true ∧ 3 ≤ (red 2).ports.a.redRun + 1) := by
  decide

/-! ### Witnesses: payments -/

theorem witness_GrantsAndCancelsAreAnswered :
    let mine (p : AuthPhase) : Auth := { auth with source := .reader, reference := some 5, phase := p }
    let line (s : State) : State := { s with ports := { s.ports with a := admitted.ports.a } }
    let held (s : State) : State := line (fillA (fun f => { f with slot := some (mine .inUse) }) s)
    let here (s : State) : Bool := settledB s && decide (s.ports.a.state = .admitted) && decide (1 ≤ s.ports.a.committed) &&
      decide (9 ≤ s.ports.a.terms.elim 200 (fun x => x.maxBody))
    (here admitted = true ∧ admitted.fill.a.state = .idle ∧ admitted.fill.a.slot = none ∧
      ¬(admitted.params.stackDepth ≤ (admitted.register.queues.get .a).length) ∧ (2 : BitVec 8) ≠ 0 ∧
      (100 ≤ 100 ∧ 999000 ≤ 999000) ∧ ¬(100 ≤ 99)) ∧
    (here (line night) = true ∧ (line night).power.mode = .night) ∧
    (here (line (fillA (fun f => { f with state := .authorized, slot := some (mine .waiting) }) ready)) = true) ∧
    (here (line (fillA (fun f => { f with state := .closed, closures := { Closures.empty with command := true } }) ready)) = true) ∧
    here (held (inFill .starting)) = true ∧ here (held flowing) = true ∧ here (held (Tests.held .suspend)) = true ∧
    here (held (Tests.held .target)) = true ∧ (here (held ending) = true ∧ (held ending).fill.a.sale.isSome = true) := by decide

theorem witness_SalesAreCapturedAndSettled :
    let s : State := withSale admitted
    let warned : State := { s with supplyFailInput := true, register := { s.register with warning := true } }
    let whole : State := portA (fun p => { p with terms := some { revision := 1, maxBody := 9, features := 0 } }) s
    (calm s = true ∧ s.ports.a.state = .admitted ∧ 1 ≤ s.ports.a.committed ∧ s.register.warning = false ∧ queued ∈ s.register.queues.a ∧
      queued.source = .reader ∧ queued.reference = some 70015 ∧ queued.flags.undeliverable = false ∧
      (∀ y ∈ s.register.queues.a, y.number = 42 → y = queued) ∧
      s.ports.a.terms.map (fun x => x.features.getLsbD 0) = some true) ∧
    (calm whole = true ∧ 9 ≤ whole.ports.a.terms.elim 200 (fun x => x.maxBody) ∧
      whole.ports.a.terms.map (fun x => x.features.getLsbD 0) = some false) ∧
    (calm warned = true ∧ warned.register.warning = true) ∧ (∀ r ∈ s.register.queues.a, r.number ≠ 9999) := by decide

/-! ### Witnesses: power -/

/-- Side A at a power state in WAKING, its stage and quiet timers running, NIGHT in its closure set. -/
def stage (x : PowerState) : State :=
  let s := supplyA (fun p => { p with state := x, bringUp := true, stageTimer := some 2000, quietTimer := some 3000, testReported := true })
    (fillA (fun f => { f with state := .closed, closures := { Closures.empty with night := true } }) (modeBy .waking ready))
  powerBy (fun p => { p with verification := .none }) s

theorem witness_SuppliesComeAndGo :
    let sampled (r : Nat) (s : State) : State := displayA (fun d => { d with controller := .unpowered, refreshTimer := none, temperature := temperatureOf r }) s
    let shutting : State := displayA (fun d => { d with controller := .shutting, refreshTimer := none, transfer := some { frame := plainFrame .off, retry := false }, echoTimer := some 20 })
      (supplyA (fun p => { p with state := .off, supplyOn := true, shutting := true }) ready)
    let permit (h : Option Side) (w : List Side) (s : State) : State := powerBy (fun p => { p with holder := h, waiting := w, holdTimer := some 200 }) s
    (settledB (sampled 278 (stage .supply)) = true ∧ max ready.params.heaterOff (ready.params.heaterOn + 2) = 5 ∧
      (sampled 278 (stage .supply)).display.a.temperature = some 4 ∧
      (sampled 278 (stage .supply)).display.a.controller = .unpowered ∧ (sampled 278 (stage .supply)).display.a.transfer = none) ∧
    (settledB (sampled 279 (stage .supply)) = true ∧ (sampled 279 (stage .supply)).display.a.temperature = some 5) ∧
    (settledB (sampled 0 (stage .supply)) = true ∧ (sampled 0 (stage .supply)).display.a.temperature = none) ∧
    (settledB shutting = true ∧ shutting.sidePower.a.shutting = true ∧ shutting.sidePower.a.bringUp = false) ∧
    (settledB ready = true ∧ ready.sidePower.a.state = .up ∧ ready.filling .a = false ∧ ready.power.holdTimer = none) ∧
    (settledB flowing = true ∧ flowing.fill.a.sale = some sale ∧ flowing.power.mode ≠ .nightPending) ∧
    (settledB (permit (some .a) [] (stage .supply)) = true ∧ (permit (some .a) [] (stage .supply)).power.waiting = []) ∧
    (let s := permit (some .b) [.a] (supplyA (fun p => { p with supplyGood := false }) night)
     settledB s = true ∧ s.power.waiting = [.a] ∧ s.sidePower.a.supplyGood = false) ∧
    (let s (r : Nat) : State := permit (some .b) [.a] (sampled r (supplyA (fun p => { p with supplyGood := true }) night))
     settledB (s 278) = true ∧ settledB (s 279) = true ∧ (s 278).power.waiting = [.a] ∧ (s 278).sidePower.a.supplyGood = true ∧
      (s 278).display.a.temperature = some 4 ∧ (s 279).display.a.temperature = some 5) := by decide

theorem witness_StagesLeadASideUp :
    let fitted (n : Int) (s : State) : State := paramsBy (fun c => { c with readerFittedA := n }) s
    let made (v : Verification) (s : State) : State := powerBy (fun p => { p with verification := v }) s
    (settledB (stage .heat) = true ∧ (stage .heat).sidePower.a.stageTimer ≠ none) ∧
    (settledB ready = true ∧ ready.sidePower.a.quietTimer = none ∧ ready.sidePower.a.state ≠ .heat) ∧
    (settledB (supplyA (fun p => { p with testReported := false }) (stage .check)) = true) ∧
    (settledB (fitted 1 (stage .check)) = true ∧ readerFitted (fitted 1 (stage .check)) .a = true) ∧
    (settledB (fitted 0 (stage .check)) = true ∧ readerFitted (fitted 0 (stage .check)) .a = false ∧
      (stage .check).power.verification = .none) ∧
    settledB (fitted 0 (made .running (stage .check))) = true ∧ settledB (fitted 0 (made .unverified (stage .check))) = true ∧
    (settledB (stage .admitStage) = true ∧ (stage .admitStage).sidePower.a.stageTimer ≠ none) := by decide

theorem witness_VerificationTakesBothSidesUp :
    let job : RunningJob := { kind := .verify, serves := false, image := none, rewrite := false, timer := some 10 }
    let s (v : Verification) : State := powerBy (fun p => { p with verification := v }) (storeBy (fun t => { t with running := some job }) (stage .verify))
    (settledB (s .running) = true ∧ (s .running).sidePower.a.state = .verify ∧ (s .running).sidePower.a.stageTimer ≠ none ∧
      (s .running).sidePower.b.state = .up ∧ (s .running).power.mode = .waking ∧
      (s .running).store.cal.stored ≠ .image (calImage (s .running))) ∧
    (settledB (s .unverified) = true ∧ (s .unverified).power.verification ≠ .running) ∧
    (settledB ready = true ∧ ready.store.running = none) := by decide

/-! ### POWER_STAGE (R157): the notices of one event, which are those of the clauses that the statements on power make of a state with room -/

/-- What a POWER_STAGE notice carries, but for the flags. -/
structure Staged where
  mode : PartMode
  a : PowerState
  b : PowerState
  side : Option Side
  cause : PowerCause
deriving DecidableEq

/-- The POWER_STAGE notices that the link carries, in their order. -/
def stages (t : State) : List Staged :=
  (t.link.tx.toList.filterMap (fun x => match x with | .notice n => some n | _ => none) ++ t.link.notices).filterMap
    (fun n => match n with | .powerStage m a b i c _ _ _ _ => some ⟨m, a, b, i, c⟩ | _ => none)

/-- There is room for the notices of an event. -/
def room (s : State) : Bool := decide (s.link.lost = 0 ∧ s.link.notices.length + 16 ≤ Const.noticePlaces)

/-- What the check says. -/
theorem room_iff (s : State) : room s = true ↔ Room 16 s := by
  unfold room
  rw [decide_eq_true_eq]
  rfl

/-- Side A DOWN_FAULT, the permit free. -/
def downA : State :=
  supplyA (fun p => { p with state := .downFault, supplyOn := false, supplyGood := false })
    (displayA (fun d => { d with controller := .unpowered, refreshTimer := none })
      (fillA (fun f => { f with state := .closed, closures := { Closures.empty with supply := true } }) ready))

/-- R157, R166: a supply timeout that hands the permit on tells both changes, each with its side and cause; where it ends WAKING, one notice. -/
theorem test_supply_timeout_stages :
    let s : State := powerBy (fun p => { p with holder := some .a, waiting := [.b] })
      (supplyB (fun p => { p with state := .off, bringUp := true, supplyOn := false, supplyGood := false }) (stage .supply))
    (settledB s = true ∧ room s = true ∧ stages (after (.supplyStageTimeout .a) s) =
      [⟨.waking, .downFault, .off, some .a, .supplyTimeout⟩, ⟨.waking, .downFault, .supply, some .b, .permit⟩]) ∧
    stages (after (.supplyStageTimeout .a) (stage .supply)) = [⟨.run, .downFault, .up, some .a, .supplyTimeout⟩] ∧
    stages (after (.supplyStageTimeout .a) (modeBy .run (stage .supply))) = [⟨.run, .downFault, .up, some .a, .supplyTimeout⟩] := by
  decide

/-- R157, R166, R167: supply-good at a warm side tells SUPPLY_GOOD and SKIPPED, the permit to one whose supply-good stands PERMIT as well. -/
theorem test_supply_good_stages :
    stages goodAtWarm = [⟨.waking, .heat, .up, some .a, .supplyGood⟩, ⟨.waking, .check, .up, some .a, .skipped⟩] ∧
    (let s : State := powerBy (fun p => { p with holder := some .b, waiting := [.a], holdTimer := some 200 })
      (supplyA (fun p => { p with supplyGood := true }) night)
     room s = true ∧ stages (after .permitHoldExpiry s) =
      [⟨.night, .supply, .off, some .a, .permit⟩, ⟨.night, .heat, .off, some .a, .supplyGood⟩,
        ⟨.night, .check, .off, some .a, .skipped⟩]) := by decide

/-- R157, R169, R170: ADMIT's limit tells VERIFY, and UP where the result stands; where UP ends WAKING, one notice. -/
theorem test_admit_stages :
    let s (m : PartMode) (v : Verification) : State := modeBy m (powerBy (fun p => { p with verification := v }) (stage .admitStage))
    let t (m : PartMode) (v : Verification) := stages (after (.admitStageExpiry .a) (s m v))
    (settledB (s .run .none) = true ∧ settledB (s .run .unverified) = true ∧ settledB (s .waking .unverified) = true ∧
      room (s .run .none) = true) ∧
    t .run .none = [⟨.run, .verify, .up, some .a, .admitExpired⟩] ∧
    t .run .unverified = [⟨.run, .verify, .up, some .a, .admitExpired⟩, ⟨.run, .up, .up, some .a, .verified⟩] ∧
    t .waking .unverified = [⟨.run, .up, .up, some .a, .verified⟩] := by decide

/-- R157, R168: the end of CHECK tells CHECKED first; a VERIFY job takes both waiting sides UP in RUN, each with its notice. -/
theorem test_check_and_verify_stages :
    let s : State := modeBy .run (powerBy (fun p => { p with verification := .unverified }) (stage .check))
    let job : RunningJob := { kind := .verify, serves := false, image := none, rewrite := false, timer := some 10 }
    let both (m : PartMode) : State := modeBy m (powerBy (fun p => { p with verification := .running })
      (storeBy (fun t => { t with running := some job })
        (supplyB (fun p => { p with state := .verify, stageTimer := some 2000 }) (stage .verify))))
    (settledB s = true ∧ readerFitted s .a = false ∧ stages (after (.checkQuietExpiry .a) s) =
      [⟨.run, .admitStage, .up, some .a, .checked⟩, ⟨.run, .verify, .up, some .a, .skipped⟩, ⟨.run, .up, .up, some .a, .verified⟩]) ∧
    (settledB (both .run) = true ∧ stages (after .verifyJobEnd (both .run)) =
      [⟨.run, .up, .verify, some .a, .verified⟩, ⟨.run, .up, .up, some .b, .verified⟩]) ∧
    (settledB (both .waking) = true ∧ stages (after .verifyJobEnd (both .waking)) = [⟨.run, .up, .up, none, .verified⟩]) := by decide

/-- R157, R169, R172: POWER_SIDE tells the clearing of ATTENDED, the change to OFF and SUPPLY; a wake tells one change of mode. -/
theorem test_begin_stages :
    let attended : State := supplyA (fun p => { p with attended := true }) downA
    (calm attended = true ∧ room attended = true ∧ stages (after (.powerSide 1 (.fields 0)) attended) =
      [⟨.run, .downFault, .up, none, .admitted⟩, ⟨.run, .off, .up, some .a, .powerSide⟩, ⟨.run, .supply, .up, some .a, .permit⟩]) ∧
    (calm night = true ∧ stages (after (.wake 1 (.fields ())) (supplyA (fun p => { p with attended := true }) night)) =
      [⟨.waking, .supply, .off, some .a, .wake⟩]) := by decide

/-- R157, R171: a loss of supply-good tells SUPPLY_LOST. -/
theorem test_supply_lost_stages :
    stages (after (.supplyGoodLoss .a) ready) = [⟨.run, .downFault, .up, some .a, .supplyLost⟩] ∧
    stages (after (.supplyGoodLoss .a) (stage .heat)) = [⟨.run, .downFault, .up, some .a, .supplyLost⟩] ∧
    stages (after (.supplyGoodLoss .a) (modeBy .nightPending flowing)) = [⟨.night, .off, .off, none, .lastClose⟩] := by decide

/-! ### Witnesses: night, waking and restarting -/

theorem witness_TheNightIsEntered :
    let at' (s : State) (n w : Option Nat) : State := powerBy (fun p => { p with nightAt := n, wakeAt := w })
      { s with clock := { value := 86399, valid := true, second := some 1 } }
    (calm loaded = true ∧ loaded.power.mode = .loading) ∧ (calm night = true ∧ night.power.mode = .night) ∧
    (calm ready = true ∧ ready.anyFilling = false ∧ ready.sidePower.a.supplyOn = true ∧ ready.display.a.controller ≠ .unpowered) ∧
    (calm flowing = true ∧ flowing.anyFilling = true ∧ flowing.power.mode = .run) ∧
    (settledB (at' ready (some 0) none) = true ∧ ((86399 : BitVec 32) + 1).toNat % 86400 = 0) ∧
    settledB (at' flowing (some 0) none) = true ∧
    (settledB (at' night none (some 0)) = true ∧ (at' night none (some 0)).power.mode = .night) ∧
    (let last (s : State) : State := modeBy .nightPending s
     let both (s : State) : State := last (fillB (fun _ => s.fill.a) s)
     settledB (last ending) = true ∧ ending.sideState .a = .ending ∧ ending.filling .b = false ∧ ending.fill.a.quietTimer ≠ none ∧
      settledB (both ending) = true ∧ (both ending).filling .b = true ∧ settledB (last flowing) = true ∧
      flowing.supplyFailInput = false ∧ flowing.sidePower.a.state = .up) := by decide

theorem witness_TheMorningBringsTheSidesUp :
    let pending (s : State) : State := modeBy .nightPending s
    let halfDark : State := pending (supplyB (fun p => { p with state := .off, supplyOn := false, supplyGood := false })
      (fillB (fun f => { f with state := .closed, closures := { Closures.empty with night := true } }) flowing))
    let wakes : State := paramsBy (fun c => { c with wakeOnNozzle := 1 }) night
    let down (h : Option Side) : State := powerBy (fun p => { p with holder := h })
      (supplyA (fun p => { p with state := .downFault, supplyOn := false, supplyGood := false })
        (displayA (fun d => { d with controller := .unpowered, refreshTimer := none })
          (fillA (fun f => { f with state := .closed, closures := { Closures.empty with supply := true } }) ready)))
    (calm loaded = true ∧ loaded.power.mode = .loading) ∧ (calm ready = true ∧ ready.power.mode = .run) ∧
    (calm night = true ∧ night.power.holder = none ∧ night.power.waiting = [] ∧ night.sidePower.a.shutting = false ∧
      night.sidePower.b.shutting = false ∧ night.sidePower.a.supplyGood = false) ∧
    (calm (pending flowing) = true ∧ flowing.sidePower.a.state ≠ .off ∧ flowing.sidePower.b.state ≠ .off) ∧
    (calm halfDark = true ∧ halfDark.sidePower.b.state = .off) ∧
    (settledB wakes = true ∧ wakes.params.wakeOnNozzle ≠ 0 ∧ wakes.fill.a.nozzles.get .n1 = .hung) ∧
    (calm (down none) = true ∧ (down none).sidePower.a.state = .downFault ∧ (down none).sidePower.b.state ≠ .verify ∧
      (down none).sidePower.a.supplyGood = false) ∧
    (calm (down (some .b)) = true ∧ (down (some .b)).power.holder ≠ none) := by decide

theorem witness_RestartsAndPowerOnsReset :
    let accepted : State := linkBy (fun l => { l with service := some { kind := Kind.restart, tag := 1, fields := [], restart := true } }) ready
    let job : RunningJob := { kind := .totalsWrite, serves := false, image := none, rewrite := false, timer := some 30 }
    let writing : State := storeBy (fun t => { t with running := some job }) accepted
    let warned : State := storeBy (fun t => { t with waiting := [{ kind := .priceWrite, serves := false }] }) { accepted with supplyFailInput := true }
    (warned.supplyFailInput = true ∧ warned.store.running = none ∧ warned.store.saving = none ∧ warned.store.saveWaiting = [] ∧
      warned.store.waiting.all (fun j => j.kind ≠ .totalsWrite) = true ∧ warned.link.service.any (fun r => r.restart) = true ∧
      warned.link.replySlot = none ∧ warned.link.tx = none) ∧
    (calm ready = true ∧ ready.power.mode ≠ .loading ∧ ready.anyFilling = false ∧ ready.supplyFailInput = false) ∧
    (calm flowing = true ∧ flowing.anyFilling = true) ∧ (calm loaded = true ∧ loaded.power.mode = .loading) ∧
    (accepted.store.running = none ∧ accepted.store.waiting = [] ∧ accepted.store.saving = none ∧ accepted.store.saveWaiting = [] ∧
      accepted.link.replySlot = none ∧ accepted.link.tx = none ∧ accepted.supplyFailInput = false) ∧
    (settledB ready = true ∧ ready.link.service = none) ∧ (settledB writing = true ∧ writing.store.running.isSome = true) := by decide

/-! ### Witnesses: the store -/

theorem witness_WritesEndVerifiedOrFailed :
    let job (r : Bool) : RunningJob :=
      { kind := .priceWrite, serves := true, image := some (.price { generation := 1, bank := Bank.zero }), rewrite := r, timer := some 30 }
    let s (r : Bool) (w : List WaitingJob) : State := storeBy (fun t => { t with running := some (job r), waiting := w }) (served ready)
    let save (k : SaveOpKind) (w : List SaveOp) : State := storeBy (fun t => { t with
      saving := some { op := { kind := k, side := .a }, records := [queued], timer := some 4 }, saveWaiting := w }) ready
    (settledB ready = true ∧ ready.store.running = none ∧ ready.store.saving = none) ∧
    (settledB (s false []) = true ∧ (s false []).link.service.isSome = true) ∧
    settledB (s true [{ kind := .totalsWrite, serves := false }]) = true ∧
    (let same : State := storeBy (fun t => { t with price := writtenCell { generation := 1, bank := Bank.zero } }) (s true [])
     settledB same = true ∧ same.store.price.stored = .image { generation := 1, bank := Bank.zero }) ∧
    (settledB (save .write []) = true ∧ settledB (save .write [{ kind := .erase, side := .b }]) = true) ∧
    (settledB (save .erase []) = true ∧ settledB (save .erase [{ kind := .write, side := .b }]) = true) := by decide

theorem witness_LoadingReadsTheRegionsAndEnds :
    let cal : CalImage := { meters := PerSide.both (PerProduct.both { weight := 25013, maxFlow := 6000 }), audit := 3 }
    let s (a b c d : Bool) : State :=
      let x {α : Type} (y : Stored α) (isRead : Bool) : RegionCell α := { state := if isRead then .invalid else .unread, stored := y }
      storeBy (fun t => { t with
        cal := x (.image cal) a, cfg := x .unreadable b, price := x (.image { generation := 7, bank := Bank.zero }) c
        totals := x .unreadable d }) (linkBy (fun l => { l with tx := none }) State.reset)
    let slots (x : SlotContents) : State := storeBy (fun t => { t with slots := { t.slots with a := { state := .written, contents := x } } }) (s true true true true)
    (settledB (s false false false false) = true ∧ (s false false false false).power.mode = .loading) ∧
    settledB (s true false false false) = true ∧ settledB (s true true false false) = true ∧
    (settledB (s true true true false) = true ∧ (s true true true false).store.totals.state = .unread) ∧
    (settledB (s true true true true) = true ∧ (s true true true true).estopInput = false ∧
      (s true true true true).supplyFailInput = false ∧ (s true true true true).store.saving = none ∧
      (s true true true true).store.saveWaiting = [] ∧ (s true true true true).filling .a = false ∧
      (s true true true true).store.slots.a.contents = .empty) ∧
    settledB (slots (.saved [queued])) = true ∧ settledB (slots (.saved [{ queued with ended := .powerFail }])) = true ∧
    settledB (paramsBy (fun c => { c with stackDepth := 1 }) (slots (.saved [queued, { queued with number := 43 }]))) = true ∧ settledB (slots .cutShort) = true ∧
    settledB (paramsBy (fun c => { c with autostart := 0 }) (s true true true true)) = true ∧
    (settledB ready = true ∧ ready.power.mode ≠ .loading) := by decide


end Sys2Proof.Tests
end

namespace Sys2Proof.Machine

open Sys2Proof

/-! ### The end of an event whose effect reports no side

What `settle` does to an effect that leaves the displays, the ports, the store and both sides' states and closures alone: the latches
follow their conditions and the link's next frame starts. -/

/-- The link as the end of an event without a notice of its own leaves it (R186, R188). -/
def Link.follows (l : Link) (c : Latches) : Link := Link.startNext { l with latches := l.latches.follow c }

/-- An effect stands still: it owes no display frame, no store job, no reader record, no SIDE_STATE and no POWER_STAGE. -/
structure StandsStill (s u : State) : Prop where
  display : u.display = s.display
  ports : u.ports = s.ports
  register : u.register = s.register
  store : u.store = s.store
  mode : u.power.mode = s.power.mode
  supplyFail : u.supplyFailInput = s.supplyFailInput
  fill : ∀ i, (u.fill.get i).state = (s.fill.get i).state ∧ (u.fill.get i).closures = (s.fill.get i).closures
  changes : u.changes = s.changes

theorem reported_still {s u : State} (hd : ∀ i, startDisplay i u = u.display.get i)
    (hf : ∀ i, (u.fill.get i).state = (s.fill.get i).state ∧ (u.fill.get i).closures = (s.fill.get i).closures)
    (hc : u.changes = []) :
    reported s u = { u.link with latches := u.link.latches.follow (latchConditions u) } := by
  unfold reported
  rw [sendDisplays_eq, hd, hd]
  have e : ({ u with display := { a := u.display.get .a, b := u.display.get .b } } : State) = u := rfl
  have ea : reportSide .a s.fill.a u = u := if_pos (hf .a)
  have eb : reportSide .b s.fill.b u = u := if_pos (hf .b)
  rw [e, ea, eb, reportPower_same s u hc]
  rfl

/-- An effect that stands still ends with the latches following and the start of the link's next frame. -/
theorem Settled.settle_still {s u : State} (h : Settled s) (q : StandsStill s u) :
    Machine.settle s u = u.setLink (u.link.follows (latchConditions u)) := by
  have hd (i : Side) : startDisplay i u = u.display.get i := by
    rw [h.display_of_same (congrArg (·.get i) q.display), q.display]
  have hp (i : Side) : startReader u i = u.ports.get i := by
    rw [startReader_congr q.ports q.register, h.reader i, q.ports]
  have hs : (startMain u).startSave u.register.queues = u.store := by
    rw [h.store_of_same q.store q.mode q.supplyFail, q.store]
  have hc : u.changes = [] := q.changes.trans h.changes
  rw [settle_eq, hd, hd, hp, hp, hs, reported_still hd q.fill hc]
  cases u
  dsimp only at hc
  subst hc
  rfl

/-- Where the link and the conditions of the latches stand too, such an effect is the whole event. -/
theorem Settled.settle_quiet {s u : State} (h : Settled s) (q : StandsStill s u) (hl : u.link = s.link)
    (hc : latchConditions u = latchConditions s) : Machine.settle s u = u := by
  rw [h.settle_still q, hc, hl]
  have hf : s.link.follows (latchConditions s) = s.link := by
    unfold Link.follows
    rw [h.latches]
    exact h.link
  rw [hf, ← hl]
  rfl

/-- A change of a meter's channel alone is quiet. -/
theorem StandsStill.setMeter (s : State) (m : Meter) (c : MeterChannel) : StandsStill s (s.setMeter m c) :=
  ⟨rfl, rfl, rfl, rfl, rfl, rfl, fun _ => ⟨rfl, rfl⟩, rfl⟩

theorem Settled.settle_setMeter {s : State} (h : Settled s) (m : Meter) (c : MeterChannel) :
    Machine.settle s (s.setMeter m c) = s.setMeter m c :=
  h.settle_quiet (.setMeter s m c) rfl rfl

@[simp] theorem State.setMeter_setMeter (s : State) (m : Meter) (c d : MeterChannel) :
    (s.setMeter m c).setMeter m d = s.setMeter m d := by
  simp [State.setMeter]

/-! ### Taking levels -/

theorem MeterChannel.take_lastPair (c : MeterChannel) (p q : Option Bool) : (c.take p q).lastPair = c.lastPair := rfl

/-- The channel whose new pair has become the last one (R2). -/
def MeterChannel.takePair (c : MeterChannel) (p q : Option Bool) (new : Bool × Bool) : MeterChannel :=
  { c.take p q with lastPair := some new }

/-- On a channel without a last pair, levels are taken and nothing is decoded (R1). -/
theorem takeLevels_first {m : Meter} {s : State} (p q : Option Bool) (h : (s.meter m).lastPair = none) :
    takeLevels m p q s = s.setMeter m { (s.meter m).take p q with lastPair := ((s.meter m).take p q).pair } := by
  unfold takeLevels
  simp only [MeterChannel.take_lastPair, h]
  cases ((s.meter m).take p q).pair <;> rfl

/-- What a decoded pair does once the levels stand (R2). -/
def takeDecoded (m : Meter) (d : Decoded) (s : State) : State :=
  match d with
  | .forward => takeEdge m true s
  | .reverse => takeEdge m false s
  | .error => takeError m s

theorem takeLevels_decoded {m : Meter} {s : State} {p q : Option Bool} {last new : Bool × Bool} {d : Decoded}
    (hl : (s.meter m).lastPair = some last) (hn : ((s.meter m).take p q).pair = some new)
    (hd : decodePair last new = some d) :
    takeLevels m p q s = takeDecoded m d (s.setMeter m ((s.meter m).takePair p q new)) := by
  unfold takeLevels
  have e : ({ (s.meter m).take p q with
      lastPair := ((s.meter m).take p q).pair.orElse (fun _ => ((s.meter m).take p q).lastPair) } : MeterChannel) =
      (s.meter m).takePair p q new := by rw [hn]; rfl
  have hp : ((s.meter m).takePair p q new).pair = some new := hn
  dsimp only
  rw [e, hp, MeterChannel.take_lastPair, hl]
  dsimp only
  rw [hd]
  cases d <;> rfl

/-- Settles O19: the table is evaluated row by row, and on a channel without a last pair the taking is quiet. -/
theorem pairsAreFormedAndDecoded : Obligations.PairsAreFormedAndDecoded := by
  refine ⟨by decide, ?_⟩
  intro m p q s hs hn
  change event (takeLevels m p q) s = _
  rw [event_next, takeLevels_first p q hn, hs.settle_setMeter]
  rfl

/-- Settles O11: every block of the reset state is a literal. -/
theorem whatResetLeaves : Obligations.WhatResetLeaves := by
  have both {α : Type} (v : α) (i : Side) : (PerSide.both v).get i = v := by cases i <;> rfl
  refine ⟨?_, both _, both _, rfl, rfl, rfl, ?_, ?_, both _, both _, ?_, ?_, rfl, ?_, rfl, rfl, rfl, rfl, rfl, ?_,
    rfl, rfl, rfl, rfl, rfl, rfl, rfl, rfl, rfl, rfl, rfl⟩
  · rintro ⟨i, p⟩; cases i <;> cases p <;> rfl
  · intro i; cases i <;> exact ⟨rfl, rfl, rfl, rfl⟩
  · intro p; cases p <;> rfl
  · intro i; cases i <;> exact ⟨rfl, rfl⟩
  · intro i; cases i <;> exact ⟨rfl, rfl⟩
  · intro i; cases i <;> exact ⟨rfl, rfl⟩
  · intro i; cases i <;> exact ⟨rfl, rfl⟩

end Sys2Proof.Machine

namespace Sys2Proof.Machine

open Sys2Proof

/-! ### What the link keeps to the end of an event

A notice that the link tells, an answer that it gives and a latch-high item that is set stay so while notices are queued and frames
start (R184, R186, R187, R188). -/

/-- What `l` tells and the latches it has set, `l'` tells and has set too. -/
structure Link.Keeps (l l' : Link) : Prop where
  tells : ∀ n, l.tells n → l'.tells n
  leak : l.latches.leak = true → l'.latches.leak = true
  nightFlow : l.latches.nightFlow = true → l'.latches.nightFlow = true
  storeFault : l.latches.storeFault = true → l'.latches.storeFault = true
  answers : ∀ kind tag status fields, l.answers kind tag status fields → l'.answers kind tag status fields

theorem Link.Keeps.refl (l : Link) : l.Keeps l := ⟨fun _ h => h, id, id, id, fun _ _ _ _ h => h⟩

theorem Link.Keeps.trans {l l' l'' : Link} (h : l.Keeps l') (h' : l'.Keeps l'') : l.Keeps l'' :=
  ⟨fun n x => h'.tells n (h.tells n x), fun x => h'.leak (h.leak x), fun x => h'.nightFlow (h.nightFlow x),
    fun x => h'.storeFault (h.storeFault x), fun k t st f x => h'.answers k t st f (h.answers k t st f x)⟩

/-- A link whose queue has grown at its tail, and whose latches are those of `l` or more, keeps what `l` has. -/
theorem Link.Keeps.of_append {l l' : Link} {ns : List Notice} (hn : l'.notices = l.notices ++ ns) (ht : l'.tx = l.tx)
    (hr : l'.replySlot = l.replySlot) (hl : l.latches.leak = true → l'.latches.leak = true)
    (hf : l.latches.nightFlow = true → l'.latches.nightFlow = true)
    (hs : l.latches.storeFault = true → l'.latches.storeFault = true) : l.Keeps l' := by
  refine ⟨fun n h => ?_, hl, hf, hs, fun k t st f h => ?_⟩
  · unfold Link.tells at h ⊢
    rw [hn, ht]
    exact h.imp_left (fun x => List.mem_append_left _ x)
  · unfold Link.answers at h ⊢
    rw [hr, ht]
    exact h

theorem Link.enqueue_keeps (l : Link) (n : Notice) : l.Keeps (l.enqueue n) := by
  unfold Link.enqueue Link.discardNotice
  split
  · exact .of_append (ns := []) (List.append_nil _).symm rfl rfl id id id
  · split
    · exact .of_append rfl rfl rfl id id id
    · split
      · exact .of_append rfl rfl rfl id id id
      · exact .of_append rfl rfl rfl id id id

theorem Link.setFault_keeps (l : Link) (i : Option Side) : l.Keeps { l with latches := i.elim l.latches l.latches.setFault } := by
  rcases i with _ | i
  · exact .refl l
  · cases i <;> exact .of_append (ns := []) (List.append_nil _).symm rfl rfl id id id

theorem Link.follow_keeps (l : Link) (c : Latches) : l.Keeps { l with latches := l.latches.follow c } := by
  have up (b d : Bool) (h : b = true) : (b || d) = true := by rw [h]; rfl
  exact .of_append (l' := { l with latches := l.latches.follow c }) (ns := []) (List.append_nil _).symm rfl rfl (up _ _) (up _ _)
    (up _ _)

theorem Link.startNext_keeps (l : Link) : l.Keeps l.startNext := by
  refine ⟨fun n h => ?_, fun h => ?_, fun h => ?_, fun h => ?_, fun k t st f h => ?_⟩
  case refine_2 | refine_3 | refine_4 => rw [Link.startNext_latches]; exact h
  all_goals
    rcases l with ⟨r, g, sv, rs, bs, ns, lo, tx, la, c⟩
    cases tx <;> cases rs <;> cases bs <;> cases ns <;> simp_all [Link.tells, Link.answers, Link.startNext, or_comm, eq_comm]

theorem notify_keeps (n : Notice) (s : State) : s.link.Keeps (notify n s).link := Link.enqueue_keeps _ _

theorem notifyAll_keeps (ns : List Notice) (s : State) : s.link.Keeps (ns.foldl (fun u n => notify n u) s).link := by
  induction ns generalizing s with
  | nil => exact .refl _
  | cons n ns ih => exact (notify_keeps n s).trans (ih (notify n s))

theorem reportSide_keeps (i : Side) (old : Fill) (s : State) : s.link.Keeps (reportSide i old s).link := by
  unfold reportSide
  dsimp only
  split
  · exact .refl _
  · exact notify_keeps _ _

/-- The end of an event keeps what its effect has told, answered and latched. -/
theorem settle_keeps (old u : State) : u.link.Keeps (settle old u).link := by
  rw [settle_link]
  refine Link.Keeps.trans ?_ (Link.startNext_keeps _)
  unfold reported
  refine Link.Keeps.trans ?_ (Link.follow_keeps _ _)
  refine Link.Keeps.trans ?_ (notifyAll_keeps _ _)
  exact (reportSide_keeps .a old.fill.a (sendDisplays u)).trans (reportSide_keeps .b old.fill.b _)

/-! ### Room for notices -/

theorem Room.mono {j k : Nat} {s : State} (h : Room k s) (hj : j ≤ k) : Room j s := ⟨h.1, by have := h.2; omega⟩

theorem Room.of_link {k : Nat} {s u : State} (h : Room k s) (hl : u.link = s.link) : Room k u := by
  unfold Room; rw [hl]; exact h

/-- A notice for which there is room joins the tail of the queue (R187). -/
theorem Link.enqueue_room {l : Link} (n : Notice) (h : l.lost = 0) (hn : l.notices.length + 1 ≤ Const.noticePlaces) :
    l.enqueue n = { l with notices := l.notices ++ [n] } := by
  unfold Link.enqueue
  rw [if_neg (by omega), if_pos h]

theorem notify_room {k : Nat} {s : State} (n : Notice) (h : Room (k + 1) s) : Room k (notify n s) := by
  obtain ⟨hl, hn⟩ := h
  have e : (notify n s).link = { s.link with notices := s.link.notices ++ [n] } := Link.enqueue_room n hl (by omega)
  unfold Room
  rw [e]
  refine ⟨hl, ?_⟩
  rw [List.length_append, List.length_singleton]
  omega

theorem notify_tells {k : Nat} {s : State} (n : Notice) (h : Room (k + 1) s) : (notify n s).link.tells n := by
  obtain ⟨hl, hn⟩ := h
  have e : (notify n s).link = { s.link with notices := s.link.notices ++ [n] } := Link.enqueue_room n hl (by omega)
  rw [e]
  exact .inl (List.mem_append_right _ (List.mem_singleton.mpr rfl))

/-! ### Changes of side state -/

theorem enterState_same {i : Side} {new : SideState} {s : State} (h : s.sideState i = new) : enterState i new s = s := if_pos h

theorem enterState_other {i : Side} {new : SideState} {s : State} (h : s.sideState i ≠ new) :
    enterState i new s =
      sendDue i ((((s.setFill i
        { s.fill.get i with
          state := new
          noFlowTimer := noFlowAfter (s.fill.get i).state new (s.fill.get i).noFlowTimer s.params
          quietTimer := if new = .ending then some s.params.quietTime.toNat else none
          afterFlowTimer := if new = .ending then some Const.afterFlow else none }).setBlend i (blendAfter s i new)).setValves i
        (valveDuties new (blendAfter s i new) s.params)).setDisplay i
          ((s.display.get i).sideChanged (s.fill.get i).state new (refreshInterval s))) := if_neg h

/-- What a side that goes to another state becomes, block by block (R58, R63, R67, R78, R79, R84). -/
theorem enterState_fill {i : Side} {new : SideState} {s : State} (h : s.sideState i ≠ new) :
    (enterState i new s).fill.get i = { s.fill.get i with
      state := new
      noFlowTimer := noFlowAfter (s.fill.get i).state new (s.fill.get i).noFlowTimer s.params
      quietTimer := if new = .ending then some s.params.quietTime.toNat else none
      afterFlowTimer := if new = .ending then some Const.afterFlow else none } := by
  rw [enterState_other h]
  simp [sendDue]

theorem enterState_blend {i : Side} {new : SideState} {s : State} (h : s.sideState i ≠ new) :
    (enterState i new s).blend.get i = blendAfter s i new := by
  rw [enterState_other h]
  simp [sendDue]

theorem enterState_valves {i : Side} {new : SideState} {s : State} (h : s.sideState i ≠ new) :
    (enterState i new s).valves.get i = valveDuties new (blendAfter s i new) s.params := by
  rw [enterState_other h]
  simp [sendDue]

@[simp] theorem enterState_sideState (i : Side) (new : SideState) (s : State) : (enterState i new s).sideState i = new := by
  by_cases h : s.sideState i = new
  · rw [enterState_same h, h]
  · unfold State.sideState
    rw [enterState_fill h]

@[simp] theorem enterState_closures (i : Side) (new : SideState) (s : State) :
    ((enterState i new s).fill.get i).closures = (s.fill.get i).closures := by
  by_cases h : s.sideState i = new
  · rw [enterState_same h]
  · rw [enterState_fill h]

/-- A side that is neither FLOWING nor SLOWING has both valves closed (R67). -/
theorem valveDuties_shut {st : SideState} (h : st.isOpen = false) (b : Blend) (c : Params) :
    valveDuties st b c = { lo := 0, hi := 0 } := by
  cases st
  case flowing => exact absurd h (by decide)
  case slowing => exact absurd h (by decide)
  all_goals simp [valveDuties]

/-- What a block that is not among those named shows of the state. -/
theorem OnlyChanges.link_eq {bs : List Block} {s t : State} (h : OnlyChanges bs s t) (hb : Block.link ∉ bs := by simp) :
    t.link = s.link := h .link hb

theorem enterState_link (i : Side) (new : SideState) (s : State) : (enterState i new s).link = s.link :=
  (enterState_only i new s).link_eq

/-! ### Fill faults -/

/-- A side outside a fill state to which a closure is added is CLOSED (R47). -/
theorem addClosure_sideState {i : Side} {s : State} (r : ClosureReason) (h : s.filling i = false) :
    (addClosure i r s).sideState i = .closed := by
  have hf : (s.setFill i { s.fill.get i with closures := (s.fill.get i).closures.add r }).filling i = false := by
    rw [← h]; simp [State.filling, State.sideState]
  unfold addClosure closeIfWaiting
  dsimp only
  rw [hf]
  exact enterState_sideState _ _ _

theorem addClosure_filling {i : Side} {s : State} (r : ClosureReason) (h : s.filling i = true) :
    addClosure i r s = s.setFill i { s.fill.get i with closures := (s.fill.get i).closures.add r } := by
  have hf : (s.setFill i { s.fill.get i with closures := (s.fill.get i).closures.add r }).filling i = true := by
    rw [← h]; simp [State.filling, State.sideState]
  unfold addClosure closeIfWaiting
  dsimp only
  rw [hf]
  rfl

theorem SideState.isFill_of_beforeEnding {st : SideState} (h : st.beforeEnding = true) : st.isFill = true := by
  revert h
  cases st <;> decide

theorem SideState.ne_ending_of_beforeEnding {st : SideState} (h : st.beforeEnding = true) : st ≠ .ending := by
  rintro rfl; exact absurd h (by decide)

/-- The fill of a side that a fill fault has ended (R62, R63). -/
def Fill.faulted (f : Fill) (k : FaultKind) (c : Params) : Fill :=
  { f with
    state := .ending, closures := f.closures.add (faultClosure k)
    sale := f.sale.map (fun x => { x with ended := some (.fault k) })
    noFlowTimer := none, quietTimer := some c.quietTime.toNat, afterFlowTimer := some Const.afterFlow }

/-- A fill fault outside the states before ENDING changes nothing (R62). -/
theorem fillFault_none {i : Side} {s : State} (k : FaultKind) (m : Option Meter) (h : (s.sideState i).beforeEnding = false) :
    fillFault i k m s = s := by
  unfold fillFault
  rw [h]
  rfl

/-- What a fill fault makes of a side before ENDING: the fill is ended, its window discarded, its valves shut, and the fault told
(R62, R67, R84). -/
structure Faulted (i : Side) (k : FaultKind) (m : Option Meter) (s t : State) : Prop where
  fill : t.fill.get i = (s.fill.get i).faulted k s.params
  blend : t.blend.get i = { s.blend.get i with window := none }
  valves : t.valves.get i = { lo := 0, hi := 0 }
  tells : ∀ n, Room (n + 1) s → t.link.tells (.fault (some i) k m ((s.fill.get i).sale.map (fun c => c.number)) none none)

theorem fillFault_faulted {i : Side} {s : State} (k : FaultKind) (m : Option Meter) (h : (s.sideState i).beforeEnding = true) :
    Faulted i k m s (fillFault i k m s) := by
  have hfill : s.filling i = true := SideState.isFill_of_beforeEnding h
  unfold fillFault
  rw [if_pos h, addClosure_filling _ hfill]
  unfold endFill
  generalize hu : setSale i (fun c => { c with ended := some (.fault k) })
    (s.setFill i { s.fill.get i with closures := (s.fill.get i).closures.add (faultClosure k) }) = u
  have huf : u.fill.get i = { s.fill.get i with
      closures := (s.fill.get i).closures.add (faultClosure k)
      sale := (s.fill.get i).sale.map (fun c => { c with ended := some (.fault k) }) } := by
    rw [← hu]; simp [setSale]
  have hus : u.sideState i = s.sideState i := by unfold State.sideState; rw [huf]
  have hup : u.params = s.params := by rw [← hu]; rfl
  have hub : u.blend = s.blend := by rw [← hu]; rfl
  have hul : u.link = s.link := by rw [← hu]; rfl
  have hne : u.sideState i ≠ .ending := by rw [hus]; exact SideState.ne_ending_of_beforeEnding h
  have hb : blendAfter u i .ending = { s.blend.get i with window := none } := by
    unfold blendAfter
    rw [hub]
    rfl
  refine ⟨?_, ?_, ?_, ?_⟩
  · change (enterState i .ending u).fill.get i = _
    rw [enterState_fill hne, huf, hup]
    rfl
  · change (enterState i .ending u).blend.get i = _
    rw [enterState_blend hne, hb]
  · change (enterState i .ending u).valves.get i = _
    rw [enterState_valves hne, valveDuties_shut rfl]
  · intro n hr
    unfold notifyFault
    apply (Link.setFault_keeps _ (some i)).tells
    exact notify_tells (k := n) _ (hr.of_link ((enterState_link _ _ _).trans hul))

theorem Faulted.sideState {i : Side} {k : FaultKind} {m : Option Meter} {s t : State} (h : Faulted i k m s t) :
    t.sideState i = .ending := congrArg Fill.state h.fill

end Sys2Proof.Machine

namespace Sys2Proof.Machine

open Sys2Proof

/-! ### Frames of whole events -/

/-- A frame that stays clear of the register leaves the deliveries of every side as they were. -/
theorem OnlyChanges.pendingDelivery_eq {bs : List Block} {s t : State} (h : OnlyChanges bs s t) (hr : Block.register ∉ bs)
    (i : Side) : pendingDelivery t i = pendingDelivery s i := by
  have e : t.register = s.register := h .register hr
  unfold pendingDelivery
  rw [e]

/-- The end of an event keeps a frame that leaves the register, the power, the warning input and the store alone, but for the
link. -/
theorem OnlyChanges.settle_clear {s u : State} {bs : List Block} (old : State) (h : Settled s) (hu : OnlyChanges bs s u)
    (hl : Block.link ∈ bs := by simp) (hr : Block.register ∉ bs := by simp) (hp : Block.power ∉ bs := by simp)
    (hf : Block.supplyFailInput ∉ bs := by simp) : OnlyChanges bs s (Machine.settle old u) :=
  hu.settle old h hl (fun i _ => hu.pendingDelivery_eq hr i)
    (fun _ => ⟨congrArg Power.mode (hu .power hp), hu .supplyFailInput hf⟩)

theorem settle_sideState (old u : State) (i : Side) : (settle old u).sideState i = u.sideState i := by
  unfold State.sideState; rw [settle_fill]

@[simp] theorem settle_meter (old u : State) (m : Meter) : (settle old u).meter m = u.meter m := by
  unfold State.meter; rw [settle_meters]

theorem fillFault_meters (i : Side) (k : FaultKind) (m : Option Meter) (s : State) (n : Meter) :
    (fillFault i k m s).meter n = s.meter n := fillFault_only i k m s (.meter n) (by simp)

theorem fillFault_sideMeters (i : Side) (k : FaultKind) (m : Option Meter) (s : State) (j : Side) :
    (fillFault i k m s).sideMeters.get j = s.sideMeters.get j := fillFault_only i k m s (.sideMeters j) (by simp)

/-! ### Rate windows -/

/-- The rate of four windows is the floor of their sum times 60 over 100,000 (R8). -/
theorem Windows.rate_eq_floor (w : Windows) (sum : Int) (h : w.w1 + w.w2 + w.w3 + w.w4 = sum) :
    w.rate = (Int.floor ((sum * 60 : Int) / (100000 : Rat))).toNat := by
  unfold Windows.rate
  rw [h]
  congr 1
  exact (Rat.floor_intCast_div_natCast (sum * 60) 100000).symm

theorem SideState.beforeEnding_of_isOpen {st : SideState} (h : st.isOpen = true) : st.beforeEnding = true := by
  revert h
  cases st <;> decide

/-- The channel of a meter whose rate window has expired (R8). -/
theorem closeWindow_eq (c : MeterChannel) :
    c.closeWindow =
      { c with
        windows := { w1 := c.windows.w2, w2 := c.windows.w3, w3 := c.windows.w4, w4 := c.openWindow }
        openWindow := 0
        rate := (Int.floor (((c.windows.w2 + c.windows.w3 + c.windows.w4 + c.openWindow) * 60 : Int) / (100000 : Rat))).toNat
        windowTimer := some 250 } := by
  unfold MeterChannel.closeWindow
  dsimp only
  rw [Windows.rate_eq_floor _ _ rfl]
  rfl

/-- Settles O24: the three branches of the expiry; the one that reaches 4 is a fill fault of a side before ENDING. -/
theorem rateWindowsGiveRateAndOverspeed : Obligations.RateWindowsGiveRateAndOverspeed := by
  intro m s hs c sum rate c' tooFast
  have hc : c.closeWindow = c' := closeWindow_eq c
  have hx : exec (.rateWindowExpiry m) s = event (rateExpiry m) s := rfl
  have hfast : tooFast ↔ (s.sideState m.side).isOpen = true ∧ c.closeWindow.maxFlow < c.closeWindow.rate := by
    rw [hc]
  have hrun : c.closeWindow.overspeedRun = c.overspeedRun := rfl
  refine ⟨fun h => ?_, fun h h3 => ?_, fun h h3 => ?_⟩
  · have e : rateExpiry m s = s.setMeter m { c' with overspeedRun := 0 } := by
      rw [← hc]; exact if_neg (fun x => h (hfast.mpr x))
    rw [hx, event_next, e, hs.settle_setMeter]
  · have e : rateExpiry m s = s.setMeter m { c' with overspeedRun := c.overspeedRun + 1 } := by
      rw [← hc]; exact (if_pos (hfast.mp h)).trans (if_neg (by rw [hrun]; omega))
    rw [hx, event_next, e, hs.settle_setMeter]
  · generalize hu : s.setMeter m { c' with overspeedRun := 0 } = u
    have e : rateExpiry m s = fillFault m.side .overspeed (some m) u := by
      rw [← hu, ← hc]; exact (if_pos (hfast.mp h)).trans (if_pos (by rw [hrun]; omega))
    have huf : u.fill = s.fill := by rw [← hu]; rfl
    have hb : (u.sideState m.side).beforeEnding = true := by
      rw [← hu]; exact SideState.beforeEnding_of_isOpen h.1
    have hF := fillFault_faulted .overspeed (some m) hb
    refine ⟨_, by rw [hx, event_next, e], ?_, ?_, ?_, ?_, ?_, ?_, ?_⟩
    · rw [settle_meter, fillFault_meters, ← hu, State.setMeter_meter_same]
    · rw [settle_sideState, hF.sideState]
    · rw [settle_fill, hF.fill]; rfl
    · rw [settle_fill, hF.fill, huf]; rfl
    · intro hr
      apply (settle_keeps _ _).tells
      have := hF.tells 3 (hr.of_link (by rw [← hu]; rfl))
      rwa [huf] at this
    · rw [settle_valves, hF.valves]
    · refine OnlyChanges.settle_clear s hs ?_
      rw [← hu]
      exact ((setMeter_only s m _).mono (by simp)).step (fillFault_only _ _ _ _) (by simp)

/-! ### Phase errors -/

theorem latchConditions_sideMeters {s : State} (i : Side) (x : SideMeters) (h : x.nightLeak = (s.sideMeters.get i).nightLeak) :
    latchConditions (s.setSideMeters i x) = latchConditions s := by
  unfold latchConditions
  have e : ((s.setSideMeters i x).sideMeters.a.nightLeak || (s.setSideMeters i x).sideMeters.b.nightLeak) =
      (s.sideMeters.a.nightLeak || s.sideMeters.b.nightLeak) := by
    cases i <;> simp_all
  rw [e]
  rfl

/-- The fill count of phase errors after one more (R10). -/
def SideMeters.countError (x : SideMeters) : SideMeters := { x with fillErrors := min (x.fillErrors + 1) 65535 }

/-- PULSER is due: the error just counted passes the limit and the mark is clear (R10). -/
def SideMeters.pulserDue (x : SideMeters) (limit : Int) : Prop :=
  limit < ((min (x.fillErrors + 1) 65535 : Nat) : Int) ∧ (!x.pulserRaised) = true

theorem takeError_idle {m : Meter} {s : State} (h : s.filling m.side = false) :
    takeError m s = s.setMeter m { s.meter m with phaseErrors := (s.meter m).phaseErrors + 1 } := by
  exact if_neg (by rw [State.setMeter_filling, h]; decide)

theorem takeError_counted {m : Meter} {s : State} (h : s.filling m.side = true)
    (hd : ¬(s.sideMeters.get m.side).pulserDue s.params.phaseErrorLimit) :
    takeError m s = (s.setMeter m { s.meter m with phaseErrors := (s.meter m).phaseErrors + 1 }).setSideMeters m.side
      (s.sideMeters.get m.side).countError := by
  exact (if_pos h).trans (if_neg hd)

theorem takeError_pulser {m : Meter} {s : State} (h : s.filling m.side = true)
    (hd : (s.sideMeters.get m.side).pulserDue s.params.phaseErrorLimit) :
    takeError m s = fillFault m.side .pulser (some m)
      ((s.setMeter m { s.meter m with phaseErrors := (s.meter m).phaseErrors + 1 }).setSideMeters m.side
        { (s.sideMeters.get m.side).countError with pulserRaised := true }) := by
  exact (if_pos h).trans (if_pos hd)

/-- Settles O23: an error outside a fill, one that is only counted, and the one that raises PULSER. -/
theorem phaseErrorsAreCounted : Obligations.PhaseErrorsAreCounted := by
  intro m p q last new s hs hl hn hd n
  generalize hv : s.setMeter m ((s.meter m).takePair p q new) = v
  have hx : exec (.phaseLevelTaken m p q) s = .next (settle s (takeError m v)) := by
    change event (takeLevels m p q) s = _
    rw [event_next, takeLevels_decoded hl hn hd, ← hv]
    rfl
  have hvm : v.meter m = (s.meter m).takePair p q new := by rw [← hv, State.setMeter_meter_same]
  have hvf : v.filling m.side = s.filling m.side := by rw [← hv]; rfl
  have hvx : v.sideMeters = s.sideMeters := by rw [← hv]; rfl
  have hvp : v.params = s.params := by rw [← hv]; rfl
  let c : MeterChannel := { v.meter m with phaseErrors := (v.meter m).phaseErrors + 1 }
  have hc : c = { (s.meter m).take p q with lastPair := some new, phaseErrors := (s.meter m).phaseErrors + 1 } := by
    change ({ v.meter m with phaseErrors := (v.meter m).phaseErrors + 1 } : MeterChannel) = _
    rw [hvm]; rfl
  have hvc : v.setMeter m c = s.setMeter m c := by rw [← hv, State.setMeter_setMeter]
  rcases hfill : s.filling m.side with _ | _
  · have e : takeError m v = s.setMeter m c := (takeError_idle (hvf.trans hfill)).trans hvc
    refine ⟨_, hx, ?_, fun _ => ?_, nofun⟩
    · rw [settle_meter, e, State.setMeter_meter_same, hc]
    · rw [e, hs.settle_setMeter]
      exact setMeter_only _ _ _
  · by_cases hdue : (s.sideMeters.get m.side).pulserDue s.params.phaseErrorLimit
    · generalize hu : (s.setMeter m c).setSideMeters m.side
        { (s.sideMeters.get m.side).countError with pulserRaised := true } = u
      have e : takeError m v = fillFault m.side .pulser (some m) u := by
        rw [takeError_pulser (hvf.trans hfill) (by rw [hvx, hvp]; exact hdue), hvx, ← hu, ← hvc]
      have huf : u.fill = s.fill := by rw [← hu]; rfl
      refine ⟨_, hx, ?_, nofun, fun _ => ⟨fun h => ?_, fun _ _ => ⟨?_, fun hb => ?_, ?_⟩⟩⟩
      · rw [settle_meter, e, fillFault_meters, ← hu, State.setSideMeters_meter, State.setMeter_meter_same, hc]
      · obtain ⟨hlim, hclear⟩ := hdue
        rcases h with h | h
        · exact absurd h (by omega)
        · rw [h] at hclear; exact absurd hclear (by decide)
      · rw [settle_sideMeters, e, fillFault_sideMeters, ← hu, State.setSideMeters_sideMeters, PerSide.get_set_same]
        rfl
      · have hF := fillFault_faulted .pulser (some m) (i := m.side) (s := u) (by unfold State.sideState; rw [huf]; exact hb)
        rw [e]
        refine ⟨?_, ?_, ?_, ?_⟩
        · rw [settle_sideState, hF.sideState]
        · rw [settle_fill, hF.fill]; rfl
        · rw [settle_valves, hF.valves]
        · rw [settle_fill, hF.fill, huf]; rfl
      · rw [e]
        refine OnlyChanges.settle_clear s hs ?_
        rw [← hu]
        exact (((setMeter_only s m c).mono (by simp)).step (setSideMeters_only _ _ _) (by simp)).step
          (fillFault_only _ _ _ _) (by simp)
    · let u := (s.setMeter m c).setSideMeters m.side (s.sideMeters.get m.side).countError
      have e : takeError m v = u := by
        rw [takeError_counted (hvf.trans hfill) (by rw [hvx, hvp]; exact hdue), hvx]
        exact congrArg (fun w => State.setSideMeters w _ _) hvc
      have hq : settle s u = u :=
        hs.settle_quiet ⟨rfl, rfl, rfl, rfl, rfl, rfl, fun _ => ⟨rfl, rfl⟩, rfl⟩ rfl
          (latchConditions_sideMeters (s := s.setMeter m c) m.side _ rfl)
      refine ⟨u, by rw [hx, e, hq], ?_, nofun, fun _ => ⟨fun _ => ⟨?_, ?_⟩, fun h1 h2 => absurd ⟨h1, by rw [h2]; rfl⟩ hdue⟩⟩
      · rw [State.setSideMeters_meter, State.setMeter_meter_same, hc]
      · rw [State.setSideMeters_sideMeters, PerSide.get_set_same]; rfl
      · exact ((setMeter_only s m c).mono (by simp)).step (setSideMeters_only _ _ _) (by simp)

end Sys2Proof.Machine

namespace Sys2Proof.Machine

open Sys2Proof

/-! ### Decoded edges -/

/-- The channel after an edge has been counted and added to the open rate window (R8, R12). -/
def MeterChannel.edged (c : MeterChannel) (forward : Bool) : MeterChannel :=
  { c.countEdge forward with openWindow := c.openWindow + c.signed forward }

@[simp] theorem MeterChannel.countEdge_signed (c : MeterChannel) (f g : Bool) : (c.countEdge f).signed g = c.signed g := by
  cases f <;> rfl
@[simp] theorem MeterChannel.countEdge_openWindow (c : MeterChannel) (f : Bool) : (c.countEdge f).openWindow = c.openWindow := by
  cases f <;> rfl

/-- Before the CAL region has been read an edge is counted alone (R3, R12). -/
theorem takeEdge_unread {m : Meter} {s : State} (f : Bool) (h : s.store.cal.state = .unread) :
    takeEdge m f s = s.setMeter m ((s.meter m).countEdge f) := by
  unfold takeEdge
  rw [h]
  rfl

theorem RegionState.isRead_of_ne {r : RegionState} (h : r ≠ .unread) : r.isRead = true := by
  revert h
  cases r <;> decide

theorem takeEdge_read {m : Meter} {s : State} (f : Bool) (h : s.store.cal.state ≠ .unread) :
    takeEdge m f s =
      if s.filling m.side then weighSale m f ((s.meter m).signed f) (s.setMeter m ((s.meter m).edged f))
      else weighCreep m ((s.meter m).signed f) (s.setMeter m ((s.meter m).edged f)) := by
  unfold takeEdge
  rw [RegionState.isRead_of_ne h]
  simp only [if_true, MeterChannel.countEdge_signed, MeterChannel.countEdge_openWindow, State.setMeter_filling]
  rfl

/-- A taken level whose pair is decoded as an edge: the event, from the channel that has taken the pair. -/
theorem exec_edge {m : Meter} {p q : Option Bool} {last new : Bool × Bool} {f : Bool} {s : State}
    (hl : (s.meter m).lastPair = some last) (hn : ((s.meter m).take p q).pair = some new)
    (hd : decodePair last new = some (if f then .forward else .reverse)) :
    exec (.phaseLevelTaken m p q) s = .next (settle s (takeEdge m f (s.setMeter m ((s.meter m).takePair p q new)))) := by
  change event (takeLevels m p q) s = _
  rw [event_next, takeLevels_decoded hl hn hd]
  cases f <;> rfl

/-- The weighed edge outside a fill, as an effect on `s` (R3, R6). -/
theorem takeEdge_creep {m : Meter} {p q : Option Bool} {new : Bool × Bool} {s : State} (f : Bool)
    (hf : s.filling m.side = false) (hc : s.store.cal.state ≠ .unread) :
    takeEdge m f (s.setMeter m ((s.meter m).takePair p q new)) =
      weighCreep m ((s.meter m).signed f) (s.setMeter m (((s.meter m).takePair p q new).edged f)) := by
  have hc' : (s.setMeter m ((s.meter m).takePair p q new)).store.cal.state ≠ .unread := hc
  rw [takeEdge_read f hc', State.setMeter_filling, hf, State.setMeter_meter_same, State.setMeter_setMeter]
  rfl

/-! ### Creep -/

theorem creepEdge_eq (i : Side) (s : State) :
    creepEdge i s = s.setSidePower i
      (if (s.sidePower.get i).state = .check ∧ (s.sidePower.get i).quietTimer.isSome then
        { s.sidePower.get i with quietEdge := true } else s.sidePower.get i) := by
  unfold creepEdge
  dsimp only
  split
  · rfl
  · simp [State.setSidePower]

/-- The conditions of the latches read a side's power state and its supply-good input alone of its power (R188). -/
theorem latchConditions_setSidePower {s : State} (i : Side) (x : SidePower) (h : x.state = (s.sidePower.get i).state)
    (hg : x.supplyGood = (s.sidePower.get i).supplyGood) : latchConditions (s.setSidePower i x) = latchConditions s := by
  cases i
  · change ({ latchConditions s with upA := x.state == .up, supplyGoodA := x.supplyGood } : Latches) = latchConditions s
    rw [h, hg]
    rfl
  · change ({ latchConditions s with upB := x.state == .up, supplyGoodB := x.supplyGood } : Latches) = latchConditions s
    rw [h, hg]
    rfl

/-- The channel after an edge weighed into its creep accumulator (R3). -/
def MeterChannel.crept (c : MeterChannel) (x : Int) : MeterChannel := { c with creep := addVu c.creep x }

/-- The creep alarm is due: the accumulator has changed, the alarm is armed, and the accumulator is at the limit (R6). -/
def MeterChannel.creepDue (c : MeterChannel) (x limit : Int) : Prop :=
  addVu c.creep x ≠ c.creep ∧ (!c.creepFired) = true ∧ limitVu limit ≤ |addVu c.creep x|

theorem weighCreep_calm {m : Meter} {s : State} (c : MeterChannel) (x : Int) (h : ¬c.creepDue x s.params.creepLimit) :
    weighCreep m x (s.setMeter m c) = creepEdge m.side (s.setMeter m (c.crept x)) := by
  have hp (u : State) : (creepEdge m.side u).params = u.params := by rw [creepEdge_eq]; rfl
  unfold weighCreep
  dsimp only
  rw [State.setMeter_meter_same, State.setMeter_setMeter, hp]
  exact if_neg h

theorem weighCreep_fires {m : Meter} {s : State} (c : MeterChannel) (x : Int) (h : c.creepDue x s.params.creepLimit) :
    weighCreep m x (s.setMeter m c) = creepFires m (creepEdge m.side (s.setMeter m (c.crept x))) := by
  have hp (u : State) : (creepEdge m.side u).params = u.params := by rw [creepEdge_eq]; rfl
  unfold weighCreep
  dsimp only
  rw [State.setMeter_meter_same, State.setMeter_setMeter, hp]
  exact if_pos h

/-- A firing alarm of a side before ADMIT: the night-leak and the night-flow latch, and NIGHT_FLOW the first time (R6). -/
theorem creepFires_night {m : Meter} {s : State} (h : (s.sidePower.get m.side).state.isNightLeak = true) :
    creepFires m s =
      (let u := ((s.setMeter m { s.meter m with creepFired := true }).setLink
        { s.link with latches := { s.link.latches with nightFlow := true } }).setSideMeters m.side
          { s.sideMeters.get m.side with nightLeak := true }
       if (s.sideMeters.get m.side).nightLeak then u else notify (.nightFlow m.side m (s.meter m).creep) u) := by
  unfold creepFires
  simp only [State.setMeter_sidePower, h, if_true, State.setMeter_link, State.setMeter_sideMeters,
    State.setSideMeters_meter, State.setLink_meter, State.setMeter_meter_same]

/-- A firing alarm of a side from ADMIT on closes the side for LEAK (R6). -/
theorem creepFires_leak {m : Meter} {s : State} (h : (s.sidePower.get m.side).state.isNightLeak = false) :
    creepFires m s = addClosure m.side .leak ((s.setMeter m { s.meter m with creepFired := true }).setLink
      { s.link with latches := { s.link.latches with leak := true } }) := by
  unfold creepFires
  simp only [State.setMeter_sidePower, h, State.setMeter_link]
  rfl

theorem addVu_eq {a x : Int} (hlo : -549755813888 ≤ a + x) (hhi : a + x ≤ 549755813887) : addVu a x = a + x := by
  unfold addVu clampInt Const.accLow Const.accHigh
  omega

/-! ### Closures -/

@[simp] theorem pendAuthState_fill (i : Side) (k : AuthStateKind) (r : Nat) (s : State) : (pendAuthState i k r s).fill = s.fill := rfl
@[simp] theorem notify_fill (n : Notice) (s : State) : (notify n s).fill = s.fill := rfl

/-- The slot of a side once a WAITING authorization has left it (R54). -/
def Fill.withoutWaiting (f : Fill) : Fill :=
  if f.slot.any (fun a => a.phase = .waiting) then { f with slot := none, authTimer := none } else f

theorem Fill.withoutWaiting_waiting {f : Fill} {a : Auth} (h : f.slot = some a) (hp : a.phase = .waiting) :
    f.withoutWaiting = { f with slot := none, authTimer := none } := by
  unfold Fill.withoutWaiting
  rw [if_pos (by rw [h]; simp [hp])]

theorem Fill.withoutWaiting_inUse {f : Fill} {a : Auth} (h : f.slot = some a) (hp : a.phase = .inUse) :
    f.withoutWaiting = f := by
  unfold Fill.withoutWaiting
  rw [if_neg (by rw [h]; simp [hp])]

theorem Fill.withoutWaiting_empty {f : Fill} (h : f.slot = none) : f.withoutWaiting = f := by
  unfold Fill.withoutWaiting
  rw [if_neg (by rw [h]; simp)]

theorem removeWaiting_fill (i : Side) (why : RemovalReason) (tell : Bool) (s : State) :
    (removeWaiting i why tell s).fill.get i = (s.fill.get i).withoutWaiting := by
  unfold removeWaiting
  dsimp only
  split
  · rename_i a h
    split
    · rename_i hp
      rw [Fill.withoutWaiting_inUse h hp]
    · rename_i hp
      rw [Fill.withoutWaiting_waiting h hp]
      split <;> simp
  · rename_i h
    rw [Fill.withoutWaiting_empty h]

@[simp] theorem Fill.withoutWaiting_closures (f : Fill) : f.withoutWaiting.closures = f.closures := by
  unfold Fill.withoutWaiting; split <;> rfl
@[simp] theorem Fill.withoutWaiting_state (f : Fill) : f.withoutWaiting.state = f.state := by
  unfold Fill.withoutWaiting; split <;> rfl

/-- A closure that is added is in the set, whatever else its adding does (R47). -/
theorem addClosure_closures (i : Side) (r : ClosureReason) (s : State) :
    ((addClosure i r s).fill.get i).closures = (s.fill.get i).closures.add r := by
  unfold addClosure closeIfWaiting
  dsimp only
  split
  · simp
  · rw [enterState_closures, removeWaiting_fill]
    simp

theorem removeWaiting_keeps (i : Side) (why : RemovalReason) (tell : Bool) (s : State) :
    s.link.Keeps (removeWaiting i why tell s).link := by
  unfold removeWaiting
  dsimp only
  split
  · split
    · exact .refl _
    · split <;> exact notify_keeps _ _
  · exact .refl _

theorem addClosure_keeps (i : Side) (r : ClosureReason) (s : State) : s.link.Keeps (addClosure i r s).link := by
  unfold addClosure closeIfWaiting
  dsimp only
  split
  · exact .refl _
  · rw [enterState_link]
    exact removeWaiting_keeps _ _ _ (s.setFill i { s.fill.get i with closures := (s.fill.get i).closures.add r })

theorem Link.startNext_notices_latches (l : Link) (x : Latches) :
    (Link.startNext { l with latches := x }).notices = l.startNext.notices := by
  rcases l with ⟨r, g, sv, rs, bs, ns, lo, tx, la, c⟩
  cases tx <;> cases rs <;> cases bs <;> cases ns <;> rfl

/-- While a frame is in transmission no other starts (R186). -/
theorem Link.startNext_busy {l : Link} (h : l.tx ≠ none) : l.startNext = l := by
  unfold Link.startNext
  split
  · rfl
  · contradiction

/-! ### An edge outside a fill -/

/-- The state in which an edge outside a fill has been counted and weighed (R3, R8, R12, R168). -/
def crept (m : Meter) (p q : Option Bool) (new : Bool × Bool) (f : Bool) (s : State) : State :=
  creepEdge m.side
    (s.setMeter m ((((s.meter m).takePair p q new).edged f).crept ((s.meter m).signed f)))

theorem crept_eq (m : Meter) (p q : Option Bool) (new : Bool × Bool) (f : Bool) (s : State) :
    crept m p q new f s =
      (s.setMeter m ((((s.meter m).takePair p q new).edged f).crept ((s.meter m).signed f))).setSidePower m.side
        (if (s.sidePower.get m.side).state = .check ∧ (s.sidePower.get m.side).quietTimer.isSome then
          { s.sidePower.get m.side with quietEdge := true } else s.sidePower.get m.side) := creepEdge_eq _ _

theorem edged_crept_eq (c : MeterChannel) (p q : Option Bool) (new : Bool × Bool) (f : Bool) :
    ((c.takePair p q new).edged f).crept (c.signed f) =
      { c.take p q with
        lastPair := some new
        forward := if f then c.forward + 1 else c.forward
        reverse := if f then c.reverse else c.reverse + 1
        openWindow := c.openWindow + c.signed f
        creep := addVu c.creep (c.signed f) } := by
  cases f <;> rfl

theorem countEdge_takePair (c : MeterChannel) (p q : Option Bool) (new : Bool × Bool) (f : Bool) :
    (c.takePair p q new).countEdge f =
      { c.take p q with
        lastPair := some new
        forward := if f then c.forward + 1 else c.forward
        reverse := if f then c.reverse else c.reverse + 1 } := by
  cases f <;> rfl

theorem edged_creepDue (c : MeterChannel) (p q : Option Bool) (new : Bool × Bool) (f : Bool) (x limit : Int) :
    ((c.takePair p q new).edged f).creepDue x limit ↔ c.creepDue x limit := by
  cases f <;> rfl

/-- An edge outside a fill with the alarm not due changes no more than the channel and the quiet edge mark. -/
theorem Settled.settle_crept {s : State} (h : Settled s) (m : Meter) (p q : Option Bool) (new : Bool × Bool) (f : Bool) :
    Machine.settle s (crept m p q new f s) = crept m p q new f s := by
  have hq : StandsStill s (crept m p q new f s) := by
    rw [crept_eq]
    exact ⟨rfl, rfl, rfl, rfl, rfl, rfl, fun _ => ⟨rfl, rfl⟩, rfl⟩
  refine h.settle_quiet hq (by rw [crept_eq]; rfl) ?_
  rw [crept_eq]
  refine (latchConditions_setSidePower (s := s.setMeter m _) m.side _ ?_ ?_).trans rfl
  all_goals split <;> rfl

theorem crept_only (m : Meter) (p q : Option Bool) (new : Bool × Bool) (f : Bool) (s : State) :
    OnlyChanges [.meter m, .sidePower m.side] s (crept m p q new f s) :=
  ((setMeter_only s m _).mono (by simp)).step (creepEdge_only _ _) (by simp)

theorem PowerState.isNightLeak_iff (p : PowerState) : p.isNightLeak = true ↔ p ∈ [PowerState.off, .supply, .heat, .check] := by
  cases p <;> decide

theorem PowerState.not_isNightLeak_iff (p : PowerState) :
    p.isNightLeak = false ↔ p ∈ [PowerState.admitStage, .verify, .up, .downFault] := by
  cases p <;> decide

/-- A firing alarm marks the channel and leaves its accumulator (R6). -/
theorem creepFires_meter (m : Meter) (w : State) : (creepFires m w).meter m = { w.meter m with creepFired := true } := by
  rcases h : (w.sidePower.get m.side).state.isNightLeak with _ | _
  · rw [creepFires_leak h]
    refine (addClosure_only _ _ _ (.meter m) (by simp)).trans ?_
    rw [State.setLink_meter, State.setMeter_meter_same]
  · rw [creepFires_night h]
    dsimp only
    split
    · rw [State.setSideMeters_meter, State.setLink_meter, State.setMeter_meter_same]
    · refine (notify_only _ _ (.meter m) (by simp)).trans ?_
      rw [State.setSideMeters_meter, State.setLink_meter, State.setMeter_meter_same]

/-- From ADMIT on the alarm closes the side for LEAK (R6, R47). -/
theorem Settled.creepFires_closes {s w : State} {m : Meter} (hs : Settled s) (hw : OnlyChanges [.meter m] s w)
    (hn : (s.sidePower.get m.side).state.isNightLeak = false) (hf : s.filling m.side = false) :
    ((Machine.settle s (creepFires m w)).fill.get m.side).closures = { (s.fill.get m.side).closures with leak := true } ∧
      (Machine.settle s (creepFires m w)).sideState m.side = .closed ∧
      (Machine.settle s (creepFires m w)).link.latches.leak = true ∧
      OnlyChanges [.meter m, .fill m.side, .blend m.side, .valves m.side, .display m.side, .link, .port m.side] s
        (Machine.settle s (creepFires m w)) := by
  have hwf : w.fill.get m.side = s.fill.get m.side := hw (.fill m.side) (by simp)
  have hwn : (w.sidePower.get m.side).state.isNightLeak = false := by rw [hw (.sidePower m.side) (by simp), hn]
  rw [creepFires_leak hwn]
  generalize hu : (w.setMeter m { w.meter m with creepFired := true }).setLink
    { w.link with latches := { w.link.latches with leak := true } } = u
  have huf : u.fill.get m.side = s.fill.get m.side := by rw [← hwf, ← hu]; rfl
  have hidle : u.filling m.side = false := by unfold State.filling State.sideState; rw [huf]; exact hf
  refine ⟨?_, ?_, ?_, ?_⟩
  · rw [settle_fill, addClosure_closures, huf]; rfl
  · rw [settle_sideState, addClosure_sideState _ hidle]
  · apply (settle_keeps _ _).leak
    apply (addClosure_keeps _ _ _).leak
    rw [← hu]; rfl
  · refine OnlyChanges.settle_clear s hs ?_
    rw [← hu]
    exact (((hw.mono (by simp)).step (setMeter_only w m _) (by simp)).step (setLink_only _ _) (by simp)).step
      (addClosure_only _ _ _) (by simp)

/-- Before ADMIT the alarm sets the night-leak and the night-flow latch, and NIGHT_FLOW is queued the first time (R6). -/
theorem Settled.creepFires_tells {s w : State} {m : Meter} (hs : Settled s) (hq : StandsStill s w)
    (hw : OnlyChanges [.meter m, .sidePower m.side] s w) (hn : (w.sidePower.get m.side).state.isNightLeak = true) :
    (Machine.settle s (creepFires m w)).sideMeters.get m.side = { s.sideMeters.get m.side with nightLeak := true } ∧
      (Machine.settle s (creepFires m w)).link.latches.nightFlow = true ∧
      ((s.sideMeters.get m.side).nightLeak = false → s.link.tx ≠ none → s.link.notices.length < 32 → s.link.lost = 0 →
        (Machine.settle s (creepFires m w)).link.notices = s.link.notices ++ [.nightFlow m.side m (w.meter m).creep]) ∧
      ((s.sideMeters.get m.side).nightLeak = true →
        (Machine.settle s (creepFires m w)).link.notices = s.link.notices) ∧
      OnlyChanges [.meter m, .sidePower m.side, .sideMeters m.side, .link] s (Machine.settle s (creepFires m w)) := by
  have hwx : w.sideMeters.get m.side = s.sideMeters.get m.side := hw (.sideMeters m.side) (by simp)
  have hwl : w.link = s.link := hw.link_eq
  rw [creepFires_night hn, hwx]
  generalize hu : ((w.setMeter m { w.meter m with creepFired := true }).setLink
    { w.link with latches := { w.link.latches with nightFlow := true } }).setSideMeters m.side
      { s.sideMeters.get m.side with nightLeak := true } = u
  have hux : u.sideMeters.get m.side = { s.sideMeters.get m.side with nightLeak := true } := by rw [← hu]; simp
  have hul : u.link = { s.link with latches := { s.link.latches with nightFlow := true } } := by rw [← hu, ← hwl]; rfl
  have huq : StandsStill s u := by
    rw [← hu]
    exact ⟨hq.display, hq.ports, hq.register, hq.store, hq.mode, hq.supplyFail, hq.fill, hq.changes⟩
  have huo : OnlyChanges [.meter m, .sidePower m.side, .sideMeters m.side, .link] s u := by
    rw [← hu]
    exact (((hw.mono (by simp)).step (setMeter_only w m _) (by simp)).step (setLink_only _ _) (by simp)).step
      (setSideMeters_only _ _ _) (by simp)
  have hnf : u.link.latches.nightFlow = true := by rw [hul]
  rcases hleak : (s.sideMeters.get m.side).nightLeak with _ | _
  · refine ⟨?_, (settle_keeps _ _).nightFlow ((notify_keeps _ u).nightFlow hnf), fun _ htx hlen hlost => ?_, nofun,
      OnlyChanges.settle_clear s hs (huo.step (notify_only _ _) (by simp))⟩
    · rw [settle_sideMeters]; exact hux
    · have hnq : StandsStill s (notify (.nightFlow m.side m (w.meter m).creep) u) :=
        ⟨huq.display, huq.ports, huq.register, huq.store, huq.mode, huq.supplyFail, huq.fill, huq.changes⟩
      have he : (notify (.nightFlow m.side m (w.meter m).creep) u).link =
          { u.link with notices := s.link.notices ++ [.nightFlow m.side m (w.meter m).creep] } := by
        have hl : u.link.lost = 0 := by rw [hul]; exact hlost
        have hk : u.link.notices.length + 1 ≤ Const.noticePlaces := by rw [hul]; exact hlen
        change u.link.enqueue _ = _
        rw [Link.enqueue_room _ hl hk, hul]
      change (Machine.settle s (notify _ u)).link.notices = _
      rw [hs.settle_still hnq, State.setLink_link]
      unfold Link.follows
      rw [Link.startNext_busy (by rw [he, hul]; exact htx), he]
  · refine ⟨?_, (settle_keeps _ _).nightFlow hnf, nofun, fun _ => ?_, OnlyChanges.settle_clear s hs huo⟩
    · rw [settle_sideMeters]; exact hux
    · change (Machine.settle s u).link.notices = _
      rw [hs.settle_still huq, State.setLink_link]
      unfold Link.follows
      rw [Link.startNext_notices_latches, hul, Link.startNext_notices_latches, hs.link]

/-- Settles O20: the edge is counted alone, or weighed with the alarm not due, or the alarm fires before or from ADMIT on. -/
theorem anEdgeOutsideAFillCreeps : Obligations.AnEdgeOutsideAFillCreeps := by
  refine ⟨?_, ?_⟩
  · intro m p q last new forward s hs hf hl hn hd c x v
    refine ⟨fun hu => ?_, fun hr ha => ?_⟩
    · have hu' : (s.setMeter m ((s.meter m).takePair p q new)).store.cal.state = .unread := hu
      rw [exec_edge hl hn hd, takeEdge_unread forward hu', State.setMeter_meter_same, State.setMeter_setMeter,
        countEdge_takePair, hs.settle_setMeter]
    · have hcalm : ¬(((s.meter m).takePair p q new).edged forward).creepDue ((s.meter m).signed forward) s.params.creepLimit := by
        rw [edged_creepDue]
        rintro ⟨-, harmed, hlim⟩
        rcases ha with ha | ha
        · rw [ha] at harmed; exact absurd harmed (by decide)
        · exact absurd hlim (not_le.mpr ha)
      rw [exec_edge hl hn hd, takeEdge_creep forward hf hr, weighCreep_calm _ _ hcalm]
      change Host.Outcome.next (settle s (crept m p q new forward s)) = _
      rw [hs.settle_crept, crept_eq, edged_crept_eq]
      rfl
  · intro m p q last new forward s hs hf hl hn hd hr harm hw v hhi hlo hlim
    have hv : addVu (s.meter m).creep ((s.meter m).signed forward) = v := by
      have e : (s.meter m).creep + (s.meter m).signed forward = v := by cases forward <;> rfl
      rw [← e] at hlo hhi ⊢
      exact addVu_eq hlo hhi
    have hdue : (((s.meter m).takePair p q new).edged forward).creepDue ((s.meter m).signed forward) s.params.creepLimit := by
      rw [edged_creepDue]
      refine ⟨?_, by rw [harm]; rfl, by rw [hv]; exact hlim⟩
      rw [hv]
      cases forward
      · change (s.meter m).creep - ((s.meter m).weight : Int) ≠ _; omega
      · change (s.meter m).creep + ((s.meter m).weight : Int) ≠ _; omega
    have hx : exec (.phaseLevelTaken m p q) s = .next (settle s (creepFires m (crept m p q new forward s))) := by
      rw [exec_edge hl hn hd, takeEdge_creep forward hf hr, weighCreep_fires _ _ hdue]
      rfl
    generalize hwd : crept m p q new forward s = w at hx
    have honly : OnlyChanges [.meter m, .sidePower m.side] s w := by rw [← hwd]; exact crept_only m p q new forward s
    have hwm : (w.meter m).creep = v := by
      rw [← hwd, crept_eq, State.setSidePower_meter, State.setMeter_meter_same, edged_crept_eq, ← hv]
    refine ⟨_, hx, ?_, ?_, fun hnight => ?_, fun hopen => ?_⟩
    · rw [settle_meter, creepFires_meter, ← hwm]
    · rw [settle_meter, creepFires_meter]
    · have hws : (w.sidePower.get m.side).state = (s.sidePower.get m.side).state := by
        rw [← hwd, crept_eq, State.setSidePower_sidePower, PerSide.get_set_same]
        split <;> rfl
      have hq : StandsStill s w := by
        rw [← hwd, crept_eq]
        exact ⟨rfl, rfl, rfl, rfl, rfl, rfl, fun _ => ⟨rfl, rfl⟩, rfl⟩
      rw [← hwm]
      exact hs.creepFires_tells hq honly (by rw [hws]; exact (PowerState.isNightLeak_iff _).mpr hnight)
    · have hnot := (PowerState.not_isNightLeak_iff _).mpr hopen
      have hw1 : w = s.setMeter m ((((s.meter m).takePair p q new).edged forward).crept ((s.meter m).signed forward)) := by
        rw [← hwd]
        refine if_neg ?_
        rintro ⟨hc, -⟩
        have hc' : (s.sidePower.get m.side).state = .check := hc
        rw [hc'] at hnot
        exact absurd hnot (by decide)
      exact hs.creepFires_closes (by rw [hw1]; exact setMeter_only _ _ _) hnot hf

end Sys2Proof.Machine

namespace Sys2Proof.Machine

open Sys2Proof

/-! ### Stops -/

/-- What a stop makes of a side that is not held (R57, R67, R84). -/
structure Held (i : Side) (r : StopReason) (s t : State) : Prop where
  state : t.sideState i = .held
  valves : t.valves.get i = { lo := 0, hi := 0 }
  blend : t.blend.get i = { s.blend.get i with window := none }
  sale : (t.fill.get i).sale = (s.fill.get i).sale.map (fun c => { c with stop := some r })
  closures : (t.fill.get i).closures = (s.fill.get i).closures

theorem hold_held {i : Side} {s : State} (r : StopReason) (h : s.sideState i ≠ .held) : Held i r s (hold i r s) := by
  unfold hold
  generalize hu : setSale i (fun c => { c with stop := some r }) s = u
  have huf : u.fill.get i = { s.fill.get i with sale := (s.fill.get i).sale.map (fun c => { c with stop := some r }) } := by
    rw [← hu]; simp [setSale]
  have hne : u.sideState i ≠ .held := by unfold State.sideState; rw [huf]; exact h
  have hub : u.blend = s.blend := by rw [← hu]; rfl
  refine ⟨enterState_sideState _ _ _, ?_, ?_, ?_, ?_⟩
  · rw [enterState_valves hne, valveDuties_shut rfl]
  · rw [enterState_blend hne]
    unfold blendAfter
    rw [hub]
    rfl
  · rw [enterState_fill hne, huf]
  · rw [enterState_closures, huf]

theorem SideState.ne_held_of_isOpen {st : SideState} (h : st.isOpen = true) : st ≠ .held := by
  rintro rfl; exact absurd h (by decide)

/-! ### The stop conditions of a volume update -/

theorem stopTests_shut {i : Side} {s : State} (h : (s.sideState i).isOpen = false) : stopTests i s = s := by
  unfold stopTests
  rw [h]
  rfl

theorem stopTests_target {i : Side} {s : State} (h : (s.sideState i).isOpen = true) (hg : (s.figures.get i).targetReached = true) :
    stopTests i s = hold i .target s := by
  unfold stopTests
  dsimp only
  rw [if_pos h, if_pos hg]

theorem stopTests_limit {i : Side} {s : State} (h : (s.sideState i).isOpen = true) (hg : (s.figures.get i).targetReached = false)
    (hl : (s.figures.get i).limitReached = true) : stopTests i s = hold i .limit s := by
  unfold stopTests
  dsimp only
  rw [if_pos h, if_neg (by rw [hg]; decide), if_pos hl]

theorem stopTests_slow {i : Side} {s : State} (h : s.sideState i = .flowing) (hg : (s.figures.get i).targetReached = false)
    (hl : (s.figures.get i).limitReached = false) (hs : (s.figures.get i).slowPassed = true) :
    stopTests i s = enterState i .slowing s := by
  unfold stopTests
  dsimp only
  rw [if_pos (by rw [h]; rfl), if_neg (by rw [hg]; decide), if_neg (by rw [hl]; decide), if_pos ⟨h, hs⟩]

theorem stopTests_pass {i : Side} {s : State} (hg : (s.figures.get i).targetReached = false)
    (hl : (s.figures.get i).limitReached = false) (hs : ¬(s.sideState i = .flowing ∧ (s.figures.get i).slowPassed = true)) :
    stopTests i s = s := by
  unfold stopTests
  dsimp only
  rw [if_neg (c := (s.figures.get i).targetReached = true) (by rw [hg]; decide),
    if_neg (c := (s.figures.get i).limitReached = true) (by rw [hl]; decide), if_neg hs, ite_self]

/-- The four ways that the stop conditions can go (R57). -/
theorem stopTests_cases (i : Side) (s : State) :
    stopTests i s = s ∨
      (s.sideState i).isOpen = true ∧ (∃ r, stopTests i s = hold i r s) ∨
      s.sideState i = .flowing ∧ stopTests i s = enterState i .slowing s := by
  rcases hopen : (s.sideState i).isOpen with _ | _
  · exact .inl (stopTests_shut hopen)
  · rcases hg : (s.figures.get i).targetReached with _ | _
    · rcases hl : (s.figures.get i).limitReached with _ | _
      · by_cases hs : s.sideState i = .flowing ∧ (s.figures.get i).slowPassed = true
        · exact .inr (.inr ⟨hs.1, stopTests_slow hs.1 hg hl hs.2⟩)
        · exact .inl (stopTests_pass hg hl hs)
      · exact .inr (.inl ⟨rfl, _, stopTests_limit hopen hg hl⟩)
    · exact .inr (.inl ⟨rfl, _, stopTests_target hopen hg⟩)

theorem enterSlowing_blend {i : Side} {s : State} (h : s.sideState i = .flowing) :
    (enterState i .slowing s).blend.get i = { s.blend.get i with window := none } := by
  rw [enterState_blend (by rw [h]; decide)]
  rfl

/-- What the stop conditions leave of the side, whichever way they go. -/
structure StopTested (i : Side) (s t : State) : Prop where
  beforeEnding : (s.sideState i).beforeEnding = true → (t.sideState i).beforeEnding = true
  ending : s.sideState i = .ending → t = s
  blend : (t.blend.get i) = s.blend.get i ∨ t.blend.get i = { s.blend.get i with window := none }
  sale : ∃ f : SaleContext → SaleContext, (∀ c, (f c).number = c.number) ∧ (t.fill.get i).sale = (s.fill.get i).sale.map f
  closures : (t.fill.get i).closures = (s.fill.get i).closures

theorem stopTests_tested (i : Side) (s : State) : StopTested i s (stopTests i s) := by
  rcases stopTests_cases i s with h | ⟨hopen, r, h⟩ | ⟨hflow, h⟩
  · rw [h]
    exact ⟨id, fun _ => rfl, .inl rfl, ⟨id, fun _ => rfl, Option.map_id'.symm⟩, rfl⟩
  · have hh := hold_held r (SideState.ne_held_of_isOpen hopen)
    rw [h]
    refine ⟨fun _ => by rw [hh.state]; rfl, fun he => ?_, .inr hh.blend,
      ⟨fun c => { c with stop := some r }, fun _ => rfl, hh.sale⟩, hh.closures⟩
    rw [he] at hopen
    exact absurd hopen (by decide)
  · rw [h]
    refine ⟨fun _ => by rw [enterState_sideState]; rfl, fun he => ?_, .inr (enterSlowing_blend hflow),
      ⟨id, fun _ => rfl, ?_⟩, enterState_closures _ _ _⟩
    · rw [he] at hflow
      exact absurd hflow (by decide)
    · rw [enterState_fill (by rw [hflow]; decide)]
      exact Option.map_id'.symm

/-! ### Windows and CROSSFLOW at a volume update -/

theorem windowUpdate_none {i : Side} {s : State} (h : (s.blend.get i).window = none) : windowUpdate i s = s := by
  unfold windowUpdate
  dsimp only
  rw [h]

theorem windowUpdate_notFlowing {i : Side} {s : State} (h : s.sideState i ≠ .flowing) : windowUpdate i s = s := by
  unfold windowUpdate
  dsimp only
  split
  · rfl
  · exact if_neg (fun x => h x.1)

/-- CROSSFLOW is due: the meter is the unused one, at or above the limit, and the mark is clear (R86). -/
def crossflowDue (m : Meter) (s : State) : Prop :=
  (s.blend.get m.side).unused = some m.product ∧ limitVu s.params.crossflowLimit ≤ (s.meter m).sale ∧
    (!(s.blend.get m.side).crossflowRaised) = true

theorem crossflowTest_due {m : Meter} {s : State} (h : crossflowDue m s) :
    crossflowTest m s = fillFault m.side .crossflow (some m)
      (s.setBlend m.side { s.blend.get m.side with crossflowRaised := true }) := if_pos h

theorem crossflowTest_pass {m : Meter} {s : State} (h : ¬crossflowDue m s) : crossflowTest m s = s := if_neg h

/-- In ENDING the mark alone can change (R86). -/
theorem crossflowTest_ending {m : Meter} {s : State} (h : s.sideState m.side = .ending) :
    ∃ b : Bool, crossflowTest m s = s.setBlend m.side { s.blend.get m.side with crossflowRaised := b } := by
  by_cases hd : crossflowDue m s
  · refine ⟨true, ?_⟩
    rw [crossflowTest_due hd]
    exact fillFault_none _ _ (by rw [State.setBlend_sideState, h]; rfl)
  · refine ⟨(s.blend.get m.side).crossflowRaised, ?_⟩
    rw [crossflowTest_pass hd]
    exact (congrArg (fun x => ({ s with blend := x } : State)) (PerSide.set_get s.blend m.side)).symm

/-! ### Volume updates -/

/-- The figures of the side of a meter, from both its sale accumulators as they stand (R19). -/
def refigured (m : Meter) (s : State) : State :=
  s.setFigures m.side ((s.figures.get m.side).recompute (s.meters.get m.side).lo.sale (s.meters.get m.side).hi.sale)

theorem volumeUpdate_reverse {m : Meter} {s : State} (h : reverseDue s m = true) :
    volumeUpdate m s = crossflowTest m (windowUpdate m.side (fillFault m.side .reverse (some m)
      ((refigured m s).setSideMeters m.side { s.sideMeters.get m.side with reverseRaised := true }))) := by
  have h' : reverseDue (refigured m s) m = true := h
  unfold volumeUpdate
  dsimp only
  change crossflowTest m (windowUpdate m.side (if reverseDue (refigured m s) m = true then _ else _)) = _
  rw [if_pos h']
  rfl

theorem volumeUpdate_forward {m : Meter} {s : State} (h : reverseDue s m = false) :
    volumeUpdate m s = crossflowTest m (windowUpdate m.side (stopTests m.side (refigured m s))) := by
  have h' : reverseDue (refigured m s) m ≠ true := by
    have : reverseDue (refigured m s) m = false := h
    rw [this]; decide
  unfold volumeUpdate
  dsimp only
  change crossflowTest m (windowUpdate m.side (if reverseDue (refigured m s) m = true then _ else _)) = _
  rw [if_neg h']
  rfl

/-- What a volume update writes besides the figures. -/
abbrev updateBlocks (i : Side) : List Block := .sideMeters i :: closureBlocks i

theorem volumeUpdate_refigured (m : Meter) (s : State) : OnlyChanges (updateBlocks m.side) (refigured m s) (volumeUpdate m s) := by
  rcases h : reverseDue s m with _ | _
  · rw [volumeUpdate_forward h]
    exact (((stopTests_only _ _).mono (by simp)).step (windowUpdate_only _ _) (by simp)).step (crossflowTest_only m _) (by simp)
  · rw [volumeUpdate_reverse h]
    exact ((((setSideMeters_only _ _ _).mono (by simp)).step (fillFault_only _ _ _ _) (by simp)).step
      (windowUpdate_only _ _) (by simp)).step (crossflowTest_only m _) (by simp)

theorem volumeUpdate_figures (m : Meter) (s : State) :
    (volumeUpdate m s).figures.get m.side =
      (s.figures.get m.side).recompute (s.meters.get m.side).lo.sale (s.meters.get m.side).hi.sale := by
  rw [volumeUpdate_refigured m s (.figures m.side) (by simp)]
  simp [refigured]

theorem volumeUpdate_meter (m : Meter) (s : State) (n : Meter) : (volumeUpdate m s).meter n = s.meter n :=
  volumeUpdate_refigured m s (.meter n) (by simp)

/-- The figures computed from the sale accumulators (R19, R20, R21, R26). -/
theorem Figures.recompute_spec (f : Figures) (lo hi : Int) :
    (f.recompute lo hi).opened = f.opened ∧ (f.recompute lo hi).volume = lo + hi ∧
      (f.recompute lo hi).displayed = displayedVolume (lo + hi) ∧
      (f.recompute lo hi).money = moneyOf (displayedVolume (lo + hi)) (f.opened.elim 0 (fun o => o.price)) ∧
      ((f.recompute lo hi).slowPassed = true ↔
        ∃ x, f.opened.bind (fun o => o.slowPoint) = some x ∧ x ≤ displayedVolume (lo + hi)) ∧
      ((f.recompute lo hi).targetReached = true ↔
        ∃ x, f.opened.bind (fun o => o.target) = some x ∧ x ≤ displayedVolume (lo + hi)) ∧
      ((f.recompute lo hi).limitReached = true ↔
        999000 ≤ displayedVolume (lo + hi) ∨ 999000 ≤ (f.recompute lo hi).money) := by
  have hany (o : Option Nat) (n : Nat) : (o.any (fun x => decide (x ≤ n)) = true ↔ ∃ x, o = some x ∧ x ≤ n) := by
    cases o <;> simp
  exact ⟨rfl, rfl, rfl, rfl, hany _ _, hany _ _, decide_eq_true_iff⟩

/-! ### The no-flow timer and ENDING across a volume update -/

/-- A side that is open after an operation was so before, with its no-flow timer running on; a side in ENDING keeps its fill
(R58, R62, R63). -/
structure FlowKept (i : Side) (s t : State) : Prop where
  timer : (t.sideState i).isOpen = true →
    (s.sideState i).isOpen = true ∧ (t.fill.get i).noFlowTimer = (s.fill.get i).noFlowTimer
  ending : s.sideState i = .ending → t.fill.get i = s.fill.get i

theorem FlowKept.of_fill {i : Side} {s t : State} (h : t.fill.get i = s.fill.get i) : FlowKept i s t := by
  refine ⟨fun ht => ?_, fun _ => h⟩
  unfold State.sideState at ht ⊢
  rw [h] at ht ⊢
  exact ⟨ht, rfl⟩

theorem FlowKept.trans {i : Side} {s t u : State} (h : FlowKept i s t) (h' : FlowKept i t u) : FlowKept i s u := by
  refine ⟨fun hu => ?_, fun hs => ?_⟩
  · obtain ⟨ht, hut⟩ := h'.timer hu
    obtain ⟨hs, hts⟩ := h.timer ht
    exact ⟨hs, hut.trans hts⟩
  · have ht := h.ending hs
    rw [h'.ending ((congrArg Fill.state ht).trans hs), ht]

theorem stopTests_flowKept (i : Side) (s : State) : FlowKept i s (stopTests i s) := by
  rcases stopTests_cases i s with h | ⟨hopen, r, h⟩ | ⟨hflow, h⟩
  · exact .of_fill (by rw [h])
  · have hh := hold_held r (SideState.ne_held_of_isOpen hopen)
    refine ⟨fun ht => ?_, fun he => ?_⟩
    · rw [h, hh.state] at ht; exact absurd ht (by decide)
    · rw [he] at hopen; exact absurd hopen (by decide)
  · refine ⟨fun _ => ⟨by rw [hflow]; rfl, ?_⟩, fun he => ?_⟩
    · rw [h, enterState_fill (by rw [hflow]; decide)]
      have hf : (s.fill.get i).state = .flowing := hflow
      rw [hf]
      rfl
    · rw [he] at hflow; exact absurd hflow (by decide)

theorem fillFault_flowKept (i : Side) (k : FaultKind) (m : Option Meter) (s : State) : FlowKept i s (fillFault i k m s) := by
  rcases hb : (s.sideState i).beforeEnding with _ | _
  · rw [fillFault_none k m hb]
    exact .of_fill rfl
  · have hF := fillFault_faulted k m hb
    refine ⟨fun ht => ?_, fun he => ?_⟩
    · rw [hF.sideState] at ht; exact absurd ht (by decide)
    · rw [he] at hb; exact absurd hb (by decide)

theorem applyTrim_fill (i : Side) (b : Blend) (s : State) : (applyTrim i b s).fill = s.fill := by
  unfold applyTrim
  split <;> rfl

theorem windowUpdate_flowKept (i : Side) (s : State) : FlowKept i s (windowUpdate i s) := by
  unfold windowUpdate
  dsimp only
  split
  · exact .of_fill rfl
  · split
    · split
      · refine FlowKept.trans (.of_fill ?_) (fillFault_flowKept i _ _ _)
        rw [applyTrim_fill]; rfl
      · exact .of_fill (by rw [applyTrim_fill]; rfl)
    · exact .of_fill rfl

theorem crossflowTest_flowKept (m : Meter) (s : State) : FlowKept m.side s (crossflowTest m s) := by
  by_cases h : crossflowDue m s
  · rw [crossflowTest_due h]
    exact FlowKept.trans (t := s.setBlend m.side { s.blend.get m.side with crossflowRaised := true }) (.of_fill rfl)
      (fillFault_flowKept _ _ _ _)
  · rw [crossflowTest_pass h]
    exact .of_fill rfl

theorem volumeUpdate_flowKept (m : Meter) (s : State) : FlowKept m.side s (volumeUpdate m s) := by
  rcases h : reverseDue s m with _ | _
  · rw [volumeUpdate_forward h]
    have hr : FlowKept m.side s (refigured m s) := .of_fill rfl
    exact ((hr.trans (stopTests_flowKept _ _)).trans (windowUpdate_flowKept _ _)).trans
      (crossflowTest_flowKept m _)
  · rw [volumeUpdate_reverse h]
    have hr : FlowKept m.side s ((refigured m s).setSideMeters m.side { s.sideMeters.get m.side with reverseRaised := true }) :=
      .of_fill rfl
    exact ((hr.trans (fillFault_flowKept _ _ _ _)).trans (windowUpdate_flowKept _ _)).trans
      (crossflowTest_flowKept m _)

/-! ### An edge in a fill -/

/-- The channel after an edge weighed into its sale accumulator (R3). -/
def MeterChannel.sold (c : MeterChannel) (x : Int) : MeterChannel := { c with sale := addVu c.sale x }

/-- The state in which an edge in a fill has been counted and weighed, and has restarted its timers (R3, R8, R12, R58, R63). -/
def sold (m : Meter) (p q : Option Bool) (new : Bool × Bool) (f : Bool) (s : State) : State :=
  saleEdge m.side f (s.setMeter m ((((s.meter m).takePair p q new).edged f).sold ((s.meter m).signed f)))

/-- The weighed edge in a fill, as an effect on `s` (R3). -/
theorem takeEdge_sale {m : Meter} {p q : Option Bool} {new : Bool × Bool} {s : State} (f : Bool)
    (hf : s.filling m.side = true) (hc : s.store.cal.state ≠ .unread) :
    takeEdge m f (s.setMeter m ((s.meter m).takePair p q new)) =
      if addVu (s.meter m).sale ((s.meter m).signed f) ≠ (s.meter m).sale then volumeUpdate m (sold m p q new f s)
      else sold m p q new f s := by
  have hc' : (s.setMeter m ((s.meter m).takePair p q new)).store.cal.state ≠ .unread := hc
  rw [takeEdge_read f hc', State.setMeter_filling, hf, State.setMeter_meter_same, State.setMeter_setMeter]
  have hsale : (((s.meter m).takePair p q new).edged f).sale = (s.meter m).sale := by cases f <;> rfl
  unfold weighSale
  dsimp only
  rw [State.setMeter_meter_same, State.setMeter_setMeter, hsale]
  unfold sold MeterChannel.sold
  rw [hsale]
  rfl

theorem edged_sold_eq (c : MeterChannel) (p q : Option Bool) (new : Bool × Bool) (f : Bool) :
    ((c.takePair p q new).edged f).sold (c.signed f) =
      { c.take p q with
        lastPair := some new, sale := addVu c.sale (c.signed f), openWindow := c.openWindow + c.signed f
        forward := if f then c.forward + 1 else c.forward
        reverse := if f then c.reverse else c.reverse + 1 } := by
  cases f <;> rfl

theorem sold_only (m : Meter) (p q : Option Bool) (new : Bool × Bool) (f : Bool) (s : State) :
    OnlyChanges [.meter m, .fill m.side] s (sold m p q new f s) :=
  ((setMeter_only s m _).mono (by simp)).step (saleEdge_only _ _ _) (by simp)

theorem sold_meter (m : Meter) (p q : Option Bool) (new : Bool × Bool) (f : Bool) (s : State) :
    (sold m p q new f s).meter m =
      { (s.meter m).take p q with
        lastPair := some new, sale := addVu (s.meter m).sale ((s.meter m).signed f)
        openWindow := (s.meter m).openWindow + (s.meter m).signed f
        forward := if f then (s.meter m).forward + 1 else (s.meter m).forward
        reverse := if f then (s.meter m).reverse else (s.meter m).reverse + 1 } := by
  rw [saleEdge_only _ _ _ (.meter m) (by simp) |> fun h => (h : (sold m p q new f s).meter m = _),
    State.setMeter_meter_same, edged_sold_eq]

theorem sold_fill (m : Meter) (p q : Option Bool) (new : Bool × Bool) (f : Bool) (s : State) :
    (sold m p q new f s).fill.get m.side = { s.fill.get m.side with
      noFlowTimer := if f ∧ (s.fill.get m.side).state.isOpen then some (s.params.noFlowTimeout.toNat * 1000)
        else (s.fill.get m.side).noFlowTimer
      quietTimer := if (s.fill.get m.side).state = .ending then some s.params.quietTime.toNat
        else (s.fill.get m.side).quietTimer } := by
  unfold sold saleEdge
  rw [State.setFill_fill, PerSide.get_set_same]
  rfl

/-- A sale accumulator of the side after a change of one meter's channel. -/
theorem setMeter_sales (s : State) (m : Meter) (c : MeterChannel) :
    ((s.setMeter m c).meters.get m.side).lo.sale = (if m.product = .lo then c.sale else (s.meters.get m.side).lo.sale) ∧
      ((s.setMeter m c).meters.get m.side).hi.sale = (if m.product = .hi then c.sale else (s.meters.get m.side).hi.sale) := by
  rcases m with ⟨i, p⟩
  rw [State.setMeter_meters, PerSide.get_set_same]
  cases p <;> exact ⟨rfl, rfl⟩

theorem sold_sales (m : Meter) (p q : Option Bool) (new : Bool × Bool) (f : Bool) (s : State) :
    ((sold m p q new f s).meters.get m.side).lo.sale =
        (if m.product = .lo then addVu (s.meter m).sale ((s.meter m).signed f) else (s.meters.get m.side).lo.sale) ∧
      ((sold m p q new f s).meters.get m.side).hi.sale =
        (if m.product = .hi then addVu (s.meter m).sale ((s.meter m).signed f) else (s.meters.get m.side).hi.sale) := by
  have h := setMeter_sales s m ((((s.meter m).takePair p q new).edged f).sold ((s.meter m).signed f))
  have hs : ((((s.meter m).takePair p q new).edged f).sold ((s.meter m).signed f)).sale =
      addVu (s.meter m).sale ((s.meter m).signed f) := by rw [edged_sold_eq]
  rw [hs] at h
  exact h

end Sys2Proof.Machine

namespace Sys2Proof.Machine

open Sys2Proof

/-- The sum of the side's sale accumulators after an edge of one of its meters has brought that meter's accumulator to `v`. -/
theorem sales_sum (s : State) (m : Meter) (v : Int) :
    (if m.product = .lo then v else (s.meters.get m.side).lo.sale) + (if m.product = .hi then v else (s.meters.get m.side).hi.sale) =
      (s.meters.get m.side).lo.sale + (s.meters.get m.side).hi.sale + (v - (s.meter m).sale) := by
  rcases m with ⟨i, p⟩
  unfold State.meter
  cases p
  · simp; omega
  · simp

/-- An edge in a fill as an event: the volume update where the accumulator has changed (R3, R19). -/
theorem exec_edge_sale {m : Meter} {p q : Option Bool} {last new : Bool × Bool} {f : Bool} {s : State}
    (hf : s.filling m.side = true) (hl : (s.meter m).lastPair = some last) (hn : ((s.meter m).take p q).pair = some new)
    (hd : decodePair last new = some (if f then .forward else .reverse)) (hc : s.store.cal.state ≠ .unread) :
    exec (.phaseLevelTaken m p q) s = .next (settle s
      (if addVu (s.meter m).sale ((s.meter m).signed f) ≠ (s.meter m).sale then volumeUpdate m (sold m p q new f s)
        else sold m p q new f s)) := by
  rw [exec_edge hl hn hd, takeEdge_sale f hf hc]

/-- What an edge in a fill writes. -/
abbrev saleBlocks (m : Meter) : List Block :=
  [.meter m, .figures m.side, .sideMeters m.side, .fill m.side, .blend m.side, .valves m.side, .display m.side, .link, .port m.side]

theorem volumeUpdate_sale (m : Meter) {s u : State} (h : OnlyChanges [.meter m, .fill m.side] s u) :
    OnlyChanges (saleBlocks m) s (volumeUpdate m u) :=
  ((h.mono (by simp)).step (setFigures_only u m.side _) (by simp)).step (volumeUpdate_refigured m u) (by simp)

/-- Settles O21: the edge's state `sold`, then the volume update, which leaves the channel, sets the figures once and keeps the timers. -/
theorem anEdgeInAFillIsSold : Obligations.AnEdgeInAFillIsSold := by
  intro m p q last new forward s hs hf hl hn hd hc x v
  have hx := exec_edge_sale hf hl hn hd hc
  have hv : addVu (s.meter m).sale ((s.meter m).signed forward) = v := rfl
  rw [hv] at hx
  generalize hw : sold m p q new forward s = w at hx
  have hwo : OnlyChanges [.meter m, .fill m.side] s w := by rw [← hw]; exact sold_only m p q new forward s
  have hwm := sold_meter m p q new forward s
  have hwf := sold_fill m p q new forward s
  obtain ⟨hlo, hhi⟩ := sold_sales m p q new forward s
  rw [hw] at hwm hwf hlo hhi
  rw [hv] at hwm hlo hhi
  have hwg : w.figures.get m.side = s.figures.get m.side := hwo (.figures m.side) (by simp)
  generalize hu : (if v ≠ (s.meter m).sale then volumeUpdate m w else w) = u at hx
  have hum : u.meter m = w.meter m := by
    rw [← hu]; split
    · exact volumeUpdate_meter m w m
    · rfl
  have huk : FlowKept m.side w u := by
    rw [← hu]; split
    · exact volumeUpdate_flowKept m w
    · exact .of_fill rfl
  have hug : v ≠ (s.meter m).sale → u.figures.get m.side = (s.figures.get m.side).recompute
      (if m.product = .lo then v else (s.meters.get m.side).lo.sale)
      (if m.product = .hi then v else (s.meters.get m.side).hi.sale) := by
    intro hne
    rw [← hu, if_pos hne, volumeUpdate_figures, hwg, hlo, hhi]
  refine ⟨_, hx, ?_, fun hne => ?_, fun heq => ?_, fun hne => ?_, ⟨fun hopen hopen' => ?_, fun hend => ?_⟩, ?_⟩
  · rw [settle_meter, hum, hwm]
    rfl
  · rw [settle_figures, hug hne]
  · rw [settle_figures, ← hu, if_neg (not_not.mpr heq), hwg]
  · rw [settle_figures, hug hne, ← sales_sum]
    obtain ⟨hopened, hvolume, hdisplayed, hmoney, hslow, htarget, hlimit⟩ := Figures.recompute_spec (s.figures.get m.side)
      (if m.product = .lo then v else (s.meters.get m.side).lo.sale) (if m.product = .hi then v else (s.meters.get m.side).hi.sale)
    exact ⟨hopened, hvolume, hdisplayed, hmoney, hslow, htarget, hlimit⟩
  · rw [settle_fill] at hopen' ⊢
    obtain ⟨-, ht⟩ := huk.timer hopen'
    rw [ht, hwf]
    have hopen0 : (s.fill.get m.side).state.isOpen = true := hopen
    simp only [hopen0, and_true]
  · have hwend : w.sideState m.side = .ending := by unfold State.sideState; rw [hwf]; exact hend
    rw [settle_fill, huk.ending hwend, hwf]
    have hend' : (s.fill.get m.side).state = .ending := hend
    have hshut : ¬(forward = true ∧ (s.fill.get m.side).state.isOpen = true) := by rw [hend']; exact fun h => absurd h.2 (by decide)
    rw [if_pos hend', if_neg hshut]
  · refine OnlyChanges.settle_clear (bs := saleBlocks m) s hs ?_
    rw [← hu]
    split
    · exact volumeUpdate_sale m hwo
    · exact hwo.mono (by simp)

/-! ### Stops and faults of a volume update -/

theorem refigured_figures (m : Meter) (s : State) :
    (refigured m s).figures.get m.side =
      (s.figures.get m.side).recompute (s.meters.get m.side).lo.sale (s.meters.get m.side).hi.sale := by
  simp [refigured]

/-- REVERSE is due exactly where the accumulator is at or below minus the limit with the mark clear (R11). -/
theorem reverseDue_iff (s : State) (m : Meter) :
    reverseDue s m = true ↔
      (s.meter m).sale ≤ -(s.params.reverseLimit * 100000) ∧ (s.sideMeters.get m.side).reverseRaised = false := by
  unfold reverseDue
  rw [Bool.and_eq_true, decide_eq_true_iff, Bool.not_eq_true']
  rfl

/-- Where neither REVERSE nor CROSSFLOW is due and the stop conditions leave no window, a volume update is those conditions alone
(R57, R80). -/
theorem volumeUpdate_stops {m : Meter} {s : State} (hr : reverseDue s m = false) (hc : (s.blend.get m.side).unused ≠ some m.product)
    (hw : ((stopTests m.side (refigured m s)).blend.get m.side).window = none) :
    volumeUpdate m s = stopTests m.side (refigured m s) := by
  rw [volumeUpdate_forward hr, windowUpdate_none hw]
  apply crossflowTest_pass
  rintro ⟨hu, -⟩
  apply hc
  rw [← hu]
  rcases (stopTests_tested m.side (refigured m s)).blend with h | h
  · rw [h]; rfl
  · rw [h]; rfl

/-- What a fill fault of kind `k` other than ESTOP, told with meter `m`, shows of the side in a state `t` after `s` (R62, R63, R67, R84). -/
structure FaultShown (i : Side) (k : FaultKind) (m : Option Meter) (s t : State) : Prop where
  state : t.sideState i = .ending
  valves : t.valves.get i = { lo := 0, hi := 0 }
  closures : (t.fill.get i).closures = { (s.fill.get i).closures with fault := some k }
  quietTimer : (t.fill.get i).quietTimer = some s.params.quietTime.toNat
  afterFlowTimer : (t.fill.get i).afterFlowTimer = some 10000
  ended : (t.fill.get i).sale.bind (fun c => c.ended) = (s.fill.get i).sale.map (fun _ => .fault k)
  window : (t.blend.get i).window = none
  tells : Room 2 s → t.link.tells (.fault (some i) k m ((s.fill.get i).sale.map (fun c => c.number)) none none)

/-- The state `u` has the side of `s` as a fault is to find it: its closures and its sale's number, the parameters and the link. -/
structure FaultFinds (i : Side) (s u : State) : Prop where
  closures : (u.fill.get i).closures = (s.fill.get i).closures
  sale : ∃ f : SaleContext → SaleContext, (∀ c, (f c).number = c.number) ∧ (u.fill.get i).sale = (s.fill.get i).sale.map f
  params : u.params = s.params
  link : u.link = s.link

theorem FaultFinds.of_fill {i : Side} {s u : State} (hc : (u.fill.get i).closures = (s.fill.get i).closures)
    (hs : (u.fill.get i).sale = (s.fill.get i).sale) (hp : u.params = s.params) (hl : u.link = s.link) : FaultFinds i s u :=
  ⟨hc, ⟨id, fun _ => rfl, by rw [hs]; exact Option.map_id'.symm⟩, hp, hl⟩

theorem Faulted.shown {i : Side} {k : FaultKind} {m : Option Meter} {s u t : State} (h : Faulted i k m u t)
    (hk : faultClosure k = .fault k) (hf : FaultFinds i s u) : FaultShown i k m s t := by
  obtain ⟨hclosures, ⟨f, hnumber, hsale⟩, hparams, hlink⟩ := hf
  refine ⟨h.sideState, h.valves, ?_, ?_, ?_, ?_, ?_, fun hr => ?_⟩
  · rw [h.fill]
    unfold Fill.faulted
    dsimp only
    rw [hk, hclosures]
    rfl
  · rw [h.fill, hparams]; rfl
  · rw [h.fill]; rfl
  · rw [h.fill]
    unfold Fill.faulted
    dsimp only
    rw [hsale]
    cases (s.fill.get i).sale <;> rfl
  · rw [h.blend]
  · have ht := h.tells 1 (hr.of_link hlink)
    rw [hsale, Option.map_map] at ht
    have hn : (fun c : SaleContext => c.number) ∘ f = fun c => c.number := funext hnumber
    rw [hn] at ht
    exact ht

/-- What a fault shows stands while the side's fill, valves and window do and the link keeps what it tells. -/
theorem FaultShown.stands {i : Side} {k : FaultKind} {m : Option Meter} {s t u : State} (h : FaultShown i k m s t)
    (hf : u.fill.get i = t.fill.get i) (hv : u.valves.get i = t.valves.get i)
    (hw : (u.blend.get i).window = (t.blend.get i).window) (hl : t.link.Keeps u.link) : FaultShown i k m s u := by
  refine ⟨?_, by rw [hv, h.valves], by rw [hf, h.closures], by rw [hf, h.quietTimer], by rw [hf, h.afterFlowTimer],
    by rw [hf, h.ended], by rw [hw, h.window], fun hr => hl.tells _ (h.tells hr)⟩
  unfold State.sideState
  rw [hf]
  exact h.state

theorem FaultShown.settle {i : Side} {k : FaultKind} {m : Option Meter} {s t : State} (old : State) (h : FaultShown i k m s t) :
    FaultShown i k m s (Machine.settle old t) :=
  h.stands (by rw [settle_fill]) (by rw [settle_valves]) (by rw [settle_blend]) (settle_keeps _ _)

theorem SideState.eq_ending {st : SideState} (h : st.isFill = true) (hb : st.beforeEnding = false) : st = .ending := by
  cases st <;> simp [SideState.isFill, SideState.beforeEnding] at h hb ⊢

/-- A volume update that raises REVERSE: its mark is set and the rest of the side is as the fault leaves it; CROSSFLOW can only set its
mark besides (R11, R57, R86). -/
theorem volumeUpdate_raises {m : Meter} {w : State} (h : reverseDue w m = true) (hf : w.filling m.side = true) :
    ∃ r b, r = fillFault m.side .reverse (some m)
        ((refigured m w).setSideMeters m.side { w.sideMeters.get m.side with reverseRaised := true }) ∧
      r.sideState m.side = .ending ∧
      volumeUpdate m w = r.setBlend m.side { r.blend.get m.side with crossflowRaised := b } := by
  generalize hu : (refigured m w).setSideMeters m.side { w.sideMeters.get m.side with reverseRaised := true } = u
  have hus : u.sideState m.side = w.sideState m.side := by rw [← hu]; rfl
  have hr : (fillFault m.side .reverse (some m) u).sideState m.side = .ending := by
    rcases hb : (u.sideState m.side).beforeEnding with _ | _
    · rw [fillFault_none _ _ hb]
      have hfill : (u.sideState m.side).isFill = true := by rw [hus]; exact hf
      exact SideState.eq_ending hfill hb
    · exact (fillFault_faulted _ _ hb).sideState
  obtain ⟨b, hb⟩ := crossflowTest_ending hr
  refine ⟨_, b, rfl, hr, ?_⟩
  rw [volumeUpdate_reverse h, hu, windowUpdate_notFlowing (by rw [hr]; decide), hb]

/-- A volume update that raises CROSSFLOW with no window open: the stop conditions, then the mark and the fault (R57, R86). -/
theorem volumeUpdate_crossflows {m : Meter} {w : State} (h : reverseDue w m = false)
    (hc : (w.blend.get m.side).unused = some m.product) (hraised : (w.blend.get m.side).crossflowRaised = false)
    (hlim : w.params.crossflowLimit * 100000 ≤ (w.meter m).sale) (hwin : (w.blend.get m.side).window = none) :
    volumeUpdate m w = fillFault m.side .crossflow (some m)
      ((stopTests m.side (refigured m w)).setBlend m.side { w.blend.get m.side with crossflowRaised := true }) := by
  have hb : (stopTests m.side (refigured m w)).blend.get m.side = w.blend.get m.side := by
    rcases (stopTests_tested m.side (refigured m w)).blend with hb | hb
    · rw [hb]; rfl
    · have he : (refigured m w).blend.get m.side = w.blend.get m.side := rfl
      rw [hb, he]
      generalize w.blend.get m.side = x at hwin
      cases x
      dsimp only at hwin
      rw [hwin]
  have hm : (stopTests m.side (refigured m w)).meter m = w.meter m :=
    (stopTests_only m.side (refigured m w)) (.meter m) (by simp)
  have hp : (stopTests m.side (refigured m w)).params = w.params :=
    (stopTests_only m.side (refigured m w)) .params (by simp)
  have hdue : crossflowDue m (stopTests m.side (refigured m w)) := by
    refine ⟨by rw [hb]; exact hc, ?_, by rw [hb, hraised]; rfl⟩
    rw [hm, hp]
    exact hlim
  rw [volumeUpdate_forward h, windowUpdate_none (by rw [hb]; exact hwin), crossflowTest_due hdue, hb]

/-! ### An edge whose accumulator does not saturate -/

/-- The facts about the state `sold` that a volume update reads, where the accumulator comes to `v` without saturating. -/
structure SoldAs (m : Meter) (v : Int) (s w : State) : Prop where
  only : OnlyChanges [.meter m, .fill m.side] s w
  sale : (w.meter m).sale = v
  figures : (refigured m w).figures.get m.side = (s.figures.get m.side).recompute
    (if m.product = .lo then v else (s.meters.get m.side).lo.sale) (if m.product = .hi then v else (s.meters.get m.side).hi.sale)
  state : w.sideState m.side = s.sideState m.side
  closures : (w.fill.get m.side).closures = (s.fill.get m.side).closures
  saleContext : (w.fill.get m.side).sale = (s.fill.get m.side).sale

theorem sold_as {m : Meter} {v : Int} (p q : Option Bool) (new : Bool × Bool) (f : Bool) (s : State)
    (hv : addVu (s.meter m).sale ((s.meter m).signed f) = v) : SoldAs m v s (sold m p q new f s) := by
  have hf := sold_fill m p q new f s
  obtain ⟨hlo, hhi⟩ := sold_sales m p q new f s
  rw [hv] at hlo hhi
  have ho := sold_only m p q new f s
  refine ⟨ho, ?_, ?_, ?_, ?_, ?_⟩
  · rw [sold_meter]; exact hv
  · rw [refigured_figures, hlo, hhi, ho (.figures m.side) (by simp)]
  · unfold State.sideState; rw [hf]
  · rw [hf]
  · rw [hf]

/-- An update that brings a FLOWING or SLOWING side to a stop, to its slow point, or to neither, with nothing else due (R57, R84). -/
theorem SoldAs.stops {m : Meter} {v : Int} {s w : State} (hw : SoldAs m v s w) (hopen : (s.sideState m.side).isOpen = true)
    (hrev : reverseDue w m = false) (hunused : (s.blend.get m.side).unused ≠ some m.product) :
    (∀ r, stopTests m.side (refigured m w) = hold m.side r (refigured m w) →
      (volumeUpdate m w).sideState m.side = .held ∧ (volumeUpdate m w).valves.get m.side = { lo := 0, hi := 0 } ∧
        (volumeUpdate m w).blend.get m.side = { s.blend.get m.side with window := none } ∧
        ((volumeUpdate m w).fill.get m.side).sale = (s.fill.get m.side).sale.map (fun c => { c with stop := some r })) ∧
    (s.sideState m.side = .flowing → stopTests m.side (refigured m w) = enterState m.side .slowing (refigured m w) →
      (volumeUpdate m w).sideState m.side = .slowing ∧
        (volumeUpdate m w).blend.get m.side = { s.blend.get m.side with window := none }) ∧
    (stopTests m.side (refigured m w) = refigured m w → (s.blend.get m.side).window = none →
      (volumeUpdate m w).sideState m.side = s.sideState m.side) := by
  have hblend : w.blend.get m.side = s.blend.get m.side := hw.only (.blend m.side) (by simp)
  have hunused' : (w.blend.get m.side).unused ≠ some m.product := by rw [hblend]; exact hunused
  have hus : (refigured m w).sideState m.side = s.sideState m.side := hw.state
  have hub : (refigured m w).blend.get m.side = s.blend.get m.side := hblend
  refine ⟨fun r ht => ?_, fun hflow ht => ?_, fun ht hwin => ?_⟩
  · have hh := hold_held r (SideState.ne_held_of_isOpen (st := (refigured m w).sideState m.side) (by rw [hus]; exact hopen))
    rw [← ht] at hh
    rw [volumeUpdate_stops hrev hunused' (by rw [hh.blend])]
    refine ⟨hh.state, hh.valves, by rw [hh.blend, hub], hh.sale.trans ?_⟩
    rw [← hw.saleContext]
    rfl
  · have hb := enterSlowing_blend (hus.trans hflow)
    rw [volumeUpdate_stops hrev hunused' (by rw [ht, hb]), ht]
    exact ⟨enterState_sideState _ _ _, by rw [hb, hub]⟩
  · rw [volumeUpdate_stops hrev hunused' (by rw [ht, hub]; exact hwin), ht, hus]

/-- An update that raises REVERSE (R11, R62). -/
theorem SoldAs.reverses {m : Meter} {v : Int} {s w : State} (hw : SoldAs m v s w) (hfill : s.filling m.side = true)
    (hrev : reverseDue w m = true) :
    (volumeUpdate m w).sideMeters.get m.side = { s.sideMeters.get m.side with reverseRaised := true } ∧
    ((s.sideState m.side).beforeEnding = true → FaultShown m.side .reverse (some m) s (volumeUpdate m w) ∧
      ((volumeUpdate m w).fill.get m.side).sale =
        (s.fill.get m.side).sale.map (fun c => { c with ended := some (.fault .reverse) })) ∧
    (s.sideState m.side = .ending → (volumeUpdate m w).sideState m.side = .ending ∧
      ((volumeUpdate m w).fill.get m.side).sale = (s.fill.get m.side).sale ∧
      ((volumeUpdate m w).fill.get m.side).closures = (s.fill.get m.side).closures) := by
  have hwx : w.sideMeters.get m.side = s.sideMeters.get m.side := hw.only (.sideMeters m.side) (by simp)
  obtain ⟨r, b, hr, hre, hvu⟩ := volumeUpdate_raises hrev (by unfold State.filling; rw [hw.state]; exact hfill)
  generalize hu : (refigured m w).setSideMeters m.side { w.sideMeters.get m.side with reverseRaised := true } = u at hr
  have huf : u.fill = w.fill := by rw [← hu]; rfl
  refine ⟨?_, fun hb => ?_, fun he => ?_⟩
  · rw [hvu, State.setBlend_sideMeters, hr, fillFault_sideMeters, ← hu, State.setSideMeters_sideMeters, PerSide.get_set_same, hwx]
  · have hub : (u.sideState m.side).beforeEnding = true := by
      unfold State.sideState; rw [huf]; exact (congrArg _ hw.state).trans hb
    have hF := fillFault_faulted .reverse (some m) hub
    rw [← hr] at hF
    have hfinds : FaultFinds m.side s u := .of_fill (by rw [huf]; exact hw.closures) (by rw [huf]; exact hw.saleContext)
      (by rw [← hu]; exact hw.only .params (by simp)) (by rw [← hu]; exact hw.only.link_eq)
    rw [hvu]
    refine ⟨(hF.shown rfl hfinds).stands rfl rfl (by simp) (.refl _), ?_⟩
    rw [State.setBlend_fill, hF.fill, huf]
    unfold Fill.faulted
    dsimp only
    rw [hw.saleContext]
  · have hub : (u.sideState m.side).beforeEnding = false := by
      have h : u.sideState m.side = .ending := by unfold State.sideState; rw [huf]; exact hw.state.trans he
      rw [h]; rfl
    have hrf : r.fill = w.fill := by rw [hr, fillFault_none _ _ hub, huf]
    rw [hvu, State.setBlend_sideState, State.setBlend_fill, hrf]
    exact ⟨hre, hw.saleContext, hw.closures⟩

/-- An update that raises CROSSFLOW with no window open, REVERSE not being due (R62, R86). -/
theorem SoldAs.crossflows {m : Meter} {v : Int} {s w : State} (hw : SoldAs m v s w) (hrev : reverseDue w m = false)
    (hunused : (s.blend.get m.side).unused = some m.product) (hraised : (s.blend.get m.side).crossflowRaised = false)
    (hlim : s.params.crossflowLimit * 100000 ≤ v) (hwin : (s.blend.get m.side).window = none) :
    ((volumeUpdate m w).blend.get m.side).crossflowRaised = true ∧
    ((s.sideState m.side).beforeEnding = true → FaultShown m.side .crossflow (some m) s (volumeUpdate m w)) ∧
    (s.sideState m.side = .ending → (volumeUpdate m w).sideState m.side = .ending ∧
      ((volumeUpdate m w).fill.get m.side).sale = (s.fill.get m.side).sale ∧
      ((volumeUpdate m w).fill.get m.side).closures = (s.fill.get m.side).closures) := by
  have hwp : w.params = s.params := hw.only .params (by simp)
  have hwb : w.blend.get m.side = s.blend.get m.side := hw.only (.blend m.side) (by simp)
  have hvu := volumeUpdate_crossflows hrev (by rw [hwb]; exact hunused) (by rw [hwb]; exact hraised)
    (by rw [hwp, hw.sale]; exact hlim) (by rw [hwb]; exact hwin)
  have hT := stopTests_tested m.side (refigured m w)
  generalize hr : stopTests m.side (refigured m w) = r at hvu hT
  have hro : OnlyChanges (stateBlocks m.side) (refigured m w) r := by rw [← hr]; exact stopTests_only _ _
  generalize hu : r.setBlend m.side { w.blend.get m.side with crossflowRaised := true } = u at hvu
  have huf : u.fill = r.fill := by rw [← hu]; rfl
  refine ⟨?_, fun hb => ?_, fun he => ?_⟩
  · rw [hvu]
    rcases hub : (u.sideState m.side).beforeEnding with _ | _
    · rw [fillFault_none _ _ hub, ← hu, State.setBlend_blend, PerSide.get_set_same]
    · rw [(fillFault_faulted _ _ hub).blend, ← hu, State.setBlend_blend, PerSide.get_set_same]
  · have hub : (u.sideState m.side).beforeEnding = true := by
      unfold State.sideState; rw [huf]
      exact hT.beforeEnding ((congrArg _ hw.state).trans hb)
    obtain ⟨f, hnumber, hsale⟩ := hT.sale
    have hfinds : FaultFinds m.side s u := by
      refine ⟨?_, ⟨f, hnumber, ?_⟩, ?_, ?_⟩
      · rw [huf, hT.closures]; exact hw.closures
      · rw [huf, hsale]; exact congrArg _ hw.saleContext
      · rw [← hu]; exact (hro .params (by simp)).trans hwp
      · rw [← hu]; exact hro.link_eq.trans hw.only.link_eq
    rw [hvu]
    exact (fillFault_faulted _ _ hub).shown rfl hfinds
  · have hrr : r = refigured m w := hT.ending (hw.state.trans he)
    have hwf : u.fill = w.fill := by rw [huf, hrr]; rfl
    have hub : u.sideState m.side = .ending := by unfold State.sideState; rw [hwf]; exact hw.state.trans he
    rw [hvu, fillFault_none _ _ (by rw [hub]; rfl), hwf]
    exact ⟨hub, hw.saleContext, hw.closures⟩

/-- Settles O22: the stop conditions of an update that raises nothing; REVERSE; CROSSFLOW. -/
theorem aVolumeUpdateStopsTheFill : Obligations.AVolumeUpdateStopsTheFill := by
  refine ⟨?_, ?_⟩
  · intro m p q last new s hs hopen hl hn hd hc hweight hhi hlo hrev hunused v left g
    have hvdef : v = (s.meter m).sale + ((s.meter m).weight : Int) := rfl
    have hstate : (s.sideState m.side).isOpen = true := by rcases hopen with h | h <;> rw [h] <;> rfl
    have hfill : s.filling m.side = true := SideState.isFill_of_beforeEnding (SideState.beforeEnding_of_isOpen hstate)
    have hv : addVu (s.meter m).sale ((s.meter m).signed true) = v :=
      addVu_eq (x := ((s.meter m).weight : Int)) (by omega) hhi
    have hx := exec_edge_sale (f := true) hfill hl hn hd hc
    rw [hv, if_pos (by omega)] at hx
    have hw := sold_as p q new true s hv
    generalize sold m p q new true s = w at hx hw
    have hrev' : reverseDue w m = false := by
      rw [Bool.eq_false_iff, ne_eq, reverseDue_iff, hw.sale, hw.only .params (by simp)]
      rintro ⟨h, -⟩
      omega
    have hg : (refigured m w).figures.get m.side = g := hw.figures
    have hus : (refigured m w).sideState m.side = s.sideState m.side := hw.state
    have huopen : ((refigured m w).sideState m.side).isOpen = true := by rw [hus]; exact hstate
    obtain ⟨hheld, hslowing, hpass⟩ := hw.stops hstate hrev' hunused
    refine ⟨_, hx, ?_⟩
    rw [settle_sideState, settle_valves, settle_blend, settle_fill, hg.symm]
    refine ⟨fun ht => hheld _ (stopTests_target huopen ht), fun ht hli => hheld _ (stopTests_limit huopen ht hli),
      fun ht hli hflow hslow => hslowing hflow (stopTests_slow (hus.trans hflow) ht hli hslow), fun ht hli hslow hwin => ?_⟩
    apply hpass _ hwin
    apply stopTests_pass ht hli
    rw [hus]
    rintro ⟨hflow, hpassed⟩
    rcases hslow with h | h
    · rw [h] at hflow; exact absurd hflow (by decide)
    · rw [h] at hpassed; exact absurd hpassed (by decide)
  · intro m p q last new forward s hs hfill hl hn hd hc hweight i v backward faulted frame hhi hlo
    have hv0 : (s.meter m).sale + (s.meter m).signed forward = v := by cases forward <;> rfl
    have hv : addVu (s.meter m).sale ((s.meter m).signed forward) = v := by
      rw [← hv0] at hlo hhi ⊢
      exact addVu_eq hlo hhi
    have hx := exec_edge_sale hfill hl hn hd hc
    have hne : v ≠ (s.meter m).sale := by
      rw [← hv0]
      cases forward
      · change (s.meter m).sale + -((s.meter m).weight : Int) ≠ _; omega
      · change (s.meter m).sale + ((s.meter m).weight : Int) ≠ _; omega
    rw [hv, if_pos hne] at hx
    have hw := sold_as p q new forward s hv
    generalize sold m p q new forward s = w at hx hw
    have hrev : reverseDue w m = true ↔ backward := by
      rw [reverseDue_iff, hw.sale, hw.only .params (by simp), hw.only (.sideMeters m.side) (by simp)]
    have hframe : OnlyChanges frame s (settle s (volumeUpdate m w)) :=
      OnlyChanges.settle_clear (bs := saleBlocks m) s hs (volumeUpdate_sale m hw.only)
    have hsale : ((settle s (volumeUpdate m w)).meter m).sale = v := by
      rw [settle_meter, volumeUpdate_meter, hw.sale]
    have hfaulted {k : FaultKind} (h : FaultShown i k (some m) s (volumeUpdate m w)) : faulted k (settle s (volumeUpdate m w)) :=
      have hk := h.settle s
      ⟨hk.state, hk.valves, hk.closures, hk.quietTimer, hk.afterFlowTimer, hk.ended, hk.window, hk.tells⟩
    refine ⟨fun hback => ?_, fun hback hunused hraised hlim hwin => ?_⟩
    · obtain ⟨hmark, hbefore, hending⟩ := hw.reverses hfill (hrev.mpr hback)
      refine ⟨_, hx, hsale, by rw [settle_sideMeters]; exact hmark, fun hb => ?_, fun he => ?_, hframe⟩
      · obtain ⟨hshown, hended⟩ := hbefore hb
        exact ⟨hfaulted hshown, by rw [settle_fill]; exact hended⟩
      · rw [settle_sideState, settle_fill]
        exact hending he
    · have hrev' : reverseDue w m = false := by rw [Bool.eq_false_iff, ne_eq, hrev]; exact hback
      obtain ⟨hmark, hbefore, hending⟩ := hw.crossflows hrev' hunused hraised hlim hwin
      refine ⟨_, hx, hsale, by rw [settle_blend]; exact hmark, fun hb => hfaulted (hbefore hb), fun he => ?_, hframe⟩
      rw [settle_sideState, settle_fill]
      exact hending he

end Sys2Proof.Machine

namespace Sys2Proof.Machine

open Sys2Proof

/-! ### Operands read back -/

@[simp] theorem sideOf_number (i : Side) : sideOf (Side.number i) = some i := by cases i <;> rfl

@[simp] theorem meterOf_number (m : Meter) : meterOf (meterNumber m) = some m := by
  rcases m with ⟨i, p⟩
  cases i <;> cases p <;> rfl

theorem sideOf_none {n : Nat} (h : 2 ≤ n) : sideOf n = none := by
  obtain ⟨k, rfl⟩ := Nat.exists_eq_add_of_le' h
  rfl

theorem switchOf_none {n : Nat} (h : 2 ≤ n) : switchOf n = none := by
  obtain ⟨k, rfl⟩ := Nat.exists_eq_add_of_le' h
  rfl

theorem meterOf_none {n : Nat} (h : 4 ≤ n) : meterOf n = none := by
  obtain ⟨k, rfl⟩ := Nat.exists_eq_add_of_le' h
  rfl

theorem paramOfId_id (p : Param) : Param.ofId p.id = some p := by cases p <;> rfl

theorem paramId_ne_zero (p : Param) : p.id ≠ 0 := by cases p <;> decide

/-! ### Replies that change something besides -/

/-- The state in which a request has entered service (R184). -/
def State.serving (s : State) (kind tag : Nat) : State := s.setLink (s.link.frameTaken.enterService kind tag)

/-- A request that finds none in service, as the event of its owner's rule on the state that serves it. -/
theorem event_request {α : Type} {s : State} (h : Free s) (kind tag : Nat) (x : α) (take : α → State → State) :
    event (request kind tag (.fields x) take) s = .next (settle s (take x (s.serving kind tag))) := by
  rw [event_next, request_free h]
  rfl

/-- A refused request is answered with the status alone (R185). -/
theorem replied_of_refuse {α : Type} {s : State} (hs : Settled s) (h : Free s) (kind tag : Nat) (x : α) (take : α → State → State)
    (status : Status) (ht : take x (s.serving kind tag) = refuse status (s.serving kind tag)) :
    event (request kind tag (.fields x) take) s = .next (s.replied kind tag status []) :=
  replied_of_answer hs h kind tag x take status [] ht

/-- An effect that stands still and leaves the latches and their conditions ends with the start of the link's next frame. -/
theorem Settled.settle_answered {s u : State} (h : Settled s) (q : StandsStill s u) (hl : u.link.latches = s.link.latches)
    (hc : latchConditions u = latchConditions s) : Machine.settle s u = u.setLink u.link.startNext := by
  rw [h.settle_still q, hc]
  have hf : u.link.latches.follow (latchConditions s) = u.link.latches := by rw [hl]; exact h.latches
  unfold Link.follows
  rw [hf]

/-- A port after its transmitter has started what it can, with the sale record that waits for delivery (R133). -/
def Port.starts (p : Port) (d : Option SaleRecord) : Port :=
  match p.tx, p.state with
  | none, .negotiating => { p with tx := p.owed, owed := none }
  | none, .admitted => p.startNext d
  | _, _ => p

theorem startReader_eq (s : State) (i : Side) : startReader s i = (s.ports.get i).starts (pendingDelivery s i) := rfl

/-- The counters of a port have no part in what its transmitter starts. -/
theorem Port.starts_counters (p : Port) (d : Option SaleRecord) (c : PortCounters) :
    Port.starts { p with counters := c } d = { p.starts d with counters := c } := by
  rcases p with ⟨st, sp, sti, bt, fa, te, of, ow, co, ex, rm, rr, ct, et, tx, pa, pn, qu, em, re, ll, ri, ti, cn⟩
  rcases tx with _ | x
  · cases st
    case admitted =>
      rcases pa with _ | a
      · rcases d with _ | r
        · rcases em with _ | e
          · rcases pn with _ | n
            · rcases qu with _ | ⟨r, rest⟩ <;> rfl
            · rfl
          · rfl
        · rfl
      · rfl
    all_goals rfl
  · rfl

/-- The clearing of a port's counters starts nothing at its transmitter. -/
theorem Settled.settle_setCounters {s u : State} (h : Settled s) (i : Side) (c : PortCounters)
    (q : StandsStill s u) (hl : u.link.latches = s.link.latches) (hlost : u.link.lost = s.link.lost)
    (hf : u.sideMeters = s.sideMeters) (hfill : u.fill = s.fill) (hpow : u.sidePower = s.sidePower) :
    Machine.settle s (u.setPort i { u.ports.get i with counters := c }) =
      (u.setPort i { u.ports.get i with counters := c }).setLink u.link.startNext := by
  have hstate (j : Side) : ((u.setPort i { u.ports.get i with counters := c }).ports.get j).state = (s.ports.get j).state := by
    rw [State.setPort_ports, PerSide.get_set, q.ports]
    split
    · rename_i hj; rw [hj]
    · rfl
  have hd (j : Side) : pendingDelivery (u.setPort i { u.ports.get i with counters := c }) j = pendingDelivery s j := by
    unfold pendingDelivery
    rw [State.setPort_register, q.register]
  refine h.settle_calm (fun j => ?_) (fun j => ?_) ?_ q.fill ?_ hl (q.changes.trans h.changes)
  · have hj : u.display.get j = s.display.get j := congrArg (·.get j) q.display
    exact (h.display_of_same (u := u.setPort i { u.ports.get i with counters := c }) hj).trans hj.symm
  · rw [startReader_eq, hd, State.setPort_ports, PerSide.get_set, q.ports]
    have hj : (s.ports.get j).starts (pendingDelivery s j) = s.ports.get j := h.reader j
    split
    · rename_i e
      rw [← e, Port.starts_counters, hj]
    · exact hj
  · exact (h.store_of_same (u := u.setPort i { u.ports.get i with counters := c }) q.store q.mode q.supplyFail).trans q.store.symm
  · exact latchConditions_congr hfill hf (by rw [State.setPort_store, q.store]) (by rw [State.setPort_store, q.store])
      (by rw [State.setPort_store, q.store]) (by rw [State.setPort_store, q.store]) (hstate .a) (hstate .b) hlost hpow

theorem Link.startNext_counters (l : Link) (c : LinkCounters) :
    Link.startNext { l with counters := c } = { l.startNext with counters := c } := by
  rcases l with ⟨r, g, sv, rs, bs, ns, lo, tx, la, cn⟩
  cases tx <;> cases rs <;> cases bs <;> cases ns <;> rfl

theorem Link.startNext_withLatches (l : Link) (c : Latches) :
    Link.startNext { l with latches := c } = { l.startNext with latches := c } := by
  rcases l with ⟨r, g, sv, rs, bs, ns, lo, tx, la, cn⟩
  cases tx <;> cases rs <;> cases bs <;> cases ns <;> rfl

theorem Latches.follow_self (c : Latches) : c.follow c = c := by
  simp [Latches.follow]

/-- The link that serves a request with its reply in the reply slot (R184). -/
def Link.answered (l : Link) (kind tag : Nat) (status : Status) (fields : List Field) : Link :=
  { l.frameTaken.enterService kind tag with
    replySlot := some { kind := kind, tag := tag, status := status, fields := fields } }

/-! ### Read-outs -/

/-- The read-outs that take no operand or a selector, with their reports as they stand (R43, R99, R173, R189, R190). -/
theorem readOut_reports {s : State} (hs : Settled s) (hf : Free s) (tag : Nat) :
    exec (.identify tag (.fields ())) s = .next (s.replied Kind.identify tag .ok (identityReport s)) ∧
    exec (.readConfig tag (.fields 0)) s = .next (s.replied Kind.readConfig tag .ok (configReport s Param.all)) ∧
    (∀ p : Param, exec (.readConfig tag (.fields p.id)) s = .next (s.replied Kind.readConfig tag .ok (configReport s [p]))) ∧
    (∀ m : Meter, exec (.readMeter tag (.fields { meter := meterNumber m, clear := 0 })) s =
      .next (s.replied Kind.readMeter tag .ok (meterReport s m))) ∧
    exec (.readPrices tag (.fields 0)) s = .next (s.replied Kind.readPrices tag .ok (activeReport s.prices)) ∧
    (∀ r, s.prices.retained = some r →
      exec (.readPrices tag (.fields 1)) s = .next (s.replied Kind.readPrices tag .ok (retainedReport s.prices r))) ∧
    (s.prices.retained = none → exec (.readPrices tag (.fields 1)) s = .next (s.replied Kind.readPrices tag .notFound [])) ∧
    exec (.readPrices tag (.fields 2)) s = .next (s.replied Kind.readPrices tag .ok (stagedReport s.prices)) ∧
    exec (.readTotals tag (.fields ())) s = .next (s.replied Kind.readTotals tag .ok (totalsReport s)) ∧
    exec (.readPower tag (.fields ())) s = .next (s.replied Kind.readPower tag .ok (powerReport s)) := by
  refine ⟨?_, ?_, fun p => ?_, fun m => ?_, ?_, fun r hr => ?_, fun hr => ?_, ?_, ?_, ?_⟩
  · exact replied_of_answer hs hf _ _ _ _ _ _ rfl
  · exact replied_of_answer hs hf _ _ _ takeReadConfig _ _ rfl
  · refine replied_of_answer hs hf _ _ _ takeReadConfig _ _ ?_
    unfold takeReadConfig
    rw [if_neg (paramId_ne_zero p), paramOfId_id]
    rfl
  · refine replied_of_answer hs hf _ _ _ takeReadMeter _ _ ?_
    unfold takeReadMeter
    rw [meterOf_number]
    rfl
  · exact replied_of_answer hs hf _ _ _ takeReadPrices _ _ rfl
  · refine replied_of_answer hs hf _ _ _ takeReadPrices _ _ ?_
    unfold takeReadPrices
    rw [State.setLink_prices, hr]
    rfl
  · refine replied_of_refuse hs hf _ _ _ takeReadPrices _ ?_
    unfold takeReadPrices State.serving
    rw [State.setLink_prices, hr]
    rfl
  · exact replied_of_answer hs hf _ _ _ takeReadPrices _ _ rfl
  · exact replied_of_answer hs hf _ _ _ _ _ _ rfl
  · exact replied_of_answer hs hf _ _ _ _ _ _ rfl

/-- A read-out of a side by its number. -/
theorem event_withSide {s : State} (hs : Settled s) (hf : Free s) (kind tag : Nat) (i : Side) (report : State → Side → List Field)
    (hr : ∀ l, report (s.setLink l) i = report s i) :
    event (request kind tag (.fields (Side.number i)) (withSide (fun i s => answer .ok (report s i) s))) s =
      .next (s.replied kind tag .ok (report s i)) := by
  refine replied_of_answer hs hf _ _ _ _ _ _ ?_
  unfold withSide
  rw [sideOf_number]
  dsimp only
  rw [hr]

theorem event_withSide_bad {s : State} (hs : Settled s) (hf : Free s) (kind tag n : Nat) (take : Side → State → State) (h : 2 ≤ n) :
    event (request kind tag (.fields n) (withSide take)) s = .next (s.replied kind tag .badValue []) := by
  refine replied_of_refuse hs hf _ _ _ _ _ ?_
  unfold withSide
  rw [sideOf_none h]

theorem saleNumberGood_iff (n : Nat) : saleNumberGood n = true ↔ 1 ≤ n ∧ n ≤ 9999 := by
  simp [saleNumberGood]

/-- The read-outs of a side and of its port (R73, R89, R95, R119, R142). -/
theorem readOut_sides {s : State} (hs : Settled s) (hf : Free s) (tag : Nat) (i : Side) :
    exec (.readSide tag (.fields (Side.number i))) s = .next (s.replied Kind.readSide tag .ok (sideReport s i)) ∧
    exec (.readBlend tag (.fields { side := Side.number i, clear := 0 })) s =
      .next (s.replied Kind.readBlend tag .ok (blendReport s i)) ∧
    exec (.listSales tag (.fields (Side.number i))) s = .next (s.replied Kind.listSales tag .ok (salesReport s i)) ∧
    exec (.readDisplay tag (.fields (Side.number i))) s = .next (s.replied Kind.readDisplay tag .ok (displayReport s i)) ∧
    (∀ tamper, exec (.readReader tag tamper (.fields { port := Side.number i, selector := 0, clear := 0 })) s =
      .next (s.replied Kind.readReader tag .ok (portReport s i tamper))) ∧
    (∀ n r, 1 ≤ n → n ≤ 9999 → findSale s i n = some r →
      exec (.readSale tag (.fields { side := Side.number i, number := n })) s =
        .next (s.replied Kind.readSale tag .ok (saleReport s i r))) ∧
    (∀ n, 1 ≤ n → n ≤ 9999 → findSale s i n = none →
      exec (.readSale tag (.fields { side := Side.number i, number := n })) s = .next (s.replied Kind.readSale tag .notFound [])) := by
  have hsale {n : Nat} (h1 : 1 ≤ n) (h2 : n ≤ 9999) : saleNumberGood n = true := (saleNumberGood_iff n).mpr ⟨h1, h2⟩
  refine ⟨?_, ?_, ?_, ?_, fun tamper => ?_, fun n r h1 h2 hr => ?_, fun n h1 h2 hr => ?_⟩
  · exact event_withSide hs hf _ _ i sideReport (fun _ => rfl)
  · refine replied_of_answer hs hf _ _ _ takeReadBlend _ _ ?_
    unfold takeReadBlend
    rw [sideOf_number]
    rfl
  · exact event_withSide hs hf _ _ i salesReport (fun _ => rfl)
  · exact event_withSide hs hf _ _ i displayReport (fun _ => rfl)
  · refine replied_of_answer hs hf _ _ _ (takeReadReader tamper) _ _ ?_
    unfold takeReadReader
    rw [sideOf_number]
    rfl
  · refine replied_of_answer hs hf _ _ _ takeReadSale _ _ ?_
    have hr' : findSale (s.setLink (s.link.frameTaken.enterService Kind.readSale tag)) i n = some r := hr
    unfold takeReadSale
    rw [sideOf_number]
    dsimp only
    rw [hsale h1 h2, hr']
    rfl
  · refine replied_of_refuse hs hf _ _ _ takeReadSale _ ?_
    have hr' : findSale (s.serving Kind.readSale tag) i n = none := hr
    unfold takeReadSale
    rw [sideOf_number]
    dsimp only
    rw [hsale h1 h2, hr']
    rfl

/-- The two tables that READ_READER shows are read alike with either clear option (R142). -/
theorem readOut_tables {s : State} (hs : Settled s) (hf : Free s) (tag : Nat) (i : Side) (tamper : Bool) (clear : Nat)
    (hc : clear ≤ 1) :
    exec (.readReader tag tamper (.fields { port := Side.number i, selector := 1, clear := clear })) s =
      .next (s.replied Kind.readReader tag .ok (classesReport s)) ∧
    exec (.readReader tag tamper (.fields { port := Side.number i, selector := 2, clear := clear })) s =
      .next (s.replied Kind.readReader tag .ok (conversationsReport s i)) := by
  obtain ⟨b, hb⟩ : ∃ b, switchOf clear = some b := by
    rcases Nat.le_one_iff_eq_zero_or_eq_one.mp hc with rfl | rfl
    · exact ⟨false, rfl⟩
    · exact ⟨true, rfl⟩
  refine ⟨?_, ?_⟩
  all_goals
    refine replied_of_answer hs hf _ _ _ (takeReadReader tamper) _ _ ?_
    unfold takeReadReader
    dsimp only
    rw [sideOf_number, hb]
    rfl

/-- Operands outside their values give BAD_VALUE (R193). -/
theorem readOut_badValues {s : State} (hs : Settled s) (hf : Free s) (tag : Nat) :
    (∀ x, 2 ≤ x →
      exec (.readSide tag (.fields x)) s = .next (s.replied Kind.readSide tag .badValue []) ∧
      exec (.listSales tag (.fields x)) s = .next (s.replied Kind.listSales tag .badValue []) ∧
      exec (.readDisplay tag (.fields x)) s = .next (s.replied Kind.readDisplay tag .badValue []) ∧
      exec (.readCounters tag (.fields x)) s = .next (s.replied Kind.readCounters tag .badValue [])) ∧
    (∀ x, 3 ≤ x → exec (.readPrices tag (.fields x)) s = .next (s.replied Kind.readPrices tag .badValue [])) ∧
    (∀ x, x ≠ 0 → Param.ofId x = none → exec (.readConfig tag (.fields x)) s = .next (s.replied Kind.readConfig tag .badValue [])) ∧
    (∀ x y, 4 ≤ x ∨ 2 ≤ y →
      exec (.readMeter tag (.fields { meter := x, clear := y })) s = .next (s.replied Kind.readMeter tag .badValue [])) ∧
    (∀ x y, 2 ≤ x ∨ 2 ≤ y →
      exec (.readBlend tag (.fields { side := x, clear := y })) s = .next (s.replied Kind.readBlend tag .badValue [])) ∧
    (∀ x y, 2 ≤ x ∨ y = 0 ∨ 10000 ≤ y →
      exec (.readSale tag (.fields { side := x, number := y })) s = .next (s.replied Kind.readSale tag .badValue [])) ∧
    (∀ tamper x y z, 2 ≤ x ∨ 3 ≤ y ∨ 2 ≤ z →
      exec (.readReader tag tamper (.fields { port := x, selector := y, clear := z })) s =
        .next (s.replied Kind.readReader tag .badValue [])) := by
  refine ⟨fun x hx => ⟨?_, ?_, ?_, ?_⟩, fun x hx => ?_, fun x h0 hx => ?_, fun x y h => ?_, fun x y h => ?_, fun x y h => ?_,
    fun tamper x y z h => ?_⟩
  · exact event_withSide_bad hs hf _ _ _ _ hx
  · exact event_withSide_bad hs hf _ _ _ _ hx
  · exact event_withSide_bad hs hf _ _ _ _ hx
  · refine replied_of_refuse hs hf _ _ _ takeReadCounters _ ?_
    unfold takeReadCounters
    rw [switchOf_none hx]
  · refine replied_of_refuse hs hf _ _ _ takeReadPrices _ ?_
    obtain ⟨k, rfl⟩ := Nat.exists_eq_add_of_le' hx
    rfl
  · refine replied_of_refuse hs hf _ _ _ takeReadConfig _ ?_
    unfold takeReadConfig
    rw [if_neg h0, hx]
  · refine replied_of_refuse hs hf _ _ _ takeReadMeter _ ?_
    unfold takeReadMeter
    dsimp only
    rcases h with h | h
    · rw [meterOf_none h]
    · rw [switchOf_none h]
      cases meterOf x <;> rfl
  · refine replied_of_refuse hs hf _ _ _ takeReadBlend _ ?_
    unfold takeReadBlend
    dsimp only
    rcases h with h | h
    · rw [sideOf_none h]
    · rw [switchOf_none h]
      cases sideOf x <;> rfl
  · refine replied_of_refuse hs hf _ _ _ takeReadSale _ ?_
    unfold takeReadSale
    dsimp only
    rcases hx : sideOf x with _ | i
    · rfl
    · have hn : saleNumberGood y = false := by
        rw [Bool.eq_false_iff, ne_eq, saleNumberGood_iff]
        rcases h with h | h
        · rw [sideOf_none h] at hx; exact absurd hx (by simp)
        · omega
      simp only [hn]
      rfl
  · refine replied_of_refuse hs hf _ _ _ (takeReadReader tamper) _ ?_
    unfold takeReadReader
    dsimp only
    rcases hx : sideOf x with _ | i
    · rfl
    · rcases hz : switchOf z with _ | b
      · rfl
      · have hy : 3 ≤ y := by
          rcases h with h | h | h
          · rw [sideOf_none h] at hx; exact absurd hx (by simp)
          · exact h
          · rw [switchOf_none h] at hz; exact absurd hz (by simp)
        obtain ⟨k, rfl⟩ := Nat.exists_eq_add_of_le' hy
        rfl

/-- The clear options, each clearing what has just been reported (R13, R89, R142). -/
theorem readOut_clears {s : State} (hs : Settled s) (hf : Free s) (tag : Nat) :
    (∀ m : Meter, exec (.readMeter tag (.fields { meter := meterNumber m, clear := 1 })) s =
      .next ((s.replied Kind.readMeter tag .ok (meterReport s m)).setMeter m
        { s.meter m with forward := 0, reverse := 0, phaseErrors := 0 })) ∧
    (∀ i : Side, exec (.readBlend tag (.fields { side := Side.number i, clear := 1 })) s =
      .next ((s.replied Kind.readBlend tag .ok (blendReport s i)).setBlend i
        { s.blend.get i with evaluated := 0, stepsUp := 0, stepsDown := 0, atLimit := 0, alarms := 0 })) ∧
    (∀ (i : Side) (tamper : Bool), exec (.readReader tag tamper (.fields { port := Side.number i, selector := 0, clear := 1 })) s =
      .next ((s.replied Kind.readReader tag .ok (portReport s i tamper)).setPort i
        { s.ports.get i with counters := PortCounters.zero })) := by
  refine ⟨fun m => ?_, fun i => ?_, fun i tamper => ?_⟩
  · change event (request _ _ _ takeReadMeter) s = _
    have he : takeReadMeter { meter := meterNumber m, clear := 1 } (s.serving Kind.readMeter tag) =
        (s.setLink (s.link.answered Kind.readMeter tag .ok (meterReport s m))).setMeter m (s.meter m).clearCounters := by
      unfold takeReadMeter
      rw [meterOf_number]
      rfl
    have hq : StandsStill s ((s.setLink (s.link.answered Kind.readMeter tag .ok (meterReport s m))).setMeter m (s.meter m).clearCounters) :=
      ⟨rfl, rfl, rfl, rfl, rfl, rfl, fun _ => ⟨rfl, rfl⟩, rfl⟩
    rw [event_request hf, he, hs.settle_answered hq rfl rfl]
    rfl
  · change event (request _ _ _ takeReadBlend) s = _
    have he : takeReadBlend { side := Side.number i, clear := 1 } (s.serving Kind.readBlend tag) =
        (s.setLink (s.link.answered Kind.readBlend tag .ok (blendReport s i))).setBlend i (s.blend.get i).clearCounters := by
      unfold takeReadBlend
      rw [sideOf_number]
      rfl
    have hq : StandsStill s ((s.setLink (s.link.answered Kind.readBlend tag .ok (blendReport s i))).setBlend i (s.blend.get i).clearCounters) :=
      ⟨rfl, rfl, rfl, rfl, rfl, rfl, fun _ => ⟨rfl, rfl⟩, rfl⟩
    rw [event_request hf, he, hs.settle_answered hq rfl rfl]
    rfl
  · change event (request _ _ _ (takeReadReader tamper)) s = _
    have he : takeReadReader tamper { port := Side.number i, selector := 0, clear := 1 } (s.serving Kind.readReader tag) =
        (s.setLink (s.link.answered Kind.readReader tag .ok (portReport s i tamper))).setPort i
          { s.ports.get i with counters := PortCounters.zero } := by
      unfold takeReadReader
      rw [sideOf_number]
      rfl
    have hq : StandsStill s (s.setLink (s.link.answered Kind.readReader tag .ok (portReport s i tamper))) :=
      ⟨rfl, rfl, rfl, rfl, rfl, rfl, fun _ => ⟨rfl, rfl⟩, rfl⟩
    rw [event_request hf, he]
    have hset := hs.settle_setCounters i PortCounters.zero hq rfl rfl rfl rfl rfl
    rw [State.setLink_ports] at hset
    rw [hset]
    rfl

/-- READ_COUNTERS and READ_STATUS, the read-outs of the link itself (R188, R189). -/
theorem readOut_link {s : State} (hs : Settled s) (hf : Free s) (tag : Nat) :
    exec (.readCounters tag (.fields 0)) s =
      .next (s.replied Kind.readCounters tag .ok (countersReport s.link.frameTaken.counters)) ∧
    exec (.readCounters tag (.fields 1)) s =
      .next ((s.replied Kind.readCounters tag .ok (countersReport s.link.frameTaken.counters)).setLink
        { s.link.replied Kind.readCounters tag .ok (countersReport s.link.frameTaken.counters) with
          counters := LinkCounters.zero }) ∧
    exec (.readStatus tag (.fields ())) s =
      .next ((s.replied Kind.readStatus tag .ok (statusReport s.link.frameTaken)).setLink
        { s.link.replied Kind.readStatus tag .ok (statusReport s.link.frameTaken) with latches := latchConditions s }) := by
  refine ⟨replied_of_answer hs hf _ _ _ takeReadCounters _ _ rfl, ?_, ?_⟩
  · change event (request _ _ _ takeReadCounters) s = _
    have he : takeReadCounters 1 (s.serving Kind.readCounters tag) =
        s.setLink { s.link.answered Kind.readCounters tag .ok (countersReport s.link.frameTaken.counters) with
          counters := LinkCounters.zero } := rfl
    rw [event_request hf, he]
    have hset := hs.settle_link { s.link.answered Kind.readCounters tag .ok (countersReport s.link.frameTaken.counters) with
      counters := LinkCounters.zero } rfl rfl
    rw [hset, Link.startNext_counters]
    rfl
  · change event (request _ _ _ (fun _ s => takeReadStatus s)) s = _
    have he : takeReadStatus (s.serving Kind.readStatus tag) =
        s.setLink { s.link.answered Kind.readStatus tag .ok (statusReport s.link.frameTaken) with
          latches := latchConditions s } := rfl
    have hq : StandsStill s (s.setLink { s.link.answered Kind.readStatus tag .ok (statusReport s.link.frameTaken) with
        latches := latchConditions s }) := ⟨rfl, rfl, rfl, rfl, rfl, rfl, fun _ => ⟨rfl, rfl⟩, rfl⟩
    rw [event_request hf]
    change Host.Outcome.next (settle s (takeReadStatus (s.serving Kind.readStatus tag))) = _
    rw [he, hs.settle_still hq]
    unfold Link.follows
    rw [State.setLink_link]
    have hc : (latchConditions s).follow (latchConditions (s.setLink
        { s.link.answered Kind.readStatus tag .ok (statusReport s.link.frameTaken) with latches := latchConditions s })) =
        latchConditions s := Latches.follow_self _
    dsimp only
    rw [hc, Link.startNext_withLatches]
    rfl

/-- Settles O17: the reports, the tables, the operands outside their values, and what each clear option clears. -/
theorem readOutsReportWhatStands : Obligations.ReadOutsReportWhatStands := by
  refine ⟨fun tag s hs hf => ?_, fun tag s hs hf => ?_⟩
  · obtain ⟨hidentify, hconfig, hparam, hmeter, hactive, hretained, hnone, hstaged, htotals, hpower⟩ := readOut_reports hs hf tag
    exact ⟨hidentify, hconfig, hparam, hmeter, hactive, hretained, hnone, hstaged, readOut_sides hs hf tag,
      readOut_tables hs hf tag, htotals, hpower, readOut_badValues hs hf tag⟩
  · obtain ⟨hmeter, hblend, hport⟩ := readOut_clears hs hf tag
    exact ⟨hmeter, hblend, hport, readOut_link hs hf tag⟩

end Sys2Proof.Machine

namespace Sys2Proof.Machine

open Sys2Proof

/-! ### Store jobs at the end of an event -/

/-- A queued job waits in the list, and one that serves a request does so there (R177). -/
theorem joinJob_mem (k : JobKind) (b : Bool) (w : List WaitingJob) :
    ∃ j ∈ joinJob k b w, j.kind = k ∧ (b = true → j.serves = true) := by
  induction w with
  | nil => exact ⟨_, List.mem_singleton.mpr rfl, rfl, id⟩
  | cons j w ih =>
    unfold joinJob
    split
    · rename_i h
      exact ⟨_, List.mem_cons_self, h, fun hb => by rw [hb]; exact Bool.or_true _⟩
    · obtain ⟨x, hx, hk⟩ := ih
      exact ⟨x, List.mem_cons_of_mem _ hx, hk⟩

/-- A job that waits when the banks start still waits, or is the one that starts (R177). -/
theorem startMain_keeps_job {s : State} {j : WaitingJob} (h : j ∈ s.store.waiting) :
    j ∈ (startMain s).waiting ∨
      s.store.running = none ∧ ∃ r, (startMain s).running = some r ∧ r.kind = j.kind ∧ r.serves = j.serves := by
  unfold startMain
  split
  · exact .inl h
  · rename_i hrun
    have hnone : s.store.running = none := by
      rw [not_or, Bool.not_eq_true, Option.isSome_eq_false_iff, Option.isNone_iff_eq_none] at hrun
      exact hrun.2
    split
    · exact .inl h
    · rename_i x _
      by_cases hx : j = x
      · exact .inr ⟨hnone, _, rfl, by rw [hx], by rw [hx]⟩
      · exact .inl ((List.mem_erase_of_ne hx).mpr h)

/-- The same at the end of the event. -/
theorem settle_keeps_job {old u : State} {j : WaitingJob} (h : j ∈ u.store.waiting) :
    j ∈ (settle old u).store.waiting ∨
      u.store.running = none ∧ ∃ r, (settle old u).store.running = some r ∧ r.kind = j.kind ∧ r.serves = j.serves := by
  rw [settle_store, (startSave_main _ _).1, (startSave_main _ _).2]
  exact startMain_keeps_job h

/-- A job queued by the effect is queued at the end of the event (R177). -/
theorem settle_hasQueued {s u : State} (old : State) {j : WaitingJob} (h : j ∈ u.store.waiting) (hr : u.store.running = s.store.running) :
    s.store.HasQueued (settle old u).store j.kind := by
  rcases settle_keeps_job (old := old) h with hw | ⟨hn, r, hrun, hk, -⟩
  · exact .inl ⟨j, hw, rfl⟩
  · exact .inr ⟨hr ▸ hn, r, hrun, hk⟩

/-- A job that serves the request in service does so at the end of the event (R177, R184). -/
theorem settle_willServe {u : State} (old : State) {j : WaitingJob} (h : j ∈ u.store.waiting) (hs : j.serves = true) :
    (settle old u).store.willServe j.kind := by
  rcases settle_keeps_job (old := old) h with hw | ⟨-, r, hrun, hk, hsv⟩
  · exact .inr ⟨j, hw, rfl, hs⟩
  · exact .inl ⟨r, hrun, hk, hsv.trans hs⟩

theorem startMain_audit (s : State) : (startMain s).audit = s.store.audit ∧ (startMain s).cfgDefaults = s.store.cfgDefaults := by
  unfold startMain
  split
  · exact ⟨rfl, rfl⟩
  · split <;> exact ⟨rfl, rfl⟩

theorem startSave_audit (t : Store) (q : PerSide (List SaleRecord)) :
    (t.startSave q).audit = t.audit ∧ (t.startSave q).cfgDefaults = t.cfgDefaults := by
  unfold Store.startSave
  split
  · split <;> exact ⟨rfl, rfl⟩
  · exact ⟨rfl, rfl⟩

theorem settle_store_audit (old u : State) : (settle old u).store.audit = u.store.audit := by
  rw [settle_store, (startSave_audit _ _).1, (startMain_audit _).1]

theorem settle_store_cfgDefaults (old u : State) : (settle old u).store.cfgDefaults = u.store.cfgDefaults := by
  rw [settle_store, (startSave_audit _ _).2, (startMain_audit _).2]

/-- An effect that sends no frame and reports no side leaves the link to start its next frame, where the latches' conditions stand. -/
theorem Settled.settle_link_answered {s u : State} (h : Settled s) (hd : u.display = s.display)
    (hf : ∀ i, (u.fill.get i).state = (s.fill.get i).state ∧ (u.fill.get i).closures = (s.fill.get i).closures)
    (hc : u.changes = s.changes) (hl : u.link.latches = s.link.latches) (hcond : latchConditions u = latchConditions s) :
    (Machine.settle s u).link = u.link.startNext := by
  have hdisp (i : Side) : startDisplay i u = u.display.get i := by
    rw [h.display_of_same (congrArg (·.get i) hd), hd]
  have hfollow : u.link.latches.follow (latchConditions u) = u.link.latches := by rw [hcond, hl]; exact h.latches
  rw [Machine.settle_link, reported_still hdisp hf (hc.trans h.changes), hfollow]

/-! ### SET_CALIBRATION -/

theorem calUnread_iff (s : State) :
    (s.power.mode = .loading ∧ (!s.store.cal.state.isRead) = true) ↔ (s.power.mode = .loading ∧ s.store.cal.state = .unread) := by
  cases s.store.cal.state <;> simp [RegionState.isRead]

theorem calibrationInRange_iff (w f : Nat) :
    calibrationInRange w f = true ↔ 1000 ≤ w ∧ w ≤ 60000 ∧ 500 ≤ f ∧ f ≤ 20000 := decide_eq_true_iff

/-- Settles O25: the four refusals in their order, then the acceptance, which queues the job that serves the request. -/
theorem calibrationIsGuardedAndWritten : Obligations.CalibrationIsGuardedAndWritten := by
  intro tag closed x s hs hf early
  have hx : exec (.setCalibration tag closed (.fields x)) s =
      event (request Kind.setCalibration tag (.fields x) (takeCalibration closed)) s := rfl
  have hearly : early ↔ (s.power.mode = .loading ∧ (!s.store.cal.state.isRead) = true) := (calUnread_iff s).symm
  have hpass (h : ¬early) (u : State) (hu : u = s.serving Kind.setCalibration tag) : takeCalibration closed x u =
      if (!closed) = true then refuse .calLocked u
      else if s.anyFilling = true then refuse .wrongState u
      else match meterOf x.meter with
        | none => refuse .badValue u
        | some m => if calibrationInRange x.weight x.maxFlow then acceptCalibration m x.weight x.maxFlow u else refuse .badValue u := by
    subst hu
    exact if_neg (fun h' => h (hearly.mpr h'))
  refine ⟨fun h => ?_, fun h hc => ?_, fun h hc ha => ?_, fun h hc ha hv => ?_, fun m h hc ha hm hw1 hw2 hf1 hf2 => ?_⟩
  · exact hx ▸ replied_of_refuse hs hf _ _ _ (takeCalibration closed) _ (if_pos (hearly.mp h))
  · exact hx ▸ replied_of_refuse hs hf _ _ _ (takeCalibration closed) _ ((hpass h _ rfl).trans (if_pos (by rw [hc]; rfl)))
  · refine hx ▸ replied_of_refuse hs hf _ _ _ (takeCalibration closed) _ ((hpass h _ rfl).trans ?_)
    rw [if_neg (by rw [hc]; decide), if_pos ha]
  · refine hx ▸ replied_of_refuse hs hf _ _ _ (takeCalibration closed) _ ((hpass h _ rfl).trans ?_)
    rw [if_neg (by rw [hc]; decide), if_neg (by rw [ha]; decide)]
    rcases hm : meterOf x.meter with _ | m
    · rfl
    · have hr : ¬calibrationInRange x.weight x.maxFlow = true := by
        rw [calibrationInRange_iff]
        rcases hv with hv | hv
        · rw [meterOf_none hv] at hm; exact absurd hm (by simp)
        · omega
      exact if_neg hr
  · have hr : calibrationInRange x.weight x.maxFlow = true := (calibrationInRange_iff _ _).mpr ⟨hw1, hw2, hf1, hf2⟩
    generalize hv : s.serving Kind.setCalibration tag = v
    have htake : takeCalibration closed x v = acceptCalibration m x.weight x.maxFlow v := by
      rw [hpass h v hv.symm, if_neg (by rw [hc]; decide), if_neg (by rw [ha]; decide), hm, meterOf_number]
      exact if_pos hr
    generalize hu : acceptCalibration m x.weight x.maxFlow v = u at htake
    have hustore : u.store = { s.store with
        audit := min (s.store.audit + 1) 65535, waiting := joinJob .calWrite true s.store.waiting } := by rw [← hu, ← hv]; rfl
    obtain ⟨j, hj, hk, hsv⟩ := joinJob_mem .calWrite true s.store.waiting
    have hju : j ∈ u.store.waiting := by rw [hustore]; exact hj
    refine ⟨settle s u, by rw [hx, event_request hf, hv, htake], ?_, ?_, ?_, ?_, ?_, ?_⟩
    · rw [settle_meter, ← hu, ← hv]
      exact State.setMeter_meter_same _ _ _
    · rw [settle_store_audit, hustore]
    · rw [← hk]
      exact settle_willServe s hju (hsv rfl)
    · rw [← hk]
      exact settle_hasQueued s hju (by rw [hustore])
    · have hcond : latchConditions u = latchConditions s := by
        rw [← hu, ← hv]
        exact latchConditions_congr rfl rfl rfl rfl rfl rfl rfl rfl rfl rfl
      rw [hs.settle_link_answered (by rw [← hu, ← hv]; rfl) (by rw [← hu, ← hv]; exact fun _ => ⟨rfl, rfl⟩)
        (by rw [← hu, ← hv]; rfl) (by rw [← hu, ← hv]; rfl) hcond, ← hu, ← hv]
      rfl
    · refine OnlyChanges.settle_clear s hs ?_
      rw [← hu, ← hv]
      exact ((((setLink_only s _).mono (by simp)).step (setMeter_only _ m _) (by simp)).step (setStore_only _ _) (by simp)).step
        (serveByJob_only _ _ _) (by simp)

end Sys2Proof.Machine

namespace Sys2Proof.Machine

open Sys2Proof

/-! ### Answers of a request that changes a side -/

@[simp] theorem Link.enqueue_service (l : Link) (n : Notice) : (l.enqueue n).service = l.service := by
  unfold Link.enqueue Link.discardNotice
  split
  · rfl
  · split
    · rfl
    · split <;> rfl

theorem removeWaiting_service (i : Side) (why : RemovalReason) (tell : Bool) (s : State) :
    (removeWaiting i why tell s).link.service = s.link.service := by
  unfold removeWaiting
  dsimp only
  split
  · split
    · rfl
    · split <;> exact Link.enqueue_service _ _
  · rfl

theorem addClosure_service (i : Side) (r : ClosureReason) (s : State) : (addClosure i r s).link.service = s.link.service := by
  unfold addClosure closeIfWaiting
  dsimp only
  split
  · rfl
  · rw [enterState_link]
    exact removeWaiting_service _ _ _ (s.setFill i { s.fill.get i with closures := (s.fill.get i).closures.add r })

/-- An answer given while a request is in service is one to that request, and stands at the end of the event (R184). -/
theorem settle_answers (old : State) {u : State} {r : Service} (status : Status) (fields : List Field) (h : u.link.service = some r) :
    (settle old (answer status fields u)).link.answers r.kind r.tag status fields := by
  apply (settle_keeps _ _).answers
  refine .inl ?_
  change u.link.service.elim u.link.replySlot _ = _
  rw [h]
  rfl

/-! ### Closing and opening a side -/

theorem enterState_slot (i : Side) (new : SideState) (s : State) :
    ((enterState i new s).fill.get i).slot = (s.fill.get i).slot := by
  by_cases h : s.sideState i = new
  · rw [enterState_same h]
  · rw [enterState_fill h]

theorem answer_fill (st : Status) (fields : List Field) (s : State) : (answer st fields s).fill = s.fill := rfl

/-- A WAITING authorization leaves the slot of a side that a closure takes to CLOSED (R47, R54). -/
theorem addClosure_slot {i : Side} {s : State} {a : Auth} (r : ClosureReason) (h : s.filling i = false)
    (ha : (s.fill.get i).slot = some a) (hp : a.phase = .waiting) : ((addClosure i r s).fill.get i).slot = none := by
  generalize hu : s.setFill i { s.fill.get i with closures := (s.fill.get i).closures.add r } = u
  have huf : u.fill.get i = { s.fill.get i with closures := (s.fill.get i).closures.add r } := by rw [← hu]; simp
  have hidle : u.filling i = false := by rw [← h]; unfold State.filling State.sideState; rw [huf]
  have he : addClosure i r s = enterState i .closed (removeWaiting i .closed true u) := by
    rw [← hu]
    exact if_neg (by rw [hu, hidle]; decide)
  have hslot : (u.fill.get i).slot = some a := by rw [huf]; exact ha
  rw [he, enterState_slot, removeWaiting_fill, Fill.withoutWaiting_waiting hslot hp]

theorem setClosures_closures (i : Side) (c : Closures) (s : State) : ((setClosures i c s).fill.get i).closures = c := by
  unfold setClosures
  dsimp only
  split
  · unfold enterImplied
    rw [enterState_closures]
    simp
  · simp

theorem setClosures_stays {i : Side} {s : State} (c : Closures) (h : s.sideState i ≠ .closed ∨ c.isEmpty = false) :
    setClosures i c s = s.setFill i { s.fill.get i with closures := c } := by
  refine if_neg ?_
  rintro ⟨hs, hc⟩
  rcases h with h | h
  · apply h
    rw [← hs]
    simp [State.sideState]
  · rw [h] at hc
    exact absurd hc (by decide)

/-- A CLOSED side whose set is empty goes to the state that its nozzle record implies (R47). -/
theorem setClosures_opens {i : Side} {s : State} {c : Closures} (h : s.sideState i = .closed) (hc : c.isEmpty = true) :
    (setClosures i c s).sideState i = (s.fill.get i).impliedState := by
  have hs : (s.setFill i { s.fill.get i with closures := c }).sideState i = .closed := by rw [← h]; simp [State.sideState]
  have he : setClosures i c s = enterImplied i (s.setFill i { s.fill.get i with closures := c }) := if_pos ⟨hs, hc⟩
  rw [he]
  unfold enterImplied
  rw [enterState_sideState, State.setFill_fill, PerSide.get_set_same]
  rfl

/-- The creep accumulators that OPEN_SIDE zeroes where it removes LEAK (R5). -/
def zeroCreepIf (b : Bool) (i : Side) (s : State) : State := if b then zeroCreep i s else s

theorem zeroCreepIf_only (b : Bool) (i : Side) (s : State) :
    OnlyChanges [.meter { side := i, product := .lo }, .meter { side := i, product := .hi }] s (zeroCreepIf b i s) :=
  (zeroCreep_only i s).ite (.refl _ _)

theorem zeroCreepIf_meters (b : Bool) (i : Side) (s : State) :
    (zeroCreepIf b i s).meters.get i =
      { lo := if b then { (s.meters.get i).lo with creep := 0, creepFired := false } else (s.meters.get i).lo
        hi := if b then { (s.meters.get i).hi with creep := 0, creepFired := false } else (s.meters.get i).hi } := by
  cases b
  · rfl
  · exact PerSide.get_set_same _ _ _

theorem takeOpenSide_eq (i : Side) (s : State) :
    takeOpenSide i s =
      (let c := (s.fill.get i).closures.opened s.estopInput (s.display.get i).dark
       answer .ok (closureSet c) (setClosures i c (zeroCreepIf (s.fill.get i).closures.leak i s))) := rfl

theorem OnlyChanges.meters_eq {bs : List Block} {s t : State} (h : OnlyChanges bs s t) (i : Side)
    (hlo : Block.meter { side := i, product := .lo } ∉ bs := by simp) (hhi : Block.meter { side := i, product := .hi } ∉ bs := by simp) :
    t.meters.get i = s.meters.get i :=
  PerProduct.ext_fields (h (.meter { side := i, product := .lo }) hlo) (h (.meter { side := i, product := .hi }) hhi)

/-- Settles O40: CLOSE_SIDE is the closure COMMAND added; OPEN_SIDE is the closure set replaced by what it leaves. -/
theorem sidesOpenAndClose : Obligations.SidesOpenAndClose := by
  intro tag i s hs hf f added left zeroed frame
  refine ⟨?_, ?_⟩
  · generalize hv : s.serving Kind.closeSide tag = v
    have hvf : v.fill.get i = f := by rw [← hv]; rfl
    have hvs : v.link.service = some { kind := Kind.closeSide, tag := tag, fields := [], restart := false } := by rw [← hv]; rfl
    have hcl : ((addClosure i .command v).fill.get i).closures = added := by rw [addClosure_closures, hvf]; rfl
    have hfilling : v.filling i = s.filling i := by rw [← hv]; rfl
    have hx : exec (.closeSide tag (.fields (Side.number i))) s =
        .next (settle s (answer .ok (closureSet added) (addClosure i .command v))) := by
      change event (request _ _ _ (withSide takeCloseSide)) s = _
      rw [event_request hf, hv]
      unfold withSide
      rw [sideOf_number, ← hcl]
      rfl
    refine ⟨_, hx, ?_, settle_answers s .ok (closureSet added) ((addClosure_service i .command v).trans hvs), fun h => ?_,
      fun h => ⟨?_, fun a ha hp => ?_⟩, ?_⟩
    · rw [settle_fill, answer_fill]; exact hcl
    · rw [settle_fill, answer_fill, addClosure_filling _ (hfilling.trans h), State.setFill_fill, PerSide.get_set_same, hvf]
      rfl
    · rw [settle_sideState]
      exact addClosure_sideState _ (hfilling.trans h)
    · rw [settle_fill, answer_fill]
      exact addClosure_slot _ (hfilling.trans h) (by rw [hvf]; exact ha) hp
    · have hsv : OnlyChanges [.link] s v := by rw [← hv]; exact setLink_only s _
      have ho : OnlyChanges (.port i :: frame) s (answer .ok (closureSet added) (addClosure i .command v)) :=
        ((hsv.mono (by simp [frame])).step (addClosure_only i _ _) (by simp [frame])).step (answer_only _ _ _)
          (by simp [frame])
      exact OnlyChanges.settle_clear s hs ho (by simp [frame]) (by simp [frame]) (by simp [frame]) (by simp [frame])
  · generalize hv : s.serving Kind.openSide tag = v
    have hvf : v.fill.get i = f := by rw [← hv]; rfl
    generalize hw : zeroCreepIf f.closures.leak i v = w
    have hwo : OnlyChanges [.meter { side := i, product := .lo }, .meter { side := i, product := .hi }] v w := by
      rw [← hw]; exact zeroCreepIf_only _ _ _
    have hwf : w.fill.get i = f := (hwo (.fill i) (by simp)).trans hvf
    have hws : w.sideState i = s.sideState i := congrArg Fill.state hwf
    have hsvc : (setClosures i left w).link.service = some { kind := Kind.openSide, tag := tag, fields := [], restart := false } := by
      rw [(setClosures_only i left w).link_eq, hwo.link_eq, ← hv]
      rfl
    have hx : exec (.openSide tag (.fields (Side.number i))) s =
        .next (settle s (answer .ok (closureSet left) (setClosures i left w))) := by
      change event (request _ _ _ (withSide takeOpenSide)) s = _
      rw [event_request hf, hv]
      unfold withSide
      rw [sideOf_number, ← hw, ← hvf]
      dsimp only
      rw [takeOpenSide_eq, ← hv]
      rfl
    refine ⟨_, hx, ?_, settle_answers s .ok (closureSet left) hsvc, fun h => ?_, fun h he => ?_, ?_, ?_⟩
    · rw [settle_fill, answer_fill]
      exact setClosures_closures i left w
    · rw [settle_fill, answer_fill, setClosures_stays left (h.imp_left (fun h' => hws ▸ h')), State.setFill_fill,
        PerSide.get_set_same, hwf]
    · rw [settle_sideState]
      refine (setClosures_opens (hws.trans h) he).trans ?_
      rw [hwf]
      rfl
    · rw [settle_meters]
      change (setClosures i left w).meters.get i = _
      rw [(setClosures_only i left w).meters_eq i, ← hw, zeroCreepIf_meters, ← hv]
      rfl
    · have hsv : OnlyChanges [.link] s v := by rw [← hv]; exact setLink_only s _
      have ho : OnlyChanges (.meter { side := i, product := .lo } :: .meter { side := i, product := .hi } :: frame) s
          (answer .ok (closureSet left) (setClosures i left w)) :=
        (((hsv.mono (by simp [frame])).step hwo (by simp)).step (setClosures_only i left w) (by simp [frame])).step
          (answer_only _ _ _) (by simp [frame])
      exact OnlyChanges.settle_clear s hs ho (by simp [frame]) (by simp [frame]) (by simp [frame]) (by simp [frame])

end Sys2Proof.Machine

namespace Sys2Proof.Machine

open Sys2Proof

/-! ### What the banks start at the end of an event

A bank that rests in a settled state rests while what it waits for does not change; one whose operation has ended starts the next. -/

theorem settle_cells (old u : State) :
    (settle old u).store.cal = u.store.cal ∧ (settle old u).store.cfg = u.store.cfg ∧ (settle old u).store.price = u.store.price ∧
      (settle old u).store.totals = u.store.totals := by
  obtain ⟨a, b, c, d⟩ := startMain_regions u
  obtain ⟨a', b', c', d'⟩ := startSave_regions (startMain u) u.register.queues
  rw [settle_store]
  exact ⟨a'.trans a, b'.trans b, c'.trans c, d'.trans d⟩

theorem settle_regionState (old u : State) (r : Region) : (settle old u).store.regionState r = u.store.regionState r := by
  obtain ⟨a, b, c, d⟩ := settle_cells old u
  cases r
  · exact congrArg RegionCell.state a
  · exact congrArg RegionCell.state b
  · exact congrArg RegionCell.state c
  · exact congrArg RegionCell.state d

/-- The main bank has nothing that it could start (R177, R181). -/
def MainRests (s : State) : Prop :=
  s.power.mode = .loading ∨ s.store.running.isSome = true ∨ nextJob s.supplyFailInput s.store.waiting = none

theorem MainRests.startMain_eq {s : State} (h : MainRests s) : startMain s = s.store := by
  unfold startMain
  split
  · rfl
  · rename_i hr
    rw [not_or] at hr
    rcases h with h | h | h
    · exact absurd h hr.1
    · exact absurd h hr.2
    · rw [h]

theorem Settled.startMain_eq {s : State} (h : Settled s) : startMain s = s.store ∧ s.store.startSave s.register.queues = s.store := by
  have hs : (startMain s).startSave s.register.queues = s.store := congrArg State.store h.banks
  have hm : MainRests s := by
    have hrun := (startSave_main (startMain s) s.register.queues).1
    have hwait := (startSave_main (startMain s) s.register.queues).2
    rw [hs] at hrun hwait
    rcases hr : s.store.running with _ | r
    · by_cases hl : s.power.mode = .loading
      · exact .inl hl
      · refine .inr (.inr ?_)
        rw [hwait]
        exact startMain_running s (by rw [← hrun, hr]) hl hr
    · exact .inr (.inl (by rw [hr]; rfl))
  rw [hm.startMain_eq] at hs
  exact ⟨hm.startMain_eq, hs⟩

theorem Settled.mainRests {s : State} (h : Settled s) : MainRests s := by
  rcases hr : s.store.running with _ | r
  · by_cases hl : s.power.mode = .loading
    · exact .inl hl
    · exact .inr (.inr (by rw [← h.startMain_eq.1]; exact startMain_running s (by rw [h.startMain_eq.1, hr]) hl hr))
  · exact .inr (.inl (by rw [hr]; rfl))

/-- The save bank has nothing that it could start (R180). -/
theorem Store.startSave_rests {t : Store} (q : PerSide (List SaleRecord)) (h : t.saving = none → t.saveWaiting = []) :
    t.startSave q = t := by
  unfold Store.startSave
  split
  · rename_i hs hw
    rw [h hs] at hw
    exact absurd hw (by simp)
  · rfl

theorem Settled.saveRests {s : State} (h : Settled s) (hn : s.store.saving = none) : s.store.saveWaiting = [] := by
  have hr := startSave_saving s.store s.register.queues
  rw [h.startMain_eq.2] at hr
  exact hr hn

/-- With no job running and no warning, the oldest waiting job starts (R177). -/
theorem settle_startsJob (old : State) {u : State} {k : WaitingJob} {rest : List WaitingJob} (hr : u.store.running = none)
    (hw : u.store.waiting = k :: rest) (hm : u.power.mode ≠ .loading) (hf : u.supplyFailInput = false) :
    (settle old u).store.waiting = rest ∧
      ∃ y, (settle old u).store.running = some y ∧ y.kind = k.kind ∧ y.serves = k.serves ∧ y.rewrite = false := by
  rw [settle_store, (startSave_main _ _).1, (startSave_main _ _).2]
  have hn : nextJob u.supplyFailInput u.store.waiting = some k := by rw [hf, hw]; rfl
  have hgo : ¬(u.power.mode = .loading ∨ u.store.running.isSome = true) := by
    rw [hr]
    exact fun h => h.elim hm (by simp)
  unfold startMain
  rw [if_neg hgo, hn, hw]
  exact ⟨List.erase_cons_head k rest, _, rfl, rfl, rfl, rfl⟩

theorem settle_startsNone (old : State) {u : State} (hr : u.store.running = none) (hw : u.store.waiting = []) :
    (settle old u).store.running = none := by
  rw [settle_store, (startSave_main _ _).1, MainRests.startMain_eq (.inr (.inr (by rw [hw]; cases u.supplyFailInput <;> rfl)))]
  exact hr

/-- With no operation running, the oldest waiting save bank operation starts (R180). -/
theorem Store.startSave_starts {t : Store} (q : PerSide (List SaleRecord)) {o : SaveOp} {rest : List SaveOp} (hn : t.saving = none)
    (hw : t.saveWaiting = o :: rest) :
    (t.startSave q).saveWaiting = rest ∧ ∃ y, (t.startSave q).saving = some y ∧ y.op = o ∧
      (o.kind = .write → y.records = q.get o.side) ∧
      ((t.startSave q).slots.get o.side).state = if o.kind = .write then .written else .erasing := by
  unfold Store.startSave
  rw [hn, hw]
  dsimp only
  rcases hk : o.kind with _ | _
  · exact ⟨rfl, _, rfl, rfl, fun _ => rfl, by simp⟩
  · exact ⟨rfl, _, rfl, rfl, fun h => absurd h (by simp), by simp⟩

/-- The end of an event that changes the store alone, and no region's state, is what its banks start. -/
theorem Settled.settle_setStore {s : State} (h : Settled s) (t : Store) (hr : ∀ r, t.regionState r = s.store.regionState r) :
    Machine.settle s (s.setStore t) = s.setStore ((startMain (s.setStore t)).startSave s.register.queues) := by
  have hcond : latchConditions (s.setStore t) = latchConditions s := by
    have hc : t.cal.state = s.store.cal.state := hr .cal
    have hg : t.cfg.state = s.store.cfg.state := hr .cfg
    have hp : t.price.state = s.store.price.state := hr .price
    have ht : t.totals.state = s.store.totals.state := hr .totals
    unfold latchConditions
    simp only [State.setStore_store, hc, hg, hp, ht]
    rfl
  have hd (i : Side) : startDisplay i (s.setStore t) = s.display.get i := h.display_of_same rfl
  have hp (i : Side) : startReader (s.setStore t) i = s.ports.get i := h.port_of_same rfl rfl
  have hl : (reported s (s.setStore t)).startNext = s.link := by
    rw [reported_still (s := s) (u := s.setStore t) hd (fun _ => ⟨rfl, rfl⟩) h.changes, hcond]
    change Link.startNext { s.link with latches := s.link.latches.follow (latchConditions s) } = _
    rw [h.latches]
    exact h.link
  rw [settle_eq, hd, hd, hp, hp, hl]
  have hc := h.changes
  cases s
  dsimp only at hc
  subst hc
  rfl

/-- One that leaves the main bank as it was, too, is what its save bank starts. -/
theorem Settled.settle_save {s : State} (h : Settled s) (t : Store) (hr : ∀ r, t.regionState r = s.store.regionState r)
    (hrun : t.running = s.store.running) (hw : t.waiting = s.store.waiting) :
    Machine.settle s (s.setStore t) = s.setStore (t.startSave s.register.queues) := by
  have hm : MainRests (s.setStore t) := by
    have := h.mainRests
    unfold MainRests at this ⊢
    rw [State.setStore_store, hrun, hw]
    exact this
  rw [h.settle_setStore t hr, hm.startMain_eq]
  rfl

/-! ### Verified and failed jobs -/

theorem Store.verified_regionState (t : Store) (x : Image) : (t.verified x).regionState x.region = .valid := by cases x <;> rfl

theorem Store.verified_waiting (t : Store) (x : Image) : (t.verified x).waiting = t.waiting := by cases x <;> rfl

theorem Store.missed_waiting (t : Store) (x : Image) (r : ReadBack) (b : Bool) : (t.missed x r b).waiting = t.waiting := by
  cases x <;> rfl

theorem Store.missed_unchanged (t : Store) (x : Image) : t.missed x .unchanged false = t := by cases x <;> rfl

/-- A mismatch leaves the state of every region but makes FAILED the one whose rewrite it was (R178). -/
theorem Store.missed_regionState (t : Store) (x : Image) (r : ReadBack) (q : Region) :
    (t.missed x r false).regionState q = t.regionState q := by
  cases x <;> cases r <;> cases q <;> rfl

theorem Store.missed_failed (t : Store) (x : Image) (r : ReadBack) : (t.missed x r true).regionState x.region = .failed := by
  cases x <;> rfl

theorem Store.missed_saving (t : Store) (x : Image) (r : ReadBack) (b : Bool) :
    (t.missed x r b).saving = t.saving ∧ (t.missed x r b).saveWaiting = t.saveWaiting := by
  cases x <;> exact ⟨rfl, rfl⟩

/-- Both closure sets replaced. -/
def setBothClosures (c : Side → Closures) (s : State) : State := setClosures .b (c .b) (setClosures .a (c .a) s)

theorem setBothClosures_only (c : Side → Closures) (s : State) :
    OnlyChanges (stateBlocks .a ++ stateBlocks .b) s (setBothClosures c s) :=
  ((setClosures_only .a _ s).mono (by simp)).step (setClosures_only .b _ _) (by simp)

theorem setBothClosures_closures (c : Side → Closures) (s : State) (i : Side) :
    ((setBothClosures c s).fill.get i).closures = c i := by
  cases i
  · have hb : (setBothClosures c s).fill.get .a = (setClosures .a (c .a) s).fill.get .a :=
      setClosures_only .b (c .b) (setClosures .a (c .a) s) (.fill .a) (by simp)
    rw [hb]
    exact setClosures_closures .a _ s
  · exact setClosures_closures .b _ _

theorem ownerVerified_cal (y : CalImage) (s : State) :
    ownerVerified (.cal y) s = setBothClosures (fun i => { (s.fill.get i).closures with calibration := false }) s := rfl

theorem ownerVerified_price (y : PriceImage) (s : State) :
    ownerVerified (.price y) s = setBothClosures (fun i => { (s.fill.get i).closures with price := false }) s := rfl

/-- The owner of a verified image leaves the store and the link to the job (R178). -/
theorem ownerVerified_clear (x : Image) (s : State) :
    OnlyChanges (.register :: (stateBlocks .a ++ stateBlocks .b)) s (ownerVerified x s) := by
  cases x with
  | cal y => rw [ownerVerified_cal]; exact (setBothClosures_only _ s).mono (by simp)
  | price y => rw [ownerVerified_price]; exact (setBothClosures_only _ s).mono (by simp)
  | totals y => exact (setRegister_only s _).mono (by simp)
  | cfg y => exact .refl _ _

theorem ownerVerified_queues (x : Image) (s : State) : (ownerVerified x s).register.queues = s.register.queues := by
  cases x with
  | cal y => rw [ownerVerified_cal, setBothClosures_only _ s .register (by simp)]
  | price y => rw [ownerVerified_price, setBothClosures_only _ s .register (by simp)]
  | totals y => rfl
  | cfg y => rfl

theorem Store.holds_iff (t : Store) (x : Image) :
    t.holds x = true ↔ match x with
      | .cal y => t.cal.stored = .image y
      | .cfg y => t.cfg.stored = .image y
      | .price y => t.price.stored = .image y
      | .totals y => t.totals.stored = .image y := by
  cases x <;> exact decide_eq_true_iff

theorem writeAttemptEnd_running {s : State} {j : RunningJob} {x : Image} (hj : s.store.running = some j) (hx : j.image = some x)
    (r : ReadBack) :
    writeAttemptEnd r s =
      if readBackMatches r x s.store then jobVerified j x s
      else if j.rewrite then jobFailed j x r s
      else s.setStore { s.store.missed x r false with running := some { j with rewrite := true, timer := some j.kind.duration } } := by
  unfold writeAttemptEnd
  rw [hj]
  dsimp only
  rw [hx]

theorem writeAttemptEnd_none {s : State} (h : ∀ j, s.store.running = some j → j.image = none) (r : ReadBack) :
    writeAttemptEnd r s = s := by
  unfold writeAttemptEnd
  split
  · rfl
  · rename_i j hj
    rw [h j hj]

/-- An answer of a job that serves the request in service. -/
theorem answerJob_serves {j : RunningJob} {s : State} {q : Service} (st : Status) (hj : j.serves = true) (hq : s.link.service = some q) :
    answerJob j st s = answer st q.fields s := by
  unfold answerJob
  rw [if_pos hj, hq]
  rfl

theorem answer_answers {u : State} {q : Service} (st : Status) (fields : List Field) (h : u.link.service = some q) :
    (answer st fields u).link.answers q.kind q.tag st fields := by
  refine .inl ?_
  change u.link.service.elim u.link.replySlot _ = _
  rw [h]
  rfl

/-- What the end of an event whose job has ended shows in every case: what the main bank does next. -/
def NextJobStarts (s t : State) : Prop :=
  (s.store.waiting = [] → t.store.running = none) ∧
    ∀ k rest, s.store.waiting = k :: rest → s.power.mode ≠ .loading → s.supplyFailInput = false →
      t.store.waiting = rest ∧ ∃ y, t.store.running = some y ∧ y.kind = k.kind ∧ y.serves = k.serves ∧ y.rewrite = false

theorem settle_nextJobStarts {s u : State} (old : State) (hr : u.store.running = none) (hw : u.store.waiting = s.store.waiting)
    (hm : u.power.mode = s.power.mode) (hf : u.supplyFailInput = s.supplyFailInput) : NextJobStarts s (settle old u) :=
  ⟨fun h => settle_startsNone old hr (hw.trans h),
    fun _ _ h hl hs => settle_startsJob old hr (hw.trans h) (fun e => hl (hm ▸ e)) (hf.trans hs)⟩

/-- What an owner makes of its verified image (R15, R39, R99, R178). -/
structure OwnerTold (x : Image) (s t : State) : Prop where
  next : NextJobStarts s t
  valid : t.store.regionState x.region = .valid
  cal : ∀ y, x = .cal y → t.store.cal.stored = .image y ∧ ∀ i,
    (t.fill.get i).closures = { (s.fill.get i).closures with calibration := false }
  price : ∀ y, x = .price y → t.store.price.stored = .image y ∧ ∀ i,
    (t.fill.get i).closures = { (s.fill.get i).closures with price := false }
  totals : ∀ y, x = .totals y → t.store.totals.stored = .image y ∧ t.register = { s.register with totalsValid := true }
  cfg : ∀ y, x = .cfg y → t.store.cfg.stored = .image y ∧ t.store.cfgDefaults = false

theorem jobVerified_told (old : State) (j : RunningJob) (x : Image) (s : State) : OwnerTold x s (settle old (jobVerified j x s)) := by
  generalize hv : answerJob j .ok (s.setStore { s.store.verified x with running := none }) = v
  have hvo : OnlyChanges [.store, .link] s v := by
    rw [← hv]; exact ((setStore_only s _).mono (by simp)).step (answerJob_only _ _ _) (by simp)
  have hvs : v.store = { s.store.verified x with running := none } := by
    rw [← hv]; exact answerJob_only j .ok (s.setStore { s.store.verified x with running := none }) .store (by simp)
  have hvf (i : Side) : v.fill.get i = s.fill.get i := hvo (.fill i) (by simp)
  have hvr : v.register = s.register := hvo .register (by simp)
  have ho := ownerVerified_clear x v
  have hu : jobVerified j x s = ownerVerified x v := by rw [← hv]; rfl
  have hus : (ownerVerified x v).store = { s.store.verified x with running := none } := (ho .store (by simp)).trans hvs
  obtain ⟨hcal, hcfg, hprice, htot⟩ := settle_cells old (ownerVerified x v)
  rw [hu]
  refine ⟨settle_nextJobStarts old (by rw [hus]) (by rw [hus]; exact Store.verified_waiting _ _) ?_ ?_, ?_, ?_, ?_, ?_, ?_⟩
  · exact congrArg Power.mode ((ho .power (by simp)).trans (hvo .power (by simp)))
  · exact (ho .supplyFailInput (by simp)).trans (hvo .supplyFailInput (by simp))
  · rw [settle_regionState, hus]
    exact Store.verified_regionState s.store x
  · rintro y rfl
    refine ⟨by rw [hcal, hus]; rfl, fun i => ?_⟩
    rw [settle_fill, ownerVerified_cal, setBothClosures_closures, hvf]
  · rintro y rfl
    refine ⟨by rw [hprice, hus]; rfl, fun i => ?_⟩
    rw [settle_fill, ownerVerified_price, setBothClosures_closures, hvf]
  · rintro y rfl
    refine ⟨by rw [htot, hus]; rfl, ?_⟩
    rw [settle_register, ← hvr]
    rfl
  · rintro y rfl
    exact ⟨by rw [hcfg, hus]; rfl, by rw [settle_store_cfgDefaults, hus]; rfl⟩

theorem jobVerified_answers (old : State) {j : RunningJob} (x : Image) {s : State} {q : Service} (hj : j.serves = true)
    (hq : s.link.service = some q) : (settle old (jobVerified j x s)).link.answers q.kind q.tag .ok q.fields := by
  apply (settle_keeps _ _).answers
  unfold jobVerified
  rw [(ownerVerified_clear _ _).link_eq, answerJob_serves .ok hj (by exact hq)]
  exact answer_answers _ _ hq

theorem jobVerified_frame {s : State} (h : Settled s) (j : RunningJob) (x : Image) :
    OnlyChanges [.store, .link, .register, .fill .a, .fill .b, .blend .a, .blend .b, .valves .a, .valves .b, .display .a, .display .b] s
      (settle s (jobVerified j x s)) := by
  have hs : OnlyChanges [.store, .link] s (answerJob j .ok (s.setStore { s.store.verified x with running := none })) :=
    ((setStore_only s _).mono (by simp)).step (answerJob_only _ _ _) (by simp)
  refine OnlyChanges.settle s h ((hs.mono (by simp)).step (ownerVerified_clear x _) (by simp)) (by simp) (fun i _ => ?_)
    (fun hn => absurd hn (by simp))
  unfold pendingDelivery jobVerified
  rw [ownerVerified_queues, hs .register (by simp)]

/-- The state of a failed job before it is answered or told (R178, R188). -/
def failedState (x : Image) (r : ReadBack) (s : State) : State :=
  (s.setStore { s.store.missed x r true with running := none }).setLink
    { s.link with latches := { s.link.latches with storeFault := true } }

theorem jobFailed_serves {j : RunningJob} (x : Image) (r : ReadBack) (s : State) (h : j.serves = true) :
    jobFailed j x r s = answer .storeFault (s.link.service.elim [] (·.fields)) (failedState x r s) := by
  unfold jobFailed answerJob
  dsimp only
  rw [if_pos h, if_pos h]
  rfl

theorem jobFailed_alone {j : RunningJob} (x : Image) (r : ReadBack) (s : State) (h : j.serves = false) :
    jobFailed j x r s = notifyFault none .store none none (some x.region) none (failedState x r s) :=
  if_neg (by rw [h]; decide)

theorem failedState_only (x : Image) (r : ReadBack) (s : State) : OnlyChanges [.store, .link] s (failedState x r s) :=
  ((setStore_only s _).mono (by simp)).step (setLink_only _ _) (by simp)

/-- A failed job leaves the state that it is answered or told in, and the latch that it has set stands (R178, R188). -/
theorem jobFailed_clear (j : RunningJob) (x : Image) (r : ReadBack) (s : State) :
    OnlyChanges [.link] (failedState x r s) (jobFailed j x r s) ∧ (jobFailed j x r s).link.latches.storeFault = true := by
  rcases h : j.serves with _ | _
  · rw [jobFailed_alone x r s h]
    exact ⟨notifyFault_only _ _ _ _ _ _ _, (Link.enqueue_keeps (failedState x r s).link _).storeFault rfl⟩
  · rw [jobFailed_serves x r s h]
    exact ⟨answer_only _ _ _, rfl⟩

theorem jobFailed_frame {s : State} (h : Settled s) (j : RunningJob) (x : Image) (r : ReadBack) :
    OnlyChanges [.store, .link] s (settle s (jobFailed j x r s)) :=
  OnlyChanges.settle_clear s h ((failedState_only x r s).step (jobFailed_clear j x r s).1 (by simp))

theorem jobFailed_store (j : RunningJob) (x : Image) (r : ReadBack) (s : State) :
    (jobFailed j x r s).store = { s.store.missed x r true with running := none } :=
  (jobFailed_clear j x r s).1 .store (by simp)

/-- What a rewrite that has failed leaves (R178). -/
theorem jobFailed_region (old : State) (j : RunningJob) (x : Image) (r : ReadBack) (s : State) :
    NextJobStarts s (settle old (jobFailed j x r s)) ∧
      (settle old (jobFailed j x r s)).store.regionState x.region = .failed ∧
      (settle old (jobFailed j x r s)).link.latches.storeFault = true := by
  obtain ⟨ho, hl⟩ := jobFailed_clear j x r s
  refine ⟨settle_nextJobStarts old ?_ ?_ (congrArg Power.mode (ho .power (by simp))) (ho .supplyFailInput (by simp)), ?_,
    (settle_keeps _ _).storeFault hl⟩
  · rw [jobFailed_store]
  · rw [jobFailed_store]; exact Store.missed_waiting _ _ _ _
  · rw [settle_regionState, jobFailed_store]; exact Store.missed_failed s.store x r

/-- The first mismatch of a job: the rewrite runs, and nothing else is done (R178). -/
theorem Settled.settle_rewrite {s : State} (h : Settled s) (x : Image) (r : ReadBack) (y : RunningJob) :
    Machine.settle s (s.setStore { s.store.missed x r false with running := some y }) =
      s.setStore { s.store.missed x r false with running := some y } := by
  have hm : MainRests (s.setStore { s.store.missed x r false with running := some y }) := .inr (.inl rfl)
  have hreg (q : Region) : Store.regionState { s.store.missed x r false with running := some y } q = s.store.regionState q :=
    Store.missed_regionState s.store x r q
  rw [h.settle_setStore _ hreg, hm.startMain_eq]
  refine congrArg s.setStore (Store.startSave_rests _ (fun hn => ?_))
  obtain ⟨hsv, hsw⟩ := Store.missed_saving s.store x r false
  exact hsw.trans (h.saveRests (hsv.symm.trans hn))

/-! ### The ends of attempts, of slot writes and of slot erases -/

theorem StandsStill.refl (s : State) : StandsStill s s := ⟨rfl, rfl, rfl, rfl, rfl, rfl, fun _ => ⟨rfl, rfl⟩, rfl⟩

/-- An effect that is none is no event. -/
theorem Settled.event_none {s : State} (h : Settled s) {f : State → State} (hf : f s = s) : event f s = .next s := by
  have e := h.settle_quiet (.refl s) rfl rfl
  rw [event_next, hf, e]

/-- The outcomes of an attempt (R178). -/
theorem writeAttempt_ends {s : State} (hs : Settled s) {j : RunningJob} {x : Image} (hj : s.store.running = some j)
    (hx : j.image = some x) (r : ReadBack) :
    (readBackMatches r x s.store = true → event (writeAttemptEnd r) s = .next (settle s (jobVerified j x s))) ∧
    (readBackMatches r x s.store = false → j.rewrite = true →
      event (writeAttemptEnd r) s = .next (settle s (jobFailed j x r s))) ∧
    (readBackMatches r x s.store = false → j.rewrite = false →
      event (writeAttemptEnd r) s = .next (s.setStore { s.store.missed x r false with
        running := some { j with rewrite := true, timer := some j.kind.duration } })) := by
  rw [event_next, writeAttemptEnd_running hj hx]
  refine ⟨fun h => by rw [if_pos h], fun h hw => ?_, fun h hw => ?_⟩
  · rw [if_neg (by rw [h]; decide), if_pos hw]
  · rw [if_neg (by rw [h]; decide), if_neg (by rw [hw]; decide), hs.settle_rewrite x r]

/-- What the end of a slot's operation leaves: the slot as the operation makes it, and the oldest waiting operation begun (R180). -/
theorem slotEnd_leaves {s : State} (hs : Settled s) (i : Side) (x : SaveSlot) :
    let left : Store := { s.store with saving := none, slots := s.store.slots.set i x }
    let t := settle s (s.setStore left)
    (s.store.saveWaiting = [] → t.store = left) ∧
      (∀ o rest, s.store.saveWaiting = o :: rest →
        t.store.saveWaiting = rest ∧ ∃ y, t.store.saving = some y ∧ y.op = o ∧
          (o.kind = .write → y.records = s.register.queues.get o.side) ∧
          (t.store.slots.get o.side).state = if o.kind = .write then .written else .erasing) ∧
      OnlyChanges [.store] s t := by
  intro left t
  have ht : t = s.setStore (left.startSave s.register.queues) :=
    hs.settle_save left (fun r => by cases r <;> rfl) rfl rfl
  rw [ht]
  refine ⟨fun hw => Store.startSave_rests _ (fun _ => hw), fun o rest hw => ?_, setStore_only s _⟩
  exact Store.startSave_starts s.register.queues (t := left) rfl hw

/-- Settles O59: the branches of the read-back, and the ends of the save bank's two operations. -/
theorem writesEndVerifiedOrFailed : Obligations.WritesEndVerifiedOrFailed := by
  refine ⟨fun s hs => ⟨fun r h => hs.event_none (writeAttemptEnd_none h r), ?_⟩, fun s hs =>
    ⟨fun h => hs.event_none ?_, fun h => hs.event_none ?_, fun r i hr => ⟨fun ho => ?_, fun ho => ?_⟩⟩⟩
  · intro j x hj hx isNext holds
    have hh : s.store.holds x = true ↔ holds := Store.holds_iff s.store x
    have hmiss (r : ReadBack) (hr : r = .damaged ∨ r = .unchanged ∧ ¬holds) : readBackMatches r x s.store = false := by
      rcases hr with rfl | ⟨rfl, hn⟩
      · rfl
      · exact Bool.eq_false_iff.mpr (fun hc => hn (hh.mp hc))
    refine ⟨fun r hr => ?_, fun hw hn => ?_, fun hw => ?_, fun hw r hr => ?_⟩
    · have hm : readBackMatches r x s.store = true := by
        rcases hr with rfl | ⟨rfl, hy⟩
        · rfl
        · exact hh.mpr hy
      have ho := jobVerified_told s j x s
      obtain ⟨hend, -, -⟩ := writeAttempt_ends hs hj hx r
      exact ⟨_, hend hm, ho.next, ho.valid, ho.cal, ho.price, ho.totals, ho.cfg,
        fun q hv hq => jobVerified_answers s x hv hq, jobVerified_frame hs j x⟩
    · obtain ⟨-, -, hend⟩ := writeAttempt_ends hs hj hx .unchanged
      rw [Store.missed_unchanged] at hend
      exact hend (hmiss _ (.inr ⟨rfl, hn⟩)) hw
    · obtain ⟨-, -, hend⟩ := writeAttempt_ends hs hj hx .damaged
      exact ⟨_, hend (hmiss _ (.inl rfl)) hw, rfl,
        Store.missed_regionState s.store x .damaged x.region, setStore_only s _⟩
    · obtain ⟨-, hend, -⟩ := writeAttempt_ends hs hj hx r
      obtain ⟨hnext, hfailed, hlatch⟩ := jobFailed_region s j x r s
      refine ⟨_, hend (hmiss r hr) hw, hnext, hfailed, hlatch, fun y hv hy => ?_, fun hv hroom => ?_,
        jobFailed_frame hs j x r⟩
      · apply (settle_keeps _ _).answers
        rw [jobFailed_serves x r s hv, hy]
        exact answer_answers _ _ hy
      · apply (settle_keeps _ _).tells
        rw [jobFailed_alone x r s hv]
        exact (Link.setFault_keeps _ none).tells _ (notify_tells (k := 0) (s := failedState x r s) _ hroom)
  · unfold slotWriteEnd
    split
    · rename_i r hr
      rcases hk : r.op.kind with _ | _
      · exact absurd hk (h r hr)
      · rfl
    · rfl
  · unfold slotEraseEnd
    split
    · rename_i r hr
      rcases hk : r.op.kind with _ | _
      · rfl
      · exact absurd hk (h r hr)
    · rfl
  · have hx : exec .slotWriteEnd s = event slotWriteEnd s := rfl
    have e : slotWriteEnd s = s.setStore { s.store with
        saving := none, slots := s.store.slots.set i { state := .written, contents := .saved r.records } } := by
      unfold slotWriteEnd
      rw [hr]
      dsimp only
      rw [ho]
    rw [hx, event_next, e]
    exact ⟨_, rfl, slotEnd_leaves hs i _⟩
  · have hx : exec .slotEraseEnd s = event slotEraseEnd s := rfl
    have e : slotEraseEnd s = s.setStore { s.store with
        saving := none, slots := s.store.slots.set i { state := .erased, contents := .empty } } := by
      unfold slotEraseEnd
      rw [hr]
      dsimp only
      rw [ho]
    rw [hx, event_next, e]
    exact ⟨_, rfl, slotEnd_leaves hs i _⟩

end Sys2Proof.Machine

namespace Sys2Proof.Machine

open Sys2Proof

/-! ### Demand -/

theorem demandCount_eq_zero (s : State) (p : Product) (i : Side) :
    demandCount s p = 0 ↔ (s.fill.get i).demand.get p = false ∧ (s.fill.get i.other).demand.get p = false := by
  unfold demandCount
  cases i <;> cases ha : s.fill.a.demand.get p <;> cases hb : s.fill.b.demand.get p <;> simp [boolNat, Side.other, ha, hb]

theorem dropDemand_fill (i : Side) (p : Product) (s : State) :
    (dropDemand i p s).fill.get i = { s.fill.get i with demand := (s.fill.get i).demand.set p false } := by
  unfold dropDemand
  dsimp only
  split
  · split <;> simp
  · rename_i h
    have e : (s.fill.get i).demand.set p false = (s.fill.get i).demand := by
      rw [← Bool.eq_false_iff.mpr h, PerProduct.set_get]
    rw [e]

/-- The motor of a product goes OFF where the last demand on it is given up (R66). -/
theorem dropDemand_motor (i : Side) (p : Product) (s : State) :
    (dropDemand i p s).motors.get p =
      if (s.fill.get i).demand.get p = true ∧ (s.fill.get i.other).demand.get p = false then
        { state := .off, relay := false, primeTimer := none }
      else s.motors.get p := by
  unfold dropDemand
  dsimp only
  by_cases hd : (s.fill.get i).demand.get p = true
  · rw [if_pos hd]
    have ho : i.other ≠ i := by cases i <;> decide
    have hc : demandCount (s.setFill i { s.fill.get i with demand := (s.fill.get i).demand.set p false }) p = 0 ↔
        (s.fill.get i.other).demand.get p = false := by
      rw [demandCount_eq_zero _ p i, State.setFill_fill, PerSide.get_set_same, PerSide.get_set_other _ _ ho]
      simp
    by_cases h : (s.fill.get i.other).demand.get p = false
    · rw [if_pos (hc.mpr h), if_pos ⟨hd, h⟩, State.setMotor_motors, PerProduct.get_set_same]
      rfl
    · rw [if_neg (fun x => h (hc.mp x)), if_neg (fun x => h x.2)]
      rfl
  · rw [if_neg hd, if_neg (fun x => hd x.1)]

theorem dropBoth_fill (i : Side) (s : State) :
    (dropBoth i s).fill.get i = { s.fill.get i with demand := { lo := false, hi := false } } := by
  unfold dropBoth
  rw [dropDemand_fill, dropDemand_fill]
  rfl

theorem dropBoth_motor (i : Side) (p : Product) (s : State) :
    (dropBoth i s).motors.get p =
      if (s.fill.get i).demand.get p = true ∧ (s.fill.get i.other).demand.get p = false then
        { state := .off, relay := false, primeTimer := none }
      else s.motors.get p := by
  unfold dropBoth
  cases p with
  | lo =>
    have e : (dropDemand i .hi (dropDemand i .lo s)).motors.get .lo = (dropDemand i .lo s).motors.get .lo :=
      dropDemand_only i .hi (dropDemand i .lo s) (.motor .lo) (by simp)
    rw [e, dropDemand_motor]
  | hi =>
    have ho : Block.fill i.other ∉ [Block.fill i, Block.motor .lo] := by cases i <;> decide
    have em : (dropDemand i .lo s).motors.get .hi = s.motors.get .hi := dropDemand_only i .lo s (.motor .hi) (by simp)
    have ef : (dropDemand i .lo s).fill.get i.other = s.fill.get i.other := dropDemand_only i .lo s (.fill i.other) ho
    rw [dropDemand_motor, em, ef, dropDemand_fill]
    rfl

/-! ### The steps of a sale close after its record -/

/-- The authorization has left the slot; its timer goes with it (R52, R64). -/
theorem endAuth_fill (i : Side) (s : State) :
    ∃ x, (endAuth i s).fill.get i = { s.fill.get i with slot := none, authTimer := x } := by
  unfold endAuth
  dsimp only
  split
  · exact ⟨none, by rw [notify_fill]; simp⟩
  · rename_i h
    exact ⟨(s.fill.get i).authTimer, by rw [← h]⟩

theorem endAuth_keeps (i : Side) (s : State) : s.link.Keeps (endAuth i s).link := by
  unfold endAuth
  dsimp only
  split
  · exact Link.enqueue_keeps _ _
  · exact .refl _

theorem endAuth_tells {i : Side} {s : State} {a : Auth} {k : Nat} (h : (s.fill.get i).slot = some a) (hr : Room (k + 1) s) :
    (endAuth i s).link.tells (.authEvent i a.source a.reference .ended) := by
  unfold endAuth
  dsimp only
  rw [h]
  exact notify_tells (k := k) (s := s.setFill i { s.fill.get i with slot := none, authTimer := none }) _ hr

theorem endAuth_room {i : Side} {s : State} {k : Nat} (hr : Room (k + 1) s) : Room k (endAuth i s) := by
  unfold endAuth
  dsimp only
  split
  · exact notify_room _ hr
  · exact hr.mono (by omega)

theorem adoptAtClose_keeps (i : Side) (s : State) : s.link.Keeps (adoptAtClose i s).link := by
  unfold adoptAtClose
  split
  · exact .refl _
  · exact Link.enqueue_keeps _ _

theorem adoptAtClose_active {i : Side} {s : State} (h : s.prices.sideGeneration.get i = s.prices.generation) :
    adoptAtClose i s = s := if_pos h

theorem adoptAtClose_generation (i : Side) (s : State) :
    (adoptAtClose i s).prices.sideGeneration.get i = s.prices.generation := by
  unfold adoptAtClose
  split
  · rename_i h; exact h
  · exact PerSide.get_set_same _ _ _

/-- The prices after a side on the retained generation has adopted the active one: the retained bank goes unless the other side is on it
(R41). -/
def Prices.freed (p : Prices) (i : Side) (r : RetainedBank) : Prices :=
  { p with
    sideGeneration := p.sideGeneration.set i p.generation
    retained := if p.sideGeneration.get i.other = r.generation then some r else none }

theorem Prices.adopt_freed {p : Prices} {i : Side} {r : RetainedBank} (h : p.sideGeneration.get i ≠ p.generation)
    (hr : p.retained = some r) (hg : r.generation = p.sideGeneration.get i) : p.adopt i = p.freed i r := by
  have hne : p.generation ≠ r.generation := fun e => h (hg.symm.trans e.symm)
  have hu (q : Prices) (hq : q.sideGeneration = p.sideGeneration.set i p.generation) :
      q.uses r.generation = true ↔ p.sideGeneration.get i.other = r.generation := by
    unfold Prices.uses
    rw [hq]
    cases i <;> simp [hne, Side.other]
  unfold Prices.adopt Prices.freed
  dsimp only
  rw [hr, Option.bind_some, if_congr (hu _ rfl) rfl rfl]

theorem adoptAtClose_frees {i : Side} {s : State} {r : RetainedBank} (h : s.prices.sideGeneration.get i ≠ s.prices.generation)
    (hr : s.prices.retained = some r) (hg : r.generation = s.prices.sideGeneration.get i) :
    adoptAtClose i s = notify (.priceAdopted s.prices.generation (i == .a) (i == .b) ((s.prices.freed i r).retained.map (·.generation)))
      (s.setPrices (s.prices.freed i r)) := by
  unfold adoptAtClose
  rw [if_neg h, Prices.adopt_freed h hr hg]
  rfl

/-- The fill of a side whose sale has closed (R49, R64). -/
def Fill.closed (f : Fill) (auth : Timer) : Fill :=
  { f with
    state := if f.closures.isEmpty then .idle else .closed
    slot := none, authTimer := auth, demand := { lo := false, hi := false }
    nozzles := f.counted.elim f.nozzles (fun k => f.nozzles.set k.nozzle .spent), counted := none
    sale := f.sale.map (fun c => { c with running := false })
    noFlowTimer := none, quietTimer := none, afterFlowTimer := none }

theorem Fill.spend_eq (f : Fill) :
    f.spend = { f with nozzles := f.counted.elim f.nozzles (fun k => f.nozzles.set k.nozzle .spent), counted := none } := by
  unfold Fill.spend
  split
  · rename_i h; rw [h]; rfl
  · rename_i h
    cases f
    dsimp only at h
    subst h
    rfl

/-- The closing state of a side is none in which fuel may flow. -/
theorem closingState_isOpen (b : Bool) : (if b then SideState.idle else .closed).isOpen = false := by cases b <;> rfl

theorem closingState_ne_ending (b : Bool) : SideState.ending ≠ (if b then SideState.idle else .closed) := by cases b <;> decide

/-- What the steps of a close after its record write (R5, R41, R52, R64). -/
abbrev closingBlocks (i : Side) : List Block :=
  [.fill i, .blend i, .valves i, .display i, .link, .prices, .motor .lo, .motor .hi, .meter { side := i, product := .lo },
    .meter { side := i, product := .hi }]

/-- The close up to the change of state. -/
def closeRest (i : Side) (s : State) : State := adoptAtClose i (dropBoth i (endAuth i s))

theorem closeRest_only (i : Side) (s : State) : OnlyChanges [.fill i, .motor .lo, .motor .hi, .prices, .link] s (closeRest i s) :=
  (((endAuth_only i s).mono (by simp)).step (dropBoth_only i _) (by simp)).step (adoptAtClose_only i _) (by simp)

theorem closeRest_fill (i : Side) (s : State) :
    ∃ x, (closeRest i s).fill.get i =
      { s.fill.get i with slot := none, authTimer := x, demand := { lo := false, hi := false } } := by
  obtain ⟨x, hx⟩ := endAuth_fill i s
  have e : (closeRest i s).fill.get i = (dropBoth i (endAuth i s)).fill.get i := adoptAtClose_only i _ (.fill i) (by simp)
  exact ⟨x, by rw [e, dropBoth_fill, hx]⟩

/-- The side spent and its sale no longer running. -/
def closeSpent (i : Side) (s : State) : State :=
  (closeRest i s).setFill i { ((closeRest i s).fill.get i).spend with
    sale := ((closeRest i s).fill.get i).spend.sale.map (fun c => { c with running := false }) }

theorem closeSide_eq (i : Side) (s : State) :
    closeSide i s =
      zeroCreep i (enterState i (if ((closeSpent i s).fill.get i).closures.isEmpty then .idle else .closed) (closeSpent i s)) := rfl

theorem closeSpent_fill (i : Side) (s : State) :
    ∃ x, (closeSpent i s).fill.get i =
      { s.fill.get i with
        slot := none, authTimer := x, demand := { lo := false, hi := false }
        nozzles := (s.fill.get i).counted.elim (s.fill.get i).nozzles (fun k => (s.fill.get i).nozzles.set k.nozzle .spent)
        counted := none, sale := (s.fill.get i).sale.map (fun c => { c with running := false }) } := by
  obtain ⟨x, hx⟩ := closeRest_fill i s
  refine ⟨x, ?_⟩
  unfold closeSpent
  rw [State.setFill_fill, PerSide.get_set_same, Fill.spend_eq, hx]

theorem closeSpent_only (i : Side) (s : State) : OnlyChanges [.fill i, .motor .lo, .motor .hi, .prices, .link] s (closeSpent i s) :=
  (closeRest_only i s).step (setFill_only _ i _) (by simp)

theorem closeSide_clear (i : Side) (s : State) : OnlyChanges (closingBlocks i) s (closeSide i s) := by
  rw [closeSide_eq]
  exact (((closeSpent_only i s).mono (by simp)).step (enterState_only i _ _) (by simp)).step (zeroCreep_only i _) (by simp)

/-- The fill, the valves, the meters, the motors and the prices that a close leaves. -/
structure SideClosed (i : Side) (s t : State) : Prop where
  fill : ∃ x, t.fill.get i = (s.fill.get i).closed x
  valves : t.valves.get i = { lo := 0, hi := 0 }
  meters : t.meters.get i =
    { lo := { (s.meters.get i).lo with creep := 0, creepFired := false }, hi := { (s.meters.get i).hi with creep := 0, creepFired := false } }
  motors : ∀ p, t.motors.get p =
    if (s.fill.get i).demand.get p = true ∧ (s.fill.get i.other).demand.get p = false then
      { state := .off, relay := false, primeTimer := none }
    else s.motors.get p
  generation : t.prices.sideGeneration.get i = s.prices.generation
  active : s.prices.sideGeneration.get i = s.prices.generation → t.prices = s.prices
  freed : s.prices.sideGeneration.get i ≠ s.prices.generation → ∀ r, s.prices.retained = some r →
    r.generation = s.prices.sideGeneration.get i → t.prices = s.prices.freed i r

theorem closeSide_closed {i : Side} {s : State} (h : s.sideState i = .ending) : SideClosed i s (closeSide i s) := by
  generalize hw : closeSpent i s = w
  obtain ⟨x, hf⟩ := closeSpent_fill i s
  have hwo := closeSpent_only i s
  rw [hw] at hf hwo
  have hst : w.sideState i = .ending := by unfold State.sideState; rw [hf]; exact h
  have hcl : (w.fill.get i).closures = (s.fill.get i).closures := by rw [hf]
  have hne : w.sideState i ≠ (if (s.fill.get i).closures.isEmpty then SideState.idle else .closed) := by
    rw [hst]; exact closingState_ne_ending _
  have ht : closeSide i s = zeroCreep i (enterState i (if (s.fill.get i).closures.isEmpty then .idle else .closed) w) := by
    rw [closeSide_eq, hw, hcl]
  generalize hv : enterState i (if (s.fill.get i).closures.isEmpty then .idle else .closed) w = v at ht
  have hvo := enterState_only i (if (s.fill.get i).closures.isEmpty then .idle else .closed) w
  rw [hv] at hvo
  have hprices : (closeSide i s).prices = (closeRest i s).prices := by
    rw [ht, zeroCreep_only i v .prices (by simp), hvo .prices (by simp), ← hw]
    rfl
  have hdp : (dropBoth i (endAuth i s)).prices = s.prices :=
    (dropBoth_only i _ .prices (by simp)).trans (endAuth_only i s .prices (by simp))
  refine ⟨⟨x, ?_⟩, ?_, ?_, fun p => ?_, ?_, fun hg => ?_, fun hg r hr hrg => ?_⟩
  · rw [ht]
    change v.fill.get i = _
    rw [← hv, enterState_fill hne, hf]
    unfold Fill.closed noFlowAfter
    rw [closingState_isOpen, if_neg (closingState_ne_ending _).symm, if_neg (closingState_ne_ending _).symm]
    rfl
  · rw [ht]
    change v.valves.get i = _
    rw [← hv, enterState_valves hne, valveDuties_shut (closingState_isOpen _)]
  · have hm : v.meters.get i = s.meters.get i := (hvo.meters_eq i).trans (hwo.meters_eq i)
    rw [ht, ← hm]
    exact PerSide.get_set_same _ _ _
  · have ho : Block.fill i.other ∉ [Block.fill i, Block.link] := by cases i <;> decide
    obtain ⟨y, hy⟩ := endAuth_fill i s
    have em : v.motors.get p = (dropBoth i (endAuth i s)).motors.get p := by
      rw [hvo (.motor p) (by simp), ← hw]
      exact adoptAtClose_only i _ (.motor p) (by simp)
    have es : (endAuth i s).motors.get p = s.motors.get p := endAuth_only i s (.motor p) (by simp)
    have ef : (endAuth i s).fill.get i.other = s.fill.get i.other := endAuth_only i s (.fill i.other) ho
    rw [ht]
    change v.motors.get p = _
    rw [em, dropBoth_motor, es, ef, hy]
  · rw [hprices]
    unfold closeRest
    rw [adoptAtClose_generation, hdp]
  · rw [hprices]
    unfold closeRest
    rw [adoptAtClose_active (by rw [hdp]; exact hg), hdp]
  · rw [hprices]
    unfold closeRest
    rw [adoptAtClose_frees (by rw [hdp]; exact hg) (by rw [hdp]; exact hr) (by rw [hdp]; exact hrg), hdp]
    rfl

/-! ### What a close tells -/

theorem closeSide_link (i : Side) (s : State) : (closeSide i s).link = (closeRest i s).link := by
  rw [closeSide_eq, (zeroCreep_only i _).link_eq, enterState_link]
  rfl

theorem dropBoth_link (i : Side) (s : State) : (dropBoth i s).link = s.link := (dropBoth_only i s).link_eq

theorem closeRest_keeps (i : Side) (s : State) : (endAuth i s).link.Keeps (closeSide i s).link := by
  rw [closeSide_link, ← dropBoth_link i (endAuth i s)]
  exact adoptAtClose_keeps _ _

theorem closeSide_keeps (i : Side) (s : State) : s.link.Keeps (closeSide i s).link :=
  (endAuth_keeps i s).trans (closeRest_keeps i s)

theorem closeSide_tellsEnded {i : Side} {s : State} {a : Auth} {k : Nat} (h : (s.fill.get i).slot = some a) (hr : Room (k + 1) s) :
    (closeSide i s).link.tells (.authEvent i a.source a.reference .ended) :=
  (closeRest_keeps i s).tells _ (endAuth_tells h hr)

theorem closeSide_tellsAdopted {i : Side} {s : State} {r : RetainedBank} {k : Nat}
    (h : s.prices.sideGeneration.get i ≠ s.prices.generation) (hr : s.prices.retained = some r)
    (hg : r.generation = s.prices.sideGeneration.get i) (hroom : Room (k + 2) s) :
    (closeSide i s).link.tells
      (.priceAdopted s.prices.generation (i = .a) (i = .b) ((s.prices.freed i r).retained.map (·.generation))) := by
  have hdp : (dropBoth i (endAuth i s)).prices = s.prices :=
    (dropBoth_only i _ .prices (by simp)).trans (endAuth_only i s .prices (by simp))
  have hrm : Room (k + 1) ((dropBoth i (endAuth i s)).setPrices (s.prices.freed i r)) :=
    (endAuth_room hroom).of_link (dropBoth_link i (endAuth i s))
  rw [closeSide_link]
  unfold closeRest
  rw [adoptAtClose_frees (by rw [hdp]; exact h) (by rw [hdp]; exact hr) (by rw [hdp]; exact hg), hdp]
  simp only [beq_eq_decide]
  exact notify_tells _ hrm

end Sys2Proof.Machine

namespace Sys2Proof.Machine

open Sys2Proof

/-! ### The final share -/

/-- The share of a closed window is the quotient rounded half up (R81). -/
theorem shareOf_eq_floor {hi total : Int} (h : 0 < total) :
    shareOf hi total = Int.floor ((1000 * (hi : Rat) + (total : Rat) / 2) / (total : Rat)) := by
  obtain ⟨n, rfl⟩ := Int.eq_ofNat_of_zero_le h.le
  have hn : (n : Rat) ≠ 0 := by
    have : (0 : Int) < n := h
    exact_mod_cast this.ne'
  have e : (1000 * (hi : Rat) + (((n : Int) : Rat)) / 2) / ((n : Int) : Rat) = ((2000 * hi + n : Int) : Rat) / ((2 * n : Nat) : Rat) := by
    push_cast
    field_simp
    ring
  rw [e, Rat.floor_intCast_div_natCast]
  unfold shareOf
  push_cast
  rfl

theorem finalShare_eq_floor (lo hi : Int) :
    finalShare lo hi =
      if 0 < lo + hi then
        some (max 0 (min 1000 (Int.floor ((1000 * (hi : Rat) + ((lo + hi : Int) : Rat) / 2) / ((lo + hi : Int) : Rat))))).toNat
      else none := by
  unfold finalShare
  split
  · rename_i h
    rw [shareOf_eq_floor h]
    rfl
  · rfl

theorem GradeEntry.blended_iff (e : GradeEntry) : e.blended = true ↔ ¬(e.share = 0 ∨ e.share = 1000) := by
  unfold GradeEntry.blended
  simp

/-- The share of a record of a blended grade; a record of a pure one has none (R85). -/
theorem blendShare_eq {b : Blend} {e : GradeEntry} (h : b.copy = some e) (x : Option Nat) :
    (if b.isBlended = true then x else none) = if e.share = 0 ∨ e.share = 1000 then none else x := by
  have hb : b.isBlended = e.blended := by unfold Blend.isBlended; rw [h]; rfl
  rw [hb, if_congr (GradeEntry.blended_iff e) rfl rfl, ite_not]

theorem crossflowFlag_iff {b : Blend} {e : GradeEntry} (h : b.copy = some e) (lo hi : Int) :
    crossflowFlag b lo hi = true ↔ e.share = 0 ∧ hi ≠ 0 ∨ e.share = 1000 ∧ lo ≠ 0 := by
  have hu : b.unused = if e.share = 0 then some .hi else if e.share = 1000 then some .lo else none := by
    unfold Blend.unused; rw [h]; rfl
  unfold crossflowFlag
  rw [hu]
  by_cases h0 : e.share = 0
  · rw [if_pos h0]
    simp [h0]
  · rw [if_neg h0]
    by_cases h1 : e.share = 1000
    · rw [if_pos h1]
      simp [h1]
    · rw [if_neg h1]
      simp [h0, h1]

/-! ### The record taken by the register -/

theorem takeRecord_empty {r : SaleRecord} (s : State) (h : r.volume = 0) :
    takeRecord r s = queueJob .totalsWrite (notify (.saleClosed r true) s) := by
  unfold takeRecord
  dsimp only
  rw [if_pos h]

theorem takeRecord_sold {r : SaleRecord} (s : State) (h : r.volume ≠ 0) (he : r.ended ≠ .powerFail) :
    takeRecord r s = queueJob .totalsWrite (notify (.saleClosed r false) (s.setRegister { s.register with
      queues := s.register.queues.set r.side (s.register.queues.get r.side ++ [r]), totals := s.register.totals.add r })) := by
  unfold takeRecord
  dsimp only
  rw [if_neg h, if_neg he]

theorem takeRecord_store (r : SaleRecord) (s : State) :
    (takeRecord r s).store = { s.store with waiting := joinJob .totalsWrite false s.store.waiting } := by
  unfold takeRecord
  dsimp only
  split <;> rfl

theorem takeRecord_tells {r : SaleRecord} {s : State} {k : Nat} (h : Room (k + 1) s) :
    (takeRecord r s).link.tells (.saleClosed r (decide (r.volume = 0))) ∧ Room k (takeRecord r s) := by
  unfold takeRecord
  dsimp only
  split
  · rename_i hv
    rw [decide_eq_true hv]
    exact ⟨notify_tells (k := k) _ h, notify_room _ h⟩
  · rename_i hv
    rw [decide_eq_false hv]
    exact ⟨notify_tells (k := k) (s := s.setRegister _) _ h, notify_room (s := s.setRegister _) _ h⟩

/-- A record as its delivery flags leave it at a READER's port (R150). -/
def SaleRecord.handed (r : SaleRecord) (tampered : Bool) : SaleRecord :=
  { r with flags := { r.flags with
      deliveryPending := decide (r.source = .reader) && !tampered, undeliverable := decide (r.source = .reader) && tampered } }

theorem SaleRecord.handed_host {r : SaleRecord} (tampered : Bool) (h : r.source ≠ .reader) (hd : r.flags.deliveryPending = false)
    (hu : r.flags.undeliverable = false) : r.handed tampered = r := by
  rcases r with ⟨_, _, _, _, _, _, _, _, _, _, _, _, _, _, _, _, _, _, _, ⟨_, _, _, _, _⟩, _, _⟩
  dsimp only at h hd hu
  subst hd hu
  simp [SaleRecord.handed, h]

/-- The flag reaches the newest record alone where no other has its number (R150). -/
theorem flagDelivery_newest {q : List SaleRecord} {r : SaleRecord} (tampered : Bool) (hq : ∀ x ∈ q, x.number ≠ r.number)
    (h : r.source = .reader) (hd : r.flags.deliveryPending = false) (hu : r.flags.undeliverable = false) :
    flagDelivery tampered r.number (q ++ [r]) = q ++ [r.handed tampered] := by
  unfold flagDelivery
  rw [List.map_append]
  congr 1
  · refine (List.map_congr_left (fun x hx => ?_)).trans (List.map_id q)
    rw [if_neg (hq x hx)]
    rfl
  · rw [List.map_singleton, if_pos rfl]
    rcases r with ⟨_, _, _, _, _, _, _, _, _, _, _, _, _, _, _, _, _, _, _, ⟨_, _, _, _, _⟩, _, _⟩
    dsimp only at h hd hu
    subst hd hu
    cases tampered <;> simp [SaleRecord.handed, SaleRecord.undeliverable, h]

/-! ### The record of a close -/

/-- The state in which a close forms its record: the figures are final (R64). -/
def finalized (i : Side) (s : State) : State :=
  s.setFigures i ((s.figures.get i).finalize (s.meters.get i).lo.sale (s.meters.get i).hi.sale)

/-- What the steps of a close up to its record write (R64, R92, R97, R150). -/
abbrev recordBlocks (i : Side) : List Block := [.figures i, .register, .link, .store, .port i, .display i]

theorem closeRecord_clear (i : Side) (c : SaleContext) (s : State) : OnlyChanges (recordBlocks i) s (closeRecord i c s) := by
  unfold closeRecord
  extract_lets m s1 r s2 s3
  have h1 : OnlyChanges (recordBlocks i) s s1 := (setFigures_only s _ _).mono (by simp)
  have h2 : OnlyChanges (recordBlocks i) s s2 := h1.step (takeRecord_only r _) (by simp)
  have h3 : OnlyChanges (recordBlocks i) s s3 := (h2.step (handOver_only r _) (by have : r.side = i := rfl; rw [this]; simp)).ite h2
  exact h3.step (setDisplay_only _ _ _) (by simp)

/-- The state a close hands its record over in. -/
def recordTaken (i : Side) (c : SaleContext) (s : State) : State := takeRecord (formRecord (finalized i s) i c) (finalized i s)

/-- The close's record, for a READER's sale handed to the port too. -/
def recordGiven (i : Side) (c : SaleContext) (s : State) : State :=
  if c.source = .reader then handOver (formRecord (finalized i s) i c) (recordTaken i c s) else recordTaken i c s

theorem closeRecord_given (i : Side) (c : SaleContext) (s : State) :
    OnlyChanges [.display i] (recordGiven i c s) (closeRecord i c s) := setDisplay_only _ _ _

theorem recordGiven_taken (i : Side) (c : SaleContext) (s : State) :
    OnlyChanges [.register, .port i] (recordTaken i c s) (recordGiven i c s) :=
  (handOver_only (formRecord (finalized i s) i c) (recordTaken i c s)).ite (.refl _ _)

theorem closeRecord_link (i : Side) (c : SaleContext) (s : State) : (closeRecord i c s).link = (recordTaken i c s).link :=
  (closeRecord_given i c s).link_eq.trans (recordGiven_taken i c s).link_eq

theorem closeRecord_store (i : Side) (c : SaleContext) (s : State) :
    (closeRecord i c s).store = { s.store with waiting := joinJob .totalsWrite false s.store.waiting } := by
  rw [closeRecord_given i c s .store (by simp), recordGiven_taken i c s .store (by simp)]
  exact takeRecord_store _ _

theorem closeRecord_figures (i : Side) (c : SaleContext) (s : State) :
    (closeRecord i c s).figures.get i = (finalized i s).figures.get i := by
  have e1 : (closeRecord i c s).figures.get i = (recordGiven i c s).figures.get i := closeRecord_given i c s (.figures i) (by simp)
  have e2 : (recordGiven i c s).figures.get i = (recordTaken i c s).figures.get i := recordGiven_taken i c s (.figures i) (by simp)
  rw [e1, e2]
  exact takeRecord_only _ (finalized i s) (.figures i) (by simp)

theorem finalized_figures (i : Side) (s : State) :
    (finalized i s).figures.get i = (s.figures.get i).finalize (s.meters.get i).lo.sale (s.meters.get i).hi.sale :=
  PerSide.get_set_same _ _ _

theorem formRecord_side (s : State) (i : Side) (c : SaleContext) : (formRecord s i c).side = i := rfl

theorem recordTaken_ports (i : Side) (c : SaleContext) (s : State) : (recordTaken i c s).ports.get i = s.ports.get i :=
  takeRecord_only _ (finalized i s) (.port i) (by simp)

/-- The handing over of a record (R150). -/
theorem handOver_empty {r : SaleRecord} (s : State) (h : r.volume = 0) :
    (handOver r s).register = s.register ∧
      (handOver r s).ports.get r.side =
        if (s.ports.get r.side).state = .tampered then s.ports.get r.side else (s.ports.get r.side).placeEmpty (emptyResultOf r) := by
  unfold handOver
  dsimp only
  rw [if_pos h]
  by_cases ht : (s.ports.get r.side).state = .tampered
  · rw [if_pos (decide_eq_true ht), if_pos ht]
    exact ⟨rfl, rfl⟩
  · rw [if_neg (by rw [decide_eq_false ht]; decide), if_neg ht]
    exact ⟨rfl, PerSide.get_set_same _ _ _⟩

theorem handOver_sold {r : SaleRecord} (s : State) (h : r.volume ≠ 0) :
    handOver r s = s.setRegister { s.register with
      queues := s.register.queues.set r.side
        (flagDelivery (decide ((s.ports.get r.side).state = .tampered)) r.number (s.register.queues.get r.side)) } := by
  unfold handOver
  dsimp only
  rw [if_neg h]

/-- An empty record leaves the register as it was (R92, R150). -/
theorem closeRecord_register_empty {i : Side} {c : SaleContext} {s : State} (h : (formRecord (finalized i s) i c).volume = 0) :
    (closeRecord i c s).register = s.register := by
  rw [closeRecord_given i c s .register (by simp)]
  have ht : (recordTaken i c s).register = s.register := by
    unfold recordTaken
    rw [takeRecord_empty _ h]
    rfl
  unfold recordGiven
  split
  · rw [(handOver_empty _ h).1, ht]
  · exact ht

/-- Another joins the tail of its side's queue with its delivery flags, and its contributions join the totals (R92, R97, R150). -/
theorem closeRecord_register_sold {i : Side} {c : SaleContext} {s : State} (h : (formRecord (finalized i s) i c).volume ≠ 0)
    (he : (formRecord (finalized i s) i c).ended ≠ .powerFail) (hq : ∀ r ∈ s.register.queues.get i, r.number ≠ c.number) :
    (closeRecord i c s).register = { s.register with
      queues := s.register.queues.set i (s.register.queues.get i ++
        [(formRecord (finalized i s) i c).handed (decide ((s.ports.get i).state = PortState.tampered))])
      totals := s.register.totals.add (formRecord (finalized i s) i c) } := by
  have ht : (recordTaken i c s).register = { s.register with
      queues := s.register.queues.set i (s.register.queues.get i ++ [formRecord (finalized i s) i c])
      totals := s.register.totals.add (formRecord (finalized i s) i c) } := by
    unfold recordTaken
    rw [takeRecord_sold _ h he]
    rfl
  rw [closeRecord_given i c s .register (by simp)]
  unfold recordGiven
  split
  · rename_i hr
    rw [handOver_sold _ h]
    change { (recordTaken i c s).register with
      queues := (recordTaken i c s).register.queues.set i
        (flagDelivery (decide (((recordTaken i c s).ports.get i).state = PortState.tampered)) (formRecord (finalized i s) i c).number
          ((recordTaken i c s).register.queues.get i)) } = _
    rw [ht, recordTaken_ports, PerSide.get_set_same, flagDelivery_newest _ hq hr rfl rfl, PerSide.set_set]
  · rename_i hr
    rw [ht, SaleRecord.handed_host _ hr rfl rfl]

/-- The port takes the empty result of a READER's sale, but for a TAMPERED one (R150). -/
theorem closeRecord_port (i : Side) (c : SaleContext) (s : State) :
    (closeRecord i c s).ports.get i =
      if c.source = .reader ∧ (s.ports.get i).state ≠ .tampered ∧ (formRecord (finalized i s) i c).volume = 0 then
        (s.ports.get i).placeEmpty (emptyResultOf (formRecord (finalized i s) i c))
      else s.ports.get i := by
  have e : (closeRecord i c s).ports.get i = (recordGiven i c s).ports.get i := closeRecord_given i c s (.port i) (by simp)
  rw [e]
  unfold recordGiven
  by_cases hr : c.source = .reader
  · rw [if_pos hr]
    by_cases hv : (formRecord (finalized i s) i c).volume = 0
    · refine (handOver_empty (recordTaken i c s) hv).2.trans ?_
      rw [formRecord_side, recordTaken_ports]
      by_cases ht : (s.ports.get i).state = .tampered
      · rw [if_pos ht, if_neg (fun x => x.2.1 ht)]
      · rw [if_neg ht, if_pos ⟨hr, ht, hv⟩]
    · rw [handOver_sold _ hv, if_neg (fun x => hv x.2.2)]
      exact recordTaken_ports i c s
  · rw [if_neg hr, if_neg (fun x => hr x.1)]
    exact recordTaken_ports i c s

/-! ### The port's transmitter after a close -/

/-- A transmitter that rests at an ADMITTED port with no record in transmission has nothing that it could start (R133). -/
theorem Port.startNext_rests {p : Port} {d : Option SaleRecord} (ht : p.tx = none) (h : p.startNext d = p) :
    p.pendingAuth = none ∧ d = none ∧ p.emptyPlace = none := by
  unfold Port.startNext at h
  split at h
  · exact absurd ((congrArg Port.tx h).trans ht) (by simp)
  · rename_i ha
    split at h
    · exact absurd ((congrArg Port.tx h).trans ht) (by simp)
    · split at h
      · exact absurd ((congrArg Port.tx h).trans ht) (by simp)
      · rename_i he
        exact ⟨ha, rfl, he⟩

theorem Port.starts_busy {p : Port} (d : Option SaleRecord) (h : p.tx ≠ none) : p.starts d = p := by
  unfold Port.starts
  split
  · rename_i ht _; exact absurd ht h
  · rename_i ht _; exact absurd ht h
  · rfl

theorem Port.starts_admitted {p : Port} (d : Option SaleRecord) (ht : p.tx = none) (hs : p.state = .admitted) :
    p.starts d = p.startNext d := by
  unfold Port.starts
  split
  · rename_i hn; rw [hs] at hn; exact absurd hn (by decide)
  · rfl
  · rename_i hn; exact absurd hs (hn ht)

theorem Port.starts_negotiating {p : Port} (d : Option SaleRecord) (ht : p.tx = none) (hs : p.state = .negotiating) :
    p.starts d = { p with tx := p.owed, owed := none } := by
  unfold Port.starts
  split
  · rfl
  · rename_i hn; rw [hs] at hn; exact absurd hn (by decide)
  · rename_i hn _; exact absurd hs (hn ht)

/-- At a port that is neither NEGOTIATING nor ADMITTED nothing is transmitted (R133). -/
theorem Port.starts_silent {p : Port} (d : Option SaleRecord) (hn : p.state ≠ .negotiating) (ha : p.state ≠ .admitted) :
    p.starts d = p := by
  unfold Port.starts
  split
  · rename_i h; exact absurd h hn
  · rename_i h; exact absurd h ha
  · rfl

/-- With no result in the empty place, what a transmitter starts leaves the place empty. -/
theorem Port.startNext_noEmpty {p : Port} (d : Option SaleRecord) (h : p.emptyPlace = none) : (p.startNext d).emptyPlace = none := by
  unfold Port.startNext
  rw [h]
  split
  · rfl
  · split
    · rfl
    · dsimp only
      split
      · rfl
      · split
        · rfl
        · exact h

/-- A record that a resting transmitter finds to deliver leaves the empty place as it was. -/
theorem Port.starts_emptyPlace {p : Port} {d : Option SaleRecord} (h : p.starts d = p) (d' : Option SaleRecord) :
    (p.starts d').emptyPlace = p.emptyPlace := by
  by_cases ht : p.tx = none
  · by_cases hs : p.state = .admitted
    · rw [Port.starts_admitted d ht hs] at h
      obtain ⟨-, -, he⟩ := Port.startNext_rests ht h
      rw [Port.starts_admitted d' ht hs, Port.startNext_noEmpty d' he, he]
    · by_cases hn : p.state = .negotiating
      · rw [Port.starts_negotiating d' ht hn]
      · rw [Port.starts_silent d' hn hs]
  · rw [Port.starts_busy d' ht]

/-- An empty result that a resting transmitter may not start stays in its place (R133, R150). -/
theorem Port.starts_placeEmpty_waits {p : Port} {d : Option SaleRecord} (x : SaleResult) (h : p.starts d = p)
    (hn : p.state ≠ .admitted ∨ p.tx ≠ none) : (p.placeEmpty x).starts d = p.placeEmpty x := by
  by_cases ht : p.tx = none
  · have ha : p.state ≠ .admitted := hn.resolve_right (fun x => x ht)
    by_cases hs : p.state = .negotiating
    · rw [Port.starts_negotiating d ht hs] at h
      have ho : p.owed = none := (congrArg Port.owed h).symm
      have e : (p.placeEmpty x).starts d = { p.placeEmpty x with tx := p.owed, owed := none } :=
        Port.starts_negotiating (p := p.placeEmpty x) d ht hs
      rw [e]
      rcases p with ⟨st, sp, sti, bt, fa, te, of, ow, co, ex, rm, rr, ct, et, tx, pa, pn, qu, em, re, ll, ri, ti, cn⟩
      dsimp only at ht ho
      subst ht ho
      rfl
    · exact Port.starts_silent (p := p.placeEmpty x) d hs ha
  · exact Port.starts_busy (p := p.placeEmpty x) d ht

/-- One that it may start is in transmission at once (R133, R150). -/
theorem Port.starts_placeEmpty_sends {p : Port} {d : Option SaleRecord} (x : SaleResult) (h : p.starts d = p)
    (hs : p.state = .admitted) (ht : p.tx = none) :
    (p.placeEmpty x).starts d =
      { p.placeEmpty x with emptyPlace := some { result := x, sending := true }, tx := some (.saleResult x) } := by
  rw [Port.starts_admitted d ht hs] at h
  obtain ⟨ha, rfl, -⟩ := Port.startNext_rests ht h
  have e : (p.placeEmpty x).starts none = (p.placeEmpty x).startNext none :=
    Port.starts_admitted (p := p.placeEmpty x) none ht hs
  have ha' : (p.placeEmpty x).pendingAuth = none := ha
  rw [e]
  unfold Port.startNext
  split
  · rename_i hx; rw [ha'] at hx; exact absurd hx (by simp)
  · rfl

end Sys2Proof.Machine

namespace Sys2Proof.Machine

open Sys2Proof

/-! ### The close of a sale in ENDING -/

theorem setSale_same {i : Side} {c : SaleContext} {s : State} (h : (s.fill.get i).sale = some c) : setSale i (fun _ => c) s = s := by
  unfold setSale
  have e : ({ s.fill.get i with sale := (s.fill.get i).sale.map (fun _ => c) } : Fill) = s.fill.get i := by rw [h, Option.map_some, ← h]
  dsimp only
  rw [e]
  unfold State.setFill
  rw [PerSide.set_get]

/-- A close without an end reason of its own hands the record over and closes the side (R64). -/
theorem closeSale_recorded {i : Side} {c : SaleContext} {s : State} (h : (s.fill.get i).sale = some c) :
    closeSale i none s = closeSide i (closeRecord i c s) := by
  unfold closeSale
  split
  · rename_i hn; rw [h] at hn; exact absurd hn (by simp)
  · rename_i d hd
    have hdc : d = c := Option.some.inj (hd.symm.trans h)
    subst hdc
    change closeSide i (closeRecord i d (setSale i (fun _ => d) s)) = _
    rw [setSale_same h]

theorem nightIfLast_other {s : State} (h : s.power.mode ≠ .nightPending) : nightIfLast s = s := if_neg (fun x => h x.1)

/-- Either expiry of ENDING closes the sale, outside NIGHT_PENDING and nothing more (R63, R163). -/
theorem exec_endingExpiry {i : Side} {c : SaleContext} {command : Instr} {s : State}
    (hc : command = .endingQuietExpiry i ∧ (s.fill.get i).quietTimer ≠ none ∨
      command = .afterFlowExpiry i ∧ (s.fill.get i).afterFlowTimer ≠ none)
    (he : s.sideState i = .ending) (hsale : (s.fill.get i).sale = some c) (hm : s.power.mode ≠ .nightPending) :
    exec command s = .next (settle s (closeSide i (closeRecord i c s))) := by
  have hn : nightIfLast (closeSale i none s) = closeSide i (closeRecord i c s) := by
    rw [nightIfLast_other (by rw [closeSale_only i none s .power (by simp)]; exact hm), closeSale_recorded hsale]
  rcases hc with ⟨rfl, ht⟩ | ⟨rfl, ht⟩
  · change event (fun s => if s.sideState i = .ending ∧ (s.fill.get i).quietTimer.isSome then nightIfLast (closeSale i none s) else s) s = _
    rw [event_next, if_pos ⟨he, Option.isSome_iff_ne_none.mpr ht⟩, hn]
  · change event (fun s => if s.sideState i = .ending ∧ (s.fill.get i).afterFlowTimer.isSome then nightIfLast (closeSale i none s) else s)
      s = _
    rw [event_next, if_pos ⟨he, Option.isSome_iff_ne_none.mpr ht⟩, hn]

/-! ### The register and the port at the end of a close -/

/-- What the record of a close asks of the sale that it is formed from. -/
structure Closes (i : Side) (c : SaleContext) (s : State) : Prop where
  ended : (formRecord (finalized i s) i c).ended ≠ .powerFail
  fresh : ∀ r ∈ s.register.queues.get i, r.number ≠ c.number

theorem Closes.queue_other {i : Side} {c : SaleContext} {s : State} (h : Closes i c s) {j : Side} (hj : j ≠ i) :
    (closeRecord i c s).register.queues.get j = s.register.queues.get j := by
  by_cases hv : (formRecord (finalized i s) i c).volume = 0
  · rw [closeRecord_register_empty hv]
  · rw [closeRecord_register_sold hv h.ended h.fresh]
    exact PerSide.get_set_other _ _ hj

/-- A record without DELIVERY_PENDING at the tail of its queue changes no delivery (R151). -/
theorem Closes.pendingDelivery {i : Side} {c : SaleContext} {s : State} (h : Closes i c s)
    (hd : (formRecord (finalized i s) i c).volume = 0 ∨ c.source ≠ .reader) :
    pendingDelivery (closeRecord i c s) i = Machine.pendingDelivery s i := by
  unfold Machine.pendingDelivery
  by_cases hv : (formRecord (finalized i s) i c).volume = 0
  · rw [closeRecord_register_empty hv]
  · have hr : c.source ≠ .reader := hd.resolve_left hv
    rw [closeRecord_register_sold hv h.ended h.fresh]
    dsimp only
    rw [PerSide.get_set_same, SaleRecord.handed_host _ hr rfl rfl, List.find?_append]
    have hn : List.find? (fun r : SaleRecord => r.flags.deliveryPending) [formRecord (finalized i s) i c] = none := rfl
    rw [hn, Option.or_none]

theorem closeSide_register (i : Side) (s : State) : (closeSide i s).register = s.register := closeSide_clear i s .register (by simp)

theorem closeSide_ports (i j : Side) (s : State) : (closeSide i s).ports.get j = s.ports.get j := closeSide_clear i s (.port j) (by simp)

theorem closeSide_store (i : Side) (s : State) : (closeSide i s).store = s.store := closeSide_clear i s .store (by simp)

theorem settle_closed_port (old : State) (i : Side) (v : State) :
    (settle old (closeSide i v)).ports.get i = (v.ports.get i).starts (pendingDelivery v i) := by
  rw [settle_ports]
  have e : startReader (closeSide i v) i = (v.ports.get i).starts (pendingDelivery v i) := by
    rw [startReader_eq, closeSide_ports]
    unfold pendingDelivery
    rw [closeSide_register]
  cases i <;> exact e

/-- What a close leaves of the port (R133, R150). -/
theorem Closes.port {i : Side} {c : SaleContext} {s : State} (h : Closes i c s) (hs : Settled s) :
    let p := s.ports.get i
    let q := (settle s (closeSide i (closeRecord i c s))).ports.get i
    let x := emptyResultOf (formRecord (finalized i s) i c)
    (c.source ≠ .reader → q = p) ∧
    (c.source = .reader → p.state = .tampered → q = p) ∧
    (c.source = .reader → p.state ≠ .tampered → (formRecord (finalized i s) i c).volume ≠ 0 → q.emptyPlace = p.emptyPlace) ∧
    (c.source = .reader → p.state ≠ .tampered → (formRecord (finalized i s) i c).volume = 0 →
      (p.state ≠ .admitted ∨ p.tx ≠ none → q = p.placeEmpty x) ∧
      (p.state = .admitted → p.tx = none →
        q = { p.placeEmpty x with emptyPlace := some { result := x, sending := true }, tx := some (.saleResult x) })) := by
  intro p q x
  have hrest : p.starts (Machine.pendingDelivery s i) = p := hs.reader i
  have hq : q = ((closeRecord i c s).ports.get i).starts (Machine.pendingDelivery (closeRecord i c s) i) := settle_closed_port s i _
  rw [closeRecord_port] at hq
  refine ⟨fun hr => ?_, fun hr ht => ?_, fun hr ht hv => ?_, fun hr ht hv => ⟨fun hn => ?_, fun ha htx => ?_⟩⟩
  · rw [hq, if_neg (fun y => hr y.1), h.pendingDelivery (.inr hr)]
    exact hrest
  · rw [hq, if_neg (fun y => y.2.1 ht)]
    exact Port.starts_silent _ (fun y => absurd (ht.symm.trans y) (by decide)) (fun y => absurd (ht.symm.trans y) (by decide))
  · rw [hq, if_neg (fun y => hv y.2.2)]
    exact Port.starts_emptyPlace hrest _
  · rw [hq, if_pos ⟨hr, ht, hv⟩, h.pendingDelivery (.inl hv)]
    exact Port.starts_placeEmpty_waits _ hrest hn
  · rw [hq, if_pos ⟨hr, ht, hv⟩, h.pendingDelivery (.inl hv)]
    exact Port.starts_placeEmpty_sends _ hrest ha htx

/-- Everything that a close with its record writes. -/
abbrev soldBlocks (i : Side) : List Block :=
  [.fill i, .blend i, .valves i, .display i, .link, .register, .store, .prices, .figures i, .port i,
    .meter { side := i, product := .lo }, .meter { side := i, product := .hi }, .motor .lo, .motor .hi]

theorem Closes.frame {i : Side} {c : SaleContext} {s : State} (h : Closes i c s) (hs : Settled s) :
    OnlyChanges (soldBlocks i) s (settle s (closeSide i (closeRecord i c s))) := by
  have hu : OnlyChanges (soldBlocks i) s (closeSide i (closeRecord i c s)) :=
    ((closeRecord_clear i c s).mono (by simp)).step (closeSide_clear i _) (by simp)
  refine hu.settle s hs (by simp) (fun j hj => ?_) (fun hn => absurd hn (by simp))
  have hji : j ≠ i := by rintro rfl; exact hj (by simp)
  unfold Machine.pendingDelivery
  rw [closeSide_register, h.queue_other hji]

/-- The notices that a close queues: the record, the end of the authorization and the adoption (R41, R52, R92). -/
theorem close_tells {i : Side} {c : SaleContext} {s : State} (old : State) (h : Room 4 s) :
    let r := formRecord (finalized i s) i c
    let t := settle old (closeSide i (closeRecord i c s))
    t.link.tells (.saleClosed r (decide (r.volume = 0))) ∧
    (∀ a, (s.fill.get i).slot = some a → t.link.tells (.authEvent i a.source a.reference .ended)) ∧
    (s.prices.sideGeneration.get i ≠ s.prices.generation → ∀ b, s.prices.retained = some b →
      b.generation = s.prices.sideGeneration.get i →
      t.link.tells (.priceAdopted s.prices.generation (i = .a) (i = .b) ((s.prices.freed i b).retained.map (·.generation)))) := by
  intro r t
  have hf : (closeRecord i c s).fill.get i = s.fill.get i := closeRecord_clear i c s (.fill i) (by simp)
  have hp : (closeRecord i c s).prices = s.prices := closeRecord_clear i c s .prices (by simp)
  obtain ⟨htell, hroom⟩ := takeRecord_tells (k := 3) (r := r) (h.of_link (u := finalized i s) rfl)
  have hl : (closeRecord i c s).link = (takeRecord r (finalized i s)).link := closeRecord_link i c s
  have hr : Room 3 (closeRecord i c s) := hroom.of_link hl
  refine ⟨?_, fun a ha => ?_, fun hg b hb hgb => ?_⟩
  · apply (settle_keeps _ _).tells
    apply (closeSide_keeps _ _).tells
    rw [hl]
    exact htell
  · exact (settle_keeps _ _).tells _ (closeSide_tellsEnded (by rw [hf]; exact ha) hr)
  · have e := closeSide_tellsAdopted (i := i) (s := closeRecord i c s) (r := b) (k := 1) (by rw [hp]; exact hg) (by rw [hp]; exact hb)
      (by rw [hp]; exact hgb) hr
    rw [hp] at e
    exact (settle_keeps _ _).tells _ e

/-- The result of an empty sale has no money, no payable amount and no overrun (R150). -/
theorem emptyResult_eq {i : Side} {c : SaleContext} {s : State} {g : Figures} (hg : (finalized i s).figures.get i = g)
    (hfin : g = (s.figures.get i).finalize (s.meters.get i).lo.sale (s.meters.get i).hi.sale) (hv : g.displayed = 0) :
    emptyResultOf (formRecord (finalized i s) i c) =
      { number := c.number, reference := c.reference.getD 0, grade := c.grade, price := g.opened.elim 0 (fun o => o.price), volume := 0
        money := 0, payable := 0, overrun := false, empty := true, restored := false } := by
  have hm : g.money = 0 := by
    have e : g.money = moneyOf g.displayed g.price := by rw [hfin]; rfl
    rw [e, hv]
    unfold moneyOf uncappedMoney
    rw [Nat.zero_mul]
    decide
  have ho : g.closing.bind (·.overrun) = none := by
    have e : g.closing.bind (·.overrun) = overrunOf (g.opened.bind (·.limit)) g.displayed g.money := by rw [hfin]; rfl
    rw [e, hm, hv]
    unfold overrunOf
    split
    · rfl
    · split <;> rfl
  unfold emptyResultOf resultOf formRecord
  dsimp only
  rw [hg, hv, hm, ho]
  rfl

theorem Port.placeEmpty_eq (p : Port) (x : SaleResult) :
    p.placeEmpty x = { p with
      emptyPlace := some { result := x, sending := false }
      counters := { p.counters with
        discarded := p.counters.discarded + if p.emptyPlace.any (fun e => !e.sending) then 1 else 0 } } := by
  unfold Port.placeEmpty
  cases p.emptyPlace.any (fun e => !e.sending) <;> rfl

/-- Settles O37: the record of the close (`closeRecord`), then the side's own close (`closeSide`), each by what it leaves. -/
theorem aSaleClosesFromEnding : Obligations.ASaleClosesFromEnding := by
  intro i c why command s hs f m g q lo hi share hcmd hend hsale hwhy hpf hmode hnum
  have hended : (formRecord (finalized i s) i c).ended = why := by
    change c.ended.getD _ = why
    rw [hwhy]
    rfl
  have hcl : Closes i c s := ⟨by rw [hended]; exact hpf, hnum⟩
  generalize hv : closeRecord i c s = v
  have hvc := closeRecord_clear i c s
  rw [hv] at hvc
  have hvf : v.fill.get i = f := hvc (.fill i) (by simp)
  have hvo : v.fill.get i.other = s.fill.get i.other := hvc (.fill i.other) (by cases i <;> decide)
  have hvm : v.meters.get i = m := hvc.meters_eq i
  have hvp : v.prices = s.prices := hvc .prices (by simp)
  have hvmot (p : Product) : v.motors.get p = s.motors.get p := hvc (.motor p) (by simp)
  have hC : SideClosed i v (closeSide i v) := closeSide_closed (by unfold State.sideState; rw [hvf]; exact hend)
  obtain ⟨x, hfill⟩ := hC.fill
  rw [hvf] at hfill
  have hg : (finalized i s).figures.get i = g := finalized_figures i s
  have hvol : (formRecord (finalized i s) i c).volume = g.displayed := congrArg Figures.displayed hg
  have hreg : (settle s (closeSide i v)).register = v.register := by rw [settle_register, closeSide_register]
  have hport := hcl.port hs
  have htells := fun h4 : Room 4 s => close_tells (i := i) (c := c) s h4
  rw [hv] at hport htells
  refine ⟨settle s (closeSide i v), by rw [← hv]; exact exec_endingExpiry hcmd hend hsale hmode, ?_, fun a ha h4 => ?_,
    fun h0 => ⟨?_, fun h4 => ?_⟩, fun h0 => ?_, ?_, ?_, ⟨fun h => ?_, fun h r hr hrg => ⟨?_, fun h4 => ?_⟩⟩,
    ⟨hport.1, hport.2.1, fun h1 h2 h3 => ?_, fun h1 h2 h3 => ?_⟩, ?_, ?_, ?_, ?_, ?_, ?_, ?_, ?_, fun p => ⟨?_, ?_⟩, ?_, ?_, ?_⟩
  · rw [settle_figures, closeSide_clear i v (.figures i) (by simp), ← hv, closeRecord_figures]
    exact hg
  · obtain ⟨-, hauth, -⟩ := htells h4
    exact hauth a ha
  · rw [hreg, ← hv]
    exact closeRecord_register_empty (hvol.trans h0)
  · obtain ⟨hclosed, -, -⟩ := htells h4
    refine ⟨formRecord (finalized i s) i c, rfl, rfl, hvol.trans h0, hended, ?_⟩
    rwa [decide_eq_true (hvol.trans h0)] at hclosed
  · have hr := closeRecord_register_sold (i := i) (c := c) (s := s) (by rw [hvol]; exact h0) hcl.ended hnum
    rw [hv] at hr
    refine ⟨(formRecord (finalized i s) i c).handed (decide ((s.ports.get i).state = PortState.tampered)), ?_, rfl, rfl, rfl, rfl, rfl,
      ?_, ?_, hvol, ?_, ?_, rfl, rfl, rfl, rfl, hended, ?_, ?_, ?_, rfl, ?_, ?_, rfl, rfl, fun e he => ⟨?_, ?_⟩, fun h4 => ?_, ?_, ?_, ?_⟩
    · rw [hreg, hr]
      exact PerSide.get_set_same _ _ _
    · rw [← hg]; rfl
    · rw [← hg]; rfl
    · rw [← hg]; rfl
    · change some (((finalized i s).figures.get i).closing.elim 0 (·.lo), ((finalized i s).figures.get i).closing.elim 0 (·.hi)) = _
      rw [hg]
      rfl
    · rw [← hg]; rfl
    · change some (((finalized i s).figures.get i).closing.elim 0 (·.payable)) = _
      rw [hg]
      rfl
    · rw [← hg]; rfl
    · change (decide (c.source = .reader) && !decide ((s.ports.get i).state = PortState.tampered)) = true ↔ _
      simp
    · change (decide (c.source = .reader) && decide ((s.ports.get i).state = PortState.tampered)) = true ↔ _
      simp
    · change (if (s.blend.get i).isBlended then finalShare lo hi else none) = _
      rw [blendShare_eq he, finalShare_eq_floor]
    · exact crossflowFlag_iff he lo hi
    · obtain ⟨hclosed, -, -⟩ := htells h4
      rw [decide_eq_false (fun e => h0 (hvol.symm.trans e))] at hclosed
      split
      · exact hclosed
      · rename_i hsrc
        rw [SaleRecord.handed_host _ hsrc rfl rfl]
        exact hclosed
    · rw [hreg, hr]
      exact PerSide.get_set_other _ _ (by cases i <;> decide)
    · rw [hreg, hr]
    · rw [hreg, hr]
      exact ⟨rfl, rfl, rfl⟩
  · obtain ⟨j, hj, hk, -⟩ := joinJob_mem .totalsWrite false s.store.waiting
    have hst : (closeSide i v).store = { s.store with waiting := joinJob .totalsWrite false s.store.waiting } := by
      rw [closeSide_store, ← hv, closeRecord_store]
    rw [← hk]
    exact settle_hasQueued s (by rw [hst]; exact hj) (by rw [hst])
  · rw [settle_prices, hC.generation, hvp]
  · rw [settle_prices, hC.active (by rw [hvp]; exact h), hvp]
  · rw [settle_prices, hC.freed (by rw [hvp]; exact h) r (by rw [hvp]; exact hr) (by rw [hvp]; exact hrg), hvp]
    rfl
  · obtain ⟨-, -, hadopt⟩ := htells h4
    exact hadopt h r hr hrg
  · obtain ⟨-, -, hsold, -⟩ := hport
    exact hsold h1 h2 (by rw [hvol]; exact h3)
  · obtain ⟨-, -, -, hempty⟩ := hport
    have he := hempty h1 h2 (hvol.trans h3)
    rw [emptyResult_eq hg rfl h3, Port.placeEmpty_eq] at he
    exact he
  · rw [settle_sideState]
    exact congrArg Fill.state hfill
  · rw [settle_fill, hfill]; rfl
  · rw [settle_fill, hfill]; rfl
  · rw [settle_fill, hfill]; rfl
  · rw [settle_fill, hfill]; rfl
  · rw [settle_fill, hfill]
    change f.sale.map (fun c => { c with running := false }) = _
    rw [hsale]
    rfl
  · rw [settle_fill, hfill]; rfl
  · rw [settle_fill, hfill]; rfl
  · rw [settle_fill, hfill]
    cases p <;> rfl
  · rw [settle_motors, hC.motors, hvf, hvo, hvmot]
  · rw [settle_valves, hC.valves]
  · rw [settle_meters, hC.meters, hvm]
  · rw [← hv]
    exact hcl.frame hs

end Sys2Proof.Machine

namespace Sys2Proof.Machine

open Sys2Proof

/-! ### The reads of LOADING -/

/-- What the read of a region leaves alone: the end of its event starts, sends and reports nothing (R158, R176). -/
structure ReadsQuietly (s u : State) : Prop where
  display : u.display = s.display
  ports : u.ports = s.ports
  queues : u.register.queues = s.register.queues
  link : u.link = s.link
  fill : ∀ i, (u.fill.get i).state = (s.fill.get i).state ∧ (u.fill.get i).closures = (s.fill.get i).closures
  changes : u.changes = s.changes
  saving : u.store.saving = s.store.saving ∧ u.store.saveWaiting = s.store.saveWaiting
  mode : u.power.mode = .loading
  sideMeters : u.sideMeters = s.sideMeters
  sidePower : u.sidePower = s.sidePower
  cells : ∀ r, (u.store.regionState r == .failed) = (s.store.regionState r == .failed)

theorem ReadsQuietly.latchConditions {s u : State} (q : ReadsQuietly s u) : latchConditions u = Machine.latchConditions s := by
  have hc : (u.store.cal.state == .failed) = (s.store.cal.state == .failed) := q.cells .cal
  have hg : (u.store.cfg.state == .failed) = (s.store.cfg.state == .failed) := q.cells .cfg
  have hp : (u.store.price.state == .failed) = (s.store.price.state == .failed) := q.cells .price
  have ht : (u.store.totals.state == .failed) = (s.store.totals.state == .failed) := q.cells .totals
  have ha : u.fill.a.closures = s.fill.a.closures := (q.fill .a).2
  have hb : u.fill.b.closures = s.fill.b.closures := (q.fill .b).2
  unfold Machine.latchConditions
  rw [hc, hg, hp, ht, ha, hb, q.sideMeters, q.sidePower, q.ports, q.link]

theorem Settled.settle_read {s u : State} (h : Settled s) (q : ReadsQuietly s u) : Machine.settle s u = u := by
  have hd (i : Side) : startDisplay i u = u.display.get i := by
    rw [h.display_of_same (congrArg (·.get i) q.display), q.display]
  have hp (i : Side) : startReader u i = u.ports.get i := by
    have hi : (s.ports.get i).starts (pendingDelivery s i) = s.ports.get i := h.reader i
    have hpd : pendingDelivery u i = pendingDelivery s i := by unfold pendingDelivery; rw [q.queues]
    rw [startReader_eq, q.ports, hpd, hi]
  have hc : u.changes = [] := q.changes.trans h.changes
  have hm : MainRests u := .inl q.mode
  have hs : u.store.startSave u.register.queues = u.store :=
    Store.startSave_rests _ (fun hn => q.saving.2.trans (h.saveRests (q.saving.1.symm.trans hn)))
  have hl : Link.startNext { u.link with latches := u.link.latches.follow (Machine.latchConditions u) } = u.link := by
    rw [q.latchConditions, q.link, h.latches]
    exact h.link
  rw [settle_eq, hd, hd, hp, hp, hm.startMain_eq, hs, reported_still hd q.fill hc, hl]
  cases u
  dsimp only at hc
  subst hc
  rfl

theorem RegionState.not_isRead_iff (x : RegionState) : (!x.isRead) = true ↔ x = .unread := by cases x <;> decide

/-- The region that is read next is the first in the order that has not been (R176). -/
theorem Store.nextRead_iff (t : Store) (r : Region) :
    t.nextRead = some r ↔ t.regionState r = .unread ∧ match r with
      | .cal => True
      | .cfg => t.regionState .cal ≠ .unread
      | .price => t.regionState .cal ≠ .unread ∧ t.regionState .cfg ≠ .unread
      | .totals => t.regionState .cal ≠ .unread ∧ t.regionState .cfg ≠ .unread ∧ t.regionState .price ≠ .unread := by
  unfold Store.nextRead
  simp only [List.find?_cons, List.find?_nil]
  by_cases h1 : t.regionState .cal = .unread
  · rw [(RegionState.not_isRead_iff _).mpr h1]
    cases r <;> simp [h1]
  · rw [Bool.eq_false_iff.mpr (fun x => h1 ((RegionState.not_isRead_iff _).mp x))]
    by_cases h2 : t.regionState .cfg = .unread
    · rw [(RegionState.not_isRead_iff _).mpr h2]
      cases r <;> simp [h1, h2]
    · rw [Bool.eq_false_iff.mpr (fun x => h2 ((RegionState.not_isRead_iff _).mp x))]
      by_cases h3 : t.regionState .price = .unread
      · rw [(RegionState.not_isRead_iff _).mpr h3]
        cases r <;> simp [h1, h2, h3]
      · rw [Bool.eq_false_iff.mpr (fun x => h3 ((RegionState.not_isRead_iff _).mp x))]
        by_cases h4 : t.regionState .totals = .unread
        · rw [(RegionState.not_isRead_iff _).mpr h4]
          cases r <;> simp [h1, h2, h3, h4]
        · rw [Bool.eq_false_iff.mpr (fun x => h4 ((RegionState.not_isRead_iff _).mp x))]
          cases r <;> simp [h1, h2, h3, h4]

theorem Store.nextRead_none_iff (t : Store) : t.nextRead = none ↔ ∀ r, t.regionState r ≠ .unread := by
  unfold Store.nextRead
  rw [List.find?_eq_none]
  constructor
  · intro h r hr
    exact h r (by cases r <;> simp) ((RegionState.not_isRead_iff _).mpr hr)
  · intro h r _ hr
    exact h r ((RegionState.not_isRead_iff _).mp hr)

/-- The state of the region that a read has found: by its contents (R176). -/
theorem Stored.readState_iff {α : Type} (x : Stored α) :
    ((∃ y, x = .image y) → x.readState = .valid) ∧ ((¬∃ y, x = .image y) → x.readState = .invalid) := by
  cases x with
  | image y => exact ⟨fun _ => rfl, fun h => (h ⟨y, rfl⟩).elim⟩
  | unreadable => exact ⟨fun ⟨_, h⟩ => absurd h (by simp), fun _ => rfl⟩

theorem Stored.readState_ne_failed {α : Type} (x : Stored α) : (x.readState == RegionState.failed) = false := by cases x <;> rfl

/-- A read changes the state of its own region alone. -/
theorem readRegion_states (r : Region) (s : State) :
    (∀ q, q ≠ r → (readRegion r s).store.regionState q = s.store.regionState q) ∧
      ((readRegion r s).store.regionState r == .failed) = false := by
  refine ⟨fun q hq => ?_, ?_⟩
  · cases r <;> cases q <;> trivial
  · cases r with
    | cal => exact Stored.readState_ne_failed s.store.cal.stored
    | cfg => exact Stored.readState_ne_failed s.store.cfg.stored
    | price => exact Stored.readState_ne_failed s.store.price.stored
    | totals => exact Stored.readState_ne_failed s.store.totals.stored

theorem readRegion_quiet {s : State} (r : Region) (hm : s.power.mode = .loading) (hr : s.store.regionState r = .unread) :
    ReadsQuietly s (readRegion r s) := by
  have hc (q : Region) : ((readRegion r s).store.regionState q == .failed) = (s.store.regionState q == .failed) := by
    obtain ⟨hother, hown⟩ := readRegion_states r s
    by_cases hq : q = r
    · rw [hq, hown, hr]
      rfl
    · rw [hother q hq]
  cases r with
  | cal => exact ⟨rfl, rfl, rfl, rfl, fun _ => ⟨rfl, rfl⟩, rfl, ⟨rfl, rfl⟩, hm, rfl, rfl, hc⟩
  | cfg => exact ⟨rfl, rfl, rfl, rfl, fun i => by cases i <;> exact ⟨rfl, rfl⟩, rfl, ⟨rfl, rfl⟩, hm, rfl, rfl, hc⟩
  | price => exact ⟨rfl, rfl, rfl, rfl, fun _ => ⟨rfl, rfl⟩, rfl, ⟨rfl, rfl⟩, hm, rfl, rfl, hc⟩
  | totals => exact ⟨rfl, rfl, rfl, rfl, fun _ => ⟨rfl, rfl⟩, rfl, ⟨rfl, rfl⟩, hm, rfl, rfl, hc⟩

/-- The read that comes next is the whole event; another is none (R176). -/
theorem Settled.regionRead_next {s : State} (h : Settled s) (r : Region) :
    (s.power.mode = .loading → s.store.nextRead = some r → exec (.regionRead r) s = .next (readRegion r s)) ∧
      (¬(s.power.mode = .loading ∧ s.store.nextRead = some r) → exec (.regionRead r) s = .next s) := by
  have hx : exec (.regionRead r) s =
      event (fun s => if s.power.mode = .loading ∧ s.store.nextRead = some r then readRegion r s else s) s := rfl
  refine ⟨fun hm hn => ?_, fun hn => ?_⟩
  · rw [hx, event_next, if_pos ⟨hm, hn⟩, h.settle_read (readRegion_quiet r hm ((Store.nextRead_iff _ _).mp hn).1)]
  · rw [hx]
    exact h.event_none (if_neg hn)

theorem readCfg_only (s : State) :
    OnlyChanges [.params, .grades, .classes, .power, .fill .a, .fill .b, .store] s (readCfg s) := by
  intro b hb
  cases b with
  | fill i => cases i <;> simp at hb
  | params => simp at hb
  | grades => simp at hb
  | classes => simp at hb
  | power => simp at hb
  | store => simp at hb
  | _ => rfl

theorem readPrice_only (s : State) : OnlyChanges [.prices, .store] s (readPrice s) :=
  ((setStore_only s _).mono (by simp)).step (setPrices_only _ _) (by simp)

theorem readTotalsRegion_only (s : State) : OnlyChanges [.register, .store] s (readTotalsRegion s) :=
  ((setStore_only s _).mono (by simp)).step (setRegister_only _ _) (by simp)

/-- The channel of a meter that a calibration has been loaded into. -/
theorem readCal_meter {s : State} {y : CalImage}
    (h : y = match s.store.cal.stored with
      | .image x => x
      | .unreadable => { meters := PerSide.both (PerProduct.both Calibration.default), audit := 0 }) (m : Meter) :
    (readCal s).meter m = loadCalibration (s.meter m) ((y.meters.get m.side).get m.product) ∧ (readCal s).store.audit = y.audit := by
  subst h
  rcases m with ⟨i, p⟩
  cases i <;> cases p <;> exact ⟨rfl, rfl⟩

end Sys2Proof.Machine

namespace Sys2Proof.Machine

open Sys2Proof

/-! ### The saved records come back -/

/-- The records of a slot's save; none without one. -/
def SlotContents.records : SlotContents → List SaleRecord
  | .saved q => q
  | .empty | .cutShort => []

/-- The operations that the examination of a slot queues. -/
def SlotContents.erases (c : SlotContents) (i : Side) : List SaveOp :=
  match c with
  | .empty => []
  | .saved _ | .cutShort => [{ kind := .erase, side := i }]

/-- A side's queue after the examination of its slot. -/
def SlotContents.queueAfter (c : SlotContents) (q : List SaleRecord) : List SaleRecord :=
  match c with
  | .saved r => restoreOwed r
  | .empty | .cutShort => q

theorem SaleRecord.owed_iff (r : SaleRecord) : r.owed = true ↔ r.ended = .powerFail ∧ r.flags.restored = false := by
  unfold SaleRecord.owed
  simp

theorem joinJob_kinds {k : JobKind} {b : Bool} {w : List WaitingJob} {j : WaitingJob} (h : j ∈ w) :
    ∃ x ∈ joinJob k b w, x.kind = j.kind := by
  induction w with
  | nil => exact absurd h (by simp)
  | cons y w ih =>
    unfold joinJob
    rcases List.mem_cons.mp h with rfl | hw
    · split
      · exact ⟨_, List.mem_cons_self, rfl⟩
      · exact ⟨_, List.mem_cons_self, rfl⟩
    · split
      · exact ⟨j, List.mem_cons_of_mem _ hw, rfl⟩
      · obtain ⟨x, hx, hk⟩ := ih hw
        exact ⟨x, List.mem_cons_of_mem _ hx, hk⟩

/-- A job of a kind waits. -/
def Store.Awaits (t : Store) (k : JobKind) : Prop := ∃ j ∈ t.waiting, j.kind = k

theorem queueJob_awaits (k : JobKind) (s : State) : (queueJob k s).store.Awaits k := by
  obtain ⟨j, hj, hk, -⟩ := joinJob_mem k false s.store.waiting
  exact ⟨j, hj, hk⟩

theorem queueJob_keepsJob {k k' : JobKind} {s : State} (h : s.store.Awaits k') : (queueJob k s).store.Awaits k' := by
  obtain ⟨j, hj, hk⟩ := h
  obtain ⟨x, hx, hxk⟩ := joinJob_kinds (k := k) (b := false) hj
  exact ⟨x, hx, hxk.trans hk⟩

theorem Store.queueErase_joins {t : Store} {i : Side} (hs : t.saving = none) (hw : ({ kind := .erase, side := i } : SaveOp) ∉ t.saveWaiting) :
    t.queueErase i = { t with saveWaiting := t.saveWaiting ++ [{ kind := .erase, side := i }] } := by
  unfold Store.queueErase
  refine if_neg (not_or.mpr ⟨?_, hw⟩)
  unfold Store.eraseRunning
  rw [hs]
  exact Bool.false_ne_true

/-- The store with a slot read (R180). -/
def Store.slotRead (t : Store) (i : Side) : Store := { t with slots := t.slots.set i (t.slots.get i).read }

/-- What both examinations of the slots, and the raise of the stack depth, leave of the store (R104, R105). -/
structure StoreSame (s t : Store) : Prop where
  running : t.running = s.running
  saving : t.saving = s.saving
  cells : t.cal = s.cal ∧ t.cfg = s.cfg ∧ t.price = s.price ∧ t.totals = s.totals ∧ t.cfgDefaults = s.cfgDefaults
  jobs : ∀ k, s.Awaits k → t.Awaits k

theorem StoreSame.refl (s : Store) : StoreSame s s := ⟨rfl, rfl, ⟨rfl, rfl, rfl, rfl, rfl⟩, fun _ h => h⟩

theorem StoreSame.trans {s t u : Store} (h : StoreSame s t) (h' : StoreSame t u) : StoreSame s u := by
  obtain ⟨a, b, c, d, e⟩ := h.cells
  obtain ⟨a', b', c', d', e'⟩ := h'.cells
  exact ⟨h'.running.trans h.running, h'.saving.trans h.saving,
    ⟨a'.trans a, b'.trans b, c'.trans c, d'.trans d, e'.trans e⟩, fun k x => h'.jobs k (h.jobs k x)⟩

theorem queueJob_same (k : JobKind) (s : State) : StoreSame s.store (queueJob k s).store :=
  ⟨rfl, rfl, ⟨rfl, rfl, rfl, rfl, rfl⟩, fun _ => queueJob_keepsJob⟩

theorem Store.slotRead_same (t : Store) (i : Side) : StoreSame t (t.slotRead i) := ⟨rfl, rfl, ⟨rfl, rfl, rfl, rfl, rfl⟩, fun _ h => h⟩

/-- What the examination of a side's slot does (R104, R105). -/
structure Examined (i : Side) (s t : State) : Prop where
  same : StoreSame s.store t.store
  erases : t.store.saveWaiting = s.store.saveWaiting ++ (s.store.slots.get i).contents.erases i
  slots : t.store.slots = s.store.slots.set i (s.store.slots.get i).read
  owed : (s.store.slots.get i).contents.records.any SaleRecord.owed = true → t.store.Awaits .totalsWrite
  queues : t.register.queues =
    s.register.queues.set i ((s.store.slots.get i).contents.queueAfter (s.register.queues.get i))
  totals : t.register.totals = s.register.totals.addOwed (s.store.slots.get i).contents.records
  keeps : s.link.Keeps t.link
  room : ∀ k, Room (k + 1) s → Room k t
  lost : (s.store.slots.get i).contents = .cutShort → ∀ k, Room (k + 1) s → t.link.tells (.saveLost i)
  changes : t.changes = s.changes

/-- The state in which a slot that has been read is examined further. -/
def slotReadState (i : Side) (s : State) : State := s.setStore (s.store.slotRead i)

theorem examineSlot_empty {i : Side} {s : State} (h : (s.store.slots.get i).contents = .empty) :
    examineSlot i s = slotReadState i s := by
  have hc : (s.store.slots.get i).read.contents = .empty := h
  unfold examineSlot
  dsimp only
  rw [hc]
  rfl

theorem examineSlot_saved {i : Side} {s : State} {q : List SaleRecord} (h : (s.store.slots.get i).contents = .saved q) :
    examineSlot i s = restoreRecords i q (slotReadState i s) := by
  have hc : (s.store.slots.get i).read.contents = .saved q := h
  unfold examineSlot
  dsimp only
  rw [hc]
  rfl

theorem examineSlot_cutShort {i : Side} {s : State} (h : (s.store.slots.get i).contents = .cutShort) :
    examineSlot i s = notify (.saveLost i) ((slotReadState i s).setStore ((s.store.slotRead i).queueErase i)) := by
  have hc : (s.store.slots.get i).read.contents = .cutShort := h
  unfold examineSlot
  dsimp only
  rw [hc]
  rfl

/-- The records of a save in their queue, before the TOTALS_WRITE of owed ones (R104, R113). -/
def restoredState (i : Side) (q : List SaleRecord) (s : State) : State :=
  let v := (s.setRegister { s.register with
    queues := s.register.queues.set i (restoreOwed q), totals := s.register.totals.addOwed q }).setStore (s.store.queueErase i)
  v.setDisplay i { v.display.get i with
    hold :=
      match q.getLast? with
      | some r => some { money := r.money, volume := r.volume, price := r.price, grade := r.grade.number }
      | none => (v.display.get i).hold }

theorem restoredState_store (i : Side) (q : List SaleRecord) (s : State) : (restoredState i q s).store = s.store.queueErase i := rfl

theorem restoredState_register (i : Side) (q : List SaleRecord) (s : State) :
    (restoredState i q s).register = { s.register with
      queues := s.register.queues.set i (restoreOwed q), totals := s.register.totals.addOwed q } := rfl

theorem restoredState_link (i : Side) (q : List SaleRecord) (s : State) : (restoredState i q s).link = s.link := rfl

theorem restoredState_changes (i : Side) (q : List SaleRecord) (s : State) : (restoredState i q s).changes = s.changes := rfl

theorem restoreRecords_eq (i : Side) (q : List SaleRecord) (s : State) :
    restoreRecords i q s =
      if q.any SaleRecord.owed then queueJob .totalsWrite (restoredState i q s) else restoredState i q s := rfl

theorem examineSlot_examined {i : Side} {s : State} (hs : s.store.saving = none)
    (hw : ({ kind := .erase, side := i } : SaveOp) ∉ s.store.saveWaiting) : Examined i s (examineSlot i s) := by
  have he : (s.store.slotRead i).queueErase i =
      { s.store.slotRead i with saveWaiting := s.store.saveWaiting ++ [{ kind := .erase, side := i }] } :=
    Store.queueErase_joins (t := s.store.slotRead i) hs hw
  have hsame : StoreSame s.store ((s.store.slotRead i).queueErase i) := by
    rw [he]
    exact ⟨rfl, rfl, ⟨rfl, rfl, rfl, rfl, rfl⟩, fun _ h => h⟩
  rcases hc : (s.store.slots.get i).contents with _ | q | _
  · rw [examineSlot_empty hc]
    refine ⟨Store.slotRead_same _ _, ?_, rfl, ?_, ?_, ?_, .refl _, fun k h => h.mono (by omega), ?_, rfl⟩
    · rw [hc]; exact (List.append_nil _).symm
    · rw [hc]; exact fun h => absurd h (by decide)
    · rw [hc]; exact (PerSide.set_get _ _).symm
    · rw [hc]; rfl
    · rw [hc]; exact fun h => absurd h (by simp)
  · rw [examineSlot_saved hc, restoreRecords_eq]
    generalize hv : restoredState i q (slotReadState i s) = v
    have hst : v.store = (s.store.slotRead i).queueErase i := by rw [← hv, restoredState_store]; rfl
    have hreg : v.register = { s.register with
        queues := s.register.queues.set i (restoreOwed q), totals := s.register.totals.addOwed q } := by
      rw [← hv, restoredState_register]; rfl
    have hlink : v.link = s.link := by rw [← hv, restoredState_link]; rfl
    have hch : v.changes = s.changes := by rw [← hv, restoredState_changes]; rfl
    have ho : q.any SaleRecord.owed = false → Examined i s v := by
      intro hn
      refine ⟨by rw [hst]; exact hsame, ?_, ?_, ?_, ?_, ?_, by rw [hlink]; exact .refl _, fun k h => (h.mono (by omega)).of_link hlink,
        ?_, hch⟩
      · rw [hst, hc]; exact congrArg Store.saveWaiting he
      · rw [hst]; exact congrArg Store.slots he
      · rw [hc]; exact fun h => absurd (hn.symm.trans h) (by decide)
      · rw [hc, hreg]; rfl
      · rw [hc, hreg]; rfl
      · rw [hc]; exact fun h => absurd h (by simp)
    have hj : Examined i s (queueJob .totalsWrite v) := by
      have hq := queueJob_same .totalsWrite v
      rw [hst] at hq
      refine ⟨hsame.trans hq, ?_, ?_, fun _ => queueJob_awaits _ _, ?_, ?_, ?_, fun k h => (h.mono (by omega)).of_link hlink, ?_, hch⟩
      · change v.store.saveWaiting = _
        rw [hst, hc]; exact congrArg Store.saveWaiting he
      · change v.store.slots = _
        rw [hst]; exact congrArg Store.slots he
      · change v.register.queues = _
        rw [hc, hreg]; rfl
      · change v.register.totals = _
        rw [hc, hreg]; rfl
      · change s.link.Keeps v.link
        rw [hlink]; exact .refl _
      · rw [hc]; exact fun h => absurd h (by simp)
    split
    · exact hj
    · rename_i hn
      exact ho (Bool.eq_false_iff.mpr hn)
  · rw [examineSlot_cutShort hc]
    refine ⟨hsame, ?_, ?_, ?_, ?_, ?_, notify_keeps _ _, fun k h => notify_room _ (h.of_link rfl), fun _ k h => ?_, rfl⟩
    · rw [hc]; exact congrArg Store.saveWaiting he
    · exact congrArg Store.slots he
    · rw [hc]; exact fun h => absurd h (by decide)
    · rw [hc]; exact (PerSide.set_get _ _).symm
    · rw [hc]; rfl
    · exact notify_tells (k := k) (s := (slotReadState i s).setStore ((s.store.slotRead i).queueErase i)) _ h

/-! ### The totals of the records that were owed them -/

theorem Totals.foldl_gradeVolume (rs : List SaleRecord) (t : Totals) (g : Grade) :
    (rs.foldl Totals.add t).gradeVolume.get g =
      totalAfter (t.gradeVolume.get g) ((rs.filter (fun r => r.grade = g)).map (fun r => (r.volume : Int))) := by
  induction rs generalizing t with
  | nil => rfl
  | cons r rs ih =>
    rw [List.foldl_cons, ih]
    have ha : (t.add r).gradeVolume.get g = if g = r.grade then addTotal (t.gradeVolume.get r.grade) r.volume else t.gradeVolume.get g :=
      PerGrade.get_set _ _ _ _
    rw [ha]
    by_cases h : r.grade = g
    · subst h
      simp [totalAfter, addTotal, Const.totalModulus]
    · rw [if_neg (Ne.symm h)]
      simp [h]

theorem Totals.foldl_gradeMoney (rs : List SaleRecord) (t : Totals) (g : Grade) (l : Level) :
    ((rs.foldl Totals.add t).gradeMoney.get g).get l =
      totalAfter ((t.gradeMoney.get g).get l) ((rs.filter (fun r => r.grade = g ∧ r.level = l)).map (fun r => (r.money : Int))) := by
  induction rs generalizing t with
  | nil => rfl
  | cons r rs ih =>
    rw [List.foldl_cons, ih]
    have ha : (t.add r).gradeMoney.get g =
        if g = r.grade then
          (t.gradeMoney.get r.grade).set r.level (addTotal ((t.gradeMoney.get r.grade).get r.level) r.money)
        else t.gradeMoney.get g := PerGrade.get_set _ _ _ _
    rw [ha]
    by_cases h : r.grade = g
    · subst h
      rw [if_pos rfl, PerLevel.get_set]
      by_cases hl : r.level = l
      · subst hl
        simp [totalAfter, addTotal, Const.totalModulus]
      · rw [if_neg (Ne.symm hl)]
        simp [hl]
    · rw [if_neg (Ne.symm h)]
      simp [h]

theorem Totals.foldl_meterVolume (rs : List SaleRecord) (t : Totals) (i : Side) :
    ((rs.foldl Totals.add t).meterVolume.get i).lo =
        totalAfter (t.meterVolume.get i).lo ((rs.filter (fun r => r.side = i)).map (fun r => r.lo)) ∧
      ((rs.foldl Totals.add t).meterVolume.get i).hi =
        totalAfter (t.meterVolume.get i).hi ((rs.filter (fun r => r.side = i)).map (fun r => r.hi)) := by
  induction rs generalizing t with
  | nil => exact ⟨rfl, rfl⟩
  | cons r rs ih =>
    have ha : (t.add r).meterVolume.get i =
        if i = r.side then
          { lo := addTotal (t.meterVolume.get r.side).lo r.lo, hi := addTotal (t.meterVolume.get r.side).hi r.hi }
        else t.meterVolume.get i := PerSide.get_set _ _ _ _
    obtain ⟨hlo, hhi⟩ := ih (t.add r)
    rw [List.foldl_cons, hlo, hhi, ha]
    by_cases h : r.side = i
    · subst h
      simp [totalAfter, addTotal, Const.totalModulus]
    · rw [if_neg (Ne.symm h)]
      simp [h]

/-- The owed totals of the records of two queues are added (R97, R104). -/
theorem Totals.addOwed_addedFrom (t : Totals) (p q : List SaleRecord) :
    t.AddedFrom ((t.addOwed p).addOwed q) ((p ++ q).filter SaleRecord.owed) := by
  have e : (t.addOwed p).addOwed q = ((p ++ q).filter SaleRecord.owed).foldl Totals.add t := by
    unfold Totals.addOwed
    rw [List.filter_append, List.foldl_append]
  rw [e]
  exact ⟨fun g => Totals.foldl_gradeVolume _ t g, fun g l => Totals.foldl_gradeMoney _ t g l,
    fun i => (Totals.foldl_meterVolume _ t i).1, fun i => (Totals.foldl_meterVolume _ t i).2⟩

/-! ### Both slots, and the stack depth -/

/-- The length of the longer queue. -/
def Register.longest (g : Register) : Nat := max (g.queues.get .a).length (g.queues.get .b).length

/-- What the examinations and the raise of the stack depth leave (R104, R105). -/
structure Restored (s w : State) : Prop where
  same : StoreSame s.store w.store
  erases : w.store.saveWaiting =
    s.store.saveWaiting ++ (s.store.slots.get .a).contents.erases .a ++ (s.store.slots.get .b).contents.erases .b
  slots : ∀ i, w.store.slots.get i = (s.store.slots.get i).read
  owed : ((s.store.slots.get .a).contents.records ++ (s.store.slots.get .b).contents.records).any SaleRecord.owed = true →
    w.store.Awaits .totalsWrite
  queues : ∀ i, w.register.queues.get i = (s.store.slots.get i).contents.queueAfter (s.register.queues.get i)
  totals : w.register.totals =
    (s.register.totals.addOwed (s.store.slots.get .a).contents.records).addOwed (s.store.slots.get .b).contents.records
  raised : s.params.stackDepth < w.register.longest →
    w.params = { s.params with stackDepth := w.register.longest } ∧ w.store.Awaits .cfgWrite
  stands : w.register.longest ≤ s.params.stackDepth → w.params = s.params
  keeps : s.link.Keeps w.link
  room : ∀ k, Room (k + 2) s → Room k w
  lost : ∀ i, (s.store.slots.get i).contents = .cutShort → ∀ k, Room (k + 2) s → w.link.tells (.saveLost i)
  changes : w.changes = s.changes

theorem SlotContents.erases_other (c : SlotContents) : ({ kind := .erase, side := .b } : SaveOp) ∉ c.erases .a := by
  cases c <;> simp [SlotContents.erases]

/-- What the raise of the stack depth does (R104). -/
theorem raiseDepth_spec (s : State) :
    StoreSame s.store (raiseDepth s).store ∧ (raiseDepth s).store.saveWaiting = s.store.saveWaiting ∧
      (raiseDepth s).store.slots = s.store.slots ∧ (raiseDepth s).register = s.register ∧ (raiseDepth s).link = s.link ∧
      (raiseDepth s).changes = s.changes ∧
      (s.params.stackDepth < s.register.longest →
        (raiseDepth s).params = { s.params with stackDepth := s.register.longest } ∧ (raiseDepth s).store.Awaits .cfgWrite) ∧
      (s.register.longest ≤ s.params.stackDepth → (raiseDepth s).params = s.params) := by
  unfold raiseDepth
  dsimp only
  split
  · rename_i h
    exact ⟨queueJob_same _ _, rfl, rfl, rfl, rfl, rfl, fun _ => ⟨rfl, queueJob_awaits _ _⟩, fun h' => absurd h (not_lt.mpr h')⟩
  · rename_i h
    exact ⟨.refl _, rfl, rfl, rfl, rfl, rfl, fun h' => absurd h' h, fun _ => rfl⟩

theorem slots_restored {s : State} (hsv : s.store.saving = none) (hsw : s.store.saveWaiting = []) :
    Restored s (raiseDepth (examineSlot .b (examineSlot .a s))) := by
  have hA : Examined .a s (examineSlot .a s) := examineSlot_examined hsv (by rw [hsw]; simp)
  have hup : (examineSlot .a s).params = s.params := examineSlot_only .a s .params (by simp)
  generalize examineSlot .a s = u at hA hup
  have hB : Examined .b u (examineSlot .b u) := by
    refine examineSlot_examined (hA.same.saving.trans hsv) ?_
    rw [hA.erases, hsw, List.nil_append]
    exact SlotContents.erases_other _
  have hvp : (examineSlot .b u).params = u.params := examineSlot_only .b u .params (by simp)
  generalize examineSlot .b u = v at hB hvp
  obtain ⟨dsame, dsw, dslots, dreg, dlink, dch, draised, dstands⟩ := raiseDepth_spec v
  have hub : u.store.slots.get .b = s.store.slots.get .b := by rw [hA.slots]; rfl
  have hslots (i : Side) : (raiseDepth v).store.slots.get i = (s.store.slots.get i).read := by
    rw [dslots, hB.slots, hub, hA.slots]
    cases i <;> rfl
  have hparams : v.params = s.params := hvp.trans hup
  have hqb : u.register.queues.get .b = s.register.queues.get .b := by
    rw [hA.queues]
    exact PerSide.get_set_other _ _ (by decide)
  have hqueues (i : Side) : (raiseDepth v).register.queues.get i =
      (s.store.slots.get i).contents.queueAfter (s.register.queues.get i) := by
    rw [dreg, hB.queues, hub, hqb]
    cases i with
    | a => rw [PerSide.get_set_other _ _ (by decide), hA.queues, PerSide.get_set_same]
    | b => rw [PerSide.get_set_same]
  refine ⟨(hA.same.trans hB.same).trans dsame, ?_, hslots, fun h => ?_, hqueues, ?_, fun h => ?_, fun h => ?_, ?_,
    fun k h => ?_, fun i h k hr => ?_, dch.trans (hB.changes.trans hA.changes)⟩
  · rw [dsw, hB.erases, hA.erases, hub]
  · rw [List.any_append, Bool.or_eq_true] at h
    rcases h with h | h
    · exact dsame.jobs _ (hB.same.jobs _ (hA.owed h))
    · exact dsame.jobs _ (hB.owed (by rw [hub]; exact h))
  · rw [dreg, hB.totals, hub, hA.totals]
  · rw [dreg] at h ⊢
    rw [← hparams] at h ⊢
    exact draised h
  · rw [dreg] at h
    rw [← hparams] at h ⊢
    exact dstands h
  · rw [dlink]
    exact hA.keeps.trans hB.keeps
  · exact (hB.room k (hA.room (k + 1) h)).of_link dlink
  · rw [dlink]
    cases i with
    | a => exact hB.keeps.tells _ (hA.lost h (k + 1) hr)
    | b => exact hB.lost (by rw [hub]; exact h) k (hA.room (k + 1) hr)

end Sys2Proof.Machine

namespace Sys2Proof.Machine

open Sys2Proof

/-! ### What the Power Sequencer carries through

The bring-ups and the night entry that end LOADING leave the store, the notices that are owed, and what LOADING has found of the nozzles. -/

/-- What they leave of a side's fill: a side outside a fill stays outside one, and one that NIGHT has closed stays so. -/
structure FillKept (f g : Fill) : Prop where
  nozzles : g.nozzles = f.nozzles
  counted : g.counted = f.counted
  calibration : g.closures.calibration = f.closures.calibration
  idle : f.state.isFill = false → g.state.isFill = false
  shut : f.state = .closed → f.closures.night = true → g.state = .closed ∧ g.closures.night = true

theorem FillKept.refl (f : Fill) : FillKept f f := ⟨rfl, rfl, rfl, id, fun a b => ⟨a, b⟩⟩

theorem FillKept.trans {f g h : Fill} (x : FillKept f g) (y : FillKept g h) : FillKept f h :=
  ⟨y.nozzles.trans x.nozzles, y.counted.trans x.counted, y.calibration.trans x.calibration, fun i => y.idle (x.idle i), fun a b => by
    obtain ⟨c, d⟩ := x.shut a b
    exact y.shut c d⟩

/-- What is carried through an operation that queues at most `k` notices and changes no mode. -/
structure Carries (k : Nat) (s t : State) : Prop where
  store : t.store = s.store
  mode : t.power.mode = s.power.mode
  fill : ∀ i, FillKept (s.fill.get i) (t.fill.get i)
  keeps : s.link.Keeps t.link
  room : ∀ n, Room (n + k) s → Room n t
  changes : ∃ xs, t.changes = s.changes ++ xs ∧ xs.findSome? PowerChange.modeCause = none

theorem Carries.refl (s : State) : Carries 0 s s :=
  ⟨rfl, rfl, fun _ => .refl _, .refl _, fun _ h => h, [], (List.append_nil _).symm, rfl⟩

theorem Carries.trans {j k : Nat} {s t u : State} (h : Carries j s t) (h' : Carries k t u) : Carries (j + k) s u := by
  obtain ⟨xs, hx, hxn⟩ := h.changes
  obtain ⟨ys, hy, hyn⟩ := h'.changes
  refine ⟨h'.store.trans h.store, h'.mode.trans h.mode, fun i => (h.fill i).trans (h'.fill i), h.keeps.trans h'.keeps,
    fun n hr => h'.room n (h.room (n + k) (hr.mono (by omega))), xs ++ ys, by rw [hy, hx, List.append_assoc], ?_⟩
  rw [List.findSome?_append, hxn, hyn]
  rfl

theorem Carries.mono {j k : Nat} {s t : State} (h : Carries j s t) (hk : j ≤ k) : Carries k s t :=
  ⟨h.store, h.mode, h.fill, h.keeps, fun n hr => h.room n (hr.mono (by omega)), h.changes⟩

theorem Carries.ite {p : Prop} [Decidable p] {k : Nat} {s t u : State} (h : Carries k s t) (h' : Carries k s u) :
    Carries k s (if p then t else u) := by
  split
  · exact h
  · exact h'

/-- An operation on none of the blocks in question carries everything. -/
theorem Carries.of_only {bs : List Block} {s t : State} (h : OnlyChanges bs s t) (hc : t.changes = s.changes)
    (hm : t.power.mode = s.power.mode) (hs : Block.store ∉ bs := by simp) (hl : Block.link ∉ bs := by simp)
    (ha : Block.fill .a ∉ bs := by simp) (hb : Block.fill .b ∉ bs := by simp) : Carries 0 s t := by
  have hf (i : Side) : t.fill.get i = s.fill.get i := by
    cases i with
    | a => exact h (.fill .a) ha
    | b => exact h (.fill .b) hb
  refine ⟨h .store hs, hm, fun i => by rw [hf]; exact .refl _, by rw [h.link_eq hl]; exact .refl _, fun n hr => hr.of_link (h.link_eq hl),
    [], by rw [hc, List.append_nil], rfl⟩

/-! ### The operations on a side's power, display and permit -/

theorem editSide_carries (i : Side) (f : SidePower → SidePower) (s : State) : Carries 0 s (editSide i f s) :=
  .of_only (editSide_only i f s) rfl rfl

/-- A change that is to be told, other than of the mode. -/
theorem addStage_carries (n : Notice) (s : State) : Carries 0 s (s.addChange (.stage n)) :=
  ⟨rfl, rfl, fun _ => .refl _, .refl _, fun _ h => h, [.stage n], rfl, rfl⟩

theorem setStage_carries (i : Side) (p : PowerState) (c : PowerCause) (f : SidePower → SidePower) (s : State) :
    Carries 0 s (setStage i p c f s) := (editSide_carries i _ s).trans (addStage_carries _ _)

theorem clearAttended_carries (i : Side) (s : State) : Carries 0 s (clearAttended i s) :=
  ((editSide_carries i _ s).trans (addStage_carries _ _)).ite (.refl s)

theorem setDisplay_carries (i : Side) (d : Display) (s : State) : Carries 0 s (s.setDisplay i d) :=
  .of_only (setDisplay_only s i d) rfl rfl

theorem updateHeat_changes (i : Side) (s : State) : (updateHeat i s).changes = s.changes := by
  unfold updateHeat
  dsimp only
  split <;> rfl

theorem updateHeat_carries (i : Side) (s : State) : Carries 0 s (updateHeat i s) :=
  .of_only (updateHeat_only i s) (updateHeat_changes i s) (congrArg Power.mode (updateHeat_only i s .power (by simp)))

theorem setStageHeat_carries (i : Side) (on : Bool) (s : State) : Carries 0 s (setStageHeat i on s) :=
  (setDisplay_carries i _ s).trans (updateHeat_carries i _)

theorem setPower_carries (s : State) (p : Power) (h : p.mode = s.power.mode := by rfl) : Carries 0 s (s.setPower p) :=
  .of_only (setPower_only s p) rfl h

theorem leavePermit_carries (i : Side) (s : State) : Carries 0 s (leavePermit i s) := by
  unfold leavePermit
  exact Carries.ite (setPower_carries s _) (setPower_carries s _)

theorem joinPermit_carries (i : Side) (s : State) : Carries 0 s (joinPermit i s) := setPower_carries s _

/-! ### The operations on a side's fill -/

/-- An operation on the fill of one side. -/
theorem Carries.of_fill {bs : List Block} {i : Side} {k : Nat} {s t : State} (h : OnlyChanges bs s t) (hc : t.changes = s.changes)
    (hf : FillKept (s.fill.get i) (t.fill.get i)) (hk : s.link.Keeps t.link) (hr : ∀ n, Room (n + k) s → Room n t)
    (hs : Block.store ∉ bs := by simp) (hp : Block.power ∉ bs := by simp) (ho : ∀ j, j ≠ i → Block.fill j ∉ bs := by simp) :
    Carries k s t := by
  refine ⟨h .store hs, congrArg Power.mode (h .power hp), fun j => ?_, hk, hr, [], by rw [hc, List.append_nil], rfl⟩
  by_cases hj : j = i
  · rw [hj]; exact hf
  · have e : t.fill.get j = s.fill.get j := h (.fill j) (ho j hj)
    rw [e]
    exact .refl _

theorem enterState_changes (i : Side) (new : SideState) (s : State) : (enterState i new s).changes = s.changes := by
  by_cases h : s.sideState i = new
  · rw [enterState_same h]
  · rw [enterState_other h]
    rfl

theorem removeWaiting_changes (i : Side) (why : RemovalReason) (tell : Bool) (s : State) :
    (removeWaiting i why tell s).changes = s.changes := by
  unfold removeWaiting
  dsimp only
  split
  · split
    · rfl
    · split <;> rfl
  · rfl

theorem removeWaiting_room {n : Nat} {i : Side} {why : RemovalReason} {tell : Bool} {s : State} (h : Room (n + 1) s) :
    Room n (removeWaiting i why tell s) := by
  unfold removeWaiting
  dsimp only
  split
  · split
    · exact h.mono (by omega)
    · split <;> exact notify_room (s := s.setFill i _) _ h
  · exact h.mono (by omega)

theorem Fill.withoutWaiting_kept (f : Fill) : FillKept f f.withoutWaiting := by
  unfold Fill.withoutWaiting
  split
  · exact ⟨rfl, rfl, rfl, id, fun a b => ⟨a, b⟩⟩
  · exact .refl f

theorem removeWaiting_carries (i : Side) (why : RemovalReason) (tell : Bool) (s : State) : Carries 1 s (removeWaiting i why tell s) := by
  refine Carries.of_fill (i := i) (removeWaiting_only i why tell s) (removeWaiting_changes i why tell s) ?_
    (removeWaiting_keeps i why tell s) (fun n h => removeWaiting_room h) (by simp) (by simp) (by simp)
  rw [removeWaiting_fill]
  exact Fill.withoutWaiting_kept _

theorem setFill_carries {i : Side} {f : Fill} {s : State} (h : FillKept (s.fill.get i) f) : Carries 0 s (s.setFill i f) :=
  Carries.of_fill (i := i) (setFill_only s i f) rfl (by rw [State.setFill_fill, PerSide.get_set_same]; exact h) (.refl _)
    (fun _ hr => hr.of_link rfl) (by simp) (by simp) (by simp)

/-- A side goes to a state outside a fill, and does not leave CLOSED while NIGHT closes it. -/
theorem enterState_carries {i : Side} {new : SideState} {s : State} (hn : new.isFill = false)
    (hc : new = .closed ∨ (s.sideState i = .closed → (s.fill.get i).closures.night = false)) : Carries 0 s (enterState i new s) := by
  refine Carries.of_fill (i := i) (enterState_only i new s) (enterState_changes i new s) ?_ (by rw [enterState_link]; exact .refl _)
    (fun _ hr => hr.of_link (enterState_link i new s)) (by simp) (by simp) (by simp)
  by_cases h : s.sideState i = new
  · rw [enterState_same h]
    exact .refl _
  · rw [enterState_fill h]
    refine ⟨rfl, rfl, rfl, fun _ => hn, fun hs hnight => ?_⟩
    rcases hc with hc | hc
    · exact ⟨hc, hnight⟩
    · exact absurd (hnight.symm.trans (hc hs)) (by decide)

theorem Fill.impliedState_isFill (f : Fill) : f.impliedState.isFill = false := by
  unfold Fill.impliedState
  split <;> rfl

theorem closeIfWaiting_carries (i : Side) (s : State) : Carries 1 s (closeIfWaiting i s) :=
  Carries.ite ((Carries.refl s).mono (k := 1) (by omega)) ((removeWaiting_carries i _ _ s).trans (enterState_carries rfl (.inl rfl)))

theorem addNight_carries (i : Side) (s : State) : Carries 1 s (addClosure i .night s) :=
  by
  have h : Carries 0 s (s.setFill i { s.fill.get i with closures := (s.fill.get i).closures.add .night }) :=
    setFill_carries ⟨rfl, rfl, rfl, id, fun a _ => ⟨a, rfl⟩⟩
  exact (h.trans (closeIfWaiting_carries i _)).mono (by omega)

/-- NIGHT stands in the set of a side while another reason leaves it. -/
theorem setClosures_carries {i : Side} {c : Closures} {s : State} (hn : c.night = (s.fill.get i).closures.night)
    (hc : c.calibration = (s.fill.get i).closures.calibration) : Carries 0 s (setClosures i c s) := by
  have h1 : Carries 0 s (s.setFill i { s.fill.get i with closures := c }) :=
    setFill_carries ⟨rfl, rfl, hc, id, fun a b => ⟨a, hn.trans b⟩⟩
  unfold setClosures
  dsimp only
  split
  · rename_i h
    refine h1.trans (enterState_carries (Fill.impliedState_isFill _) (.inr (fun _ => ?_)))
    rw [State.setFill_fill, PerSide.get_set_same]
    have he : c = Closures.empty := by simpa [Closures.isEmpty] using h.2
    change c.night = false
    rw [he]
    rfl
  · exact h1

theorem withdrawWaiting_carries (i : Side) (why : RemovalReason) (tell : Bool) (s : State) :
    Carries 1 s (withdrawWaiting i why tell s) := by
  unfold withdrawWaiting
  dsimp only
  split
  · rename_i h
    refine (removeWaiting_carries i why tell s).trans (enterState_carries (Fill.impliedState_isFill _) (.inr (fun hc => ?_)))
    exact absurd (h.2.symm.trans hc) (by decide)
  · exact removeWaiting_carries i why tell s

/-! ### The operations on a side's port -/

theorem notify_carries (n : Notice) (s : State) : Carries 1 s (notify n s) :=
  ⟨rfl, rfl, fun _ => .refl _, notify_keeps n s, fun _ h => notify_room n h, [], (List.append_nil _).symm, rfl⟩

theorem setPort_carries (i : Side) (p : Port) (s : State) : Carries 0 s (s.setPort i p) := .of_only (setPort_only s i p) rfl rfl

theorem changePort_carries (i : Side) (r : PortReason) (p : Port) (s : State) : Carries 1 s (changePort i r p s) :=
  (setPort_carries i p s).trans (notify_carries _ _)

theorem leavePort_carries (i : Side) (r : PortReason) (change : Port → Port) (s : State) : Carries 2 s (leavePort i r change s) := by
  have h0 : Carries 0 s { s with conversations := dropPort i s.conversations } :=
    ⟨rfl, rfl, fun _ => .refl _, .refl _, fun _ h => h, [], (List.append_nil _).symm, rfl⟩
  refine Carries.ite ?_ ((changePort_carries i r _ s).mono (by omega))
  exact ((h0.trans (changePort_carries i r _ _)).mono (k := 1) (by omega)).trans
    (Carries.ite (withdrawWaiting_carries i _ _ _) ((Carries.refl _).mono (k := 1) (by omega)))

theorem disablePort_carries (i : Side) (r : PortReason) (s : State) : Carries 2 s (disablePort i r s) := by
  unfold disablePort
  split
  · exact (Carries.refl s).mono (by omega)
  · exact (Carries.refl s).mono (by omega)
  all_goals exact leavePort_carries i r _ s

/-- A port that has been disabled is not disabled again (R129). -/
theorem disablePort_stopped {i : Side} {r : PortReason} {s : State}
    (h : (s.ports.get i).state = .disabled ∨ (s.ports.get i).state = .tampered) : disablePort i r s = s := by
  unfold disablePort
  rcases h with h | h <;> rw [h]

theorem withdrawWaiting_portState (i : Side) (why : RemovalReason) (tell : Bool) (s : State) :
    ((withdrawWaiting i why tell s).ports.get i).state = (s.ports.get i).state := by
  have hr : ((removeWaiting i why tell s).ports.get i).state = (s.ports.get i).state := by
    unfold removeWaiting
    dsimp only
    split
    · split
      · rfl
      · split
        · unfold pendAuthState
          rw [State.setPort_ports, PerSide.get_set_same]
          rfl
        · rfl
    · rfl
  unfold withdrawWaiting
  dsimp only
  split
  · have e : (enterImplied i (removeWaiting i why tell s)).ports.get i = (removeWaiting i why tell s).ports.get i :=
      enterImplied_only i _ (.port i) (by simp)
    rw [e, hr]
  · exact hr

theorem leavePort_portState (i : Side) (r : PortReason) (change : Port → Port) (s : State) (st : PortState)
    (h : ∀ p, (change p).state = st) : ((leavePort i r change s).ports.get i).state = st := by
  have hc (p : Port) (u : State) : ((changePort i r (change p) u).ports.get i).state = st :=
    (congrArg Port.state (PerSide.get_set_same _ _ _)).trans (h p)
  unfold leavePort
  dsimp only
  split
  · unfold readerLost
    split
    · rw [withdrawWaiting_portState]
      exact hc _ _
    · exact hc _ _
  · exact hc _ _

theorem disablePort_stops (i : Side) (r : PortReason) (s : State) :
    ((disablePort i r s).ports.get i).state = .disabled ∨ ((disablePort i r s).ports.get i).state = .tampered := by
  unfold disablePort
  split
  · rename_i h; exact .inl h
  · rename_i h; exact .inr h
  all_goals exact .inl (leavePort_portState i r _ s .disabled (fun _ => rfl))

/-! ### The stages of a bring-up -/

/-- A stage of a bring-up carries everything and leaves the bring-up marks. -/
structure Advances (s t : State) : Prop where
  carries : Carries 0 s t
  marks : ∀ j, (t.sidePower.get j).bringUp = (s.sidePower.get j).bringUp

theorem Advances.refl (s : State) : Advances s s := ⟨.refl s, fun _ => rfl⟩

theorem Advances.trans {s t u : State} (h : Advances s t) (h' : Advances t u) : Advances s u :=
  ⟨h.carries.trans h'.carries, fun j => (h'.marks j).trans (h.marks j)⟩

theorem Advances.ite {p : Prop} [Decidable p] {s t u : State} (h : Advances s t) (h' : Advances s u) :
    Advances s (if p then t else u) := by
  split
  · exact h
  · exact h'

theorem Advances.of_only {bs : List Block} {s t : State} (h : OnlyChanges bs s t) (hc : Carries 0 s t)
    (ha : Block.sidePower .a ∉ bs := by simp) (hb : Block.sidePower .b ∉ bs := by simp) : Advances s t := by
  refine ⟨hc, fun j => ?_⟩
  cases j with
  | a => exact congrArg SidePower.bringUp (h (.sidePower .a) ha)
  | b => exact congrArg SidePower.bringUp (h (.sidePower .b) hb)

theorem editSide_marks {i : Side} {f : SidePower → SidePower} (s : State) (h : ∀ p, (f p).bringUp = p.bringUp) (j : Side) :
    ((editSide i f s).sidePower.get j).bringUp = (s.sidePower.get j).bringUp := by
  unfold editSide
  rw [State.setSidePower_sidePower, PerSide.get_set]
  split
  · rename_i hj; rw [h, hj]
  · rfl

theorem editSide_advances (i : Side) (f : SidePower → SidePower) (s : State) (h : ∀ p, (f p).bringUp = p.bringUp := by exact fun _ => rfl) :
    Advances s (editSide i f s) := ⟨editSide_carries i f s, editSide_marks s h⟩

theorem setStage_advances (i : Side) (p : PowerState) (c : PowerCause) (f : SidePower → SidePower) (s : State)
    (h : ∀ p, (f p).bringUp = p.bringUp := by exact fun _ => rfl) : Advances s (setStage i p c f s) :=
  ⟨setStage_carries i p c f s, editSide_marks (i := i) (f := fun q => { f q with state := p }) s h⟩

theorem setDisplay_advances (i : Side) (d : Display) (s : State) : Advances s (s.setDisplay i d) :=
  .of_only (setDisplay_only s i d) (setDisplay_carries i d s)

theorem setStageHeat_advances (i : Side) (on : Bool) (s : State) : Advances s (setStageHeat i on s) :=
  .of_only (setStageHeat_only i on s) (setStageHeat_carries i on s)

theorem setPower_advances (s : State) (p : Power) (h : p.mode = s.power.mode := by rfl) : Advances s (s.setPower p) :=
  .of_only (setPower_only s p) (setPower_carries s p h)

theorem enterCheck_advances (i : Side) (c : PowerCause) (s : State) : Advances s (enterCheck i c s) := by
  unfold enterCheck
  extract_lets s1
  exact ((setStage_advances i _ c _ s).trans (setDisplay_advances i _ s1)).trans (setDisplay_advances i _ _)

theorem enterHeat_advances (i : Side) (s : State) : Advances s (enterHeat i s) := by
  unfold enterHeat
  extract_lets s1
  have h1 : Advances s s1 := setStage_advances i _ _ _ s
  exact (h1.trans (enterCheck_advances i _ s1)).ite ((h1.trans (setStageHeat_advances i _ s1)).trans (editSide_advances i _ _))

theorem takeSupplyGood_advances (i : Side) (s : State) : Advances s (takeSupplyGood i s) := by
  unfold takeSupplyGood
  extract_lets w s1 s2
  have h1 : Advances s s1 := .of_only (setClosures_only i _ s) (setClosures_carries rfl rfl)
  have h2 : Advances s s2 := ((h1.trans (setDisplay_advances i _ s1)).trans (setDisplay_advances i _ _)).trans
    (.of_only (updateHeat_only i _) (updateHeat_carries i _))
  exact (h2.trans (setPower_advances s2 _)).trans (enterHeat_advances i _)

theorem takePermit_advances (i : Side) (s : State) : Advances s (takePermit i s) := by
  unfold takePermit
  extract_lets w s1
  have h1 : Advances s s1 := (setPower_advances s _).trans (setStage_advances i _ _ _ _)
  exact (h1.trans (takeSupplyGood_advances i s1)).ite h1

theorem grantPermit_advances (s : State) : Advances s (grantPermit s) := by
  unfold grantPermit
  split
  · exact takePermit_advances _ s
  · exact .refl s

/-! ### The end of LOADING: bring-ups -/

/-- A side that a bring-up or the night closes: CLOSED, with NIGHT in its set (R47, R162, R165). -/
def ShutByNight (i : Side) (s : State) : Prop := s.sideState i = .closed ∧ (s.fill.get i).closures.night = true

theorem Carries.shutByNight {k : Nat} {s t : State} (h : Carries k s t) {i : Side} (hs : ShutByNight i s) : ShutByNight i t :=
  (h.fill i).shut hs.1 hs.2

theorem addNight_shuts {i : Side} {s : State} (h : s.filling i = false) : ShutByNight i (addClosure i .night s) :=
  ⟨addClosure_sideState _ h, by rw [addClosure_closures]; rfl⟩

theorem Carries.filling {k : Nat} {s t : State} (h : Carries k s t) {i : Side} (hs : s.filling i = false) : t.filling i = false :=
  (h.fill i).idle hs

/-- What the beginning of a bring-up leaves (R165). -/
theorem beginBringUp_begins {i : Side} {s : State} (h : s.filling i = false) :
    Carries 1 s (beginBringUp i s) ∧ ShutByNight i (beginBringUp i s) ∧ ((beginBringUp i s).sidePower.get i).bringUp = true ∧
      (beginBringUp i s).sidePower.get i.other = s.sidePower.get i.other := by
  have ho : Block.sidePower i.other ∉ bringUpBlocks i := by cases i <;> decide
  have hother : (beginBringUp i s).sidePower.get i.other = s.sidePower.get i.other := beginBringUp_only i s (.sidePower i.other) ho
  generalize hs0 : clearAttended i (editSide i (fun p => { p with cold := false }) s) = s0
  have h0 : Carries 0 s s0 := by rw [← hs0]; exact (editSide_carries i _ s).trans (clearAttended_carries i _)
  generalize hs1 : editSide i (fun p => { p with state := .off, bringUp := true }) s0 = s1
  have h1 : Carries 0 s s1 := by rw [← hs1]; exact h0.trans (editSide_carries i _ s0)
  have hu1 : (s1.sidePower.get i).bringUp = true := by
    rw [← hs1]
    exact congrArg SidePower.bringUp (PerSide.get_set_same _ _ _)
  have h2 : Carries 1 s (addClosure i .night s1) := (h1.trans (addNight_carries i s1)).mono (by omega)
  have hshut : ShutByNight i (addClosure i .night s1) := addNight_shuts (h1.filling h)
  have hu2 : ((addClosure i .night s1).sidePower.get i).bringUp = true := by
    have e : (addClosure i .night s1).sidePower.get i = s1.sidePower.get i := addClosure_only i .night s1 (.sidePower i) (by simp)
    rw [e]
    exact hu1
  have e : beginBringUp i s =
      if ((addClosure i .night s1).sidePower.get i).shutting then addClosure i .night s1 else joinPermit i (addClosure i .night s1) := by
    rw [← hs1, ← hs0]
    rfl
  refine ⟨?_, ?_, ?_, hother⟩
  all_goals rw [e]
  · exact h2.ite ((h2.trans (joinPermit_carries i _)).mono (by omega))
  · split
    · exact hshut
    · exact (joinPermit_carries i _).shutByNight hshut
  · split
    · exact hu2
    · exact hu2

/-- What is left of LOADING when its end has entered `m` (R159). -/
structure LeftLoading (m : PartMode) (s t : State) : Prop where
  store : t.store = s.store
  mode : t.power.mode = m
  fill : ∀ i, FillKept (s.fill.get i) (t.fill.get i)
  shut : ∀ i, s.filling i = false → ShutByNight i t
  keeps : s.link.Keeps t.link
  room : ∀ n, Room (n + 8) s → Room n t
  changes : s.changes = [] → t.changes.findSome? PowerChange.modeCause = some .autostart

theorem wakingEntry_left {s : State} (hf : ∀ i, s.filling i = false) :
    LeftLoading .waking s (wakingEntry .autostart s) ∧ ∀ i, ((wakingEntry .autostart s).sidePower.get i).bringUp = true := by
  generalize hs1 : setMode .waking .autostart (s.setPower { s.power with verification := .none }) = s1
  have hfill1 : s1.fill = s.fill := by rw [← hs1]; rfl
  have hlink1 : s1.link = s.link := by rw [← hs1]; rfl
  have hstore1 : s1.store = s.store := by rw [← hs1]; rfl
  have hmode1 : s1.power.mode = .waking := by rw [← hs1]; rfl
  have hch1 : s1.changes = s.changes ++ [.mode .autostart] := by rw [← hs1]; rfl
  have hf1 (i : Side) : s1.filling i = false := by rw [← hf i]; unfold State.filling State.sideState; rw [hfill1]
  obtain ⟨ha, hashut, haup, -⟩ := beginBringUp_begins (hf1 .a)
  generalize hs2 : beginBringUp .a s1 = s2 at ha hashut haup
  obtain ⟨hb, hbshut, hbup, hbother⟩ := beginBringUp_begins (i := .b) (ha.filling (hf1 .b))
  generalize hs3 : beginBringUp .b s2 = s3 at hb hbshut hbup hbother
  have hg := grantPermit_advances s3
  have hc : Carries 2 s1 (grantPermit s3) := ((ha.trans hb).trans hg.carries).mono (by omega)
  have e : wakingEntry .autostart s = grantPermit s3 := by rw [← hs3, ← hs2, ← hs1]; rfl
  have hup3a : (s3.sidePower.get .a).bringUp = true := (congrArg SidePower.bringUp hbother).trans haup
  obtain ⟨xs, hx, -⟩ := hc.changes
  rw [e]
  refine ⟨⟨hc.store.trans hstore1, hc.mode.trans hmode1, fun i => ?_, fun i _ => ?_, ?_, fun n hr => ?_, fun h => ?_⟩, fun i => ?_⟩
  · rw [← hfill1]; exact hc.fill i
  · cases i with
    | a => exact hg.carries.shutByNight (hb.shutByNight hashut)
    | b => exact hg.carries.shutByNight hbshut
  · rw [← hlink1]; exact hc.keeps
  · exact hc.room n ((hr.mono (by omega)).of_link hlink1)
  · rw [hx, hch1, h]
    rfl
  · rw [hg.marks]
    cases i with
    | a => exact hup3a
    | b => exact hbup

/-! ### The end of LOADING: the night -/

theorem nightClose_carries (i : Side) (s : State) : Carries 2 s (nightClose i s) :=
  (removeWaiting_carries i _ _ s).trans (addNight_carries i _)

theorem nightClose_shuts {i : Side} {s : State} (h : s.filling i = false) : ShutByNight i (nightClose i s) :=
  addNight_shuts ((removeWaiting_carries i _ _ s).filling h)

/-- What a shut writes where no bring-up waits for its end (R162). -/
abbrev shutBlocks (i : Side) : List Block := [.sidePower i, .display i, .arbiter]

/-- The supply of a side whose port has been disabled goes off without a notice (R108, R129). -/
theorem supplyOff_stopped {i : Side} {s : State} (h : (s.ports.get i).state = .disabled ∨ (s.ports.get i).state = .tampered) :
    supplyOff i s = unpowerDisplay i (editSide i (fun p => { p with supplyOn := false, shutting := false }) s) := by
  refine disablePort_stopped ?_
  have e : (unpowerDisplay i (editSide i (fun p => { p with supplyOn := false, shutting := false }) s)).ports.get i = s.ports.get i :=
    (unpowerDisplay_only i _ (.port i) (by simp)).trans (editSide_only i _ s (.port i) (by simp))
  rw [e]
  exact h

theorem unpowerDisplay_carries (i : Side) (s : State) : Carries 0 s (unpowerDisplay i s) :=
  (setDisplay_carries i _ s).trans (updateHeat_carries i _)

/-- The state and the bring-up mark of a side's power stand. -/
def StopKept (i : Side) (s t : State) : Prop :=
  (t.sidePower.get i).state = (s.sidePower.get i).state ∧ (t.sidePower.get i).bringUp = (s.sidePower.get i).bringUp

/-- A shut without a bring-up that waits for its end (R162). -/
theorem beginShut_stopped {i : Side} {s : State} (hp : (s.ports.get i).state = .disabled ∨ (s.ports.get i).state = .tampered)
    (hb : (s.sidePower.get i).bringUp = false) :
    Carries 0 s (beginShut i s) ∧ OnlyChanges (shutBlocks i) s (beginShut i s) ∧ StopKept i s (beginShut i s) := by
  generalize hs1 : editSide i (fun p => { p with shutting := true }) s = s1
  have c1 : Carries 0 s s1 := by rw [← hs1]; exact editSide_carries i _ s
  have o1 : OnlyChanges (shutBlocks i) s s1 := by rw [← hs1]; exact (editSide_only i _ s).mono (by simp)
  have hx : s1.sidePower.get i = { s.sidePower.get i with shutting := true } := by rw [← hs1]; exact PerSide.get_set_same _ _ _
  have hp1 : (s1.ports.get i).state = .disabled ∨ (s1.ports.get i).state = .tampered := by rw [← hs1]; exact hp
  unfold beginShut
  rw [hs1]
  dsimp only
  split
  · split
    · have hoff : darkReport i s1 = unpowerDisplay i (editSide i (fun p => { p with supplyOn := false, shutting := false }) s1) := by
        have hsp : (unpowerDisplay i (editSide i (fun p => { p with supplyOn := false, shutting := false }) s1)).sidePower.get i =
            { s1.sidePower.get i with supplyOn := false, shutting := false } :=
          (unpowerDisplay_only i _ (.sidePower i) (by simp)).trans (PerSide.get_set_same _ _ _)
        unfold darkReport
        rw [supplyOff_stopped hp1, hx]
        dsimp only
        rw [hsp, hx]
        exact (if_pos rfl).trans (if_neg (by dsimp only; rw [hb]; decide))
      rw [hoff]
      refine ⟨(c1.trans (editSide_carries i _ s1)).trans (unpowerDisplay_carries i _),
        (o1.step (editSide_only i _ _) (by simp)).step (unpowerDisplay_only i _) (by simp), ?_⟩
      have hsp : (unpowerDisplay i (editSide i (fun p => { p with supplyOn := false, shutting := false }) s1)).sidePower.get i =
          { s1.sidePower.get i with supplyOn := false, shutting := false } :=
        (unpowerDisplay_only i _ (.sidePower i) (by simp)).trans (PerSide.get_set_same _ _ _)
      unfold StopKept
      rw [hsp, hx]
      exact ⟨rfl, rfl⟩
    · refine ⟨(c1.trans (setDisplay_carries i _ s1)).trans (setDisplay_carries i _ _),
        (o1.step (setDisplay_only _ i _) (by simp)).step (sendDue_only i _) (by simp), ?_⟩
      unfold StopKept
      change (s1.sidePower.get i).state = _ ∧ (s1.sidePower.get i).bringUp = _
      rw [hx]
      exact ⟨rfl, rfl⟩
  · exact ⟨.refl s, .refl _ _, rfl, rfl⟩

/-- A stopped side: OFF, and out of the permit's list (R162). -/
structure Stopped (i : Side) (s t : State) : Prop where
  carries : Carries 2 s t
  off : (t.sidePower.get i).state = .off
  other : t.sidePower.get i.other = s.sidePower.get i.other
  waiting : t.power.waiting = s.power.waiting.filter (· ≠ i)

theorem stopSide_stopped (i : Side) (r : PortReason) (s : State) : Stopped i s (stopSide i r s) := by
  have hio : i.other ≠ i := by cases i <;> decide
  generalize hs1 : setStageHeat i false (disablePort i r s) = s1
  have o1 : OnlyChanges ([.display i, .arbiter] ++ portBlocks i) s s1 := by
    rw [← hs1]
    exact ((disablePort_only i r s).mono (by simp)).step (setStageHeat_only i false _) (by simp)
  have c1 : Carries 2 s s1 := by rw [← hs1]; exact (disablePort_carries i r s).trans (setStageHeat_carries i false _)
  have hp1 : (s1.ports.get i).state = .disabled ∨ (s1.ports.get i).state = .tampered := by
    have e : s1.ports.get i = (disablePort i r s).ports.get i := by
      rw [← hs1]; exact setStageHeat_only i false _ (.port i) (by simp)
    rw [e]
    exact disablePort_stops i r s
  generalize hs2 : editSide i (fun p => { p.stopTimers with state := .off, bringUp := false }) s1 = s2
  have c2 : Carries 2 s s2 := by rw [← hs2]; exact c1.trans (editSide_carries i _ s1)
  have hsp2 : s2.sidePower.get i = { (s1.sidePower.get i).stopTimers with state := .off, bringUp := false } := by
    rw [← hs2]; exact PerSide.get_set_same _ _ _
  have hother2 : s2.sidePower.get i.other = s.sidePower.get i.other := by
    have e : s1.sidePower.get i.other = s.sidePower.get i.other := o1 (.sidePower i.other) (by simp)
    rw [← hs2, ← e]
    exact PerSide.get_set_other _ _ hio
  have hpow2 : s2.power = s.power := by
    rw [← hs2]
    exact o1 .power (by simp)
  have hsp3 : (leavePermit i s2).sidePower = s2.sidePower := by unfold leavePermit; dsimp only; split <;> rfl
  have hp3 : (leavePermit i s2).ports = s1.ports := by
    rw [← hs2]
    unfold leavePermit
    dsimp only
    split <;> rfl
  have hw3 : (leavePermit i s2).power.waiting = s.power.waiting.filter (· ≠ i) := by
    rw [← hpow2]
    unfold leavePermit
    dsimp only
    split <;> rfl
  have e : stopSide i r s = beginShut i (leavePermit i s2) := by rw [← hs2, ← hs1]; rfl
  obtain ⟨hc, ho, hk, -⟩ := beginShut_stopped (i := i) (s := leavePermit i s2) (by rw [hp3]; exact hp1)
    (by rw [hsp3, hsp2])
  rw [e]
  refine ⟨((c2.trans (leavePermit_carries i s2)).trans hc).mono (by omega), ?_, ?_, ?_⟩
  · rw [hk, hsp3, hsp2]
  · have ho' : (beginShut i (leavePermit i s2)).sidePower.get i.other = (leavePermit i s2).sidePower.get i.other :=
      ho (.sidePower i.other) (by simp [hio])
    rw [ho', hsp3, hother2]
  · rw [ho .power (by simp), hw3]

theorem nightEntry_left (s : State) :
    LeftLoading .night s (nightEntry .autostart s) ∧ ∀ i, ((nightEntry .autostart s).sidePower.get i).state = .off := by
  have ca := nightClose_carries .a s
  have pa : (nightClose .a s).power = s.power := nightClose_only .a s .power (by simp)
  have ha := stopSide_stopped .a .night (nightClose .a s)
  generalize hs2 : stopSide .a .night (nightClose .a s) = s2 at ha
  have c2 : Carries 4 s s2 := ca.trans ha.carries
  have cb := nightClose_carries .b s2
  have pb : (nightClose .b s2).power = s2.power := nightClose_only .b s2 .power (by simp)
  have spb : (nightClose .b s2).sidePower.get .a = s2.sidePower.get .a := nightClose_only .b s2 (.sidePower .a) (by simp)
  have hb := stopSide_stopped .b .night (nightClose .b s2)
  generalize hs4 : stopSide .b .night (nightClose .b s2) = s4 at hb
  have c4 : Carries 8 s s4 := (c2.trans cb).trans hb.carries
  have hw : (setMode .night .autostart s4).power.waiting = [] := by
    change s4.power.waiting = []
    rw [hb.waiting, pb, ha.waiting, List.filter_filter, List.filter_eq_nil_iff]
    intro i _
    cases i <;> decide
  have e : nightEntry .autostart s = setMode .night .autostart s4 := by
    have hg : grantPermit (setMode .night .autostart s4) = setMode .night .autostart s4 := by
      unfold grantPermit
      rw [hw]
      split
      · rename_i h; exact absurd h (by simp)
      · rfl
    rw [← hs4, ← hs2] at hg
    exact hg.trans (by rw [hs2, hs4])
  obtain ⟨xs, hx, hxn⟩ := c4.changes
  rw [e]
  refine ⟨⟨c4.store, rfl, c4.fill, fun i h => ?_, c4.keeps, fun n hr => (c4.room n hr).of_link rfl, fun h => ?_⟩, fun i => ?_⟩
  · change ShutByNight i s4
    cases i with
    | a => exact hb.carries.shutByNight (cb.shutByNight (ha.carries.shutByNight (nightClose_shuts h)))
    | b => exact hb.carries.shutByNight (nightClose_shuts (c2.filling h))
  · change (s4.changes ++ [PowerChange.mode .autostart]).findSome? PowerChange.modeCause = _
    rw [hx, h, List.nil_append, List.findSome?_append, hxn]
    rfl
  · change (s4.sidePower.get i).state = .off
    cases i with
    | a => exact (congrArg SidePower.state (hb.other.trans spb)).trans ha.off
    | b => exact hb.off

/-! ### The notice of the change of mode -/

theorem reportSide_room {n : Nat} {i : Side} {old : Fill} {s : State} (h : Room (n + 1) s) : Room n (reportSide i old s) := by
  unfold reportSide
  dsimp only
  split
  · exact h.mono (by omega)
  · exact notify_room _ h

/-- The one notice of a change of mode carries the mode as the event leaves it, and the cause (R157). -/
theorem settle_tellsMode {old u : State} {c : PowerCause} (hc : u.changes.findSome? PowerChange.modeCause = some c) (hr : Room 3 u) :
    ∃ sa sb i aa ca ab cb, (settle old u).link.tells (.powerStage u.power.mode sa sb i c aa ca ab cb) := by
  generalize hv : reportSide .b old.fill.b (reportSide .a old.fill.a (sendDisplays u)) = v
  have hroom : Room 1 v := by
    rw [← hv]
    exact reportSide_room (n := 1) (reportSide_room (n := 2) hr)
  have hstate : ∃ l, v = (sendDisplays u).setLink l := by
    obtain ⟨l1, h1⟩ := reportSide_eq .a old.fill.a (sendDisplays u)
    obtain ⟨l2, h2⟩ := reportSide_eq .b old.fill.b ((sendDisplays u).setLink l1)
    exact ⟨l2, by rw [← hv, h1, h2]; rfl⟩
  obtain ⟨l, hl⟩ := hstate
  have hch : v.changes.findSome? PowerChange.modeCause = some c := by rw [hl]; exact hc
  have hmode : v.power.mode = u.power.mode := by rw [hl]; rfl
  have ht := notify_tells (k := 0) (powerNotice (changedSide old.sidePower v.sidePower) c v) hroom
  rw [← reportPower_mode hch] at ht
  have hk := ((Link.follow_keeps _ (latchConditions (reportPower old v))).tells _ ht)
  have hn := (Link.startNext_keeps _).tells _ hk
  rw [settle_link, ← hmode]
  unfold reported
  rw [hv]
  exact ⟨_, _, _, _, _, _, _, hn⟩

end Sys2Proof.Machine

namespace Sys2Proof.Machine

open Sys2Proof

/-! ### The save bank at the end of LOADING -/

theorem SlotContents.mem_erases {c : SlotContents} {i : Side} {o : SaveOp} :
    o ∈ c.erases i ↔ c ≠ .empty ∧ o = { kind := .erase, side := i } := by
  cases c <;> simp [SlotContents.erases]

theorem startMain_save (s : State) :
    (startMain s).slots = s.store.slots ∧ (startMain s).saving = s.store.saving ∧ (startMain s).saveWaiting = s.store.saveWaiting := by
  unfold startMain
  split
  · exact ⟨rfl, rfl, rfl⟩
  · split <;> exact ⟨rfl, rfl, rfl⟩

/-- An operation that waits when the save bank starts its next still waits, or is the one that starts (R180). -/
theorem Store.startSave_keepsOp {t : Store} {q : PerSide (List SaleRecord)} {o : SaveOp} (h : o ∈ t.saveWaiting) :
    o ∈ (t.startSave q).saveWaiting ∨ ∃ r, (t.startSave q).saving = some r ∧ r.op = o := by
  unfold Store.startSave
  split
  · rename_i x rest _ hw
    rw [hw] at h
    rcases List.mem_cons.mp h with rfl | hr
    · refine .inr ?_
      split <;> exact ⟨_, rfl, rfl⟩
    · refine .inl ?_
      split <;> exact hr
  · exact .inl h

/-- A slot that no waiting operation is for stands when the save bank starts its next (R180). -/
theorem Store.startSave_slot {t : Store} {q : PerSide (List SaleRecord)} {i : Side} (h : ∀ o ∈ t.saveWaiting, o.side ≠ i) :
    (t.startSave q).slots.get i = t.slots.get i := by
  unfold Store.startSave
  split
  · rename_i x rest _ hw
    have hx : i ≠ x.side := (h x (by rw [hw]; exact List.mem_cons_self)).symm
    split
    · exact PerSide.get_set_other _ _ hx
    · exact PerSide.get_set_other _ _ hx
  · rfl

theorem settle_willErase (old : State) {u : State} {i : Side} (h : { kind := .erase, side := i } ∈ u.store.saveWaiting) :
    (settle old u).store.willErase i := by
  rw [settle_store]
  obtain ⟨-, -, hw⟩ := startMain_save u
  exact Store.startSave_keepsOp (by rw [hw]; exact h)

theorem settle_slot (old : State) {u : State} {i : Side} (h : ∀ o ∈ u.store.saveWaiting, o.side ≠ i) :
    (settle old u).store.slots.get i = u.store.slots.get i := by
  rw [settle_store]
  obtain ⟨hs, -, hw⟩ := startMain_save u
  rw [Store.startSave_slot (by rw [hw]; exact h), hs]

/-! ### The closures at the end of LOADING -/

theorem addClosure_changes (i : Side) (r : ClosureReason) (s : State) : (addClosure i r s).changes = s.changes := by
  unfold addClosure closeIfWaiting
  dsimp only
  split
  · rfl
  · rw [enterState_changes, removeWaiting_changes]
    rfl

/-- What the closures of the end of LOADING leave of a side (R47, R159). -/
structure LoadedSide (c : Bool) (f g : Fill) : Prop where
  nozzles : g.nozzles = f.nozzles
  counted : g.counted = f.counted
  calibration : g.closures.calibration = (f.closures.calibration || c)
  idle : g.state.isFill = false

theorem LoadedSide.of_kept {c : Bool} {f f' g : Fill} (h : LoadedSide c f f') (k : FillKept f' g) : LoadedSide c f g :=
  ⟨k.nozzles.trans h.nozzles, k.counted.trans h.counted, k.calibration.trans h.calibration, k.idle h.idle⟩

theorem loadedSide_kept {f : Fill} (h : f.state.isFill = false) : LoadedSide false f f := ⟨rfl, rfl, (Bool.or_false _).symm, h⟩

theorem loadedSide_closed {f : Fill} (h : f.state.isFill = false) :
    LoadedSide true f { f with closures := f.closures.add .calibration } := ⟨rfl, rfl, (Bool.or_true _).symm, h⟩

/-- CALIBRATION is added to one side; the other keeps what it has. -/
theorem addCalibration_loads {i : Side} {s : State} (h : s.filling i = false) :
    LoadedSide true (s.fill.get i) ((addClosure i .calibration s).fill.get i) ∧
      (∀ j, j ≠ i → (addClosure i .calibration s).fill.get j = s.fill.get j) ∧
      s.link.Keeps (addClosure i .calibration s).link ∧ ∀ n, Room (n + 1) s → Room n (addClosure i .calibration s) := by
  have hc : Carries 1 (s.setFill i { s.fill.get i with closures := (s.fill.get i).closures.add .calibration })
    (addClosure i .calibration s) := closeIfWaiting_carries i _
  refine ⟨?_, fun j hj => addClosure_only i .calibration s (.fill j) (by simp [hj]), hc.keeps, fun n hr => hc.room n (hr.of_link rfl)⟩
  refine (loadedSide_closed h).of_kept ?_
  have hk := hc.fill i
  rwa [State.setFill_fill, PerSide.get_set_same] at hk

/-- The closures of the end of LOADING with the emergency stop released (R159). -/
theorem loadedClosures_loads {s : State} (he : s.estopInput = false) (hf : ∀ i, s.filling i = false) :
    (∀ i, LoadedSide (decide (s.store.cal.state = .invalid)) (s.fill.get i) ((loadedClosures s).fill.get i)) ∧
      s.link.Keeps (loadedClosures s).link ∧ (∀ n, Room (n + 2) s → Room n (loadedClosures s)) ∧
      (loadedClosures s).changes = s.changes ∧ OnlyChanges (closureBlocks .a ++ closureBlocks .b) s (loadedClosures s) := by
  by_cases hc : s.store.cal.state = .invalid
  · have e : loadedClosures s = addClosureBoth .calibration s := by
      unfold loadedClosures
      dsimp only
      rw [if_pos hc]
      refine if_neg ?_
      rw [addClosureBoth_only .calibration s .estopInput (by simp), he]
      exact Bool.false_ne_true
    obtain ⟨haf, hao, hak, har⟩ := addCalibration_loads (hf .a)
    have hb : (addClosure .a .calibration s).filling .b = false := by
      unfold State.filling State.sideState
      rw [hao .b (by decide)]
      exact hf .b
    obtain ⟨hbf, hbo, hbk, hbr⟩ := addCalibration_loads hb
    rw [e, decide_eq_true hc]
    refine ⟨fun i => ?_, hak.trans hbk, fun n hr => hbr n (har (n + 1) hr), ?_, (addClosureBoth_only _ s).mono (by simp)⟩
    · cases i with
      | a => exact (hbo .a (by decide)).symm ▸ haf
      | b => exact hao .b (by decide) ▸ hbf
    · exact (addClosure_changes .b _ _).trans (addClosure_changes .a _ s)
  · have e : loadedClosures s = s := by
      unfold loadedClosures
      dsimp only
      rw [if_neg hc, he]
      rfl
    rw [e, decide_eq_false hc]
    exact ⟨fun i => loadedSide_kept (hf i), .refl _, fun n hr => hr.mono (by omega), rfl, .refl _ _⟩

theorem spendNozzles_fill (i : Side) (s : State) :
    (spendNozzles i s).fill.get i = { s.fill.get i with counted := none, nozzles := (s.fill.get i).nozzles.map NozzlePosition.atLoaded } :=
  PerSide.get_set_same _ _ _

theorem spendNozzles_only (i : Side) (s : State) : OnlyChanges [.fill i] s (spendNozzles i s) := setFill_only _ _ _

theorem spentNozzles_get (f : PerNozzle NozzlePosition) (n : Nozzle) :
    (f.map NozzlePosition.atLoaded).get n = if f.get n = .hung then .hung else .spent := by
  have h (x : NozzlePosition) : x.atLoaded = if x = .hung then .hung else .spent := by cases x <;> rfl
  rw [← h]
  cases n <;> rfl

/-! ### The end of LOADING -/

/-- The records have come back (R104, R105): what the end of LOADING begins with. -/
def recordsBack (s : State) : State := raiseDepth (examineSlot .b (examineSlot .a s))

/-- What the records' coming back writes. -/
abbrev backBlocks : List Block := [.register, .store, .display .a, .display .b, .link, .params]

theorem recordsBack_only (s : State) : OnlyChanges backBlocks s (recordsBack s) :=
  (((examineSlot_only .a s).mono (by simp)).step (examineSlot_only .b _) (by simp)).step (raiseDepth_only _) (by simp)

/-- The nozzles found up are spent, and the closures are added (R159). -/
def sidesLoaded (s : State) : State := loadedClosures (spendNozzles .b (spendNozzles .a s))

/-- A side at the end of LOADING, before its night or its bring-up (R49, R159). -/
structure SideLoaded (c : Bool) (f g : Fill) : Prop where
  nozzles : ∀ n, g.nozzles.get n = if f.nozzles.get n = .hung then .hung else .spent
  counted : g.counted = none
  calibration : g.closures.calibration = (f.closures.calibration || c)
  idle : g.state.isFill = false

theorem sidesLoaded_loads {s : State} (he : s.estopInput = false) (hf : ∀ i, s.filling i = false) :
    (∀ i, SideLoaded (decide (s.store.cal.state = .invalid)) (s.fill.get i) ((sidesLoaded s).fill.get i)) ∧
      s.link.Keeps (sidesLoaded s).link ∧ (∀ n, Room (n + 2) s → Room n (sidesLoaded s)) ∧ (sidesLoaded s).changes = s.changes ∧
      OnlyChanges (closureBlocks .a ++ closureBlocks .b) s (sidesLoaded s) := by
  have hfill (i : Side) : (spendNozzles .b (spendNozzles .a s)).fill.get i =
      { s.fill.get i with counted := none, nozzles := (s.fill.get i).nozzles.map NozzlePosition.atLoaded } := by
    cases i with
    | a =>
      have e : (spendNozzles .b (spendNozzles .a s)).fill.get .a = (spendNozzles .a s).fill.get .a :=
        spendNozzles_only .b _ (.fill .a) (by simp)
      rw [e, spendNozzles_fill]
    | b =>
      have e : (spendNozzles .a s).fill.get .b = s.fill.get .b := spendNozzles_only .a s (.fill .b) (by simp)
      rw [spendNozzles_fill, e]
  have hidle (i : Side) : (spendNozzles .b (spendNozzles .a s)).filling i = false := by
    unfold State.filling State.sideState
    rw [hfill]
    exact hf i
  obtain ⟨hs, hk, hr, hc, ho⟩ := loadedClosures_loads (s := spendNozzles .b (spendNozzles .a s)) he hidle
  refine ⟨fun i => ?_, hk, fun n h => hr n (h.of_link rfl), hc, ?_⟩
  · obtain ⟨hn, hcount, hcal, hi⟩ := hs i
    rw [hfill] at hn hcount hcal
    exact ⟨fun n => by unfold sidesLoaded; rw [hn]; exact spentNozzles_get _ n, hcount, hcal, hi⟩
  · exact (((spendNozzles_only .a s).mono (by simp)).step (spendNozzles_only .b _) (by simp)).trans ho

theorem loadingEnd_eq {s : State} (hf : s.supplyFailInput = false) :
    loadingEnd s = leaveLoading (notifyPowerOn (sidesLoaded (recordsBack s))) := by
  have hw : (sidesLoaded (recordsBack s)).supplyFailInput = s.supplyFailInput := by
    have h2 : (spendNozzles .b (spendNozzles .a (recordsBack s))).supplyFailInput = s.supplyFailInput :=
      recordsBack_only s .supplyFailInput (by simp)
    have h3 (v : State) : (loadedClosures v).supplyFailInput = v.supplyFailInput := by
      unfold loadedClosures
      extract_lets v1
      have hv1 : v1.supplyFailInput = v.supplyFailInput := by
        have hadd : (addClosureBoth .calibration v).supplyFailInput = v.supplyFailInput :=
          addClosureBoth_only .calibration v .supplyFailInput (by simp)
        exact (apply_ite State.supplyFailInput _ _ _).trans (by rw [hadd, ite_self])
      have hadd : (addClosureBoth .estop v1).supplyFailInput = v1.supplyFailInput :=
        addClosureBoth_only .estop v1 .supplyFailInput (by simp)
      exact (apply_ite State.supplyFailInput _ _ _).trans (by rw [hadd, ite_self, hv1])
    exact (h3 _).trans h2
  have hnone : loadedWarning (sidesLoaded (recordsBack s)) = sidesLoaded (recordsBack s) :=
    if_neg (by rw [hw, hf]; exact Bool.false_ne_true)
  change leaveLoading (notifyPowerOn (loadedWarning (sidesLoaded (recordsBack s)))) = _
  rw [hnone]

/-- What the end of LOADING leaves, `w` being the state with the records back (R49, R157, R159). -/
structure LoadingEnded (s w u : State) : Prop where
  register : u.register = w.register
  params : u.params = w.params
  store : u.store = w.store
  side : ∀ i, (u.fill.get i).counted = none ∧
    (∀ n, (u.fill.get i).nozzles.get n = if (s.fill.get i).nozzles.get n = .hung then .hung else .spent) ∧
    (u.fill.get i).closures.calibration = ((s.fill.get i).closures.calibration || decide (s.store.cal.state = .invalid)) ∧
    ShutByNight i u
  keeps : w.link.Keeps u.link
  room : ∀ n, Room (n + 11) w → Room n u
  powerOn : Room 3 w → u.link.tells (.powerOn s.power.resetCause w.store.cal.state w.store.cfg.state w.store.price.state
    w.store.totals.state w.store.cfgDefaults s.clock.valid w.register.queues.a.length w.register.queues.b.length)
  changes : u.changes.findSome? PowerChange.modeCause = some .autostart
  waking : s.params.autostart ≠ 0 → u.power.mode = .waking ∧ ∀ i, (u.sidePower.get i).bringUp = true
  night : s.params.autostart = 0 → u.power.mode = .night ∧ ∀ i, (u.sidePower.get i).state = .off

theorem loadingEnd_ended {s : State} (hs : s.changes = []) (he : s.estopInput = false) (hsf : s.supplyFailInput = false)
    (hf : ∀ i, s.filling i = false) (hR : Restored s (recordsBack s)) : LoadingEnded s (recordsBack s) (loadingEnd s) := by
  rw [loadingEnd_eq hsf]
  have hback := recordsBack_only s
  generalize recordsBack s = w at hR hback
  have hfw (i : Side) : w.fill.get i = s.fill.get i := hback (.fill i) (by simp)
  obtain ⟨hside, hkeep, hroom, hch, hload⟩ := sidesLoaded_loads (s := w) ((hback .estopInput (by simp)).trans he)
    (fun i => by unfold State.filling State.sideState; rw [hfw]; exact hf i)
  generalize sidesLoaded w = v at hside hkeep hroom hch hload
  have hcal : w.store.cal = s.store.cal := by
    obtain ⟨h, -⟩ := hR.same.cells
    exact h
  have hauto : (notifyPowerOn v).params.autostart = s.params.autostart := by
    have e : (notifyPowerOn v).params = w.params := hload .params (by simp)
    rw [e]
    rcases lt_or_ge s.params.stackDepth (w.register.longest : Int) with h | h
    · rw [(hR.raised h).1]
    · rw [hR.stands h]
  have hidle (i : Side) : (notifyPowerOn v).filling i = false := (hside i).idle
  have hall {m : PartMode} {u : State} (hleft : LeftLoading m (notifyPowerOn v) u) (ho : OnlyChanges powerBlocks (notifyPowerOn v) u)
      (hw : s.params.autostart ≠ 0 → u.power.mode = .waking ∧ ∀ i, (u.sidePower.get i).bringUp = true)
      (hn : s.params.autostart = 0 → u.power.mode = .night ∧ ∀ i, (u.sidePower.get i).state = .off) : LoadingEnded s w u := by
    refine ⟨?_, ?_, ?_, fun i => ?_, ?_, fun n hr => ?_, fun hr => ?_, ?_, hw, hn⟩
    · exact (ho .register (by simp)).trans (hload .register (by simp))
    · exact (ho .params (by simp)).trans (hload .params (by simp))
    · exact hleft.store.trans (hload .store (by simp))
    · have hk := hleft.fill i
      have hsl := hside i
      rw [hfw, hcal] at hsl
      exact ⟨hk.counted.trans hsl.counted, fun n => (congrArg (PerNozzle.get · n) hk.nozzles).trans (hsl.nozzles n),
        hk.calibration.trans hsl.calibration, hleft.shut i (hidle i)⟩
    · exact (hkeep.trans (notify_keeps _ v)).trans hleft.keeps
    · exact hleft.room n (notify_room _ (hroom (n + 8 + 1) hr))
    · have ht : (notifyPowerOn v).link.tells _ := notify_tells (k := 0) _ (hroom 1 hr)
      have hp := hleft.keeps.tells _ ht
      have e1 : v.power = s.power := (hload .power (by simp)).trans (hback .power (by simp))
      have e2 : v.clock = s.clock := (hload .clock (by simp)).trans (hback .clock (by simp))
      have e3 : v.store = w.store := hload .store (by simp)
      have e4 : v.register = w.register := hload .register (by simp)
      rwa [e1, e2, e3, e4] at hp
    · exact hleft.changes (hch.trans (hR.changes.trans hs))
  unfold leaveLoading
  rw [hauto]
  by_cases ha : s.params.autostart = 0
  · rw [if_neg (fun h => h ha)]
    obtain ⟨hleft, hoff⟩ := nightEntry_left (notifyPowerOn v)
    exact hall hleft (nightEntry_only _ _) (fun h => absurd ha h) (fun _ => ⟨hleft.mode, hoff⟩)
  · rw [if_pos ha]
    obtain ⟨hleft, hup⟩ := wakingEntry_left hidle
    exact hall hleft (wakingEntry_only _ _) (fun _ => ⟨hleft.mode, hup⟩) (fun h => absurd h ha)

end Sys2Proof.Machine

namespace Sys2Proof.Machine

open Sys2Proof

/-! ### LOADING -/

/-- LOADING_END acts once the four regions have been read (R159). -/
theorem Settled.loadingEnd_next {s : State} (h : Settled s) :
    (s.power.mode = .loading → (∀ r, s.store.regionState r ≠ .unread) → exec .loadingEnd s = .next (settle s (loadingEnd s))) ∧
      (s.power.mode ≠ .loading ∨ (∃ r, ¬s.store.regionState r ≠ .unread) → exec .loadingEnd s = .next s) := by
  have hx : exec .loadingEnd s =
      event (fun s => if s.power.mode = .loading ∧ s.store.nextRead = none then loadingEnd s else s) s := rfl
  refine ⟨fun hm hr => ?_, fun hn => ?_⟩
  · rw [hx, event_next, if_pos ⟨hm, (Store.nextRead_none_iff _).mpr hr⟩]
  · rw [hx]
    refine h.event_none (if_neg ?_)
    rintro ⟨hm, hr⟩
    rcases hn with hn | ⟨r, hn⟩
    · exact hn hm
    · exact hn ((Store.nextRead_none_iff _).mp hr r)

theorem owed_filter (q : List SaleRecord) :
    q.filter (fun r => decide (r.ended = .powerFail ∧ r.flags.restored = false)) = q.filter SaleRecord.owed :=
  List.filter_congr (fun r _ => by
    rw [Bool.eq_iff_iff, decide_eq_true_iff]
    exact (SaleRecord.owed_iff r).symm)

theorem restoreOwed_eq (q : List SaleRecord) :
    restoreOwed q =
      q.map (fun r => if r.ended = .powerFail ∧ r.flags.restored = false then { r with flags := { r.flags with restored := true } } else r) :=
  List.map_congr_left (fun r _ => if_congr (SaleRecord.owed_iff r) rfl rfl)

/-- What the end of LOADING leaves of a side's slot, and the erases that it queues (R104, R105, R180). -/
theorem LoadingEnded.slot {s w u : State} (hE : LoadingEnded s w u) (hR : Restored s w) (hsw : s.store.saveWaiting = []) (i : Side) :
    ((s.store.slots.get i).contents = .empty → (settle s u).store.slots.get i = { state := .erased, contents := .empty }) ∧
      ((s.store.slots.get i).contents ≠ .empty → (settle s u).store.willErase i) := by
  have hw : u.store.saveWaiting = (s.store.slots.get .a).contents.erases .a ++ (s.store.slots.get .b).contents.erases .b := by
    rw [hE.store, hR.erases, hsw, List.nil_append]
  refine ⟨fun h => ?_, fun h => settle_willErase s ?_⟩
  · have hother (o : SaveOp) (ho : o ∈ u.store.saveWaiting) : o.side ≠ i := by
      rw [hw, List.mem_append] at ho
      rintro rfl
      rcases ho with ho | ho
      all_goals
        obtain ⟨hne, rfl⟩ := SlotContents.mem_erases.mp ho
        exact hne h
    rw [settle_slot s hother, hE.store, hR.slots]
    unfold SaveSlot.read
    rw [h]
    rfl
  · rw [hw, List.mem_append]
    cases i with
    | a => exact .inl (SlotContents.mem_erases.mpr ⟨h, rfl⟩)
    | b => exact .inr (SlotContents.mem_erases.mpr ⟨h, rfl⟩)

/-- A job that the end of LOADING finds waiting has been queued (R177). -/
theorem LoadingEnded.hasQueued {s w u : State} (hE : LoadingEnded s w u) (hR : Restored s w) {k : JobKind} (h : w.store.Awaits k) :
    s.store.HasQueued (settle s u).store k := by
  obtain ⟨j, hj, hk⟩ := h
  rw [← hk]
  exact settle_hasQueued s (by rw [hE.store]; exact hj) ((congrArg Store.running hE.store).trans hR.same.running)

/-- With both slots empty POWER_ON carries what LOADING began with (R159). -/
theorem LoadingEnded.tellsPowerOn {s w u : State} (hE : LoadingEnded s w u) (hR : Restored s w) (hroom : Room 5 s)
    (h : ∀ i, (s.store.slots.get i).contents = .empty) :
    (settle s u).link.tells (.powerOn s.power.resetCause s.store.cal.state s.store.cfg.state s.store.price.state s.store.totals.state
      s.store.cfgDefaults s.clock.valid (s.register.queues.get .a).length (s.register.queues.get .b).length) := by
  have hp := (settle_keeps s u).tells _ (hE.powerOn (hR.room 3 hroom))
  obtain ⟨hcal, hcfg, hprice, htotals, hdefaults⟩ := hR.same.cells
  have hq (i : Side) : w.register.queues.get i = s.register.queues.get i := by
    rw [hR.queues, h]
    rfl
  have ha : w.register.queues.a = s.register.queues.a := hq .a
  have hb : w.register.queues.b = s.register.queues.b := hq .b
  rw [hcal, hcfg, hprice, htotals, hdefaults, ha, hb] at hp
  exact hp

/-- Settles O60: the four reads in their order, then the end of loading, whose effect `loadingEnd_ended` gives. -/
theorem loadingReadsTheRegionsAndEnds : Obligations.LoadingReadsTheRegionsAndEnds := by
  intro s hs x load isRead first readAs
  have hfirst (r : Region) : first r ↔ (s.power.mode = .loading ∧ s.store.nextRead = some r) := by
    rw [Store.nextRead_iff]
    refine and_congr Iff.rfl (and_congr not_not ?_)
    cases r <;> exact Iff.rfl
  have hread (r : Region) (h : first r) : exec (.regionRead r) s = .next (readRegion r s) := by
    obtain ⟨hm, hn⟩ := (hfirst r).mp h
    exact (hs.regionRead_next r).1 hm hn
  refine ⟨fun r h => (hs.regionRead_next r).2 (fun h' => h ((hfirst r).mpr h')), fun h => ?_, fun h => ?_, fun h => ?_, fun h => ?_,
    fun h => hs.loadingEnd_next.2 h, fun hm hr he hsf hsv hsw hf => ?_⟩
  · obtain ⟨hv, hi⟩ := Stored.readState_iff s.store.cal.stored
    refine ⟨_, hread .cal h, ⟨hv, hi, (readRegion_states .cal s).1⟩, fun y hy => ?_, fun hy => ?_⟩
    · have hc := readCal_meter (s := s) (y := y) (by rw [hy])
      exact ⟨(hc { side := .a, product := .lo }).2, fun m => (hc m).1⟩
    · have hc := readCal_meter (s := s) (y := { meters := PerSide.both (PerProduct.both Calibration.default), audit := 0 }) (by rw [hy])
      refine ⟨(hc { side := .a, product := .lo }).2, fun m => (hc m).1.trans ?_⟩
      rcases m with ⟨i, p⟩
      cases i <;> cases p <;> rfl
  · obtain ⟨hv, hi⟩ := Stored.readState_iff s.store.cfg.stored
    refine ⟨_, hread .cfg h, ⟨hv, hi, (readRegion_states .cfg s).1⟩, rfl, rfl, rfl, rfl, fun i => ?_, ?_, readCfg_only s⟩
    · cases i <;> rfl
    · change decide (s.store.cfg.stored.readState = .invalid) = true ↔ s.store.cfg.stored = .unreadable
      cases s.store.cfg.stored <;> simp [Stored.readState]
  · obtain ⟨hv, hi⟩ := Stored.readState_iff s.store.price.stored
    exact ⟨_, hread .price h, ⟨hv, hi, (readRegion_states .price s).1⟩, rfl, readPrice_only s⟩
  · obtain ⟨hv, hi⟩ := Stored.readState_iff s.store.totals.stored
    refine ⟨_, hread .totals h, ⟨hv, hi, (readRegion_states .totals s).1⟩, rfl, rfl, rfl, ?_, readTotalsRegion_only s⟩
    change decide (s.store.totals.stored.readState = .valid) = true ↔ ∃ z, s.store.totals.stored = .image z
    cases s.store.totals.stored <;> simp [Stored.readState]
  · intro isOwed saved owed
    have hR : Restored s (recordsBack s) := slots_restored hsv hsw
    have hE := loadingEnd_ended hs.changes he hsf hf hR
    generalize recordsBack s = w at hR hE
    generalize hu : loadingEnd s = u at hE
    have hsaved (i : Side) : saved i = (s.store.slots.get i).contents.records := by
      change (match (s.store.slots.get i).contents with | .saved q => q | _ => []) = _
      cases (s.store.slots.get i).contents <;> rfl
    have howed : owed = ((s.store.slots.get .a).contents.records ++ (s.store.slots.get .b).contents.records).filter SaleRecord.owed := by
      change List.filter (fun r => decide (isOwed r)) (saved .a ++ saved .b) = _
      rw [hsaved, hsaved]
      exact owed_filter _
    have hreg (i : Side) : (settle s u).register.queues.get i =
        (s.store.slots.get i).contents.queueAfter (s.register.queues.get i) := by
      rw [settle_register, hE.register, hR.queues]
    have hregister : (settle s u).register = w.register := by rw [settle_register, hE.register]
    have hparams : (settle s u).params = w.params := by rw [settle_params, hE.params]
    refine ⟨settle s u, by rw [← hu]; exact hs.loadingEnd_next.1 hm hr, ?_, fun h => ?_, ⟨fun h => ?_, fun h => ?_⟩, fun i => ?_, fun h => ?_,
      fun h => ?_, fun h => ?_, fun h hempty => ?_⟩
    · rw [hregister, hR.totals, howed]
      exact Totals.addOwed_addedFrom _ _ _
    · refine hE.hasQueued hR (hR.owed ?_)
      rw [howed] at h
      obtain ⟨r, hr⟩ := List.exists_mem_of_ne_nil _ h
      obtain ⟨hmem, ho⟩ := List.mem_filter.mp hr
      exact List.any_eq_true.mpr ⟨r, hmem, ho⟩
    · rw [hregister] at h ⊢
      obtain ⟨hraised, hcfg⟩ := hR.raised h
      exact ⟨hparams.trans hraised, hE.hasQueued hR hcfg⟩
    · rw [hregister] at h
      exact hparams.trans (hR.stands h)
    · obtain ⟨hcounted, hnozzles, hcal, hclosed, hnight⟩ := hE.side i
      obtain ⟨hempty, herase⟩ := hE.slot hR hsw i
      refine ⟨?_, ?_, ?_, ?_, ?_, fun h => ⟨hempty h, ?_⟩, fun q h => ?_, herase, fun h hroom => ?_⟩
      · rw [settle_sideState]
        exact hclosed
      · rw [settle_fill]
        exact hcounted
      · rw [settle_fill]
        exact hnozzles
      · rw [settle_fill]
        exact hnight
      · rw [settle_fill]
        exact hcal
      · rw [hreg, h]
        rfl
      · rw [hreg, h]
        exact restoreOwed_eq q
      · exact (settle_keeps _ _).tells _ (hE.keeps.tells _ (hR.lost i h 14 hroom))
    · rw [settle_power, settle_sidePower]
      exact hE.waking h
    · rw [settle_power, settle_sidePower]
      exact hE.night h
    · rw [settle_power]
      exact settle_tellsMode hE.changes (hE.room 3 ((hR.room 14 h)))
    · exact hE.tellsPowerOn hR (h.mono (by omega)) hempty

end Sys2Proof.Machine

namespace Sys2Proof.Machine

open Sys2Proof

/-! ### Displayed volume and money

The laws of R20 and R21 are those of floor division; the caps are outermost in both formulas. -/

/-- The displayed volume is the whole centilitres, held at 0 and at the cap (R20). -/
theorem displayedVolume_eq (v : Int) : displayedVolume v = if v ≤ 0 then 0 else min (v / 100000).toNat 999999 := rfl

/-- Adding no more than a centilitre raises the displayed volume by at most 1. -/
theorem displayedVolume_add_le (v : Int) {x : Int} (h : x ≤ 100000) : displayedVolume (v + x) ≤ displayedVolume v + 1 := by
  rw [displayedVolume_eq, displayedVolume_eq]
  split <;> split <;> omega

/-- Off 0 and the cap the displayed volume is the volume rounded down. -/
theorem displayedVolume_eq_floor {v : Int} (h0 : displayedVolume v ≠ 0) (hc : displayedVolume v ≠ 999999) :
    (displayedVolume v : Int) = v / 100000 ∧ 1 ≤ v / 100000 ∧ v / 100000 ≤ 999998 := by
  rw [displayedVolume_eq] at h0 hc ⊢
  have hv : ¬v ≤ 0 := fun h => h0 (if_pos h)
  rw [if_neg hv] at h0 hc ⊢
  omega

theorem moneyOf_eq (q p : Nat) : moneyOf q p = min ((q * p + 500) / 1000) 999999 := rfl

theorem moneyOf_zero (p : Nat) : moneyOf 0 p = 0 := by
  rw [moneyOf_eq, Nat.zero_mul]
  rfl

/-- What one more centilitre does to the money of a sale at unit price `p` mil (R21). -/
theorem moneyOf_succ (q p : Nat) :
    (p ≤ 99999 → moneyOf (q + 1) p ≤ moneyOf q p + 100) ∧ (p ≤ 1000 → moneyOf (q + 1) p ≤ moneyOf q p + 1) ∧
      (1000 ≤ p → moneyOf (q + 1) p < 999999 → moneyOf q p + 1 ≤ moneyOf (q + 1) p) := by
  rw [moneyOf_eq, moneyOf_eq, Nat.add_mul, Nat.one_mul]
  generalize q * p = m
  omega

theorem moneyOf_mono {q q' : Nat} (h : q ≤ q') (p : Nat) : moneyOf q p ≤ moneyOf q' p := by
  have hm : q * p ≤ q' * p := Nat.mul_le_mul_right p h
  rw [moneyOf_eq, moneyOf_eq]
  omega

/-! ### MONEY targets -/

theorem moneyTarget_eq (l p : Nat) : moneyTarget l p = min ((l * 1000 + 499) / p) 999000 := rfl

/-- The money of a volume before its cap is within a limit exactly up to the target before its cap: rounding half up takes the
last 499 of a thousand down (R21, R23). -/
theorem uncappedMoney_le_iff (l : Nat) {p : Nat} (hp : 0 < p) (q : Nat) :
    uncappedMoney q p ≤ l ↔ q ≤ uncappedTarget l p := by
  unfold uncappedMoney uncappedTarget
  rw [Nat.le_div_iff_mul_le hp]
  omega

theorem one_le_moneyTarget {l p : Nat} (hl : 100 ≤ l) (hp : 0 < p) (hp' : p ≤ 99999) : 1 ≤ moneyTarget l p := by
  have h : 1 ≤ (l * 1000 + 499) / p := (Nat.le_div_iff_mul_le hp).mpr (by omega)
  rw [moneyTarget_eq]
  omega

/-- Below its cap a MONEY target is the last volume whose money is within the limit (R23). -/
theorem moneyTarget_largest {l p : Nat} (hl : l ≤ 999000) (hp : 0 < p) (h : moneyTarget l p < 999000) :
    moneyOf (moneyTarget l p) p ≤ l ∧ l < moneyOf (moneyTarget l p + 1) p := by
  have e : moneyTarget l p = uncappedTarget l p := by
    rw [moneyTarget_eq] at h ⊢
    exact min_eq_left (by omega)
  have hin : uncappedMoney (moneyTarget l p) p ≤ l := (uncappedMoney_le_iff l hp _).mpr e.le
  have hout : ¬uncappedMoney (moneyTarget l p + 1) p ≤ l := by
    rw [uncappedMoney_le_iff l hp]
    omega
  exact ⟨(min_le_left _ _).trans hin, lt_min (not_le.mp hout) (by have : Const.figureCap = 999999 := rfl; omega)⟩

/-- The cap of a target cuts 20.00 at prices 1 and 2 alone (R23). -/
theorem moneyTarget_capped_iff {p : Nat} (hp : 0 < p) :
    moneyTarget 2000 p < (2000 * 1000 + 499) / p ↔ p = 1 ∨ p = 2 := by
  have h : 999001 ≤ (2000 * 1000 + 499) / p ↔ 999001 * p ≤ 2000 * 1000 + 499 := Nat.le_div_iff_mul_le hp
  rw [moneyTarget_eq]
  omega

/-! ### Overrun and payable -/

/-- The closing figures of a sale under a MONEY limit (R29). -/
theorem closing_money (l q m p : Nat) :
    (l < m → overrunOf (some { kind := .money, value := l }) q m = some (m - l) ∧
      payableOf (some { kind := .money, value := l }) q m p = l) ∧
    (m ≤ l → overrunOf (some { kind := .money, value := l }) q m = none ∧
      payableOf (some { kind := .money, value := l }) q m p = m) :=
  ⟨fun h => ⟨if_pos h, if_pos h⟩, fun h => ⟨if_neg (not_lt.mpr h), if_neg (not_lt.mpr h)⟩⟩

/-- The closing figures of a sale under a VOLUME limit (R29). -/
theorem closing_volume (l q m p : Nat) :
    (l < q → overrunOf (some { kind := .volume, value := l }) q m = some (q - l) ∧
      payableOf (some { kind := .volume, value := l }) q m p = moneyOf l p) ∧
    (q ≤ l → overrunOf (some { kind := .volume, value := l }) q m = none ∧
      payableOf (some { kind := .volume, value := l }) q m p = m) :=
  ⟨fun h => ⟨if_pos h, if_pos h⟩, fun h => ⟨if_neg (not_lt.mpr h), if_neg (not_lt.mpr h)⟩⟩

/-- No limit makes a sale cost more than its money (R29). -/
theorem payableOf_le (limit : Option Limit) (q p : Nat) : payableOf limit q (moneyOf q p) p ≤ moneyOf q p := by
  rcases limit with _ | ⟨_ | _, l⟩
  · exact le_rfl
  · rcases lt_or_ge l (moneyOf q p) with h | h
    · rw [((closing_money l q _ p).1 h).2]; exact h.le
    · rw [((closing_money l q _ p).2 h).2]
  · rcases lt_or_ge l q with h | h
    · rw [((closing_volume l q _ p).1 h).2]; exact moneyOf_mono h.le p
    · rw [((closing_volume l q _ p).2 h).2]

/-- Settles O27, formula by formula. -/
theorem saleArithmeticIsExact : Obligations.SaleArithmeticIsExact := by
  refine ⟨displayedVolume_eq, fun v x hx => ?_, moneyOf_eq, fun q p => ⟨moneyOf_zero p, moneyOf_succ q p⟩,
    fun l p hl hl' hp hp' => ⟨moneyTarget_eq l p, one_le_moneyTarget hl hp hp', moneyTarget_largest hl' hp,
      uncappedMoney_le_iff l hp, fun e => ?_⟩,
    fun q m p => ⟨fun l => ?_, rfl, rfl⟩, payableOf_le⟩
  · obtain ⟨hlo, hhi⟩ := abs_le.mp hx
    have hback := displayedVolume_add_le (v + x) (x := -x) (by omega)
    rw [Int.add_neg_cancel_right] at hback
    exact ⟨displayedVolume_add_le v (by omega), hback⟩
  · subst e
    exact moneyTarget_capped_iff hp
  · obtain ⟨hm, hm'⟩ := closing_money l q m p
    obtain ⟨hv, hv'⟩ := closing_volume l q m p
    exact ⟨hm, hm', hv, hv'⟩

/-! ### Recorded volumes -/

/-- The pair keeps the sum of the two accumulators rounded down: where one is above the cap, the other gives up the excess (R28). -/
theorem recordedVolumes_inner {q : Nat} (lo hi : Int) (h0 : q ≠ 0) (hc : q ≠ 999999) :
    recordedVolumes q lo hi =
      if 999999 < lo / 100000 then (999999, lo / 100000 + hi / 100000 - 999999)
      else if 999999 < hi / 100000 then (lo / 100000 + hi / 100000 - 999999, 999999)
      else (lo / 100000, hi / 100000) :=
  if_neg (not_or.mpr ⟨h0, hc⟩)

/-- At a sale volume of 0 or at the cap each volume is held by itself (R28). -/
theorem recordedVolumes_outer {q : Nat} (lo hi : Int) (h : q = 0 ∨ q = 999999) :
    recordedVolumes q lo hi = (max (-999999) (min 999999 (lo / 100000)), max (-999999) (min 999999 (hi / 100000))) := if_pos h

theorem finalize_closing (g : Figures) (lo hi : Int) :
    (g.finalize lo hi).closing.map (fun c => (c.lo, c.hi)) = some (recordedVolumes (displayedVolume (lo + hi)) lo hi) := rfl

/-- A recorded volume that is not its accumulator rounded down marks the sale CLAMPED (R22, R28). -/
theorem finalize_clamped (g : Figures) {lo hi : Int}
    (h : recordedVolumes (displayedVolume (lo + hi)) lo hi ≠ (lo / 100000, hi / 100000)) : (g.finalize lo hi).clamped = true :=
  decide_eq_true (.inr (.inr h))

/-- What R28 asks of the recorded pair `(x, y)` of the rounded accumulators `l` and `h` while the pair keeps its sum. -/
structure KeepsSum (l h x y : Int) : Prop where
  range : -999999 ≤ x ∧ x ≤ 999999 ∧ -999999 ≤ y ∧ y ≤ 999999
  loAbove : 999999 < l → x = 999999 ∧ y = l + h - 999999
  hiAbove : 999999 < h → x = l + h - 999999 ∧ y = 999999
  within : l ≤ 999999 → h ≤ 999999 → x = l ∧ y = h
  sum : x + y = l + h

/-- The rounded accumulators of a sale whose volume is neither 0 nor the cap sum to 0 or more and to less than the cap: at most one of
them is above the cap, and the other has room for its excess. -/
theorem recordedVolumes_keepsSum {lo hi : Int} (h0 : displayedVolume (lo + hi) ≠ 0) (hc : displayedVolume (lo + hi) ≠ 999999) :
    KeepsSum (lo / 100000) (hi / 100000) (recordedVolumes (displayedVolume (lo + hi)) lo hi).1
      (recordedVolumes (displayedVolume (lo + hi)) lo hi).2 := by
  obtain ⟨-, hone, hcap⟩ := displayedVolume_eq_floor h0 hc
  have hsum : 0 ≤ lo / 100000 + hi / 100000 ∧ lo / 100000 + hi / 100000 ≤ 999998 := by omega
  rw [recordedVolumes_inner lo hi h0 hc]
  generalize lo / 100000 = l at hsum ⊢
  generalize hi / 100000 = h at hsum ⊢
  split
  · constructor <;> dsimp only <;> omega
  · split
    · constructor <;> dsimp only <;> omega
    · constructor <;> dsimp only <;> omega

/-- Settles O28: each volume held by itself at a sale volume of 0 or at the cap, the pair keeping its sum at every other. -/
theorem recordedVolumesBalance : Obligations.RecordedVolumesBalance := by
  intro g lo hi q l h
  refine ⟨(recordedVolumes q lo hi).1, (recordedVolumes q lo hi).2, finalize_closing g lo hi, ?_⟩
  have hclamp (hne : (recordedVolumes q lo hi).1 ≠ l ∨ (recordedVolumes q lo hi).2 ≠ h) : (g.finalize lo hi).clamped = true :=
    finalize_clamped g (fun e => hne.elim (fun hx => hx (congrArg Prod.fst e)) (fun hy => hy (congrArg Prod.snd e)))
  by_cases hq : q = 0 ∨ q = 999999
  · have hp := recordedVolumes_outer lo hi hq
    refine ⟨?_, ?_, ?_, ?_, fun _ => ⟨congrArg Prod.fst hp, congrArg Prod.snd hp⟩, fun h0 hc => (hq.elim h0 hc).elim, hclamp⟩
    all_goals rw [hp]; dsimp only; omega
  · obtain ⟨h0, hc⟩ := not_or.mp hq
    have hfloor : (q : Int) = (lo + hi) / 100000 := (displayedVolume_eq_floor h0 hc).1
    obtain ⟨⟨hx, hx', hy, hy'⟩, hlo, hhi, hin, hsum⟩ := recordedVolumes_keepsSum h0 hc
    refine ⟨hx, hx', hy, hy', fun h => absurd h hq, fun _ _ => ⟨hlo, hhi, hin, ?_, ?_⟩, hclamp⟩
    all_goals rw [hsum, hfloor]; omega

end Sys2Proof.Machine

namespace Sys2Proof.Machine

open Sys2Proof

/-! ### Grades and levels of requests -/

@[simp] theorem gradeOf_number (g : Grade) : gradeOf (Grade.number g) = some g := by cases g <;> rfl

@[simp] theorem levelOf_number (l : Level) : levelOf (Level.number l) = some l := by cases l <;> rfl

theorem gradeOf_none {n : Nat} (h : n = 0 ∨ 9 ≤ n) : gradeOf n = none := by
  rcases h with rfl | h
  · rfl
  · obtain ⟨k, rfl⟩ := Nat.exists_eq_add_of_le' h
    rfl

theorem levelOf_none {n : Nat} (h : n = 0 ∨ 3 ≤ n) : levelOf n = none := by
  rcases h with rfl | h
  · rfl
  · obtain ⟨k, rfl⟩ := Nat.exists_eq_add_of_le' h
    rfl

theorem gradeOf_none_or_levelOf_none {grade level : Nat} (h : grade = 0 ∨ 9 ≤ grade ∨ level = 0 ∨ 3 ≤ level) :
    gradeOf grade = none ∨ levelOf level = none := by
  rcases h with h | h | h | h
  · exact .inl (gradeOf_none (.inl h))
  · exact .inl (gradeOf_none (.inr h))
  · exact .inr (levelOf_none (.inl h))
  · exact .inr (levelOf_none (.inr h))

theorem bankPrice_setBankPrice (b : Bank) (g g' : Grade) (l l' : Level) (p : Nat) :
    bankPrice (setBankPrice b g l p) g' l' = if g' = g ∧ l' = l then p else bankPrice b g' l' := by
  unfold bankPrice setBankPrice
  rw [PerGrade.get_set]
  by_cases hg : g' = g
  · subst hg
    rw [if_pos rfl, PerLevel.get_set]
    simp
  · rw [if_neg hg, if_neg (fun h => hg h.1)]

/-! ### QUOTE -/

theorem takeQuote_unknown {x : QuoteFields} (h : gradeOf x.grade = none ∨ levelOf x.level = none) (s : State) :
    takeQuote x s = refuse .badValue s := by
  unfold takeQuote
  rcases h with h | h
  · rw [h]
  · rw [h]
    cases gradeOf x.grade <;> rfl

theorem activeBank_of_ne {p : Prices} (h : p.generation ≠ 0) : p.activeBank = p.active := if_neg h

/-- What a QUOTE of a grade and a level answers, by its form, its value and the price (R30, R31). -/
theorem takeQuote_serving (g : Grade) (l : Level) (form value kind tag : Nat) (s : State) :
    takeQuote { grade := Grade.number g, level := Level.number l, form := form, value := value } (s.serving kind tag) =
      if 1 < form ∨ 999999 < value then refuse .badValue (s.serving kind tag)
      else if s.prices.generation = 0 ∨ bankPrice s.prices.activeBank g l = 0 then refuse .wrongState (s.serving kind tag)
      else
        answer .ok (num 2 s.prices.generation ++ money3 (bankPrice s.prices.activeBank g l) ++
          (if form = 0 then quoteVolume value (bankPrice s.prices.activeBank g l)
            else quoteMoney value (bankPrice s.prices.activeBank g l))) (s.serving kind tag) := by
  unfold takeQuote
  rw [gradeOf_number, levelOf_number]
  rfl

/-- QUOTE of a price that is sold, in either form (R30). -/
theorem quote_answers {s : State} (hs : Settled s) (hf : Free s) (tag : Nat) (g : Grade) (l : Level) {form value : Nat}
    (hform : form ≤ 1) (hv : value ≤ 999999) (hn : s.prices.generation ≠ 0) (hp : bankPrice s.prices.active g l ≠ 0) :
    exec (.quote tag (.fields { grade := Grade.number g, level := Level.number l, form := form, value := value })) s =
      .next (s.replied Kind.quote tag .ok (num 2 s.prices.generation ++ money3 (bankPrice s.prices.active g l) ++
        (if form = 0 then quoteVolume value (bankPrice s.prices.active g l)
          else quoteMoney value (bankPrice s.prices.active g l)))) := by
  refine replied_of_answer hs hf Kind.quote tag _ takeQuote .ok _ ((takeQuote_serving g l form value Kind.quote tag s).trans ?_)
  rw [activeBank_of_ne hn, if_neg (by omega), if_neg (by simp [hn, hp])]
  rfl

/-- QUOTE of a price that is not sold, or before any generation (R31). -/
theorem quote_wrongState {s : State} (hs : Settled s) (hf : Free s) (tag : Nat) (g : Grade) (l : Level) {form value : Nat}
    (hform : form ≤ 1) (hv : value ≤ 999999) (h : s.prices.generation = 0 ∨ bankPrice s.prices.active g l = 0) :
    exec (.quote tag (.fields { grade := Grade.number g, level := Level.number l, form := form, value := value })) s =
      .next (s.replied Kind.quote tag .wrongState []) := by
  refine replied_of_refuse hs hf Kind.quote tag _ takeQuote .wrongState ?_
  have hsold : s.prices.generation = 0 ∨ bankPrice s.prices.activeBank g l = 0 := by
    by_cases hn : s.prices.generation = 0
    · exact .inl hn
    · exact .inr (by rw [activeBank_of_ne hn]; exact h.resolve_left hn)
  rw [takeQuote_serving, if_neg (by omega), if_pos hsold]

/-- QUOTE of a form or a value outside its values (R31). -/
theorem quote_badValue {s : State} (hs : Settled s) (hf : Free s) (tag : Nat) (g : Grade) (l : Level) {form value : Nat}
    (h : 1 < form ∨ 999999 < value) :
    exec (.quote tag (.fields { grade := Grade.number g, level := Level.number l, form := form, value := value })) s =
      .next (s.replied Kind.quote tag .badValue []) :=
  replied_of_refuse hs hf Kind.quote tag _ takeQuote .badValue 
    ((takeQuote_serving g l form value _ _ s).trans (if_pos h))

/-! ### STAGE_PRICE and COMMIT_PRICES AT -/

/-- The PRICE region is still to be read (R35, R36). -/
theorem pricesUnread_iff (s : State) : pricesUnread s = true ↔ s.power.mode = .loading ∧ s.store.price.state = .unread := by
  unfold pricesUnread
  rw [Bool.and_eq_true, decide_eq_true_iff, RegionState.not_isRead_iff]

/-- An answer whose effect besides is on the price banks alone. -/
theorem Settled.settle_pricesAnswered {s : State} (h : Settled s) (kind tag : Nat) (x : Prices) (status : Status)
    (fields : List Field) :
    Machine.settle s (answer status fields ((s.serving kind tag).setPrices x)) =
      (s.replied kind tag status fields).setPrices x :=
  h.settle_answered ⟨rfl, rfl, rfl, rfl, rfl, rfl, fun _ => ⟨rfl, rfl⟩, rfl⟩ rfl
    (latchConditions_congr rfl rfl rfl rfl rfl rfl rfl rfl rfl rfl)

theorem takeStagePrice_unknown {x : StagePriceFields} (h : gradeOf x.grade = none ∨ levelOf x.level = none) (s : State) :
    takeStagePrice x s = refuse .badValue s := by
  unfold takeStagePrice
  rcases h with h | h
  · rw [h]
  · rw [h]
    cases gradeOf x.grade <;> rfl

/-- What STAGE_PRICE of a grade and a level does (R35). -/
theorem takeStagePrice_serving (g : Grade) (l : Level) (x kind tag : Nat) (s : State) :
    takeStagePrice { grade := Grade.number g, level := Level.number l, price := x } (s.serving kind tag) =
      if pricesUnread s = true then refuse .wrongState (s.serving kind tag)
      else if s.prices.schedule.isSome = true then refuse .priceBusy (s.serving kind tag)
      else answer .ok (num 1 g.number ++ levelField l ++ money3 (min x 99999))
        ((s.serving kind tag).setPrices { s.prices with staged := setBankPrice s.prices.staged g l (min x 99999) }) := by
  unfold takeStagePrice
  rw [gradeOf_number, levelOf_number]
  rfl

/-- STAGE_PRICE by what stands: the region unread, a commit scheduled, or neither (R35). -/
theorem stagePrice_cases {s : State} (hs : Settled s) (hf : Free s) (tag : Nat) (g : Grade) (l : Level) (x : Nat) :
    let c : Instr := .stagePrice tag (.fields { grade := Grade.number g, level := Level.number l, price := x })
    (pricesUnread s = true → exec c s = .next (s.replied Kind.stagePrice tag .wrongState [])) ∧
    (¬pricesUnread s = true → s.prices.schedule ≠ none → exec c s = .next (s.replied Kind.stagePrice tag .priceBusy [])) ∧
    (¬pricesUnread s = true → s.prices.schedule = none → exec c s = .next
      ((s.replied Kind.stagePrice tag .ok (num 1 g.number ++ levelField l ++ money3 (min x 99999))).setPrices
        { s.prices with staged := setBankPrice s.prices.staged g l (min x 99999) })) := by
  have htake := takeStagePrice_serving g l x Kind.stagePrice tag s
  refine ⟨fun h => ?_, fun h hc => ?_, fun h hc => ?_⟩
  · rw [if_pos h] at htake
    exact replied_of_refuse hs hf Kind.stagePrice tag _ takeStagePrice _ htake
  · rw [if_neg h, if_pos (Option.isSome_iff_ne_none.mpr hc)] at htake
    exact replied_of_refuse hs hf Kind.stagePrice tag _ takeStagePrice _ htake
  · rw [if_neg h, if_neg (by rw [hc]; decide)] at htake
    refine (event_request hf Kind.stagePrice tag _ takeStagePrice).trans ?_
    rw [htake, hs.settle_pricesAnswered]

/-- What COMMIT_PRICES AT does, by its checks in their order (R36, R40). -/
theorem takeCommitAt_serving (x kind tag : Nat) (s : State) :
    takeCommitAt x (s.serving kind tag) =
      if 86400 ≤ x then refuse .badValue (s.serving kind tag)
      else if pricesUnread s = true then refuse .wrongState (s.serving kind tag)
      else if s.prices.retained.isSome = true then refuse .priceBusy (s.serving kind tag)
      else if (!s.clock.valid) = true then refuse .wrongState (s.serving kind tag)
      else answer .ok (num 3 x) ((s.serving kind tag).setPrices { s.prices with schedule := some x }) := rfl

/-- COMMIT_PRICES AT by the first check that fails, or accepted (R36, R40). -/
theorem commitAt_cases {s : State} (hs : Settled s) (hf : Free s) (tag x : Nat) :
    let c : Instr := .commitPricesAt tag (.fields x)
    (86400 ≤ x → exec c s = .next (s.replied Kind.commitPrices tag .badValue [])) ∧
    (x < 86400 → pricesUnread s = true → exec c s = .next (s.replied Kind.commitPrices tag .wrongState [])) ∧
    (x < 86400 → ¬pricesUnread s = true →
      (s.prices.retained ≠ none → exec c s = .next (s.replied Kind.commitPrices tag .priceBusy [])) ∧
      (s.prices.retained = none → s.clock.valid = false → exec c s = .next (s.replied Kind.commitPrices tag .wrongState [])) ∧
      (s.prices.retained = none → s.clock.valid = true →
        exec c s = .next ((s.replied Kind.commitPrices tag .ok (num 3 x)).setPrices { s.prices with schedule := some x }))) := by
  have htake := takeCommitAt_serving x Kind.commitPrices tag s
  have hrefuse {st : Status} := replied_of_refuse hs hf Kind.commitPrices tag x takeCommitAt st
  refine ⟨fun h => ?_, fun h hu => ?_, fun h hu => ?_⟩
  · rw [if_pos h] at htake
    exact hrefuse htake
  · rw [if_neg (not_le.mpr h), if_pos hu] at htake
    exact hrefuse htake
  · rw [if_neg (not_le.mpr h), if_neg hu] at htake
    refine ⟨fun hr => ?_, fun hr hv => ?_, fun hr hv => ?_⟩
    · rw [if_pos (Option.isSome_iff_ne_none.mpr hr)] at htake
      exact hrefuse htake
    · rw [hr, hv] at htake
      exact hrefuse htake
    · rw [hr, hv] at htake
      refine (event_request hf Kind.commitPrices tag x takeCommitAt).trans ?_
      rw [htake]
      exact congrArg _ (hs.settle_pricesAnswered Kind.commitPrices tag _ .ok _)

/-- Settles O29: each command by the equation of its taking on the state that serves it. -/
theorem quotingStagingAndSchedulingPrices : Obligations.QuotingStagingAndSchedulingPrices := by
  intro tag g l s hs hf early
  have hearly : pricesUnread s = true ↔ early := pricesUnread_iff s
  refine ⟨fun value hv => ⟨fun hn hp => ⟨?_, ?_⟩, fun h form hform => quote_wrongState hs hf tag g l hform hv h,
      fun form hform => quote_badValue hs hf tag g l (.inl hform)⟩,
    fun form value hv => quote_badValue hs hf tag g l (.inr hv), fun grade level form value h => ⟨?_, ?_⟩, fun x => ?_, fun x => ?_⟩
  · rw [quote_answers hs hf tag g l (by decide) hv hn hp, if_pos rfl, List.append_assoc (num 2 _ ++ _)]
    rfl
  · rw [quote_answers hs hf tag g l (by decide) hv hn hp, if_neg (by decide)]
    simp only [quoteMoney, ← List.append_assoc]
    rfl
  · exact replied_of_refuse hs hf Kind.quote tag _ takeQuote _ (takeQuote_unknown (gradeOf_none_or_levelOf_none h) _)
  · exact replied_of_refuse hs hf Kind.stagePrice tag _ takeStagePrice _
      (takeStagePrice_unknown (gradeOf_none_or_levelOf_none h) _)
  · obtain ⟨hunread, hbusy, hok⟩ := stagePrice_cases hs hf tag g l x
    refine ⟨fun he => hunread (hearly.mpr he), fun he hc => ⟨_, hok (fun h => he (hearly.mp h)) hc, rfl, fun g' l' => ?_⟩,
      fun he hc => hbusy (fun h => he (hearly.mp h)) hc⟩
    exact bankPrice_setBankPrice _ _ _ _ _ _
  · obtain ⟨hbad, hunread, hrest⟩ := commitAt_cases hs hf tag x
    exact ⟨hbad, fun hx he => hunread hx (hearly.mpr he), fun hx he => hrest hx (fun h => he (hearly.mp h))⟩

end Sys2Proof.Machine

namespace Sys2Proof.Machine

open Sys2Proof

/-! ### The valves of a grade -/

theorem Blend.needs_copy {b : Blend} {e : GradeEntry} (h : b.copy = some e) (p : Product) : b.needs p = e.needs p := by
  unfold Blend.needs
  rw [h]
  rfl

theorem Blend.isBlended_copy {b : Blend} {e : GradeEntry} (h : b.copy = some e) : b.isBlended = e.blended := by
  unfold Blend.isBlended
  rw [h]
  rfl

/-- Each valve that the grade needs is open at the slow duty in SLOWING (R67). -/
theorem valveDuties_slowing {b : Blend} {e : GradeEntry} (h : b.copy = some e) (c : Params) (p : Product) :
    (valveDuties .slowing b c).get p = if e.needs p then c.slowDuty.toNat else 0 := by
  rw [← Blend.needs_copy h]
  cases p <;> rfl

/-- In FLOWING the trimmed valve of a blended grade is at the trimmed duty, every other that the grade needs at the main duty (R67). -/
theorem valveDuties_flowing {b : Blend} {e : GradeEntry} (h : b.copy = some e) (c : Params) (p : Product) :
    (valveDuties .flowing b c).get p =
      if e.needs p then (if e.blended = true ∧ b.trimmed = some p then b.duty.getD 0 else c.mainDuty.toNat) else 0 := by
  rw [← Blend.needs_copy h, ← Blend.isBlended_copy h]
  cases p <;> rfl

/-- Duties read back product by product. -/
theorem PerProduct.eq_of_get {α : Type} {x : PerProduct α} {l h : α} (hl : x.get .lo = l) (hh : x.get .hi = h) :
    x = { lo := l, hi := h } := PerProduct.ext_fields hl hh

/-- A pure grade flows through its one valve at the main duty. -/
theorem valveDuties_pure {b : Blend} {e : GradeEntry} (h : b.copy = some e) (c : Params) :
    (e.share = 0 → valveDuties .flowing b c = { lo := c.mainDuty.toNat, hi := 0 }) ∧
      (e.share = 1000 → valveDuties .flowing b c = { lo := 0, hi := c.mainDuty.toNat }) := by
  constructor
  all_goals
    intro hshare
    refine PerProduct.eq_of_get ?_ ?_ <;> rw [valveDuties_flowing h] <;> simp [GradeEntry.needs, GradeEntry.blended, hshare]

/-- A blended grade flows through both valves, the trimmed one at the trimmed duty. -/
theorem valveDuties_blended {b : Blend} {e : GradeEntry} {d : Nat} (h : b.copy = some e) (hd : b.duty = some d) (c : Params)
    (h0 : e.share ≠ 0) (h1 : e.share ≠ 1000) :
    (b.trimmed = some .hi → valveDuties .flowing b c = { lo := c.mainDuty.toNat, hi := d }) ∧
      (b.trimmed = some .lo → valveDuties .flowing b c = { lo := d, hi := c.mainDuty.toNat }) := by
  constructor
  all_goals
    intro ht
    refine PerProduct.eq_of_get ?_ ?_ <;> rw [valveDuties_flowing h] <;> simp [GradeEntry.needs, GradeEntry.blended, h0, h1, ht, hd]

/-! ### The Blend Controller at an entry to FLOWING -/

theorem Blend.enterFlowing_copy (b : Blend) (main : Nat) (size lo hi : Int) :
    (b.enterFlowing main size lo hi).copy = b.copy ∧ (b.enterFlowing main size lo hi).trimmed = b.trimmed := by
  unfold Blend.enterFlowing
  split
  · exact ⟨rfl, rfl⟩
  · split <;> exact ⟨rfl, rfl⟩

/-- A blended grade that has no trimmed duty yet takes its start duty, within the main duty (R78). -/
theorem Blend.enterFlowing_duty {b : Blend} {e : GradeEntry} (h : b.copy = some e) (hb : e.blended = true) (hd : b.duty = none)
    (main : Nat) (size lo hi : Int) : (b.enterFlowing main size lo hi).duty = some (min e.startDuty main) := by
  unfold Blend.enterFlowing
  rw [h]
  dsimp only
  rw [if_pos hb, hd]
  rfl

theorem blendAfter_copy (s : State) (i : Side) (new : SideState) :
    (blendAfter s i new).copy = (s.blend.get i).copy ∧ (blendAfter s i new).trimmed = (s.blend.get i).trimmed := by
  unfold blendAfter
  dsimp only
  split
  · exact Blend.enterFlowing_copy _ _ _ _ _
  · exact ⟨rfl, rfl⟩

theorem blendAfter_duty {s : State} {i : Side} {e : GradeEntry} (h : (s.blend.get i).copy = some e) (hb : e.blended = true)
    (hd : (s.blend.get i).duty = none) :
    (blendAfter s i .flowing).duty = some (min e.startDuty s.params.mainDuty.toNat) :=
  Blend.enterFlowing_duty (b := { s.blend.get i with window := none }) h hb hd _ _ _ _

/-! ### The state that the figures choose -/

/-- The figures have a fill that may flow go on at the slow duty: it has a target and no slow point ahead (R25). -/
def flowsSlow (g : Figures) : Prop :=
  g.opened.bind (fun o => o.target) ≠ none ∧ (g.opened.bind (fun o => o.slowPoint) = none ∨ g.slowPassed = true)

theorem chooseFlow_target {i : Side} {s : State} (h : (s.figures.get i).targetReached = true) :
    chooseFlow i s = hold i .target s := if_pos h

theorem chooseFlow_limit {i : Side} {s : State} (ht : (s.figures.get i).targetReached = false)
    (h : (s.figures.get i).limitReached = true) : chooseFlow i s = hold i .limit s :=
  (if_neg (by rw [ht]; decide)).trans (if_pos h)

/-- A fill at neither its target nor LIMIT flows (R56, R60). -/
theorem chooseFlow_open {i : Side} {s : State} (ht : (s.figures.get i).targetReached = false)
    (hl : (s.figures.get i).limitReached = false) :
    (flowsSlow (s.figures.get i) → chooseFlow i s = enterState i .slowing s) ∧
      (¬flowsSlow (s.figures.get i) → chooseFlow i s = enterState i .flowing s) := by
  have hslow : flowsSlow (s.figures.get i) ↔ ((s.figures.get i).opened.bind (fun o => o.target)).isSome = true ∧
      (((s.figures.get i).opened.bind (fun o => o.slowPoint)).isNone = true ∨ (s.figures.get i).slowPassed = true) := by
    unfold flowsSlow
    rw [Option.isSome_iff_ne_none, Option.isNone_iff_eq_none]
  unfold chooseFlow
  dsimp only
  rw [ht, hl, hslow]
  exact ⟨fun h => if_pos h, fun h => if_neg h⟩

/-- What a side becomes that leaves STARTING for FLOWING or SLOWING: its no-flow timer starts and its sale stands (R58). -/
theorem enterState_opens {i : Side} {new : SideState} {s : State} (h : s.sideState i = .starting) (hn : new.isOpen = true) :
    ((enterState i new s).fill.get i).noFlowTimer = some (s.params.noFlowTimeout.toNat * 1000) ∧
      ((enterState i new s).fill.get i).sale = (s.fill.get i).sale ∧
      (enterState i new s).valves.get i = valveDuties new (blendAfter s i new) s.params := by
  have hne : s.sideState i ≠ new := by
    rw [h]
    rintro rfl
    exact absurd hn (by decide)
  have hwas : (s.fill.get i).state = .starting := h
  rw [enterState_fill hne, enterState_valves hne]
  refine ⟨?_, rfl, rfl⟩
  unfold noFlowAfter
  rw [if_pos hn, hwas]
  rfl

/-! ### PRIME_EXPIRY -/

/-- The part whose motor has primed (R66). -/
def primed (p : Product) (s : State) : State := s.setMotor p { s.motors.get p with state := .running, primeTimer := none }

theorem primed_motor (p : Product) (s : State) :
    (primed p s).motors.get p = { s.motors.get p with state := .running, primeTimer := none } := PerProduct.get_set_same _ _ _

theorem primed_motor_other (p : Product) (s : State) : (primed p s).motors.get p.other = s.motors.get p.other :=
  PerProduct.get_set_other _ _ (by cases p <;> decide)

theorem primeExpiry_stopped {p : Product} {s : State} (h : (s.motors.get p).primeTimer = none) : primeExpiry p s = s := by
  unfold primeExpiry
  dsimp only
  rw [h]
  rfl

theorem primeExpiry_primes {p : Product} {s : State} (h : (s.motors.get p).primeTimer ≠ none) :
    primeExpiry p s =
      (let u := if startingNeeds (primed p s) .a p then tryLeaveStarting .a (primed p s) else primed p s
       if startingNeeds u .b p then tryLeaveStarting .b u else u) :=
  if_pos (Option.isSome_iff_ne_none.mpr h)

theorem startingNeeds_false {s : State} {i : Side} (h : s.sideState i ≠ .starting) (p : Product) : startingNeeds s i p = false := by
  unfold startingNeeds
  rw [decide_eq_false h]
  rfl

/-- An expiry that no side awaits makes its motor RUNNING and nothing else. -/
theorem primeExpiry_alone {p : Product} {s : State} (h : (s.motors.get p).primeTimer ≠ none)
    (hs : ∀ i, s.sideState i ≠ .starting) : primeExpiry p s = primed p s := by
  have hn (i : Side) : startingNeeds (primed p s) i p = false := startingNeeds_false (hs i) p
  rw [primeExpiry_primes h]
  simp [hn]

/-- Every motor that the sale of a side needs runs (R56). -/
theorem motorsReady_iff (s : State) (i : Side) :
    motorsReady s i = true ↔ ∀ p, (s.blend.get i).needs p = true → (s.motors.get p).state = .running := by
  have hone (p : Product) : (!(s.blend.get i).needs p || (s.motors.get p).state == .running) = true ↔
      ((s.blend.get i).needs p = true → (s.motors.get p).state = .running) := by
    cases (s.blend.get i).needs p <;> simp
  refine Bool.and_eq_true_iff.trans ⟨fun ⟨hl, hh⟩ p => ?_, fun h => ⟨(hone .lo).mpr (h .lo), (hone .hi).mpr (h .hi)⟩⟩
  cases p
  · exact (hone .lo).mp hl
  · exact (hone .hi).mp hh

theorem product_eq_or_eq_other (p q : Product) : q = p ∨ q = p.other := by
  cases p <;> cases q <;> decide

/-- The motors of a grade run once the awaited one does and the other one, where it is needed, runs (R56). -/
theorem motorsReady_primed {p : Product} {i : Side} {e : GradeEntry} {s : State} (hc : (s.blend.get i).copy = some e)
    (hother : e.needs p.other = true → (s.motors.get p.other).state = .running) : motorsReady (primed p s) i = true := by
  refine (motorsReady_iff _ _).mpr (fun q hq => ?_)
  rcases product_eq_or_eq_other p q with rfl | rfl
  · rw [primed_motor]
  · rw [primed_motor_other]
    exact hother ((Blend.needs_copy hc _).symm.trans hq)

/-- The one side in STARTING that awaits the motor alone goes where its figures say (R56, R66). -/
theorem primeExpiry_leaves {p : Product} {i : Side} {e : GradeEntry} {s : State} (h : (s.motors.get p).primeTimer ≠ none)
    (hi : s.sideState i = .starting) (hj : s.sideState i.other ≠ .starting) (ht : (s.fill.get i).testDone = true)
    (hc : (s.blend.get i).copy = some e) (hp : e.needs p = true)
    (hother : e.needs p.other = true → (s.motors.get p.other).state = .running) :
    primeExpiry p s = chooseFlow i (primed p s) := by
  have hneeds : startingNeeds (primed p s) i p = true := by
    have hn : ((primed p s).blend.get i).needs p = true := (Blend.needs_copy hc p).trans hp
    have hst : (primed p s).sideState i = .starting := hi
    unfold startingNeeds
    rw [decide_eq_true hst, hn]
    rfl
  have hleave : tryLeaveStarting i (primed p s) = chooseFlow i (primed p s) := if_pos ⟨hi, ht, motorsReady_primed hc hother⟩
  rw [primeExpiry_primes h]
  cases i with
  | a =>
    have hb : (chooseFlow .a (primed p s)).sideState .b = s.sideState .b :=
      congrArg Fill.state (chooseFlow_only .a (primed p s) (.fill .b) (by simp))
    have hnot : startingNeeds (chooseFlow .a (primed p s)) .b p = false := startingNeeds_false (by rw [hb]; exact hj) p
    simp [hneeds, hleave, hnot]
  | b =>
    have hnot : startingNeeds (primed p s) .a p = false := startingNeeds_false (s := primed p s) hj p
    simp [hneeds, hleave, hnot]

/-- Settles O34: a stopped timer; an expiry that no side awaits; and the side that leaves STARTING by the branches of `chooseFlow`. -/
theorem primingEndsAndTheFillFlows : Obligations.PrimingEndsAndTheFillFlows := by
  intro p s hs m
  refine ⟨fun h => hs.event_none (primeExpiry_stopped h), fun h hn => ?_, fun i e h hi hj ht hc hp hother => ?_⟩
  · have hq : StandsStill s (primed p s) := ⟨rfl, rfl, rfl, rfl, rfl, rfl, fun _ => ⟨rfl, rfl⟩, rfl⟩
    change event (primeExpiry p) s = _
    rw [event_next, primeExpiry_alone h hn, hs.settle_quiet hq rfl rfl]
    rfl
  · have hx : exec (.primeExpiry p) s = .next (settle s (chooseFlow i (primed p s))) := by
      change event (primeExpiry p) s = _
      rw [event_next, primeExpiry_leaves h hi hj ht hc hp hother]
    have hui : (primed p s).sideState i = .starting := hi
    have hne : (primed p s).sideState i ≠ .held := by rw [hui]; decide
    have hcopy (new : SideState) : (blendAfter (primed p s) i new).copy = some e := (blendAfter_copy _ _ _).1.trans hc
    refine ⟨_, hx, ?_, ?_, ?_⟩
    · rw [settle_motors, ← primed_motor]
      exact chooseFlow_only i (primed p s) (.motor p) (by simp)
    · exact OnlyChanges.settle_clear s hs
        (((setMotor_only s p _).mono (by simp)).step (chooseFlow_only i (primed p s)) (by simp))
    · intro g target slow main slowing
      rw [settle_sideState, settle_valves, settle_fill]
      refine ⟨fun hg => ?_, fun hg hl => ?_, fun hg hl => ?_⟩
      · have hh := hold_held .target hne
        rw [chooseFlow_target (s := primed p s) hg]
        exact ⟨hh.state, hh.valves, hh.sale⟩
      · have hh := hold_held .limit hne
        rw [chooseFlow_limit (s := primed p s) hg hl]
        exact ⟨hh.state, hh.valves, hh.sale⟩
      · obtain ⟨hslow, hflow⟩ := chooseFlow_open (s := primed p s) hg hl
        by_cases hsl : slowing
        · obtain ⟨htimer, hsale, hvalves⟩ := enterState_opens (new := .slowing) hui rfl
          rw [hslow hsl]
          refine ⟨htimer, hsale, fun _ => ⟨enterState_sideState _ _ _, fun q => ?_⟩, fun hn => absurd hsl hn⟩
          rw [hvalves, valveDuties_slowing (hcopy _)]
          rfl
        · obtain ⟨htimer, hsale, hvalves⟩ := enterState_opens (new := .flowing) hui rfl
          obtain ⟨hlo, hhi⟩ := valveDuties_pure (hcopy .flowing) (primed p s).params
          rw [hflow hsl, hvalves]
          refine ⟨htimer, hsale, fun hn => absurd hn hsl, fun _ => ⟨enterState_sideState _ _ _, hlo, hhi, fun h0 h1 hd => ?_⟩⟩
          have hb : e.blended = true := (GradeEntry.blended_iff e).mpr (not_or.mpr ⟨h0, h1⟩)
          have htrim : (blendAfter (primed p s) i .flowing).trimmed = (s.blend.get i).trimmed := (blendAfter_copy _ _ _).2
          rw [← htrim]
          exact valveDuties_blended (hcopy .flowing) (blendAfter_duty (s := primed p s) hc hb hd) (primed p s).params h0 h1

end Sys2Proof.Machine

namespace Sys2Proof.Machine

open Sys2Proof

/-! ### Sale numbers

From any number the next 9,998 are distinct, so that fewer than 9,999 queued records leave one of them free. -/

/-- The numbers after a number, counted on: past 9,999 they go on from 1 (R93). -/
theorem numberAfter_iterate (n : Nat) {k : Nat} (hk : k ≤ 9998) :
    Nat.iterate numberAfter k n =
      if k = 0 then n else if 9999 ≤ n then k else if n + k ≤ 9999 then n + k else n + k - 9999 := by
  induction k with
  | zero => rfl
  | succ k ih =>
    have hprev := ih (by omega)
    rw [Function.iterate_succ_apply', if_neg (Nat.succ_ne_zero k)]
    generalize Nat.iterate numberAfter k n = m at hprev ⊢
    unfold numberAfter
    split_ifs at hprev ⊢ <;> omega

theorem numberAfter_iterate_ne (n : Nat) {j k : Nat} (hj : j < k) (hk : k ≤ 9998) :
    Nat.iterate numberAfter j n ≠ Nat.iterate numberAfter k n := by
  rw [numberAfter_iterate n (by omega), numberAfter_iterate n hk]
  split_ifs <;> omega

/-- Fewer than 9,999 numbers cannot hold a number and as many after it as they are themselves. -/
theorem exists_numberAfter_free {held : List Nat} (h : held.length < 9999) (n : Nat) :
    ∃ k ≤ held.length, Nat.iterate numberAfter k n ∉ held := by
  by_contra hall
  push Not at hall
  let run := (List.range (held.length + 1)).map (fun k => Nat.iterate numberAfter k n)
  have hnodup : run.Nodup := by
    refine List.Nodup.map_on (fun j hj k hk e => ?_) List.nodup_range
    rw [List.mem_range] at hj hk
    rcases lt_trichotomy j k with hlt | rfl | hlt
    · exact absurd e (numberAfter_iterate_ne n hlt (by omega))
    · rfl
    · exact absurd e.symm (numberAfter_iterate_ne n hlt (by omega))
  have hsub : run ⊆ held := fun x hx => by
    obtain ⟨k, hk, rfl⟩ := List.mem_map.mp hx
    exact hall k (by rw [List.mem_range] at hk; omega)
  have hlen : run.length = held.length + 1 := by rw [List.length_map, List.length_range]
  have := (List.subperm_of_subset hnodup hsub).length_le
  omega

/-- The search goes on while the numbers are held, for as many numbers as it may pass (R93). -/
theorem freeNumber_spec (held : List Nat) (fuel n : Nat) :
    ∃ k ≤ fuel, freeNumber held fuel n = Nat.iterate numberAfter k n ∧ (∀ j < k, Nat.iterate numberAfter j n ∈ held) ∧
      (k < fuel → freeNumber held fuel n ∉ held) := by
  induction fuel generalizing n with
  | zero => exact ⟨0, le_rfl, rfl, fun j hj => absurd hj (Nat.not_lt_zero j), fun h => absurd h (Nat.lt_irrefl 0)⟩
  | succ fuel ih =>
    by_cases hn : n ∈ held
    · obtain ⟨k, hk, heq, hheld, hfree⟩ := ih (numberAfter n)
      have e : freeNumber held (fuel + 1) n = freeNumber held fuel (numberAfter n) := if_pos hn
      refine ⟨k + 1, by omega, e.trans heq, fun j hj => ?_, fun h => by rw [e]; exact hfree (by omega)⟩
      cases j with
      | zero => exact hn
      | succ j => exact hheld j (by omega)
    · have e : freeNumber held (fuel + 1) n = n := if_neg hn
      exact ⟨0, Nat.zero_le _, e, fun j hj => absurd hj (Nat.not_lt_zero j), fun _ => by rw [e]; exact hn⟩

/-- The number that a side's next sale takes is the next one that no queued record holds (R93). -/
theorem takenNumber_given (s : State) (i : Side) : s.GivesNumber i (takenNumber s i) := by
  unfold State.GivesNumber
  intro held next
  obtain ⟨k, hk, heq, hheld, hfree⟩ := freeNumber_spec held held.length next
  have hlen : held.length = (s.register.queues.get i).length := List.length_map _
  have e : takenNumber s i = freeNumber held held.length next := rfl
  rw [e]
  refine ⟨fun hn => ?_, fun hlt => ⟨?_, k, hk, heq, hheld⟩⟩
  · have hk0 : k = 0 := Nat.eq_zero_of_not_pos (fun hpos => hn (hheld 0 hpos))
    rw [heq, hk0]
    rfl
  · rcases hk.lt_or_eq with hlt' | heq'
    · exact hfree hlt'
    · obtain ⟨j, hj, hjfree⟩ := exists_numberAfter_free hlt next
      rw [heq]
      rcases hj.lt_or_eq with hj' | hj'
      · exact absurd (hheld j (by omega)) hjfree
      · rw [heq', ← hj']
        exact hjfree

end Sys2Proof.Machine

namespace Sys2Proof.Machine

open Sys2Proof

/-! ### Display Controllers at STARTING entry -/

/-- Sending a frame leaves the controller in its state. -/
theorem startDisplay_controller (i : Side) (s : State) : (startDisplay i s).controller = (s.display.get i).controller := by
  unfold startDisplay
  generalize s.display.get i = d
  rcases d with ⟨c, la, tr, so, te, ho, re, tp, th, sh, hw, da, se, rt, fa, st, rf, ec, sa⟩
  rcases tr with _ | x
  · cases c
    case testing =>
      rcases te with _ | ⟨k, ph, du, ti⟩
      · rfl
      · cases du <;> rfl
    all_goals cases so <;> rfl
  · rfl

theorem sendDue_controller (i : Side) (s : State) :
    ((sendDue i s).display.get i).controller = (s.display.get i).controller := by
  unfold sendDue
  rw [State.setDisplay_display, PerSide.get_set_same, startDisplay_controller]

/-- A SHOWING controller stays so when its side changes its state (R109). -/
theorem Display.sideChanged_showing {d : Display} (h : d.controller = .showing) (old new : SideState) (refresh : Nat) :
    (d.sideChanged old new refresh).controller = .showing := by
  unfold Display.sideChanged
  rw [h]
  dsimp only
  split
  · exact h
  · rfl

theorem enterState_showing {i : Side} {s : State} (h : (s.display.get i).controller = .showing) (new : SideState) :
    ((enterState i new s).display.get i).controller = .showing := by
  by_cases hn : s.sideState i = new
  · rw [enterState_same hn, h]
  · rw [enterState_other hn, sendDue_controller, State.setDisplay_display, PerSide.get_set_same]
    exact Display.sideChanged_showing h _ _ _

theorem Display.startTest_showing {d : Display} (h : d.controller = .showing) (k : TestKind) :
    (d.startTest k).controller = .testing := by
  unfold Display.startTest
  rw [h]

/-! ### Demand raised at STARTING entry -/

/-- A raise that is made or not. -/
def raiseIf (b : Bool) (i : Side) (p : Product) (s : State) : State := if b then raiseDemand i p s else s

theorem raiseIf_fill (b : Bool) (i : Side) (p : Product) (s : State) :
    (raiseIf b i p s).fill.get i = { s.fill.get i with demand := (s.fill.get i).demand.set p (b || (s.fill.get i).demand.get p) } := by
  cases b <;> simp [raiseIf, raiseDemand]

theorem raiseIf_motors (b : Bool) (i : Side) (p : Product) (s : State) :
    (raiseIf b i p s).motors =
      s.motors.set p (if b then (s.motors.get p).raise s.params.primeDelay.toNat else s.motors.get p) := by
  cases b <;> simp [raiseIf, raiseDemand]

theorem raiseIf_params (b : Bool) (i : Side) (p : Product) (s : State) : (raiseIf b i p s).params = s.params := by
  cases b <;> rfl

theorem raiseNeeded_eq (i : Side) (s : State) :
    raiseNeeded i s = raiseIf ((s.blend.get i).needs .hi) i .hi (raiseIf ((s.blend.get i).needs .lo) i .lo s) := rfl

/-- The demand of a side with that of the products its sale needs (R55). -/
def Blend.demand (b : Blend) (d : PerProduct Bool) : PerProduct Bool := { lo := b.needs .lo || d.lo, hi := b.needs .hi || d.hi }

theorem Blend.demand_get (b : Blend) (d : PerProduct Bool) (p : Product) : (b.demand d).get p = (b.needs p || d.get p) := by
  cases p <;> rfl

theorem raiseNeeded_fill (i : Side) (s : State) :
    (raiseNeeded i s).fill.get i = { s.fill.get i with demand := (s.blend.get i).demand (s.fill.get i).demand } := by
  rw [raiseNeeded_eq, raiseIf_fill, raiseIf_fill]
  rfl

/-- Each needed product's motor is raised, and no other (R55, R65). -/
theorem raiseNeeded_motor (i : Side) (p : Product) (s : State) :
    (raiseNeeded i s).motors.get p =
      if (s.blend.get i).needs p then (s.motors.get p).raise s.params.primeDelay.toNat else s.motors.get p := by
  rw [raiseNeeded_eq, raiseIf_motors, raiseIf_motors, raiseIf_params]
  cases p <;> rfl

/-! ### STARTING entry -/

/-- The side whose sale is opened: numbered, its figures and its grade copy taken, its accumulators zeroed and the authorization IN_USE
(R55). -/
def saleOpened (i : Side) (a : Auth) (n : Nozzle) (g : Grade) (s : State) : State :=
  ((zeroSale i ((s.setRegister { s.register with
      next := s.register.next.set i (nextSaleNumber (takenNumber s i)) }).setFigures i
    (openFigures (s.prices.lookup (s.prices.sideGeneration.get i) g a.level) a.level (s.prices.sideGeneration.get i) a.limit
      (slowDown s i)))).setFill i
    { s.fill.get i with
      slot := some { a with phase := .inUse }, authTimer := none, sale := some (openContext s i a n g), testDone := false }).setBlend i
    ((s.blend.get i).start (s.grades.get g))

/-- The opened side in STARTING, which the host has been told. -/
def saleEntered (i : Side) (a : Auth) (n : Nozzle) (g : Grade) (s : State) : State :=
  notify (.authEvent i a.source a.reference .inUse) (enterState i .starting (saleOpened i a n g s))

/-- The reader of a READER authorization is told as well. -/
def saleTold (i : Side) (a : Auth) (n : Nozzle) (g : Grade) (s : State) : State :=
  if a.source = .reader then pendAuthState i (.started (takenNumber s i)) (a.reference.getD 0) (saleEntered i a n g s)
  else saleEntered i a n g s

/-- The fill test starts at the side's display. -/
def saleTested (i : Side) (a : Auth) (n : Nozzle) (g : Grade) (s : State) : State :=
  sendDue i ((saleTold i a n g s).setDisplay i (((saleTold i a n g s).display.get i).startTest .fill))

theorem startSale_eq (i : Side) (a : Auth) (n : Nozzle) (g : Grade) (s : State) :
    startSale i a n g s =
      if raiseRefused (saleTested i a n g s) then fillFault i .estop none (saleTested i a n g s)
      else tryLeaveStarting i (raiseNeeded i (saleTested i a n g s)) := rfl

theorem saleOpened_only (i : Side) (a : Auth) (n : Nozzle) (g : Grade) (s : State) :
    OnlyChanges [.register, .figures i, .meter { side := i, product := .lo }, .meter { side := i, product := .hi }, .sideMeters i,
      .fill i, .blend i] s (saleOpened i a n g s) :=
  (((((setRegister_only s _).mono (by simp)).step (setFigures_only _ _ _) (by simp)).step (zeroSale_only i _) (by simp)).step
    (setFill_only _ _ _) (by simp)).step (setBlend_only _ _ _) (by simp)

/-- What follows the opening of a sale up to its fill test. -/
abbrev enteringBlocks (i : Side) : List Block := [.fill i, .blend i, .valves i, .display i, .link, .port i]

theorem saleEntered_only (i : Side) (a : Auth) (n : Nozzle) (g : Grade) (s : State) :
    OnlyChanges (stateBlocks i ++ [.link]) (saleOpened i a n g s) (saleEntered i a n g s) :=
  ((enterState_only i _ _).mono (by simp)).step (notify_only _ _) (by simp)

theorem saleTold_only (i : Side) (a : Auth) (n : Nozzle) (g : Grade) (s : State) :
    OnlyChanges [.port i] (saleEntered i a n g s) (saleTold i a n g s) := (pendAuthState_only i _ _ _).ite (.refl _ _)

theorem saleTested_display (i : Side) (a : Auth) (n : Nozzle) (g : Grade) (s : State) :
    OnlyChanges [.display i] (saleTold i a n g s) (saleTested i a n g s) := (setDisplay_only _ i _).trans (sendDue_only i _)

theorem saleTested_only (i : Side) (a : Auth) (n : Nozzle) (g : Grade) (s : State) :
    OnlyChanges (enteringBlocks i) (saleOpened i a n g s) (saleTested i a n g s) :=
  (((saleEntered_only i a n g s).mono (by simp)).step (saleTold_only i a n g s) (by simp)).step (saleTested_display i a n g s)
    (by simp)

theorem saleTested_entered (i : Side) (a : Auth) (n : Nozzle) (g : Grade) (s : State) :
    OnlyChanges [.port i, .display i] (saleEntered i a n g s) (saleTested i a n g s) :=
  ((saleTold_only i a n g s).mono (by simp)).step (saleTested_display i a n g s) (by simp)

theorem saleOpened_fill (i : Side) (a : Auth) (n : Nozzle) (g : Grade) (s : State) :
    (saleOpened i a n g s).fill.get i = { s.fill.get i with
      slot := some { a with phase := .inUse }, authTimer := none, sale := some (openContext s i a n g), testDone := false } := by
  simp [saleOpened]

theorem saleOpened_sideState (i : Side) (a : Auth) (n : Nozzle) (g : Grade) (s : State) :
    (saleOpened i a n g s).sideState i = s.sideState i := by
  unfold State.sideState
  rw [saleOpened_fill]

theorem saleOpened_blend (i : Side) (a : Auth) (n : Nozzle) (g : Grade) (s : State) :
    (saleOpened i a n g s).blend.get i = (s.blend.get i).start (s.grades.get g) := PerSide.get_set_same _ _ _

theorem pendAuthState_port (i : Side) (k : AuthStateKind) (r : Nat) (s : State) :
    ∃ x, (pendAuthState i k r s).ports.get i = { s.ports.get i with pendingAuth := x } := ⟨_, PerSide.get_set_same _ _ _⟩

/-- What STARTING entry leaves of a side whose raises the drivers do not refuse (R18, R55, R65, R67, R77, R93). -/
structure SaleStarted (i : Side) (a : Auth) (n : Nozzle) (g : Grade) (s t : State) : Prop where
  fill : t.fill.get i = { s.fill.get i with
    state := .starting, slot := some { a with phase := .inUse }, authTimer := none, sale := some (openContext s i a n g)
    testDone := false, noFlowTimer := none, quietTimer := none, afterFlowTimer := none
    demand := ((s.blend.get i).start (s.grades.get g)).demand (s.fill.get i).demand }
  register : t.register = { s.register with next := s.register.next.set i (nextSaleNumber (takenNumber s i)) }
  figures : t.figures.get i =
    openFigures (s.prices.lookup (s.prices.sideGeneration.get i) g a.level) a.level (s.prices.sideGeneration.get i) a.limit
      (slowDown s i)
  meters : t.meters.get i =
    { lo := { (s.meters.get i).lo with sale := 0 }, hi := { (s.meters.get i).hi with sale := 0 } }
  sideMeters : t.sideMeters.get i = { s.sideMeters.get i with fillErrors := 0, pulserRaised := false, reverseRaised := false }
  blend : t.blend.get i = (s.blend.get i).start (s.grades.get g)
  valves : t.valves.get i = { lo := 0, hi := 0 }
  motor : ∀ p, t.motors.get p =
    if (s.grades.get g).needs p then (s.motors.get p).raise s.params.primeDelay.toNat else s.motors.get p
  testing : (s.display.get i).controller = .showing → (t.display.get i).controller = .testing
  port : ∃ x, t.ports.get i = { s.ports.get i with pendingAuth := x }
  tells : ∀ k, Room (k + 1) s → t.link.tells (.authEvent i a.source a.reference .inUse)
  keeps : s.link.Keeps t.link
  only : OnlyChanges (startBlocks i) s t

/-- The state in which the fill test has started, before demand is raised. -/
theorem saleTested_fill {i : Side} {s : State} (a : Auth) (n : Nozzle) (g : Grade) (h : s.sideState i ≠ .starting) :
    (saleTested i a n g s).fill.get i = { s.fill.get i with
      state := .starting, slot := some { a with phase := .inUse }, authTimer := none, sale := some (openContext s i a n g)
      testDone := false, noFlowTimer := none, quietTimer := none, afterFlowTimer := none } := by
  have hne : (saleOpened i a n g s).sideState i ≠ .starting := by rw [saleOpened_sideState]; exact h
  have hfill : (saleTested i a n g s).fill.get i = (enterState i .starting (saleOpened i a n g s)).fill.get i :=
    saleTested_entered i a n g s (.fill i) (by simp)
  rw [hfill, enterState_fill hne, saleOpened_fill]
  rfl

theorem saleTested_blend {i : Side} {s : State} (a : Auth) (n : Nozzle) (g : Grade) (h : s.sideState i ≠ .starting) :
    (saleTested i a n g s).blend.get i = (s.blend.get i).start (s.grades.get g) := by
  have hne : (saleOpened i a n g s).sideState i ≠ .starting := by rw [saleOpened_sideState]; exact h
  have hblend : (saleTested i a n g s).blend.get i = (enterState i .starting (saleOpened i a n g s)).blend.get i :=
    saleTested_entered i a n g s (.blend i) (by simp)
  rw [hblend, enterState_blend hne]
  unfold blendAfter
  rw [saleOpened_blend]
  rfl

theorem saleTested_valves {i : Side} {s : State} (a : Auth) (n : Nozzle) (g : Grade) (h : s.sideState i ≠ .starting) :
    (saleTested i a n g s).valves.get i = { lo := 0, hi := 0 } := by
  have hne : (saleOpened i a n g s).sideState i ≠ .starting := by rw [saleOpened_sideState]; exact h
  have hvalves : (saleTested i a n g s).valves.get i = (enterState i .starting (saleOpened i a n g s)).valves.get i :=
    saleTested_entered i a n g s (.valves i) (by simp)
  rw [hvalves, enterState_valves hne, valveDuties_shut rfl]

theorem saleTested_testing {i : Side} {s : State} (a : Auth) (n : Nozzle) (g : Grade)
    (h : (s.display.get i).controller = .showing) : ((saleTested i a n g s).display.get i).controller = .testing := by
  have hopened : ((saleOpened i a n g s).display.get i).controller = .showing := h
  have hentered : ((saleEntered i a n g s).display.get i).controller = .showing := enterState_showing hopened .starting
  have htold : ((saleTold i a n g s).display.get i).controller = .showing := by
    have e : (saleTold i a n g s).display.get i = (saleEntered i a n g s).display.get i :=
      saleTold_only i a n g s (.display i) (by simp)
    rw [e, hentered]
  unfold saleTested
  rw [sendDue_controller, State.setDisplay_display, PerSide.get_set_same]
  exact Display.startTest_showing htold .fill

theorem saleTested_port (i : Side) (a : Auth) (n : Nozzle) (g : Grade) (s : State) :
    ∃ x, (saleTested i a n g s).ports.get i = { s.ports.get i with pendingAuth := x } := by
  have hentered : (saleEntered i a n g s).ports.get i = s.ports.get i :=
    (saleEntered_only i a n g s (.port i) (by simp)).trans (saleOpened_only i a n g s (.port i) (by simp))
  have htested : (saleTested i a n g s).ports.get i = (saleTold i a n g s).ports.get i :=
    saleTested_display i a n g s (.port i) (by simp)
  rw [htested, ← hentered]
  unfold saleTold
  split
  · exact pendAuthState_port _ _ _ _
  · exact ⟨_, rfl⟩

theorem saleOpened_link (i : Side) (a : Auth) (n : Nozzle) (g : Grade) (s : State) :
    (enterState i .starting (saleOpened i a n g s)).link = s.link :=
  (enterState_link _ _ _).trans (saleOpened_only i a n g s).link_eq

theorem saleTested_link (i : Side) (a : Auth) (n : Nozzle) (g : Grade) (s : State) :
    (saleTested i a n g s).link = (saleEntered i a n g s).link := (saleTested_entered i a n g s).link_eq

/-- A side that is not in STARTING enters it under an authorization, the drivers not refusing. -/
theorem startSale_started {i : Side} {s : State} (a : Auth) (n : Nozzle) (g : Grade) (h : s.sideState i ≠ .starting)
    (he : s.estopInput = false) (hw : s.supplyFailInput = false) : SaleStarted i a n g s (startSale i a n g s) := by
  have honly := startSale_only i a n g s
  have hopen := saleOpened_only i a n g s
  have htest := saleTested_only i a n g s
  have hblend := saleTested_blend a n g h
  have hraised : startSale i a n g s = raiseNeeded i (saleTested i a n g s) := by
    have hpass : raiseRefused (saleTested i a n g s) = false := by
      have he' : (saleTested i a n g s).estopInput = false :=
        (htest .estopInput (by simp)).trans ((hopen .estopInput (by simp)).trans he)
      have hw' : (saleTested i a n g s).supplyFailInput = false :=
        (htest .supplyFailInput (by simp)).trans ((hopen .supplyFailInput (by simp)).trans hw)
      unfold raiseRefused
      rw [he', hw']
      rfl
    have hwaits : ((raiseNeeded i (saleTested i a n g s)).fill.get i).testDone = false := by
      rw [raiseNeeded_fill, saleTested_fill a n g h]
    have hstays : tryLeaveStarting i (raiseNeeded i (saleTested i a n g s)) = raiseNeeded i (saleTested i a n g s) :=
      if_neg (by rintro ⟨-, hdone, -⟩; exact absurd (hdone.symm.trans hwaits) (by decide))
    rw [startSale_eq, hpass, hstays]
    rfl
  rw [hraised] at honly ⊢
  have hraise := raiseNeeded_only i (saleTested i a n g s)
  refine ⟨?_, ?_, ?_, ?_, ?_, ?_, ?_, fun p => ?_, fun hd => ?_, ?_, fun k hr => ?_, ?_, honly⟩
  · rw [raiseNeeded_fill, hblend, saleTested_fill a n g h]
  · exact (hraise .register (by simp)).trans (htest .register (by simp))
  · have e : (raiseNeeded i (saleTested i a n g s)).figures.get i = (saleOpened i a n g s).figures.get i :=
      (hraise (.figures i) (by simp)).trans (htest (.figures i) (by simp))
    rw [e]
    exact PerSide.get_set_same _ _ _
  · rw [hraise.meters_eq i, htest.meters_eq i]
    exact PerSide.get_set_same _ _ _
  · have e : (raiseNeeded i (saleTested i a n g s)).sideMeters.get i = (saleOpened i a n g s).sideMeters.get i :=
      (hraise (.sideMeters i) (by simp)).trans (htest (.sideMeters i) (by simp))
    rw [e]
    exact PerSide.get_set_same _ _ _
  · exact (hraise (.blend i) (by simp)).trans hblend
  · exact (hraise (.valves i) (by simp)).trans (saleTested_valves a n g h)
  · have hm : (saleTested i a n g s).motors.get p = s.motors.get p :=
      (htest (.motor p) (by simp)).trans (hopen (.motor p) (by simp))
    have hp : (saleTested i a n g s).params = s.params := (htest .params (by simp)).trans (hopen .params (by simp))
    rw [raiseNeeded_motor, hblend, hm, hp, Blend.needs_copy (e := s.grades.get g) rfl]
  · have e : (raiseNeeded i (saleTested i a n g s)).display.get i = (saleTested i a n g s).display.get i :=
      hraise (.display i) (by simp)
    rw [e]
    exact saleTested_testing a n g hd
  · have e : (raiseNeeded i (saleTested i a n g s)).ports.get i = (saleTested i a n g s).ports.get i :=
      hraise (.port i) (by simp)
    rw [e]
    exact saleTested_port i a n g s
  · rw [hraise.link_eq, saleTested_link]
    exact notify_tells (k := k) _ (hr.of_link (saleOpened_link i a n g s))
  · rw [hraise.link_eq, saleTested_link, ← saleOpened_link i a n g s]
    exact notify_keeps _ _

end Sys2Proof.Machine

namespace Sys2Proof.Machine

open Sys2Proof

/-! ### A counted lift -/

@[simp] theorem State.setFill_setFill (s : State) (i : Side) (f f' : Fill) : (s.setFill i f).setFill i f' = s.setFill i f' := by
  simp [State.setFill]

/-- The lift of a nozzle recorded, counted and reported (R49, R149). -/
def liftCounted (i : Side) (c : Counted) (s : State) : State :=
  reportNozzle i c true
    (s.setFill i { s.fill.get i with nozzles := (s.fill.get i).nozzles.set c.nozzle .up, counted := some c })

/-- The counting of a lift at an AUTHORIZED side tests it (R50). -/
theorem countLift_tests {i : Side} {a : Auth} {s : State} (n : Nozzle) (hst : (s.fill.get i).state = .authorized)
    (hslot : (s.fill.get i).slot = some a) :
    countLift i n s =
      testLift i a { nozzle := n, grade := (s.fill.get i).map.get n }
        (reportNozzle i { nozzle := n, grade := (s.fill.get i).map.get n } true
          (s.setFill i { s.fill.get i with counted := some { nozzle := n, grade := (s.fill.get i).map.get n } })) := by
  unfold countLift
  extract_lets f c w
  have hfst : f.state = .authorized := hst
  have hfslot : f.slot = some a := hslot
  change _ = testLift i a c w
  rw [hfst, hfslot]
  rfl

/-- A lift that is counted and tested: it does not wake the part, and comes at an AUTHORIZED side without a counted nozzle, whose map
has a grade for the nozzle (R49, R50, R164). -/
structure LiftTested (i : Side) (n : Nozzle) (a : Auth) (g : Grade) (s : State) : Prop where
  hung : (s.fill.get i).nozzles.get n = .hung
  awake : ¬(s.power.mode = .night ∧ s.params.wakeOnNozzle ≠ 0)
  uncounted : (s.fill.get i).counted = none
  state : (s.fill.get i).state = .authorized
  slot : (s.fill.get i).slot = some a
  grade : (s.fill.get i).map.get n = some g

theorem LiftTested.nozzleLift_eq {i : Side} {n : Nozzle} {a : Auth} {g : Grade} {s : State} (h : LiftTested i n a g s) :
    nozzleLift i n s =
      testLift i a { nozzle := n, grade := some g } (liftCounted i { nozzle := n, grade := some g } s) := by
  have hrecord : nozzleLift i n s =
      countLift i n (s.setFill i { s.fill.get i with nozzles := (s.fill.get i).nozzles.set n .up }) := by
    unfold nozzleLift recordLift
    dsimp only
    rw [if_pos h.hung, if_neg h.awake, h.uncounted]
    rfl
  have hfill : (s.setFill i { s.fill.get i with nozzles := (s.fill.get i).nozzles.set n .up }).fill.get i =
      { s.fill.get i with nozzles := (s.fill.get i).nozzles.set n .up } := PerSide.get_set_same _ _ _
  rw [hrecord, countLift_tests n (by rw [hfill]; exact h.state) (by rw [hfill]; exact h.slot), hfill, State.setFill_setFill]
  dsimp only
  rw [h.grade]
  rfl

theorem liftCounted_fill (i : Side) (c : Counted) (s : State) :
    (liftCounted i c s).fill.get i =
      { s.fill.get i with nozzles := (s.fill.get i).nozzles.set c.nozzle .up, counted := some c } := PerSide.get_set_same _ _ _

theorem liftCounted_sideState (i : Side) (c : Counted) (s : State) : (liftCounted i c s).sideState i = s.sideState i := by
  unfold State.sideState
  rw [liftCounted_fill]

theorem liftCounted_only (i : Side) (c : Counted) (s : State) : OnlyChanges [.fill i, .port i, .link] s (liftCounted i c s) :=
  ((setFill_only s i _).mono (by simp)).step (reportNozzle_only i c true _) (by simp)

theorem liftCounted_room {k : Nat} {i : Side} {c : Counted} {s : State} (h : Room (k + 1) s) : Room k (liftCounted i c s) :=
  (notify_room (s := s) (.nozzle i c.nozzle c.grade true) h).of_link rfl

theorem liftCounted_tells {k : Nat} {i : Side} {c : Counted} {s : State} (h : Room (k + 1) s) :
    (liftCounted i c s).link.tells (.nozzle i c.nozzle c.grade true) :=
  notify_tells (s := s) (.nozzle i c.nozzle c.grade true) h

theorem liftCounted_port {i : Side} {c : Counted} {s : State} (h : (s.ports.get i).state = .admitted) :
    (liftCounted i c s).ports.get i =
      { s.ports.get i with pendingNozzle := some { nozzle := c.nozzle, grade := c.grade, up := true } } := by
  refine (PerSide.get_set_same _ _ _).trans ?_
  have hp : (notify (.nozzle i c.nozzle c.grade true) (s.setFill i { s.fill.get i with
    nozzles := (s.fill.get i).nozzles.set c.nozzle .up, counted := some c })).ports.get i = s.ports.get i := rfl
  dsimp only
  rw [hp, if_pos h]

/-- The transmitter of an ADMITTED port keeps a pending NOZZLE_STATE or starts it (R133). -/
theorem Port.starts_tellsNozzle {p : Port} (d : Option SaleRecord) {x : NozzleStateRecord} (h : p.state = .admitted)
    (hx : p.pendingNozzle = some x) : (p.starts d).tellsNozzle x := by
  by_cases ht : p.tx = none
  · rw [Port.starts_admitted d ht h]
    unfold Port.startNext
    rw [hx]
    split
    · exact .inl rfl
    · split
      · exact .inl rfl
      · split
        · exact .inl rfl
        · exact .inr rfl
  · rw [Port.starts_busy d ht]
    exact .inl hx

/-- What an event that goes on from a counted lift tells of it: the host is told, and the reader of an ADMITTED port (R49, R149). -/
theorem liftCounted_told {i : Side} {c : Counted} {s u : State} (old : State)
    (hl : (liftCounted i c s).link.Keeps u.link) (hp : ∃ x, u.ports.get i = { (liftCounted i c s).ports.get i with pendingAuth := x }) :
    (∀ k, Room (k + 1) s → (settle old u).link.tells (.nozzle i c.nozzle c.grade true)) ∧
      ((s.ports.get i).state = .admitted →
        ((settle old u).ports.get i).tellsNozzle { nozzle := c.nozzle, grade := c.grade, up := true }) := by
  refine ⟨fun k h => (settle_keeps old u).tells _ (hl.tells _ (liftCounted_tells h)), fun h => ?_⟩
  obtain ⟨x, hx⟩ := hp
  rw [settle_ports, startReader_eq, hx, liftCounted_port h]
  exact Port.starts_tellsNozzle _ h rfl

/-! ### The conditions of an allowed lift -/

/-- A lift is refused for its grade, its price, a DARK display or an unready save slot, the first that fails (R51). -/
theorem liftRefusal_eq (s : State) (i : Side) (a : Auth) (g : Grade) :
    let p := s.prices.lookup (s.prices.sideGeneration.get i) g a.level
    (a.grades.getLsbD (g.number - 1) = false → liftRefusal s i a g = some .grade) ∧
    (a.grades.getLsbD (g.number - 1) = true → p = 0 → liftRefusal s i a g = some .price) ∧
    (a.grades.getLsbD (g.number - 1) = true → p ≠ 0 → (s.display.get i).dark = true → liftRefusal s i a g = some .dark) ∧
    (a.grades.getLsbD (g.number - 1) = true → p ≠ 0 → (s.display.get i).dark = false →
      (s.store.slots.get i).state ≠ .erased → liftRefusal s i a g = some .save) ∧
    (a.grades.getLsbD (g.number - 1) = true → p ≠ 0 → (s.display.get i).dark = false →
      (s.store.slots.get i).state = .erased → liftRefusal s i a g = none) := by
  unfold liftRefusal inGrades
  refine ⟨fun hg => ?_, fun hg hp => ?_, fun hg hp hd => ?_, fun hg hp hd hs => ?_, fun hg hp hd hs => ?_⟩
  · simp [hg]
  · simp [hg, hp]
  · simp [hg, hp, hd]
  · simp [hg, hp, hd, hs]
  · simp [hg, hp, hd, hs]

/-- An allowed lift is STARTING entry (R50, R51). -/
theorem LiftTested.starts {i : Side} {n : Nozzle} {a : Auth} {g : Grade} {s : State} (h : LiftTested i n a g s)
    (hr : liftRefusal s i a g = none) (he : s.estopInput = false) (hw : s.supplyFailInput = false) :
    SaleStarted i a n g (liftCounted i { nozzle := n, grade := some g } s) (nozzleLift i n s) := by
  have hv : liftRefusal (liftCounted i { nozzle := n, grade := some g } s) i a g = none := hr
  have hst : (liftCounted i { nozzle := n, grade := some g } s).sideState i = .authorized :=
    (liftCounted_sideState _ _ _).trans h.state
  have hstart : nozzleLift i n s = startSale i a n g (liftCounted i { nozzle := n, grade := some g } s) := by
    rw [h.nozzleLift_eq]
    unfold testLift
    dsimp only
    rw [hv]
  rw [hstart]
  exact startSale_started a n g (by rw [hst]; decide) he hw

/-- A refused lift leaves an AUTHORIZED side so, with GRADE_REFUSED (R50, R51). -/
theorem LiftTested.refused {i : Side} {n : Nozzle} {a : Auth} {g : Grade} {s : State} {r : LiftRefusal} (h : LiftTested i n a g s)
    (hr : liftRefusal s i a g = some r) :
    nozzleLift i n s = notify (.gradeRefused i n (some g) r) (liftCounted i { nozzle := n, grade := some g } s) := by
  have hv : liftRefusal (liftCounted i { nozzle := n, grade := some g } s) i a g = some r := hr
  rw [h.nozzleLift_eq]
  unfold testLift
  dsimp only
  rw [hv]
  dsimp only
  rw [enterState_same ((liftCounted_sideState _ _ _).trans h.state)]

/-! ### The figures at STARTING entry -/

/-- The target of a limit and its slow point (R23, R24, R25). -/
theorem openFigures_points (price : Nat) (level : Level) (generation : Nat) (limit : Option Limit) (slowDown : Nat) :
    (openFigures price level generation limit slowDown).opened.map (fun o => (o.target, o.slowPoint)) =
      some (limit.map (fun l => targetOf l price),
        (limit.map (fun l => targetOf l price)).bind (fun v => if slowDown < v then some (v - slowDown) else none)) := rfl

/-! ### The motors -/

/-- An OFF motor that is raised primes, or runs at once with no prime delay; any other is left as it is (R65). -/
theorem Motor.raise_off {m : Motor} (h : m.state = .off) (delay : Nat) :
    (delay ≠ 0 → m.raise delay = { state := .priming, relay := true, primeTimer := some delay }) ∧
      (delay = 0 → m.raise delay = { state := .running, relay := true, primeTimer := none }) := by
  unfold Motor.raise
  rw [h]
  exact ⟨fun hd => if_neg hd, fun hd => if_pos hd⟩

theorem Motor.raise_on {m : Motor} (h : m.state ≠ .off) (delay : Nat) : m.raise delay = m := by
  unfold Motor.raise
  split
  · rename_i hoff
    exact absurd hoff h
  · rfl
  · rfl

/-- What STARTING entry leaves alone stands at the end of its event too: no record joins or leaves a queue. -/
theorem SaleStarted.frame {i : Side} {a : Auth} {n : Nozzle} {g : Grade} {c : Counted} {s u : State} (old : State)
    (h : SaleStarted i a n g (liftCounted i c s) u) (hs : Settled s) : OnlyChanges (startBlocks i) s (settle old u) := by
  have hu : OnlyChanges (startBlocks i) s u := ((liftCounted_only i c s).mono (by simp)).trans h.only
  have hq : u.register.queues = s.register.queues := by rw [h.register]; rfl
  refine hu.settle old hs (by simp) (fun j _ => ?_) (fun _ => ?_)
  · unfold pendingDelivery
    rw [hq]
  · exact ⟨congrArg Power.mode (hu .power (by simp)), hu .supplyFailInput (by simp)⟩

/-- Settles O33: the lift is counted (`liftCounted`), then it is STARTING entry (`SaleStarted`) or a notice. -/
theorem anAllowedLiftStartsTheFill : Obligations.AnAllowedLiftStartsTheFill := by
  intro i n a g s hs f hst hslot hhung hcounted hmap hwake p e number needs delay target slowDown slow told
  have hlift : LiftTested i n a g s := ⟨hhung, hwake, hcounted, hst, hslot, hmap⟩
  obtain ⟨hgrade, hprice, hdark, hsave, hallowed⟩ := liftRefusal_eq s i a g
  refine ⟨fun hg hp hd hsl he hw => ⟨takenNumber_given s i, settle s (nozzleLift i n s), rfl, ?_⟩,
    fun r hr => ⟨settle s (nozzleLift i n s), rfl, ?_⟩⟩
  · have hstart := hlift.starts (hallowed hg hp hd hsl) he hw
    obtain ⟨htold, hreader⟩ := liftCounted_told s hstart.keeps hstart.port
    have hfill := hstart.fill
    rw [liftCounted_fill] at hfill
    have hneeds (q : Product) : needs q ↔ e.needs q = true := by cases q <;> simp [needs, GradeEntry.needs]
    have hmotor (q : Product) :
        (nozzleLift i n s).motors.get q = if e.needs q then (s.motors.get q).raise delay else s.motors.get q := hstart.motor q
    have hdemand (q : Product) : ((nozzleLift i n s).fill.get i).demand.get q = (e.needs q || f.demand.get q) := by
      rw [hfill]
      exact Blend.demand_get _ _ q
    have htarget : a.limit.map (fun l => targetOf l p) = target := by
      refine Option.map_congr (fun l _ => ?_)
      rcases l with ⟨_ | _, value⟩
      · exact min_comm _ _
      · rfl
    have hslow : Machine.slowDown (liftCounted i { nozzle := n, grade := some g } s) i = slowDown := by cases i <;> rfl
    rw [settle_sideState, settle_fill, settle_register, settle_figures, settle_meters, settle_sideMeters, settle_blend, settle_valves,
      settle_motors, settle_display, startDisplay_controller, hstart.figures, hstart.meters, hstart.sideMeters, hstart.blend, hslow]
    refine ⟨congrArg Fill.state hfill, by rw [hfill], by rw [hfill], by rw [hfill], by rw [hfill], by rw [hfill]; rfl, hstart.register,
      rfl, rfl, rfl, rfl, rfl, ?_, rfl, rfl, rfl, rfl, rfl, rfl, rfl, hstart.valves, fun q hq => ?_, fun q hq => ⟨?_, ?_⟩,
      fun q hq hoff => ?_, fun q hq hon => ?_, hstart.testing, fun hroom => ?_, ⟨htold 3, hreader⟩, ?_⟩
    · rw [openFigures_points]
      exact congrArg (fun x => some (x, x.bind (fun v => if slowDown < v then some (v - slowDown) else none))) htarget
    · rw [hdemand, (hneeds q).mp hq]
      rfl
    · rw [hdemand, Bool.eq_false_iff.mpr (fun h => hq ((hneeds q).mpr h))]
      rfl
    · rw [hmotor, if_neg (fun h => hq ((hneeds q).mpr h))]
    · rw [hmotor, if_pos ((hneeds q).mp hq)]
      exact Motor.raise_off hoff delay
    · rw [hmotor, if_pos ((hneeds q).mp hq)]
      exact Motor.raise_on hon delay
    · exact (settle_keeps _ _).tells _ (hstart.tells 2 (liftCounted_room hroom))
    · exact (hstart.frame s hs).mono (by simp)
  · have hrefused : liftRefusal s i a g = some r := by
      rcases hr with ⟨hg, rfl⟩ | ⟨hg, hp, rfl⟩ | ⟨hg, hp, hd, rfl⟩ | ⟨hg, hp, hd, hsl, rfl⟩
      · exact hgrade hg
      · exact hprice hg hp
      · exact hdark hg hp hd
      · exact hsave hg hp hd hsl
    have hu := hlift.refused hrefused
    obtain ⟨htold, hreader⟩ := liftCounted_told (i := i) (c := { nozzle := n, grade := some g }) (s := s) (u := nozzleLift i n s) s
      (by rw [hu]; exact notify_keeps _ _) (by rw [hu]; exact ⟨_, rfl⟩)
    refine ⟨?_, fun hroom => ?_, ⟨htold 3, hreader⟩, ?_⟩
    · rw [settle_fill, hu]
      exact liftCounted_fill i _ s
    · refine (settle_keeps _ _).tells _ ?_
      rw [hu]
      exact notify_tells (k := 2) _ (liftCounted_room hroom)
    · refine OnlyChanges.settle_clear s hs ?_
      rw [hu]
      exact (liftCounted_only i _ s).step (notify_only _ _) (by simp)

end Sys2Proof.Machine

namespace Sys2Proof.Machine

open Sys2Proof

/-! ### The request in service at the end of an event

What the end of an event queues and starts takes no request out of service (R184, R186). -/

theorem Link.startNext_service (l : Link) : l.startNext.service = l.service := by
  rcases l with ⟨r, g, sv, rs, bs, ns, lo, tx, la, c⟩
  cases tx <;> cases rs <;> cases bs <;> cases ns <;> rfl

theorem notify_service (n : Notice) (s : State) : (notify n s).link.service = s.link.service := Link.enqueue_service _ _

theorem notifyAll_service (ns : List Notice) (s : State) :
    (ns.foldl (fun u n => notify n u) s).link.service = s.link.service := by
  induction ns generalizing s with
  | nil => rfl
  | cons n ns ih => exact (ih (notify n s)).trans (notify_service n s)

theorem reportSide_service (i : Side) (old : Fill) (s : State) : (reportSide i old s).link.service = s.link.service := by
  unfold reportSide
  dsimp only
  split
  · rfl
  · exact notify_service _ _

theorem settle_service (old u : State) : (settle old u).link.service = u.link.service := by
  rw [settle_link, Link.startNext_service]
  calc (reported old u).service
      = (reportSide .b old.fill.b (reportSide .a old.fill.a (sendDisplays u))).link.service := notifyAll_service _ _
    _ = (reportSide .a old.fill.a (sendDisplays u)).link.service := reportSide_service _ _ _
    _ = u.link.service := reportSide_service _ _ (sendDisplays u)

/-! ### The change of the banks -/

/-- The banks after a commit: the retained bank stands exactly while a side is left on the generation before it (R34, R37, R38). -/
theorem Prices.commit_committedFrom (p : Prices) (filling : Side → Bool) :
    p.CommittedFrom (p.commit (filling .a) (filling .b)) filling where
  active := rfl
  staged := rfl
  generation := rfl
  schedule := rfl
  sides i := by cases i <;> rfl
  kept h := by
    obtain ⟨i, h⟩ := h
    refine if_pos ?_
    cases i
    · exact .inl h
    · exact .inr h
  dropped h := if_neg (fun x => x.elim (h .a) (h .b))

/-- PRICE_ADOPTED of a commit that has left the banks as given (R37). -/
def adoptedNotice (s : State) (p : Prices) : Notice :=
  .priceAdopted p.generation (!s.filling .a) (!s.filling .b) (p.retained.map (fun r => r.generation))

/-- A commit has taken place between `s` and `t`: the banks have changed, PRICE_ADOPTED is told, and a PRICE_WRITE is queued. -/
structure Committed (s t : State) : Prop where
  banks : s.prices.CommittedFrom t.prices s.filling
  told : Room 1 s → t.link.tells (adoptedNotice s t.prices)
  queued : s.store.HasQueued t.store .priceWrite

/-- An event commits where its effect changes the banks of a state that differs from the one before it in neither prices, fills nor
notices, and then queues a PRICE_WRITE without taking the notice back. -/
theorem settle_committed {s v u : State} {serves : Bool} (old : State) (hp : v.prices = s.prices) (hf : v.fill = s.fill)
    (hr : Room 1 s → Room 1 v) (hup : u.prices = (commitBanks v).prices) (hk : (commitBanks v).link.Keeps u.link)
    (hu : u.store = { s.store with waiting := joinJob .priceWrite serves s.store.waiting }) : Committed s (settle old u) := by
  have hfilling : v.filling = s.filling := by
    funext i
    unfold State.filling State.sideState
    rw [hf]
  have hprices : u.prices = s.prices.commit (s.filling .a) (s.filling .b) := by
    rw [hup, ← hp, ← hfilling]
    rfl
  obtain ⟨j, hj, hkind, -⟩ := joinJob_mem .priceWrite serves s.store.waiting
  refine ⟨?_, fun hroom => (settle_keeps _ _).tells _ (hk.tells _ ?_), ?_⟩
  · rw [settle_prices, hprices]
    exact Prices.commit_committedFrom _ _
  · rw [settle_prices, hup]
    unfold adoptedNotice
    rw [← hfilling]
    exact notify_tells (k := 0) _ (hr hroom)
  · rw [← hkind]
    exact settle_hasQueued old (by rw [hu]; exact hj) (by rw [hu])

/-! ### COMMIT_PRICES NOW -/

/-- What COMMIT_PRICES of another form than AT does, by its checks in their order (R36). -/
theorem takeCommitNow_serving (form kind tag : Nat) (s : State) :
    takeCommitNow form (s.serving kind tag) =
      if form ≠ 0 then refuse .badValue (s.serving kind tag)
      else if pricesUnread s = true then refuse .wrongState (s.serving kind tag)
      else if s.prices.retained.isSome = true then refuse .priceBusy (s.serving kind tag)
      else serveByJob .priceWrite (num 2 (commitBanks (s.serving kind tag)).prices.generation)
        (commitBanks (s.serving kind tag)) := rfl

/-- The fields that a held reply will carry take nothing from the link. -/
theorem Link.hold_keeps (l : Link) (fields : List Field) : l.Keeps (l.hold fields) :=
  .of_append (ns := []) (List.append_nil _).symm rfl rfl id id id

/-- COMMIT_PRICES of another form than AT by the first check that fails (R36). -/
theorem commitNow_refused {s : State} (hs : Settled s) (hf : Free s) (tag : Nat) :
    let c (form : Nat) : Instr := .commitPricesNow tag (.fields form)
    (∀ form, form ≠ 0 → exec (c form) s = .next (s.replied Kind.commitPrices tag .badValue [])) ∧
    (pricesUnread s = true → exec (c 0) s = .next (s.replied Kind.commitPrices tag .wrongState [])) ∧
    (¬pricesUnread s = true → s.prices.retained ≠ none →
      exec (c 0) s = .next (s.replied Kind.commitPrices tag .priceBusy [])) := by
  have htake (form : Nat) := takeCommitNow_serving form Kind.commitPrices tag s
  have hrefuse (form : Nat) {st : Status} := replied_of_refuse hs hf Kind.commitPrices tag form takeCommitNow st
  refine ⟨fun form h => hrefuse form ((htake form).trans (if_pos h)), fun h => hrefuse 0 ((htake 0).trans ?_),
    fun h hr => hrefuse 0 ((htake 0).trans ?_)⟩
  · rw [if_neg (not_not.mpr rfl), if_pos h]
  · rw [if_neg (not_not.mpr rfl), if_neg h, if_pos (Option.isSome_iff_ne_none.mpr hr)]

/-- COMMIT_PRICES NOW accepted: the commit, and the request stays in service for the PRICE_WRITE (R37, R39). -/
theorem commitNow_commits {s : State} (hs : Settled s) (hf : Free s) (tag : Nat) (hu : ¬pricesUnread s = true)
    (hr : s.prices.retained = none) :
    ∃ t, exec (.commitPricesNow tag (.fields 0)) s = .next t ∧ Committed s t ∧
      t.link.service =
        some { kind := Kind.commitPrices, tag := tag, fields := num 2 t.prices.generation, restart := false } ∧
      t.store.willServe .priceWrite ∧ OnlyChanges [.prices, .store, .link] s t := by
  have htake := takeCommitNow_serving 0 Kind.commitPrices tag s
  rw [if_neg (not_not.mpr rfl), if_neg hu, if_neg (by rw [hr]; decide)] at htake
  obtain ⟨⟨_, _⟩, hj, rfl, hserves⟩ := joinJob_mem .priceWrite true s.store.waiting
  refine ⟨_, (event_request hf Kind.commitPrices tag 0 takeCommitNow).trans (congrArg _ (congrArg _ htake)),
    settle_committed (v := s.serving Kind.commitPrices tag) s rfl rfl id rfl (Link.hold_keeps _ _) rfl, ?_, ?_, ?_⟩
  · have hservice : (commitBanks (s.serving Kind.commitPrices tag)).link.service =
        some { kind := Kind.commitPrices, tag := tag, fields := [], restart := false } := notify_service _ _
    rw [settle_service, settle_prices]
    exact congrArg (Option.map _) hservice
  · exact settle_willServe (j := ⟨.priceWrite, _⟩) s hj (hserves rfl)
  · exact OnlyChanges.settle_clear s hs ((((setLink_only s _).mono (by simp)).step (commitBanks_only _) (by simp)).step
      (serveByJob_only _ _ _) (by simp))

/-! ### The clock -/

/-- A second that is neither night nor waking time acts on no mode (R161). -/
theorem scheduleActs_none {t : Nat} {s : State} (hn : s.power.nightAt ≠ some t) (hw : s.power.wakeAt ≠ some t) :
    scheduleActs t s = s := by
  unfold scheduleActs
  dsimp only
  rw [if_neg (fun h => hw h.1), if_neg (fun h => hn h.1)]

theorem Clock.tick_valid {c : Clock} (h : c.valid = true) :
    c.tick = { value := c.value + 1, valid := true, second := some 1000 } := by
  unfold Clock.tick
  rw [h]
  rfl

/-- CLOCK_ADVANCE of a valid clock to a second without night or waking time is left to the timed commit (R40, R160). -/
theorem clockAdvance_valid {s : State} {t : Nat} (hv : s.clock.valid = true) (ht : t = timeOfDay s.clock.tick)
    (hn : s.power.nightAt ≠ some t) (hw : s.power.wakeAt ≠ some t) :
    exec .clockAdvance s = .next (settle s (timedCommit t { s with clock := s.clock.tick })) := by
  have hacts : scheduleActs t { s with clock := s.clock.tick } = { s with clock := s.clock.tick } := scheduleActs_none hn hw
  have heffect : clockAdvance s = timedCommit t (scheduleActs t { s with clock := s.clock.tick }) := by
    rw [ht]
    exact if_pos hv
  rw [← hacts, ← heffect]
  rfl

/-- A change of the clock alone is quiet. -/
theorem Settled.settle_setClock {s : State} (h : Settled s) (c : Clock) :
    Machine.settle s { s with clock := c } = { s with clock := c } :=
  h.settle_quiet ⟨rfl, rfl, rfl, rfl, rfl, rfl, fun _ => ⟨rfl, rfl⟩, rfl⟩ rfl rfl

/-- CLOCK_ADVANCE of an invalid clock (R160). -/
theorem clockAdvance_invalid {s : State} (hs : Settled s) (hv : s.clock.valid = false) : exec .clockAdvance s = .next s := by
  have heffect : clockAdvance s = s := if_neg (by rw [hv]; decide)
  change event clockAdvance s = _
  rw [event_next, heffect]
  exact congrArg _ (hs.settle_setClock s.clock)

/-- CLOCK_ADVANCE to the second of a scheduled commit (R40). -/
theorem timedCommit_commits {s : State} (hs : Settled s) {t : Nat} (c : Clock) (h : s.prices.schedule = some t) :
    let u := Machine.settle s (timedCommit t { s with clock := c })
    u.clock = c ∧ Committed s u ∧ OnlyChanges [.prices, .clock, .store, .link] s u := by
  have heffect : timedCommit t { s with clock := c } = queueJob .priceWrite (commitBanks { s with clock := c }) := if_pos h
  dsimp only
  rw [heffect]
  refine ⟨settle_clock _ _, settle_committed s rfl rfl id rfl (.refl _) rfl, OnlyChanges.settle_clear s hs ?_⟩
  exact (((setClock_only s c).mono (by simp)).step (commitBanks_only _) (by simp)).step (queueJob_only _ _) (by simp)

/-- Settles O30: NOW by its checks and its commit, the clock by whether it is valid and whether its new second is scheduled. -/
theorem commitsChangeTheBanks : Obligations.CommitsChangeTheBanks := by
  intro tag s hs
  have hread := pricesUnread_iff s
  refine ⟨fun hf => (commitNow_refused hs hf tag).1, fun hf hm hp => ?_, fun hf he => ⟨fun hr => ?_, fun hr => ?_⟩,
    clockAdvance_invalid hs, fun hv => ?_⟩
  · obtain ⟨-, hunread, -⟩ := commitNow_refused hs hf tag
    exact hunread (hread.mpr ⟨hm, hp⟩)
  · obtain ⟨t, hexec, hcommit, hservice, hjob, honly⟩ := commitNow_commits hs hf tag (fun h => he (hread.mp h)) hr
    exact ⟨t, hexec, hcommit.banks, hservice, hcommit.told, hjob, hcommit.queued, honly⟩
  · obtain ⟨-, -, hbusy⟩ := commitNow_refused hs hf tag
    exact hbusy (fun h => he (hread.mp h)) hr
  · intro second c hn hw
    have htick : s.clock.tick = c := Clock.tick_valid hv
    have hexec := clockAdvance_valid (t := second) hv rfl hn hw
    rw [htick] at hexec
    refine ⟨fun hno => ?_, fun hdue => ?_⟩
    · have hnone : timedCommit second { s with clock := c } = { s with clock := c } := if_neg hno
      rw [hexec, hnone, hs.settle_setClock]
    · obtain ⟨hclock, hcommit, honly⟩ := timedCommit_commits hs c hdue
      exact ⟨_, hexec, hclock, hcommit.banks, hcommit.told, hcommit.queued, honly⟩

end Sys2Proof.Machine

namespace Sys2Proof.Machine

open Sys2Proof

/-! ### What every operation keeps of the drivers and the closures

Valves shut outside FLOWING and SLOWING (R67), motors sound (R65, R66), and sides CLOSED by their closure sets (R47) read the same
blocks, so each operation is followed once for all three. -/

/-- The valves, motors and closures that are sound before are sound after. -/
structure StaysSound (s t : State) : Prop where
  valves : ValvesShut s → ValvesShut t
  motors : MotorsSound s → MotorsSound t
  closures : ClosuresSound s → ClosuresSound t

theorem StaysSound.refl (s : State) : StaysSound s s := ⟨id, id, id⟩

theorem StaysSound.trans {s t u : State} (h : StaysSound s t) (h' : StaysSound t u) : StaysSound s u :=
  ⟨h'.valves ∘ h.valves, h'.motors ∘ h.motors, h'.closures ∘ h.closures⟩

theorem StaysSound.ite {p : Prop} [Decidable p] {s t u : State} (h : StaysSound s t) (h' : StaysSound s u) :
    StaysSound s (if p then t else u) := by
  split
  · exact h
  · exact h'

/-- The blocks that the three invariants read. -/
def Block.isDriver : Block → Bool
  | .fill _ | .valves _ | .motor _ => true
  | _ => false

/-- A block that an operation does not write, where it writes no block that the invariants read. -/
theorem notMem_of_isDriver {bs : List Block} {b : Block} (h : bs.all (fun x => !x.isDriver) = true) (hb : b.isDriver = true) :
    b ∉ bs := by
  intro hm
  have := List.all_eq_true.mp h b hm
  rw [hb] at this
  exact absurd this (by decide)

/-- An operation on other blocks keeps all three. -/
theorem StaysSound.of_only {bs : List Block} {s t : State} (h : OnlyChanges bs s t)
    (hb : bs.all (fun x => !x.isDriver) = true) : StaysSound s t := by
  have hf (i : Side) : t.fill.get i = s.fill.get i := h (.fill i) (notMem_of_isDriver hb rfl)
  have hv (i : Side) : t.valves.get i = s.valves.get i := h (.valves i) (notMem_of_isDriver hb rfl)
  have hm (p : Product) : t.motors.get p = s.motors.get p := h (.motor p) (notMem_of_isDriver hb rfl)
  refine ⟨fun x i hi => ?_, fun x p => ?_, fun x i hi => ?_⟩
  · rw [hv]; exact x i (by rw [← hi, State.sideState, State.sideState, hf])
  · rw [hm]; exact x p
  · rw [State.sideState, hf]; exact x i (by rw [← hi, State.filling, State.filling, State.sideState, State.sideState, hf])

theorem StaysSound.step {bs : List Block} {s t u : State} (h : StaysSound s t) (h' : OnlyChanges bs t u)
    (hb : bs.all (fun x => !x.isDriver) = true) : StaysSound s u := h.trans (.of_only h' hb)

/-- An operation on one side: what it has to show of the side. The motors keep their soundness each by itself. -/
theorem StaysSound.of_side {i : Side} {s t : State} (ho : ∀ j, j ≠ i → t.fill.get j = s.fill.get j)
    (hov : ∀ j, j ≠ i → t.valves.get j = s.valves.get j)
    (hm : ∀ p, (s.motors.get p).sound → (t.motors.get p).sound)
    (hv : ((s.sideState i).isOpen = false → s.valves.get i = { lo := 0, hi := 0 }) →
      (t.sideState i).isOpen = false → t.valves.get i = { lo := 0, hi := 0 })
    (hc : (s.filling i = false → (s.sideState i = .closed ↔ (s.fill.get i).closures.isEmpty = false)) →
      t.filling i = false → (t.sideState i = .closed ↔ (t.fill.get i).closures.isEmpty = false)) : StaysSound s t := by
  refine ⟨fun x j hj => ?_, fun x p => hm p (x p), fun x j hj => ?_⟩
  · by_cases h : j = i
    · subst h; exact hv (x j) hj
    · rw [hov j h]; exact x j (by rw [← hj, State.sideState, State.sideState, ho j h])
  · by_cases h : j = i
    · subst h; exact hc (x j) hj
    · rw [State.sideState, ho j h]
      exact x j (by rw [← hj, State.filling, State.filling, State.sideState, State.sideState, ho j h])

/-- An operation that changes neither the states nor the closure sets of the sides nor the valves. -/
theorem StaysSound.of_same {s t : State} (hs : ∀ i, t.sideState i = s.sideState i)
    (hc : ∀ i, (t.fill.get i).closures = (s.fill.get i).closures) (hv : ∀ i, t.valves.get i = s.valves.get i)
    (hm : ∀ p, (s.motors.get p).sound → (t.motors.get p).sound) : StaysSound s t := by
  refine ⟨fun x i hi => ?_, fun x p => hm p (x p), fun x i hi => ?_⟩
  · rw [hv]; exact x i (by rw [← hs]; exact hi)
  · rw [hs, hc]; exact x i (by rw [State.filling, ← hs]; exact hi)

/-- A write of a fill that leaves the side's state and its closure set. -/
theorem setFill_sound {i : Side} {f : Fill} (s : State) (hs : f.state = (s.fill.get i).state)
    (hc : f.closures = (s.fill.get i).closures) : StaysSound s (s.setFill i f) := by
  have hst : (s.setFill i f).sideState i = s.sideState i := by simp [State.sideState, hs]
  refine .of_side (i := i) (fun j h => by simp [PerSide.get_set_other _ _ h]) (fun j _ => rfl) (fun p h => h)
    (fun h hj => h (by rw [← hst]; exact hj)) (fun h hj => ?_)
  rw [hst]
  simpa [hc] using h (by rw [State.filling, ← hst]; exact hj)

theorem setMotor_sound {p : Product} {m : Motor} (s : State) (h : (s.motors.get p).sound → m.sound) :
    StaysSound s (s.setMotor p m) := by
  refine .of_side (i := .a) (fun _ _ => rfl) (fun _ _ => rfl) (fun q hq => ?_) (fun h => h) (fun h => h)
  rw [State.setMotor_motors, PerProduct.get_set]
  split
  · next hqp => exact h (hqp ▸ hq)
  · exact hq

/-! ### Changes of side state -/

/-- A change of side state: to a fill state, to the state that the closure set asks for, or between waiting states of an open side. -/
theorem enterState_sound {i : Side} {new : SideState} (s : State)
    (h : new.isFill = true ∨ (new = .closed ↔ (s.fill.get i).closures.isEmpty = false) ∨
      (s.filling i = false ∧ s.sideState i ≠ .closed ∧ new ≠ .closed)) : StaysSound s (enterState i new s) := by
  have hof (j : Side) (hj : j ≠ i) : (enterState i new s).fill.get j = s.fill.get j := enterState_only i new s (.fill j) (by simp [hj])
  have hov (j : Side) (hj : j ≠ i) : (enterState i new s).valves.get j = s.valves.get j :=
    enterState_only i new s (.valves j) (by simp [hj])
  have hm (p : Product) : (enterState i new s).motors.get p = s.motors.get p := enterState_only i new s (.motor p) (by simp)
  refine .of_side (i := i) hof hov (fun p x => by rw [hm]; exact x) (fun hv hn => ?_) (fun hc hn => ?_)
  · rw [enterState_sideState] at hn
    by_cases hs : s.sideState i = new
    · rw [enterState_same hs]; exact hv (by rw [hs]; exact hn)
    · rw [enterState_valves hs]; exact valveDuties_shut hn _ _
  · rw [State.filling, enterState_sideState] at hn
    rw [enterState_sideState, enterState_closures]
    rcases h with h | h | ⟨hf, hs, hne⟩
    · rw [h] at hn; exact absurd hn (by decide)
    · exact h
    · have := hc hf
      simp_all

theorem Fill.impliedState_waits (f : Fill) : f.impliedState.isFill = false ∧ f.impliedState ≠ .closed := by
  unfold Fill.impliedState
  split <;> decide

/-- A side goes to the state its nozzle record implies: from another waiting state, or from CLOSED with no closure left. -/
theorem enterImplied_sound {i : Side} (s : State)
    (h : (s.fill.get i).closures.isEmpty = true ∨ (s.filling i = false ∧ s.sideState i ≠ .closed)) :
    StaysSound s (enterImplied i s) := by
  obtain ⟨-, hc⟩ := (s.fill.get i).impliedState_waits
  refine enterState_sound s (.inr ?_)
  rcases h with h | ⟨hf, hs⟩
  · exact .inl ⟨fun x => absurd x hc, fun x => by rw [h] at x; exact absurd x (by decide)⟩
  · exact .inr ⟨hf, hs, hc⟩

theorem removeWaiting_sound (i : Side) (why : RemovalReason) (tell : Bool) (s : State) : StaysSound s (removeWaiting i why tell s) := by
  have h (a : Auth) : StaysSound s
      (notify (.authEvent i a.source a.reference (.removed why)) (s.setFill i { s.fill.get i with slot := none, authTimer := none })) :=
    (setFill_sound s (by rfl) (by rfl)).step (notify_only _ _) (by rfl)
  dsimp only [removeWaiting]
  split
  · split
    · exact .refl _
    · split
      · exact (h _).step (pendAuthState_only _ _ _ _) (by rfl)
      · exact h _
  · exact .refl _

theorem removeWaiting_sideState (i : Side) (why : RemovalReason) (tell : Bool) (s : State) :
    (removeWaiting i why tell s).sideState i = s.sideState i := by
  dsimp only [removeWaiting]
  split
  · split
    · rfl
    · split <;> simp [State.sideState, notify, pendAuthState]
  · rfl

theorem removeWaiting_closures (i : Side) (why : RemovalReason) (tell : Bool) (s : State) :
    ((removeWaiting i why tell s).fill.get i).closures = (s.fill.get i).closures := by
  dsimp only [removeWaiting]
  split
  · split
    · rfl
    · split <;> simp [notify, pendAuthState]
  · rfl

theorem withdrawWaiting_sound (i : Side) (why : RemovalReason) (tell : Bool) (s : State) :
    StaysSound s (withdrawWaiting i why tell s) := by
  have h := removeWaiting_sound i why tell s
  dsimp only [withdrawWaiting]
  split
  · next hw =>
    refine h.trans (enterImplied_sound _ (.inr ?_))
    rw [State.filling, hw.2]
    decide
  · exact h

/-! ### Closures -/

theorem Closures.isEmpty_iff {c : Closures} : c.isEmpty = true ↔ c = Closures.empty := by simp [Closures.isEmpty]

/-- A change that adds no reason to the empty closure set adds none to a set that is empty. -/
theorem Closures.isEmpty_map {f : Closures → Closures} (hf : (f Closures.empty).isEmpty = true) {c : Closures}
    (h : c.isEmpty = true) : (f c).isEmpty = true := by rw [isEmpty_iff.mp h]; exact hf

theorem Closures.add_nonempty (c : Closures) (r : ClosureReason) : (c.add r).isEmpty = false := by
  unfold Closures.isEmpty
  cases r <;> simp [Closures.add, Closures.empty, BEq.beq]

/-- A write of a closure set keeps the valves and the motors, but not the closures: what follows it does that. -/
theorem setClosureSet_sound {i : Side} {c : Closures} {s t : State}
    (h : StaysSound (s.setFill i { s.fill.get i with closures := c }) t)
    (ho : ∀ j, j ≠ i → t.fill.get j = s.fill.get j)
    (hc : (s.filling i = false → (s.sideState i = .closed ↔ (s.fill.get i).closures.isEmpty = false)) →
      t.filling i = false → (t.sideState i = .closed ↔ (t.fill.get i).closures.isEmpty = false)) : StaysSound s t := by
  refine ⟨fun x => h.valves fun j hj => x j ?_, fun x => h.motors x, fun x j hj => ?_⟩
  · rw [← hj, State.sideState, State.sideState, State.setFill_fill, PerSide.get_set]
    split
    · next hji => rw [hji]
    · rfl
  · by_cases hji : j = i
    · subst hji; exact hc (x j) hj
    · rw [State.sideState, ho j hji]
      exact x j (by rw [← hj, State.filling, State.filling, State.sideState, State.sideState, ho j hji])

/-- A side to which a reason is added is CLOSED by it, or is in a fill (R47). -/
theorem addClosure_sound (i : Side) (r : ClosureReason) (s : State) : StaysSound s (addClosure i r s) := by
  have ho (j : Side) (hj : j ≠ i) : (addClosure i r s).fill.get j = s.fill.get j := addClosure_only i r s (.fill j) (by simp [hj])
  by_cases hf : s.filling i = true
  · refine setClosureSet_sound (by rw [← addClosure_filling r hf]; exact .refl _) ho (fun _ hj => ?_)
    rw [addClosure_filling r hf] at hj
    simp_all [State.filling, State.sideState]
  · have hf' : s.filling i = false := by simpa using hf
    have hn : ((addClosure i r s).fill.get i).closures.isEmpty = false := by
      rw [addClosure_closures]; exact Closures.add_nonempty _ _
    refine setClosureSet_sound (c := (s.fill.get i).closures.add r) ?_ ho (fun _ _ => by simp [addClosure_sideState r hf', hn])
    unfold addClosure closeIfWaiting
    refine StaysSound.ite (.refl _) ((removeWaiting_sound i _ _ _).trans (enterState_sound _ (.inr (.inl ?_))))
    simp [removeWaiting_closures, Closures.add_nonempty]

/-- A closure set that has lost reasons and gained none: a CLOSED side that it leaves without one opens (R47). -/
theorem setClosures_sound (i : Side) (c : Closures) (s : State) (h : (s.fill.get i).closures.isEmpty = true → c.isEmpty = true) :
    StaysSound s (setClosures i c s) := by
  have ho (j : Side) (hj : j ≠ i) : (setClosures i c s).fill.get j = s.fill.get j := setClosures_only i c s (.fill j) (by simp [hj])
  have hst : (s.setFill i { s.fill.get i with closures := c }).sideState i = s.sideState i := by simp [State.sideState]
  unfold setClosures at ho ⊢
  dsimp only at ho ⊢
  split at ho <;> rename_i hopen
  · rw [if_pos hopen]
    refine setClosureSet_sound (c := c) (enterImplied_sound _ (.inl (by simp [hopen.2]))) ho (fun _ _ => ?_)
    simp [enterImplied, Fill.impliedState_waits, hopen.2]
  · rw [if_neg hopen]
    refine setClosureSet_sound (c := c) (.refl _) ho (fun hc hj => ?_)
    rw [State.filling, hst] at hj
    have hc := hc hj
    rw [hst] at hopen ⊢
    simp only [State.setFill_fill, PerSide.get_set_same]
    cases hce : c.isEmpty
    · simp only [iff_true]
      refine hc.mpr ?_
      cases hse : (s.fill.get i).closures.isEmpty
      · rfl
      · rw [h hse] at hce; exact absurd hce (by decide)
    · simp_all

theorem addClosureBoth_sound (r : ClosureReason) (s : State) : StaysSound s (addClosureBoth r s) :=
  (addClosure_sound .a r s).trans (addClosure_sound .b r _)

/-! ### Motors -/

theorem Motor.raise_sound {m : Motor} (delay : Nat) (h : m.sound) : (m.raise delay).sound := by
  unfold Motor.raise
  split
  · split <;> simp [Motor.sound]
  · exact h
  · exact h

theorem Motor.stopped_sound : Motor.stopped.sound := by simp [Motor.sound, Motor.stopped]

theorem raiseDemand_sound (i : Side) (p : Product) (s : State) : StaysSound s (raiseDemand i p s) :=
  (setFill_sound s (by rfl) (by rfl)).trans (setMotor_sound _ (Motor.raise_sound _))

theorem dropDemand_sound (i : Side) (p : Product) (s : State) : StaysSound s (dropDemand i p s) := by
  dsimp only [dropDemand]
  exact StaysSound.ite (.ite ((setFill_sound s (by rfl) (by rfl)).trans (setMotor_sound _ fun _ => Motor.stopped_sound))
    (setFill_sound s (by rfl) (by rfl))) (.refl s)

theorem dropBoth_sound (i : Side) (s : State) : StaysSound s (dropBoth i s) :=
  (dropDemand_sound i .lo s).trans (dropDemand_sound i .hi _)

/-! ### Stops, faults and STARTING -/

theorem setSale_sound (i : Side) (f : SaleContext → SaleContext) (s : State) : StaysSound s (setSale i f s) :=
  setFill_sound s (by rfl) (by rfl)

theorem hold_sound (i : Side) (r : StopReason) (s : State) : StaysSound s (hold i r s) :=
  (setSale_sound i _ s).trans (enterState_sound _ (.inl rfl))

theorem endFill_sound (i : Side) (r : EndReason) (s : State) : StaysSound s (endFill i r s) :=
  (setSale_sound i _ s).trans (enterState_sound _ (.inl rfl))

theorem fillFault_sound (i : Side) (k : FaultKind) (m : Option Meter) (s : State) : StaysSound s (fillFault i k m s) :=
  (((addClosure_sound i _ s).trans (endFill_sound i _ _)).step (notifyFault_only _ _ _ _ _ _ _) (by rfl)).ite (.refl s)

theorem chooseFlow_sound (i : Side) (s : State) : StaysSound s (chooseFlow i s) := by
  dsimp only [chooseFlow]
  exact (hold_sound i _ s).ite ((hold_sound i _ s).ite ((enterState_sound s (.inl rfl)).ite (enterState_sound s (.inl rfl))))

theorem tryLeaveStarting_sound (i : Side) (s : State) : StaysSound s (tryLeaveStarting i s) := (chooseFlow_sound i s).ite (.refl s)

theorem raiseNeeded_sound (i : Side) (s : State) : StaysSound s (raiseNeeded i s) := by
  have h : StaysSound s (if (s.blend.get i).needs .lo then raiseDemand i .lo s else s) := (raiseDemand_sound i .lo s).ite (.refl s)
  dsimp only [raiseNeeded]
  exact (h.trans (raiseDemand_sound i .hi _)).ite h

theorem startSale_sound (i : Side) (a : Auth) (n : Nozzle) (g : Grade) (s : State) : StaysSound s (startSale i a n g s) := by
  unfold startSale
  extract_lets c gen price f reg s1 s2 s3 s4 s5
  have h1 : StaysSound s s1 :=
    ((StaysSound.of_only (setRegister_only s _) (by rfl)).step (setFigures_only _ _ _) (by rfl)).step (zeroSale_only i _) (by rfl)
  have h2 : StaysSound s s2 := (h1.trans (setFill_sound _ (by rfl) (by rfl))).step (setBlend_only _ _ _) (by rfl)
  have h3 : StaysSound s s3 := (h2.trans (enterState_sound _ (.inl rfl))).step (notify_only _ _) (by rfl)
  have h4 : StaysSound s s4 := (h3.step (pendAuthState_only i _ _ _) (by rfl)).ite h3
  have h5 : StaysSound s s5 := (h4.step (setDisplay_only _ _ _) (by rfl)).step (sendDue_only _ _) (by rfl)
  exact (h5.trans (fillFault_sound i _ _ _)).ite ((h5.trans (raiseNeeded_sound i _)).trans (tryLeaveStarting_sound i _))

/-- A lift is tested at a side that waits and is open. -/
theorem testLift_sound (i : Side) (a : Auth) (c : Counted) (s : State) (h : s.filling i = false ∧ s.sideState i ≠ .closed) :
    StaysSound s (testLift i a c s) := by
  have hn (n : Notice) : StaysSound s (notify n (enterState i .authorized s)) :=
    (enterState_sound s (.inr (.inr ⟨h.1, h.2, by decide⟩))).step (notify_only _ _) (by rfl)
  unfold testLift
  split
  · exact hn _
  · split
    · exact startSale_sound _ _ _ _ _
    · exact hn _

/-- A side that may take an authorization waits and is open. -/
theorem mayAuthorize_waits {s : State} {i : Side} (h : mayAuthorize s i = true) : s.filling i = false ∧ s.sideState i ≠ .closed := by
  unfold mayAuthorize at h
  rcases of_decide_eq_true h with h | h <;> simp [State.filling, h, SideState.isFill]

theorem acceptAuth_sound (i : Side) (a : Auth) (s : State) (h : mayAuthorize s i = true) : StaysSound s (acceptAuth i a s) := by
  obtain ⟨hf, hc⟩ := mayAuthorize_waits h
  unfold acceptAuth
  extract_lets f t s1 s2
  have h1 : StaysSound s s1 := (setFill_sound s (by rfl) (by rfl)).step (notify_only _ _) (by rfl)
  have h2 : StaysSound s s2 := (h1.step (pendAuthState_only i _ _ _) (by rfl)).ite h1
  have hst : s2.sideState i = s.sideState i := by
    dsimp only [s2]
    split <;> simp [s1, State.sideState, notify, pendAuthState, f]
  have hw : s2.filling i = false ∧ s2.sideState i ≠ .closed := by rw [State.filling, hst]; exact ⟨hf, hc⟩
  split
  · exact h2.trans (testLift_sound i _ _ _ hw)
  · exact h2.trans (enterState_sound _ (.inr (.inr ⟨hw.1, hw.2, by decide⟩)))

/-! ### Counted lifts and hang-ups -/

theorem reportNozzle_sound (i : Side) (c : Counted) (up : Bool) (s : State) : StaysSound s (reportNozzle i c up s) :=
  .of_only (reportNozzle_only i c up s) (by rfl)

theorem countLift_sound (i : Side) (n : Nozzle) (s : State) : StaysSound s (countLift i n s) := by
  unfold countLift
  extract_lets f c s1
  have h1 : StaysSound s s1 := (setFill_sound s (by rfl) (by rfl)).trans (reportNozzle_sound i _ _ _)
  have hst : s1.sideState i = f.state := by simp [s1, State.sideState, reportNozzle, notify, pendNozzleState]
  split
  · next hi =>
    refine (h1.trans (enterState_sound _ (.inr (.inr ?_)))).ite h1
    rw [State.filling, hst, hi]
    decide
  · next ha =>
    cases f.slot with
    | none => exact h1
    | some a => exact h1.trans (testLift_sound i _ _ _ (by rw [State.filling, hst, ha]; decide))
  · exact h1

theorem moveAtHangUp_sound (i : Side) (s : State) : StaysSound s (moveAtHangUp i s) := by
  unfold moveAtHangUp
  refine (endFill_sound i _ s).ite ?_
  split
  · next hs =>
    refine enterState_sound s (.inr (.inr ?_))
    rw [State.filling, hs]
    decide
  · exact .refl s

theorem countAgain_sound (i : Side) (old : SideState) (n : Nozzle) (s : State) : StaysSound s (countAgain i old n s) :=
  (((StaysSound.of_only (reportState_only i s) (by rfl)).trans (countLift_sound i n _)).step (reportState_only i _) (by rfl)).ite
    (countLift_sound i n s)

theorem countHangUp_sound (i : Side) (c : Counted) (s : State) : StaysSound s (countHangUp i c s) := by
  unfold countHangUp
  extract_lets f s1
  have h1 : StaysSound s s1 := ((setFill_sound s (by rfl) (by rfl)).trans (reportNozzle_sound i _ _ _)).trans (moveAtHangUp_sound i _)
  split
  · exact h1.trans (countAgain_sound i _ _ _)
  · exact h1

/-! ### Ports -/

theorem readerLost_sound (i : Side) (s : State) : StaysSound s (readerLost i s) := (withdrawWaiting_sound i _ _ s).ite (.refl s)

theorem leavePort_sound (i : Side) (r : PortReason) (f : Port → Port) (s : State) : StaysSound s (leavePort i r f s) := by
  dsimp only [leavePort]
  refine StaysSound.ite ?_ (.of_only (changePort_only _ _ _ _) (by rfl))
  exact ((StaysSound.of_only (setConversations_only s _) (by rfl)).step (changePort_only _ _ _ _) (by rfl)).trans (readerLost_sound i _)

theorem lineLoss_sound (i : Side) (s : State) : StaysSound s (lineLoss i s) := by
  dsimp only [lineLoss]
  split
  · exact leavePort_sound _ _ _ _
  · exact .of_only (failAttempt_only _ _ _) (by rfl)
  · exact .of_only (failAttempt_only _ _ _) (by rfl)
  · exact .refl _

theorem disablePort_sound (i : Side) (r : PortReason) (s : State) : StaysSound s (disablePort i r s) := by
  unfold disablePort
  split
  · exact .refl s
  · exact .refl s
  all_goals exact leavePort_sound i _ _ s

theorem tamperPort_sound (i : Side) (s : State) : StaysSound s (tamperPort i s) := by
  dsimp only [tamperPort]
  refine StaysSound.ite (.of_only (setLink_only _ _) (by rfl)) ?_
  exact ((StaysSound.of_only (setLink_only s _) (by rfl)).trans (leavePort_sound _ _ _ _)).step (dropDeliveries_only i _) (by rfl)

theorem redRunTest_sound (i : Side) (s : State) : StaysSound s (redRunTest i s) := by
  dsimp only [redRunTest]
  have h (p : Port) : StaysSound s (s.setPort i p) := .of_only (setPort_only s i p) (by rfl)
  exact (((h _).trans (leavePort_sound i _ _ _)).ite (h _)).ite (.refl s)

/-! ### The sale close -/

theorem endAuth_sound (i : Side) (s : State) : StaysSound s (endAuth i s) := by
  dsimp only [endAuth]
  split
  · exact (setFill_sound s (by rfl) (by rfl)).step (notify_only _ _) (by rfl)
  · exact .refl s

theorem closeRecord_sound (i : Side) (c : SaleContext) (s : State) : StaysSound s (closeRecord i c s) := by
  unfold closeRecord
  extract_lets m s1 r s2 s3
  have h2 : StaysSound s s2 := (StaysSound.of_only (setFigures_only s _ _) (by rfl)).step (takeRecord_only r _) (by rfl)
  have h3 : StaysSound s s3 := (h2.step (handOver_only r _) (by rfl)).ite h2
  exact h3.step (setDisplay_only _ _ _) (by rfl)

theorem Fill.spend_state (f : Fill) : f.spend.state = f.state ∧ f.spend.closures = f.closures := by
  unfold Fill.spend
  split <;> exact ⟨rfl, rfl⟩

/-- A close leaves the side IDLE or CLOSED, as its closure set asks (R64). -/
theorem closeSide_sound (i : Side) (s : State) : StaysSound s (closeSide i s) := by
  unfold closeSide
  extract_lets s1 f s2
  have h1 : StaysSound s s1 :=
    ((endAuth_sound i s).trans (dropBoth_sound i _)).step (adoptAtClose_only i _) (by rfl)
  obtain ⟨hst, hcl⟩ := (s1.fill.get i).spend_state
  have h2 : StaysSound s s2 := h1.trans (setFill_sound _ hst hcl)
  refine (h2.trans (enterState_sound _ (.inr (.inl ?_)))).step (zeroCreep_only i _) (by rfl)
  cases (s2.fill.get i).closures.isEmpty <;> simp

theorem closeSale_sound (i : Side) (why : Option EndReason) (s : State) : StaysSound s (closeSale i why s) := by
  unfold closeSale
  split
  · exact closeSide_sound i s
  · exact ((setSale_sound i _ s).trans (closeRecord_sound i _ _)).trans (closeSide_sound i _)

/-! ### Bring-ups -/

theorem enterUp_sound (i : Side) (c : PowerCause) (s : State) : StaysSound s (enterUp i c s) := by
  unfold enterUp
  extract_lets s1
  have h1 : StaysSound s s1 := .of_only (setStage_only i _ c _ s) (by rfl)
  exact (h1.trans (setClosures_sound i _ _ (Closures.isEmpty_map (f := fun c => { c with night := false }) rfl))).trans
    (.of_only (runTest_only _ _) (by rfl))

theorem enterVerify_sound (i : Side) (c : PowerCause) (s : State) : StaysSound s (enterVerify i c s) := by
  unfold enterVerify
  extract_lets s1
  have h1 : StaysSound s s1 := .of_only (setStage_only i _ c _ s) (by rfl)
  split
  · exact ((h1.step (setPower_only _ _) (by rfl)).step (queueJob_only _ _) (by rfl)).step (editSide_only i _ _) (by rfl)
  · exact h1.step (editSide_only i _ _) (by rfl)
  · exact h1.trans (enterUp_sound i _ _)
  · exact h1.trans (enterUp_sound i _ _)

theorem upIfWaiting_sound (c : PowerCause) (i : Side) (s : State) : StaysSound s (upIfWaiting c i s) :=
  (enterUp_sound i _ s).ite (.refl s)

theorem makeResult_sound (cal price : Comparison) (s : State) : StaysSound s (makeResult cal price s) := by
  unfold makeResult
  split
  · extract_lets w s1 s2 s3
    have h1 : StaysSound s s1 := .of_only (setPower_only s _) (by rfl)
    have h2 : StaysSound s s2 := (h1.trans (addClosureBoth_sound _ _)).ite h1
    have h3 : StaysSound s s3 := (h2.trans (addClosureBoth_sound _ _)).ite h2
    exact (h3.trans (upIfWaiting_sound _ .a _)).trans (upIfWaiting_sound _ .b _)
  · exact .refl s

theorem verifyExpired_sound (s : State) : StaysSound s (verifyExpired s) := by
  unfold verifyExpired
  have h1 : StaysSound s (s.setPower { s.power with verification := .unverified }) := .of_only (setPower_only s _) (by rfl)
  exact (((h1.trans (addClosureBoth_sound _ _)).trans (addClosureBoth_sound _ _)).trans (upIfWaiting_sound _ .a _)).trans
    (upIfWaiting_sound _ .b _)

theorem enterAdmit_sound (i : Side) (s : State) : StaysSound s (enterAdmit i s) := by
  unfold enterAdmit
  extract_lets s1
  have h1 : StaysSound s s1 := .of_only (setStage_only i _ _ _ s) (by rfl)
  exact (StaysSound.ite (h1.trans (enterVerify_sound i _ _))
    ((h1.step (startRequest_only i _) (by rfl)).step (editSide_only i _ _) (by rfl))).ite (h1.trans (enterVerify_sound i _ _))

theorem endCheck_sound (i : Side) (s : State) : StaysSound s (endCheck i s) := by
  unfold endCheck
  extract_lets s1
  have h1 : StaysSound s s1 := (addClosure_sound i _ s).ite (.refl s)
  exact ((h1.step (setSideMeters_only _ i _) (by rfl)).step (zeroCreep_only i _) (by rfl)).trans (enterAdmit_sound i _)

theorem reportCheck_sound (i : Side) (s : State) : StaysSound s (reportCheck i s) :=
  (StaysSound.of_only (editSide_only i _ s) (by rfl)).trans ((endCheck_sound i _).ite (.refl _))

theorem enterCheck_sound (i : Side) (c : PowerCause) (s : State) : StaysSound s (enterCheck i c s) :=
  ((StaysSound.of_only (setStage_only i _ c _ s) (by rfl)).step (setDisplay_only _ i _) (by rfl)).step (sendDue_only i _) (by rfl)

theorem enterHeat_sound (i : Side) (s : State) : StaysSound s (enterHeat i s) := by
  unfold enterHeat
  extract_lets s1
  have h1 : StaysSound s s1 := .of_only (setStage_only i _ _ _ s) (by rfl)
  exact (h1.trans (enterCheck_sound i _ _)).ite
    ((h1.step (setStageHeat_only i _ _) (by rfl)).step (editSide_only i _ _) (by rfl))

theorem endHeat_sound (i : Side) (c : PowerCause) (s : State) : StaysSound s (endHeat i c s) :=
  (StaysSound.of_only (setStageHeat_only i _ s) (by rfl)).trans (enterCheck_sound i _ _)

theorem heatExpired_sound (i : Side) (s : State) : StaysSound s (heatExpired i s) :=
  StaysSound.trans ((addClosure_sound i _ s).ite (.of_only (editSide_only i _ s) (by rfl))) (endHeat_sound i _ _)

theorem takeSupplyGood_sound (i : Side) (s : State) : StaysSound s (takeSupplyGood i s) := by
  unfold takeSupplyGood
  extract_lets w s1 s2
  have h1 : StaysSound s s1 := setClosures_sound i _ s (Closures.isEmpty_map (f := fun c => { c with supply := false }) rfl)
  have h2 : StaysSound s s2 :=
    ((h1.step (setDisplay_only _ i _) (by rfl)).step (sendDue_only i _) (by rfl)).step (updateHeat_only i _) (by rfl)
  exact (h2.step (setPower_only _ _) (by rfl)).trans (enterHeat_sound i _)

theorem takePermit_sound (i : Side) (s : State) : StaysSound s (takePermit i s) := by
  unfold takePermit
  extract_lets w s1
  have h1 : StaysSound s s1 := (StaysSound.of_only (setPower_only s _) (by rfl)).step (setStage_only i _ _ _ _) (by rfl)
  exact (h1.trans (takeSupplyGood_sound i _)).ite h1

theorem grantPermit_sound (s : State) : StaysSound s (grantPermit s) := by
  unfold grantPermit
  split
  · exact takePermit_sound _ s
  · exact .refl s

theorem beginBringUp_sound (i : Side) (s : State) : StaysSound s (beginBringUp i s) := by
  unfold beginBringUp
  extract_lets s0 s1
  have h0 : StaysSound s s0 := (StaysSound.of_only (editSide_only i _ s) (by rfl)).step (clearAttended_only i _) (by rfl)
  have h1 : StaysSound s s1 := (h0.step (editSide_only i _ _) (by rfl)).trans (addClosure_sound i _ _)
  exact h1.ite (h1.step (joinPermit_only i _) (by rfl))

theorem wakingEntry_sound (c : PowerCause) (s : State) : StaysSound s (wakingEntry c s) := by
  unfold wakingEntry
  extract_lets w s1
  have h1 : StaysSound s s1 := (StaysSound.of_only (setPower_only s _) (by rfl)).step (setMode_only _ _ _) (by rfl)
  exact ((h1.trans (beginBringUp_sound .a _)).trans (beginBringUp_sound .b _)).trans (grantPermit_sound _)

theorem cancelNight_sound (s : State) : StaysSound s (cancelNight s) := by
  unfold cancelNight
  extract_lets offA offB w s2 s3 s4
  have h2 : StaysSound s s2 := (StaysSound.of_only (setPower_only s _) (by rfl)).step (setMode_only _ _ _) (by rfl)
  have h3 : StaysSound s s3 := (h2.trans (beginBringUp_sound .a _)).ite h2
  have h4 : StaysSound s s4 := (h3.trans (beginBringUp_sound .b _)).ite h3
  exact (h4.trans (grantPermit_sound _)).ite (.of_only (setMode_only _ _ s) (by rfl))

theorem portAdmitted_sound (i : Side) (s : State) : StaysSound s (portAdmitted i s) := by
  unfold portAdmitted
  extract_lets s1
  have h1 : StaysSound s s1 := .of_only (clearAttended_only i s) (by rfl)
  exact (h1.trans (enterVerify_sound i _ _)).ite h1

theorem admitPort_sound (i : Side) (t : Terms) (s : State) : StaysSound s (admitPort i t s) :=
  (StaysSound.of_only (changePort_only i _ _ s) (by rfl)).trans (portAdmitted_sound i _)

/-! ### The end of a side's supply, and night -/

theorem supplyOff_sound (i : Side) (s : State) : StaysSound s (supplyOff i s) :=
  ((StaysSound.of_only (editSide_only i _ s) (by rfl)).step (unpowerDisplay_only i _) (by rfl)).trans (disablePort_sound i _ _)

theorem darkReport_sound (i : Side) (s : State) : StaysSound s (darkReport i s) := by
  dsimp only [darkReport]
  refine StaysSound.ite (.ite ?_ (supplyOff_sound i s)) (.refl s)
  exact ((supplyOff_sound i s).step (joinPermit_only i _) (by rfl)).trans (grantPermit_sound _)

theorem beginShut_sound (i : Side) (s : State) : StaysSound s (beginShut i s) := by
  dsimp only [beginShut]
  have h1 : StaysSound s (editSide i (fun p => { p with shutting := true }) s) := .of_only (editSide_only i _ s) (by rfl)
  exact StaysSound.ite (.ite (h1.trans (darkReport_sound i _))
    ((h1.step (setDisplay_only _ i _) (by rfl)).step (sendDue_only i _) (by rfl))) (.refl s)

theorem stopSide_sound (i : Side) (r : PortReason) (s : State) : StaysSound s (stopSide i r s) := by
  unfold stopSide
  extract_lets s1 s2
  have h1 : StaysSound s s1 := (disablePort_sound i r s).step (setStageHeat_only i _ _) (by rfl)
  have h2 : StaysSound s s2 := h1.step (editSide_only i _ _) (by rfl)
  exact (h2.step (leavePermit_only i _) (by rfl)).trans (beginShut_sound i _)

theorem nightClose_sound (i : Side) (s : State) : StaysSound s (nightClose i s) :=
  (removeWaiting_sound i _ _ s).trans (addClosure_sound i _ _)

theorem nightEntry_sound (c : PowerCause) (s : State) : StaysSound s (nightEntry c s) := by
  unfold nightEntry
  extract_lets s1
  have h1 : StaysSound s s1 :=
    (((nightClose_sound .a s).trans (stopSide_sound .a _ _)).trans (nightClose_sound .b _)).trans (stopSide_sound .b _ _)
  exact (h1.step (setMode_only _ _ _) (by rfl)).trans (grantPermit_sound _)

theorem nightIfLast_sound (s : State) : StaysSound s (nightIfLast s) := (nightEntry_sound _ s).ite (.refl s)

theorem stopBringUp_sound (i : Side) (s : State) : StaysSound s (stopBringUp i s) := by
  dsimp only [stopBringUp]
  exact (stopSide_sound i _ s).ite (.refl s)

theorem goNight_sound (c : PowerCause) (s : State) : StaysSound s (goNight c s) := by
  unfold goNight
  extract_lets s1
  have h1 : StaysSound s s1 := (withdrawWaiting_sound .a _ _ s).trans (withdrawWaiting_sound .b _ _ _)
  refine StaysSound.ite ?_ (h1.trans (nightEntry_sound _ _))
  exact (((h1.trans (stopBringUp_sound .a _)).trans (stopBringUp_sound .b _)).step (setMode_only _ _ _) (by rfl)).trans
    (grantPermit_sound _)

theorem downFault_sound (i : Side) (c : PowerCause) (s : State) : StaysSound s (downFault i c s) := by
  unfold downFault
  extract_lets s1 s2
  have h1 : StaysSound s s1 :=
    ((addClosure_sound i _ s).trans (supplyOff_sound i _)).step (setStageHeat_only i _ _) (by rfl)
  have h2 : StaysSound s s2 := h1.step (setStage_only i _ _ _ _) (by rfl)
  exact ((h2.step (leavePermit_only i _) (by rfl)).step (runTest_only _ _) (by rfl)).trans (grantPermit_sound _)

theorem supplyLost_sound (i : Side) (s : State) : StaysSound s (supplyLost i s) := by
  dsimp only [supplyLost]
  refine StaysSound.ite ?_ ?_
  · exact (((closeSale_sound i _ s).step (notifyFault_only _ _ _ _ _ _ _) (by rfl)).trans (downFault_sound i _ _)).trans
      (nightIfLast_sound _)
  · exact (StaysSound.of_only (notifyFault_only _ _ _ _ _ _ s) (by rfl)).trans (downFault_sound i _ _)

/-! ### Edges -/

theorem stopTests_sound (i : Side) (s : State) : StaysSound s (stopTests i s) := by
  dsimp only [stopTests]
  exact ((hold_sound i _ s).ite ((hold_sound i _ s).ite ((enterState_sound s (.inl rfl)).ite (.refl s)))).ite (.refl s)

/-- The trimmed duty is set at a side that is FLOWING alone. -/
theorem applyTrim_sound (i : Side) (b : Blend) (s : State) (h : s.sideState i = .flowing) : StaysSound s (applyTrim i b s) := by
  have hf (j : Side) : (applyTrim i b s).fill.get j = s.fill.get j := applyTrim_only i b s (.fill j) (by simp)
  have hm (p : Product) : (applyTrim i b s).motors.get p = s.motors.get p := applyTrim_only i b s (.motor p) (by simp)
  have hst : (applyTrim i b s).sideState i = s.sideState i := by rw [State.sideState, State.sideState, hf]
  refine .of_side (i := i) (fun j _ => hf j) (fun j hj => applyTrim_only i b s (.valves j) (by simp [hj]))
    (fun p x => by rw [hm]; exact x) (fun _ hn => ?_) (fun hc hn => ?_)
  · rw [hst, h] at hn; exact absurd hn (by decide)
  · rw [State.filling, hst, h] at hn; exact absurd hn (by decide)

theorem windowUpdate_sound (i : Side) (s : State) : StaysSound s (windowUpdate i s) := by
  dsimp only [windowUpdate]
  split
  · exact .refl s
  · split
    · next hw =>
      have h (b : Blend) : StaysSound s (applyTrim i b (s.setBlend i b)) :=
        (StaysSound.of_only (setBlend_only s i b) (by rfl)).trans (applyTrim_sound i b _ (by simpa using hw.1))
      exact ((h _).trans (fillFault_sound i _ _ _)).ite (h _)
    · exact .refl s

theorem crossflowTest_sound (m : Meter) (s : State) : StaysSound s (crossflowTest m s) := by
  dsimp only [crossflowTest]
  exact ((StaysSound.of_only (setBlend_only s _ _) (by rfl)).trans (fillFault_sound _ _ _ _)).ite (.refl s)

theorem volumeUpdate_sound (m : Meter) (s : State) : StaysSound s (volumeUpdate m s) := by
  unfold volumeUpdate
  extract_lets i ms s1 w s2
  have h1 : StaysSound s s1 := .of_only (setFigures_only s _ _) (by rfl)
  have h2 : StaysSound s s2 :=
    ((h1.step (setSideMeters_only _ _ _) (by rfl)).trans (fillFault_sound _ _ _ _)).ite (h1.trans (stopTests_sound _ _))
  exact (h2.trans (windowUpdate_sound _ _)).trans (crossflowTest_sound m _)

theorem saleEdge_sound (i : Side) (f : Bool) (s : State) : StaysSound s (saleEdge i f s) := setFill_sound s (by rfl) (by rfl)

theorem creepFires_sound (m : Meter) (s : State) : StaysSound s (creepFires m s) := by
  have h1 (c : MeterChannel) (l : Link) : StaysSound s ((s.setMeter m c).setLink l) :=
    (StaysSound.of_only (setMeter_only s m c) (by rfl)).step (setLink_only _ l) (by rfl)
  have h2 (c : MeterChannel) (l : Link) (x : SideMeters) : StaysSound s (((s.setMeter m c).setLink l).setSideMeters m.side x) :=
    (h1 c l).step (setSideMeters_only _ _ x) (by rfl)
  dsimp only [creepFires]
  exact ((h2 _ _ _).ite ((h2 _ _ _).step (notify_only _ _) (by rfl))).ite ((h1 _ _).trans (addClosure_sound _ _ _))

theorem weighCreep_sound (m : Meter) (x : Int) (s : State) : StaysSound s (weighCreep m x s) := by
  unfold weighCreep
  extract_lets c v s1
  have h1 : StaysSound s s1 := (StaysSound.of_only (setMeter_only s m _) (by rfl)).step (creepEdge_only _ _) (by rfl)
  exact (h1.trans (creepFires_sound m _)).ite h1

theorem weighSale_sound (m : Meter) (f : Bool) (x : Int) (s : State) : StaysSound s (weighSale m f x s) := by
  unfold weighSale
  extract_lets c v s1
  have h1 : StaysSound s s1 := (StaysSound.of_only (setMeter_only s m _) (by rfl)).trans (saleEdge_sound _ _ _)
  exact (h1.trans (volumeUpdate_sound m _)).ite h1

theorem takeEdge_sound (m : Meter) (f : Bool) (s : State) : StaysSound s (takeEdge m f s) := by
  have h (c : MeterChannel) : StaysSound s (s.setMeter m c) := .of_only (setMeter_only s m c) (by rfl)
  dsimp only [takeEdge]
  exact StaysSound.ite (.ite ((h _).trans (weighSale_sound m _ _ _)) ((h _).trans (weighCreep_sound m _ _))) (h _)

theorem takeError_sound (m : Meter) (s : State) : StaysSound s (takeError m s) := by
  unfold takeError
  extract_lets i c s1 x n
  have h1 : StaysSound s s1 := .of_only (setMeter_only s m _) (by rfl)
  have h2 (x : SideMeters) : StaysSound s (s1.setSideMeters i x) := h1.step (setSideMeters_only _ _ _) (by rfl)
  exact StaysSound.ite (.ite ((h2 _).trans (fillFault_sound _ _ _ _)) (h2 _)) h1

theorem takeLevels_sound (m : Meter) (p q : Option Bool) (s : State) : StaysSound s (takeLevels m p q s) := by
  unfold takeLevels
  extract_lets c last c1 s1
  have h1 : StaysSound s s1 := .of_only (setMeter_only s m _) (by rfl)
  split
  · split
    · exact h1.trans (takeEdge_sound m _ _)
    · exact h1.trans (takeEdge_sound m _ _)
    · exact h1.trans (takeError_sound m _)
    · exact h1
  · exact h1

theorem rateExpiry_sound (m : Meter) (s : State) : StaysSound s (rateExpiry m s) := by
  dsimp only [rateExpiry]
  have h (c : MeterChannel) : StaysSound s (s.setMeter m c) := .of_only (setMeter_only s m c) (by rfl)
  exact (((h _).trans (fillFault_sound _ _ _ _)).ite (h _)).ite (h _)

/-! ### The commands -/

theorem nozzleLift_sound (i : Side) (n : Nozzle) (s : State) : StaysSound s (nozzleLift i n s) := by
  dsimp only [nozzleLift, wakingLift, recordLift]
  refine StaysSound.ite (.ite ?_ (.ite ?_ (setFill_sound s (by rfl) (by rfl)))) (.refl s)
  · exact (setFill_sound s (by rfl) (by rfl)).trans (wakingEntry_sound _ _)
  · exact (setFill_sound s (by rfl) (by rfl)).trans (countLift_sound i n _)

theorem nozzleHangUp_sound (i : Side) (n : Nozzle) (s : State) : StaysSound s (nozzleHangUp i n s) := by
  dsimp only [nozzleHangUp]
  refine StaysSound.ite (.refl s) ?_
  split
  · exact (countHangUp_sound i _ s).ite (setFill_sound s (by rfl) (by rfl))
  · exact setFill_sound s (by rfl) (by rfl)

theorem primeExpiry_sound (p : Product) (s : State) : StaysSound s (primeExpiry p s) := by
  unfold primeExpiry
  extract_lets m s1 s2
  split
  · next hm =>
    have h1 : StaysSound s s1 := setMotor_sound s fun h => by
      have hp := h.2.mp hm
      have hr := h.1.mpr (by rw [hp]; decide)
      simp [Motor.sound, m, hr]
    have h2 : StaysSound s s2 := (h1.trans (tryLeaveStarting_sound .a _)).ite h1
    exact (h2.trans (tryLeaveStarting_sound .b _)).ite h2
  · exact .refl s

theorem driversOff_sound (s : State) : StaysSound s (driversOff s) := by
  refine ⟨fun _ i _ => ?_, fun _ p => ?_, fun h => h⟩
  · cases i <;> rfl
  · cases p <;> exact Motor.stopped_sound

theorem stopSideNow_sound (i : Side) (s : State) : StaysSound s (stopSideNow i s) := by
  unfold stopSideNow
  exact (((dropBoth_sound i s).ite (.refl s)).trans (fillFault_sound i _ _ _)).trans (addClosure_sound i _ _)

theorem estopAssert_sound (s : State) : StaysSound s (estopAssert s) := by
  unfold estopAssert
  refine StaysSound.ite (.refl s) ?_
  exact (((StaysSound.of_only (setEstop_only s _) (by rfl)).trans (driversOff_sound _)).trans (stopSideNow_sound .a _)).trans
    (stopSideNow_sound .b _)

theorem supplyFailWarning_sound (s : State) : StaysSound s (supplyFailWarning s) := by
  unfold supplyFailWarning
  extract_lets s1 s2
  have hw (i : Side) (u : State) : StaysSound u (closeAtWarning i u) := (closeSale_sound i _ u).ite (.refl u)
  have h1 : StaysSound s s1 :=
    (((StaysSound.of_only (setSupplyFail_only s _) (by rfl)).trans (hw .a _)).trans (hw .b _)).trans (driversOff_sound _)
  have h2 : StaysSound s s2 :=
    ((h1.trans (addClosureBoth_sound _ _)).step (updateHeat_only .a _) (by rfl)).step (updateHeat_only .b _) (by rfl)
  refine StaysSound.ite (.refl s) (StaysSound.trans ?_ (nightIfLast_sound _))
  exact h2.ite (h2.step (takeWarning_only _) (by rfl))

theorem request_sound {α : Type} (kind tag : Nat) (body : Body α) (take : α → State → State) (h : ∀ x s, StaysSound s (take x s))
    (s : State) : StaysSound s (request kind tag body take s) := by
  have hl (l : Link) : StaysSound s (s.setLink l) := .of_only (setLink_only s l) (by rfl)
  unfold request
  dsimp only
  split
  · exact hl _
  · split
    · exact (hl _).step (refuse_only _ _) (by rfl)
    · exact (hl _).step (refuse_only _ _) (by rfl)
    · exact (hl _).trans (h _ _)

theorem withSide_sound (take : Side → State → State) (h : ∀ i s, StaysSound s (take i s)) (n : Nat) (s : State) :
    StaysSound s (withSide take n s) := by
  unfold withSide
  split
  · exact .of_only (refuse_only _ s) (by rfl)
  · exact h _ s

theorem takeAuthorize_sound (x : AuthorizeFields) (s : State) : StaysSound s (takeAuthorize x s) := by
  have hr (st : Status) : StaysSound s (refuse st s) := .of_only (refuse_only st s) (by rfl)
  unfold takeAuthorize
  split
  · next i l limit _ _ _ =>
    refine (hr _).ite ((hr _).ite ((hr _).ite ?_))
    split
    · exact hr _
    · next hm =>
      refine (hr _).ite ((StaysSound.of_only (answer_only _ _ s) (by rfl)).trans (acceptAuth_sound _ _ _ ?_))
      have hm : mayAuthorize s i = true := by simpa using hm
      rwa [mayAuthorize, State.sideState, answer_fill]
  · exact hr _

theorem takeCancelAuth_sound (i : Side) (s : State) : StaysSound s (takeCancelAuth i s) := by
  unfold takeCancelAuth
  split
  · exact .of_only (refuse_only _ s) (by rfl)
  · split
    · exact .of_only (refuse_only _ s) (by rfl)
    · exact (StaysSound.of_only (answer_only _ _ s) (by rfl)).trans (withdrawWaiting_sound i _ _ _)

theorem takeSuspend_sound (i : Side) (s : State) : StaysSound s (takeSuspend i s) :=
  ((hold_sound i _ s).step (answerState_only i _) (by rfl)).ite (.of_only (refuse_only _ s) (by rfl))

theorem takeResume_sound (i : Side) (s : State) : StaysSound s (takeResume i s) :=
  (((setSale_sound i _ s).trans (chooseFlow_sound i _)).step (answerState_only i _) (by rfl)).ite (.of_only (refuse_only _ s) (by rfl))

theorem finalStop_sound (i : Side) (r : StopReason) (s : State) : StaysSound s (finalStop i r s) := by
  unfold finalStop
  split
  · exact (setSale_sound i _ s).trans (endFill_sound i _ _)
  · exact hold_sound i _ s
  · exact hold_sound i _ s
  · exact (setSale_sound i _ s).ite (.refl s)
  all_goals exact .refl s

theorem takeStopFill_sound (i : Side) (s : State) : StaysSound s (takeStopFill i s) :=
  ((finalStop_sound i _ s).step (answerState_only i _) (by rfl)).ite (.of_only (refuse_only _ s) (by rfl))

theorem takeEndSale_sound (i : Side) (s : State) : StaysSound s (takeEndSale i s) :=
  ((endFill_sound i _ s).step (answer_only _ _ _) (by rfl)).ite (.of_only (refuse_only _ s) (by rfl))

theorem takeOpenSide_sound (i : Side) (s : State) : StaysSound s (takeOpenSide i s) := by
  unfold takeOpenSide
  extract_lets old c s1
  have h0 : StaysSound s (if old.leak then zeroCreep i s else s) := (StaysSound.of_only (zeroCreep_only i s) (by rfl)).ite (.refl s)
  have hc : ((if old.leak then zeroCreep i s else s).fill.get i).closures = old := by split <;> rfl
  refine (h0.trans (setClosures_sound i c _ fun he => ?_)).step (answer_only _ _ _) (by rfl)
  rw [hc] at he
  refine Closures.isEmpty_map (f := fun c => c.opened s.estopInput (s.display.get i).dark) ?_ he
  cases s.estopInput <;> cases (s.display.get i).dark <;> rfl

theorem takeCloseSide_sound (i : Side) (s : State) : StaysSound s (takeCloseSide i s) :=
  (addClosure_sound i _ s).step (answer_only _ _ _) (by rfl)

theorem takeNozzleMap_sound (x : NozzleMapFields) (s : State) : StaysSound s (takeNozzleMap x s) := by
  have hr (st : Status) : StaysSound s (refuse st s) := .of_only (refuse_only st s) (by rfl)
  unfold takeNozzleMap
  refine (hr _).ite ?_
  split
  · exact (hr _).ite ((setFill_sound s (by rfl) (by rfl)).step (serveByJob_only _ _ _) (by rfl))
  · exact hr _

theorem takeCalibration_sound (w : Bool) (x : CalibrationFields) (s : State) : StaysSound s (takeCalibration w x s) := by
  have hr (st : Status) : StaysSound s (refuse st s) := .of_only (refuse_only st s) (by rfl)
  unfold takeCalibration
  refine (hr _).ite ((hr _).ite ((hr _).ite ?_))
  split
  · exact hr _
  · next m _ =>
    exact (((StaysSound.of_only (setMeter_only s m _) (by rfl)).step (setStore_only _ _) (by rfl)).trans
      (.of_only (serveByJob_only _ _ _) (by rfl))).ite (hr _)

theorem takeDisableReader_sound (i : Side) (s : State) : StaysSound s (takeDisableReader i s) :=
  StaysSound.ite (.of_only (refuse_only _ s) (by rfl)) ((disablePort_sound i _ s).step (answer_only _ _ _) (by rfl))

theorem takeReadMeter_sound (x : ReadMeterFields) (s : State) : StaysSound s (takeReadMeter x s) := by
  dsimp only [takeReadMeter]
  split
  · next m _ _ _ =>
    have h := StaysSound.of_only (answer_only .ok (meterReport s m) s) (by rfl)
    exact (h.step (setMeter_only _ _ _) (by rfl)).ite h
  · exact .of_only (refuse_only _ s) (by rfl)

theorem testDone_sound (i : Side) (k : TestKind) (s : State) : StaysSound s (testDone i k s) := by
  have h : StaysSound s (s.setDisplay i ((s.display.get i).toShowing (refreshInterval s))) := .of_only (setDisplay_only s i _) (by rfl)
  unfold testDone
  cases k with
  | fill => exact (h.trans (setFill_sound _ (by rfl) (by rfl))).trans (tryLeaveStarting_sound i _)
  | check => exact h.trans (reportCheck_sound i _)

theorem tryEndTest_sound (i : Side) (s : State) : StaysSound s (tryEndTest i s) := by
  dsimp only [tryEndTest]
  split
  · exact (testDone_sound i _ s).ite (.refl s)
  · exact .refl s

theorem phaseExpiry_sound (i : Side) (s : State) : StaysSound s (phaseExpiry i s) := by
  dsimp only [phaseExpiry]
  split
  · exact .refl s
  · exact (StaysSound.refl s).ite (.ite ((StaysSound.of_only (setDisplay_only s i _) (by rfl)).trans (tryEndTest_sound i _))
      (.of_only (setDisplay_only s i _) (by rfl)))

theorem raiseDisplay_sound (i : Side) (s : State) : StaysSound s (raiseDisplay i s) := by
  unfold raiseDisplay
  exact (fillFault_sound i _ _ s).ite ((StaysSound.refl s).ite ((addClosure_sound i _ s).step (notifyFault_only _ _ _ _ _ _ _) (by rfl)))

theorem failTransfer_sound (i : Side) (s : State) : StaysSound s (failTransfer i s) := by
  dsimp only [failTransfer]
  have h : StaysSound s (raiseDisplay i (s.setDisplay i ((s.display.get i).toShowing (refreshInterval s)))) :=
    (StaysSound.of_only (setDisplay_only s i _) (by rfl)).trans (raiseDisplay_sound i _)
  split
  · split
    · exact h
    · exact h.trans (reportCheck_sound i _)
  · exact raiseDisplay_sound i s

theorem endTransfer_sound (i : Side) (x : Transfer) (c : Bool) (s : State) : StaysSound s (endTransfer i x c s) := by
  have h : StaysSound s (s.setDisplay i ((s.display.get i).ended x.frame c)) := .of_only (setDisplay_only s i _) (by rfl)
  have h2 : StaysSound s
      (if c then tryEndTest i (s.setDisplay i ((s.display.get i).ended x.frame c))
        else failTransfer i (s.setDisplay i ((s.display.get i).ended x.frame c))) :=
    (h.trans (tryEndTest_sound i _)).ite (h.trans (failTransfer_sound i _))
  dsimp only [endTransfer]
  split
  · exact (h.trans (darkReport_sound i _)).ite h
  all_goals exact h2

theorem attemptLost_sound (i : Side) (x : Transfer) (s : State) : StaysSound s (attemptLost i x s) := by
  dsimp only [attemptLost]
  exact (endTransfer_sound i x _ s).ite (.of_only (setDisplay_only s i _) (by rfl))

theorem displayEcho_sound (i : Side) (c : Byte) (s : State) : StaysSound s (displayEcho i c s) := by
  dsimp only [displayEcho]
  split
  · exact .of_only (setDisplay_only s i _) (by rfl)
  · exact (endTransfer_sound i _ _ s).ite (attemptLost_sound i _ s)

theorem echoTimeout_sound (i : Side) (s : State) : StaysSound s (echoTimeout i s) := by
  dsimp only [echoTimeout]
  split
  · exact .refl s
  · exact (attemptLost_sound i _ s).ite (.refl s)

theorem takeSample_sound (i : Side) (r : Nat) (s : State) : StaysSound s (takeSample i r s) := by
  have h1 (d : Display) : StaysSound s (s.setDisplay i d) := .of_only (setDisplay_only s i d) (by rfl)
  unfold takeSample
  extract_lets d d' s1 s2 s3
  have h2 : StaysSound s s2 := ((h1 _).step (notifyFault_only _ _ _ _ _ _ _) (by rfl)).ite (h1 _)
  have h3 : StaysSound s s3 := h2.step (updateHeat_only i _) (by rfl)
  exact (h3.trans (endHeat_sound i _ _)).ite h3

theorem arrive_sound (i : Side) (good : Bool) (cls tag len : Nat) (accept : State → State) (h : ∀ s, StaysSound s (accept s))
    (s : State) : StaysSound s (arrive i good cls tag len accept s) := by
  have hp (p q : Port) : StaysSound s ((s.setPort i p).setPort i q) :=
    (StaysSound.of_only (setPort_only s i p) (by rfl)).step (setPort_only _ i q) (by rfl)
  dsimp only [arrive]
  split
  · split
    · exact (hp _ _).trans (h _)
    · exact (hp _ _).step (discardRecord_only i _ _) (by rfl)
  · exact .refl s

theorem takeAck_sound (i : Side) (r : Nat) (s : State) : StaysSound s (takeAck i r s) := by
  unfold takeAck
  split
  · exact (admitPort_sound i _ s).ite (.of_only (failAttempt_only i _ s) (by rfl))
  · exact .of_only (failAttempt_only i _ s) (by rfl)

theorem judgeGrant_ok {s : State} {i : Side} {g : BitVec 8} {k v : Nat} {x : Option Limit} (h : judgeGrant s i g k v = .ok x) :
    mayAuthorize s i = true := by
  unfold judgeGrant at h
  split at h
  · cases h
  · split at h
    · cases h
    · split at h
      · cases h
      · split at h
        · cases h
        · split at h
          · cases h
          · next hm => simpa using hm

theorem takeGrant_sound (i : Side) (r : Nat) (g : BitVec 8) (k v : Nat) (s : State) : StaysSound s (takeGrant i r g k v s) := by
  unfold takeGrant
  split
  · exact .of_only (pendAuthState_only i _ _ s) (by rfl)
  · next hj => exact acceptAuth_sound i _ s (judgeGrant_ok hj)

theorem takeCancel_sound (i : Side) (r : Nat) (s : State) : StaysSound s (takeCancel i r s) := by
  have hp (k : AuthStateKind) (t : State) : StaysSound t (pendAuthState i k r t) := .of_only (pendAuthState_only i k r t) (by rfl)
  unfold takeCancel
  split
  · exact hp _ s
  · refine StaysSound.ite ?_ (hp _ s)
    split
    · exact (withdrawWaiting_sound i _ _ s).trans (hp _ _)
    · exact (finalStop_sound i _ s).trans (hp _ _)

theorem agingScan_sound (s : State) : StaysSound s (agingScan s) := by
  unfold agingScan
  extract_lets t s1
  have h1 : StaysSound s s1 := (StaysSound.of_only (setPort_only s .a _) (by rfl)).step (setPort_only _ .b _) (by rfl)
  exact ((h1.step (setAging_only _ _ _) (by rfl)).trans (redRunTest_sound .a _)).trans (redRunTest_sound .b _)

theorem supplyGood_sound (i : Side) (s : State) : StaysSound s (supplyGood i s) := by
  have h (f : SidePower → SidePower) : StaysSound s (editSide i f s) := .of_only (editSide_only i f s) (by rfl)
  dsimp only [supplyGood]
  exact ((h _).trans (takeSupplyGood_sound i _)).ite (h _)

theorem supplyGoodLoss_sound (i : Side) (s : State) : StaysSound s (supplyGoodLoss i s) := by
  have h (f : SidePower → SidePower) : StaysSound s (editSide i f s) := .of_only (editSide_only i f s) (by rfl)
  dsimp only [supplyGoodLoss]
  split
  · exact (h _).trans (darkReport_sound i _)
  · exact h _
  · exact h _
  all_goals exact (h _).trans (supplyLost_sound i _)

theorem supplyTimeout_sound (i : Side) (s : State) : StaysSound s (supplyTimeout i s) :=
  ((downFault_sound i _ s).step (notifyFault_only _ _ _ _ _ _ _) (by rfl)).ite (.refl s)

theorem permitHoldExpiry_sound (s : State) : StaysSound s (permitHoldExpiry s) := by
  unfold permitHoldExpiry
  exact ((StaysSound.of_only (setPower_only s _) (by rfl)).trans (grantPermit_sound _)).ite (.refl s)

theorem checkQuietExpiry_sound (i : Side) (s : State) : StaysSound s (checkQuietExpiry i s) := by
  unfold checkQuietExpiry
  exact ((StaysSound.of_only (editSide_only i _ s) (by rfl)).trans ((endCheck_sound i _).ite (.refl _))).ite (.refl s)

theorem clockAdvance_sound (s : State) : StaysSound s (clockAdvance s) := by
  dsimp only [clockAdvance, scheduleActs]
  refine StaysSound.ite ?_ (.refl s)
  exact ((StaysSound.of_only (setClock_only s _) (by rfl)).trans ((wakingEntry_sound _ _).ite ((goNight_sound _ _).ite (.refl _)))).trans
    (.of_only (timedCommit_only _ _) (by rfl))

theorem takeGoNight_sound (s : State) : StaysSound s (takeGoNight s) := by
  unfold takeGoNight
  split
  · exact .of_only (refuse_only _ s) (by rfl)
  · exact (goNight_sound _ s).step (answerMode_only _) (by rfl)
  · exact (goNight_sound _ s).step (answerMode_only _) (by rfl)
  · exact .of_only (answerMode_only s) (by rfl)
  · exact .of_only (answerMode_only s) (by rfl)

theorem takeWake_sound (s : State) : StaysSound s (takeWake s) := by
  unfold takeWake
  split
  · exact .of_only (refuse_only _ s) (by rfl)
  · exact (wakingEntry_sound _ s).step (answerMode_only _) (by rfl)
  · exact (cancelNight_sound s).step (answerMode_only _) (by rfl)
  · exact .of_only (answerMode_only s) (by rfl)
  · exact .of_only (answerMode_only s) (by rfl)

theorem takeRestart_sound (s : State) : StaysSound s (takeRestart s) := by
  dsimp only [takeRestart]
  refine StaysSound.ite (.of_only (refuse_only _ s) (by rfl)) ?_
  exact ((addClosureBoth_sound _ s).step (answer_only _ _ _) (by rfl)).step (setLink_only _ _) (by rfl)

theorem takePowerSide_sound (i : Side) (s : State) : StaysSound s (takePowerSide i s) := by
  have hr (st : Status) : StaysSound s (refuse st s) := .of_only (refuse_only st s) (by rfl)
  unfold takePowerSide
  refine (hr _).ite ((hr _).ite ?_)
  refine StaysSound.trans ?_ (.of_only (answer_only _ _ _) (by rfl))
  unfold rerun
  extract_lets w s1
  have h1 : StaysSound s s1 := ((StaysSound.refl _).ite (.of_only (setPower_only s _) (by rfl))).trans (beginBringUp_sound i _)
  exact (h1.step (addChange_only _ _) (by rfl)).trans (grantPermit_sound _)

/-- A reason lost by both sides' closure sets. -/
theorem loseBoth_sound {f : Closures → Closures} (hf : (f Closures.empty).isEmpty = true) (s : State) :
    StaysSound s (setClosures .b (f s.fill.b.closures) (setClosures .a (f s.fill.a.closures) s)) := by
  refine (setClosures_sound .a _ s (Closures.isEmpty_map hf)).trans (setClosures_sound .b _ _ fun he => ?_)
  have hb := setClosures_only .a (f s.fill.a.closures) s (.fill .b) (by simp)
  exact Closures.isEmpty_map hf (by rw [← he]; exact congrArg (fun x => x.closures.isEmpty) hb.symm)

theorem ownerVerified_sound (x : Image) (s : State) : StaysSound s (ownerVerified x s) := by
  unfold ownerVerified
  split
  · exact loseBoth_sound (f := fun c => { c with calibration := false }) rfl s
  · exact loseBoth_sound (f := fun c => { c with price := false }) rfl s
  · exact .of_only (setRegister_only s _) (by rfl)
  · exact .refl s

theorem writeAttemptEnd_sound (r : ReadBack) (s : State) : StaysSound s (writeAttemptEnd r s) := by
  have hs (t : Store) : StaysSound s (s.setStore t) := .of_only (setStore_only s t) (by rfl)
  have hf (j : RunningJob) (x : Image) : StaysSound s (jobFailed j x r s) := by
    dsimp only [jobFailed]
    exact (((hs _).step (setLink_only _ _) (by rfl)).step (answerJob_only _ _ _) (by rfl)).ite
      (((hs _).step (setLink_only _ _) (by rfl)).step (notifyFault_only _ _ _ _ _ _ _) (by rfl))
  dsimp only [writeAttemptEnd]
  split
  · exact .refl s
  · split
    · exact .refl s
    · exact (((hs _).step (answerJob_only _ _ _) (by rfl)).trans (ownerVerified_sound _ _)).ite ((hf _ _).ite (hs _))

theorem verifyJobEnd_sound (s : State) : StaysSound s (verifyJobEnd s) := by
  unfold verifyJobEnd
  exact ((StaysSound.of_only (setStore_only s _) (by rfl)).trans (makeResult_sound _ _ _)).ite (.refl s)

/-! ### Loading, resets and steps -/

theorem readCfg_sound (s : State) : StaysSound s (readCfg s) := by
  refine .of_same (fun i => ?_) (fun i => ?_) (fun _ => rfl) fun _ h => h
  · cases i <;> rfl
  · cases i <;> rfl

theorem readRegion_sound (r : Region) (s : State) : StaysSound s (readRegion r s) := by
  have hs (t : Store) : StaysSound s (s.setStore t) := .of_only (setStore_only s t) (by rfl)
  unfold readRegion
  split
  · exact .of_same (fun _ => rfl) (fun _ => rfl) (fun _ => rfl) fun _ h => h
  · exact readCfg_sound s
  · exact (hs _).step (setPrices_only _ _) (by rfl)
  · exact (hs _).step (setRegister_only _ _) (by rfl)

theorem loadingEnd_sound (s : State) : StaysSound s (loadingEnd s) := by
  unfold loadingEnd
  extract_lets s1 s2
  have h1 : StaysSound s s1 :=
    ((StaysSound.of_only (examineSlot_only .a s) (by rfl)).step (examineSlot_only .b _) (by rfl)).step (raiseDepth_only _) (by rfl)
  have h2 : StaysSound s s2 := by
    have h0 : StaysSound s (spendNozzles .b (spendNozzles .a s1)) :=
      (h1.trans (setFill_sound _ (by rfl) (by rfl))).trans (setFill_sound _ (by rfl) (by rfl))
    have hc := (h0.trans (addClosureBoth_sound .calibration _)).ite
      (p := (spendNozzles .b (spendNozzles .a s1)).store.cal.state = .invalid) h0
    exact (hc.trans (addClosureBoth_sound _ _)).ite hc
  have h3 : StaysSound s (loadedWarning s2) := ((h2.trans (addClosureBoth_sound _ _)).step (takeWarning_only _) (by rfl)).ite h2
  have h4 : StaysSound s (notifyPowerOn (loadedWarning s2)) := h3.step (notify_only _ _) (by rfl)
  exact (h4.trans (wakingEntry_sound _ _)).ite (h4.trans (nightEntry_sound _ _))

theorem passMillisecond_sound (s : State) : StaysSound s (passMillisecond s) := by
  refine .of_same (fun i => ?_) (fun i => ?_) (fun _ => rfl) fun p h => ?_
  · cases i <;> rfl
  · cases i <;> rfl
  · have hm : (passMillisecond s).motors.get p = (s.motors.get p).pass := by cases p <;> rfl
    rw [hm]
    simpa [Motor.sound, Motor.pass, tickTimer] using h

theorem settle_sound (s t : State) : StaysSound t (settle s t) :=
  .of_same (fun i => by rw [State.sideState, settle_fill, State.sideState]) (fun i => by rw [settle_fill])
    (fun i => by rw [settle_valves]) fun p h => by rwa [settle_motors]

theorem afterReset_valvesShut (k : Kept) : ValvesShut (State.afterReset k) := by
  intro i _
  cases i <;> rfl

theorem afterReset_motorsSound (k : Kept) : MotorsSound (State.afterReset k) := by
  intro p
  cases p <;> exact Motor.stopped_sound

/-- Right after a reset both sides are CLOSED and have a reason for it. -/
theorem afterReset_closuresSound (k : Kept) : ClosuresSound (State.afterReset k) := by
  intro i _
  cases i <;> exact ⟨fun _ => rfl, fun _ => rfl⟩

/-- From any state at all, a step to what a reset leaves is sound. -/
theorem afterReset_sound (s : State) (k : Kept) : StaysSound s (State.afterReset k) :=
  ⟨fun _ => afterReset_valvesShut k, fun _ => afterReset_motorsSound k, fun _ => afterReset_closuresSound k⟩

theorem tamperAtReset_sound (i : Side) (s : State) : StaysSound s (tamperAtReset i s) := (tamperPort_sound i s).ite (.refl s)

theorem event_sound {f : State → State} {s t : State} (h : StaysSound s (f s)) (he : event f s = .next t) : StaysSound s t := by
  rw [event_eq_next he]
  exact h.trans (settle_sound s _)

theorem resetEvent_sound {k : Kept} {s t : State} (he : resetEvent k = .next t) : StaysSound s t :=
  (afterReset_sound s k).trans (event_sound ((tamperAtReset_sound .a _).trans (tamperAtReset_sound .b _)) he)

/-- Every command but a reset stays sound. -/
theorem effect_sound (c : Instr) (s : State) : StaysSound s (effect c s) := by
  cases c
  case loadingEnd => exact (loadingEnd_sound s).ite (.refl s)
  case phaseLevelTaken => exact takeLevels_sound _ _ _ s
  case rateWindowExpiry => exact rateExpiry_sound _ s
  case nozzleLift => exact nozzleLift_sound _ _ s
  case nozzleHangUp => exact nozzleHangUp_sound _ _ s
  case primeExpiry => exact primeExpiry_sound _ s
  case authorizationTimerExpiry => exact (withdrawWaiting_sound _ _ _ s).ite (.refl s)
  case noFlowExpiry => exact (hold_sound _ _ s).ite (.refl s)
  case endingQuietExpiry => exact ((closeSale_sound _ _ s).trans (nightIfLast_sound _)).ite (.refl s)
  case afterFlowExpiry => exact ((closeSale_sound _ _ s).trans (nightIfLast_sound _)).ite (.refl s)
  case estopAssert => exact estopAssert_sound s
  case supplyFailWarning => exact supplyFailWarning_sound s
  case tamperAssert i => exact (StaysSound.of_only (setPort_only s i _) (by rfl)).trans (tamperPort_sound i _)
  case readerReadyLoss i => exact (StaysSound.of_only (setPort_only s i _) (by rfl)).trans (lineLoss_sound i _)
  case lineLowTimeout i b =>
    exact StaysSound.trans ((StaysSound.of_only (abandonFrame_only i s) (by rfl)).ite (.refl s)) (lineLoss_sound i _)
  case admitAck i _ r =>
    exact arrive_sound i _ _ _ _ _ (fun u => (StaysSound.of_only (countConsumed_only i u) (by rfl)).trans (takeAck_sound i r _)) s
  case authGrant i _ _ _ _ _ =>
    exact arrive_sound i _ _ _ _ _ (fun u => (StaysSound.of_only (countConsumed_only i u) (by rfl)).trans (takeGrant_sound i _ _ _ _ _)) s
  case authCancel i _ _ =>
    exact arrive_sound i _ _ _ _ _ (fun u => (StaysSound.of_only (countConsumed_only i u) (by rfl)).trans (takeCancel_sound i _ _)) s
  case agingScan => exact agingScan_sound s
  case displayEcho => exact displayEcho_sound _ _ s
  case echoTimeout => exact echoTimeout_sound _ s
  case testPhaseExpiry => exact phaseExpiry_sound _ s
  case temperatureSample => exact takeSample_sound _ _ s
  case supplyGood => exact supplyGood_sound _ s
  case supplyGoodLoss => exact supplyGoodLoss_sound _ s
  case supplyStageTimeout => exact supplyTimeout_sound _ s
  case permitHoldExpiry => exact permitHoldExpiry_sound s
  case heatMaximumExpiry => exact (heatExpired_sound _ s).ite (.refl s)
  case checkQuietExpiry => exact checkQuietExpiry_sound _ s
  case admitStageExpiry i => exact ((StaysSound.of_only (editSide_only i _ s) (by rfl)).trans (enterVerify_sound i _ _)).ite (.refl s)
  case verifyWaitExpiry => exact (verifyExpired_sound s).ite (.refl s)
  case clockAdvance => exact clockAdvance_sound s
  case writeAttemptEnd => exact writeAttemptEnd_sound _ s
  case verifyJobEnd => exact verifyJobEnd_sound s
  case readMeter => exact request_sound _ _ _ _ takeReadMeter_sound s
  case setCalibration => exact request_sound _ _ _ _ (takeCalibration_sound _) s
  case authorize => exact request_sound _ _ _ _ takeAuthorize_sound s
  case cancelAuth => exact request_sound _ _ _ _ (fun n => withSide_sound _ takeCancelAuth_sound n) s
  case suspend => exact request_sound _ _ _ _ (fun n => withSide_sound _ takeSuspend_sound n) s
  case resume => exact request_sound _ _ _ _ (fun n => withSide_sound _ takeResume_sound n) s
  case stopFill => exact request_sound _ _ _ _ (fun n => withSide_sound _ takeStopFill_sound n) s
  case endSale => exact request_sound _ _ _ _ (fun n => withSide_sound _ takeEndSale_sound n) s
  case openSide => exact request_sound _ _ _ _ (fun n => withSide_sound _ takeOpenSide_sound n) s
  case closeSide => exact request_sound _ _ _ _ (fun n => withSide_sound _ takeCloseSide_sound n) s
  case setNozzleMap => exact request_sound _ _ _ _ takeNozzleMap_sound s
  case enableReader =>
    exact request_sound _ _ _ _ (fun n => withSide_sound _ (fun i u => .of_only (takeEnableReader_only i u) (by cases i <;> rfl)) n) s
  case disableReader => exact request_sound _ _ _ _ (fun n => withSide_sound _ takeDisableReader_sound n) s
  case clearTamper =>
    exact request_sound _ _ _ _ (fun n => withSide_sound _ (fun i u => .of_only (takeClearTamper_only _ i u) (by cases i <;> rfl)) n) s
  case goNight => exact request_sound _ _ _ _ (fun _ => takeGoNight_sound) s
  case wake => exact request_sound _ _ _ _ (fun _ => takeWake_sound) s
  case restart => exact request_sound _ _ _ _ (fun _ => takeRestart_sound) s
  case powerSide => exact request_sound _ _ _ _ (fun n => withSide_sound _ takePowerSide_sound n) s
  case regionRead => exact (readRegion_sound _ s).ite (.refl s)
  case powerOnReset => exact .refl s
  case restartReset => exact .refl s
  all_goals exact .of_only (effect_only _ s) (by rfl)

theorem Instr.reset_cases (c : Instr) :
    Instr.isReset c = false ∨ (∃ a b r, c = .powerOnReset a b r) ∨ ∃ a b, c = .restartReset a b := by
  unfold Instr.isReset
  split
  · exact .inr (.inl ⟨_, _, _, rfl⟩)
  · exact .inr (.inr ⟨_, _, rfl⟩)
  · exact .inl rfl

/-- A step keeps the valves shut, the motors sound and the closures reasoned. -/
theorem step_sound {s t : State} (h : step s = .next t) : StaysSound s t := by
  unfold step at h
  split at h
  · cases h; exact passMillisecond_sound s
  · next c rest _ =>
    have h0 : StaysSound s { s with pending := rest } := .of_same (fun _ => rfl) (fun _ => rfl) (fun _ => rfl) fun _ x => x
    rcases Instr.reset_cases c with hr | ⟨_, _, _, rfl⟩ | ⟨_, _, rfl⟩
    · rw [exec_eq_event c _ hr] at h
      exact h0.trans (event_sound (effect_sound c _) h)
    · exact resetEvent_sound h
    · dsimp only [exec, execRestartReset] at h
      split at h
      · exact resetEvent_sound h
      · exact h0.trans (event_sound (.refl _) h)

/-- Settles O6: each operation stays sound, followed through every command. -/
theorem everyStepKeepsIdleValvesShut : Obligations.EveryStepKeepsIdleValvesShut := fun _ _ hs h => (step_sound h).valves hs

/-- Settles O7: only demands, primes and stops write a motor, and each writes a sound one. -/
theorem everyStepKeepsTheMotorsSound : Obligations.EveryStepKeepsTheMotorsSound := fun _ _ hs h => (step_sound h).motors hs

/-- Settles O8: a closure set is written together with the side's state. -/
theorem everyStepKeepsClosedSidesReasoned : Obligations.EveryStepKeepsClosedSidesReasoned := fun _ _ hs h =>
  (step_sound h).closures hs

end Sys2Proof.Machine

namespace Sys2Proof.Machine

open Sys2Proof

/-! ### The machine right after reset -/

/-- A reset leaves a machine at rest: every head is unpowered, both banks are empty, no port runs, and no latch's condition holds. -/
theorem afterReset_settled (k : Kept) : Settled (State.afterReset k) where
  display i := by cases i <;> rfl
  banks := rfl
  reader i := by cases i <;> rfl
  link := rfl
  latches := rfl
  changes := rfl

/-- Settles O4: a reset leaves a machine at rest, by the lemmas about the state after any reset; the rest is read off the state. -/
theorem resetIsSound : Obligations.ResetIsSound := by
  refine ⟨afterReset_settled _, afterReset_valvesShut _, afterReset_motorsSound _, afterReset_closuresSound _,
    ⟨Nat.zero_le _, Nat.zero_le _⟩, ?_⟩
  have hnone : State.reset.conversations = [] := rfl
  simp [ConversationsSound, hnone]

/-- An effect that changes nothing at all leaves a settled state as it is. -/
theorem Settled.settle_self {s : State} (h : Settled s) : Machine.settle s s = s :=
  h.settle_quiet ⟨rfl, rfl, rfl, rfl, rfl, rfl, fun _ => ⟨rfl, rfl⟩, rfl⟩ rfl rfl

/-! ### A frame in transmission

What an event queues waits for the frame in transmission to end (R186). -/

theorem Link.enqueue_tx (l : Link) (n : Notice) : (l.enqueue n).tx = l.tx := by
  unfold Link.enqueue Link.discardNotice
  split
  · rfl
  · split
    · rfl
    · split <;> rfl

theorem notifyAll_tx (ns : List Notice) (s : State) : (ns.foldl (fun u n => notify n u) s).link.tx = s.link.tx := by
  induction ns generalizing s with
  | nil => rfl
  | cons n ns ih => exact (ih (notify n s)).trans (Link.enqueue_tx _ _)

theorem reportSide_tx (i : Side) (old : Fill) (s : State) : (reportSide i old s).link.tx = s.link.tx := by
  unfold reportSide
  dsimp only
  split
  · rfl
  · exact Link.enqueue_tx _ _

theorem Link.startNext_tx {l : Link} {x : LinkTx} (h : l.tx = some x) : l.startNext.tx = some x := by
  unfold Link.startNext
  rw [h]
  exact h

theorem settle_tx (old : State) {u : State} {x : LinkTx} (h : u.link.tx = some x) : (settle old u).link.tx = some x := by
  rw [settle_link]
  refine Link.startNext_tx ?_
  calc (reported old u).tx
      = (reportSide .b old.fill.b (reportSide .a old.fill.a (sendDisplays u))).link.tx := notifyAll_tx _ _
    _ = (reportSide .a old.fill.a (sendDisplays u)).link.tx := reportSide_tx _ _ _
    _ = u.link.tx := reportSide_tx _ _ (sendDisplays u)
    _ = some x := h

/-! ### The tamper inputs at a reset -/

/-- What the reset does to a DISABLED port by its tamper input (R144): the port is TAMPERED where the input is asserted, and nothing is
taken from service, from transmission or from a sale queue that is empty. -/
structure TamperTaken (i : Side) (s t : State) : Prop where
  only : OnlyChanges [.register, .port i, .link] s t
  state : (t.ports.get i).state = if (s.ports.get i).tamperInput then .tampered else .disabled
  ready : (t.ports.get i).readyInput = (s.ports.get i).readyInput
  queue : ∀ j, s.register.queues.get j = [] → t.register.queues.get j = []
  service : t.link.service = s.link.service
  tx : t.link.tx = s.link.tx

theorem tamperPort_disabled {i : Side} {s : State} (h : (s.ports.get i).state = .disabled) :
    tamperPort i s = dropDeliveries i (changePort i .tamper { (s.ports.get i).quiet with state := .tampered }
      (s.setLink { s.link with latches := s.link.latches.setTamper i })) := by
  unfold tamperPort leavePort
  simp [h]

theorem dropDeliveries_queue {i j : Side} {s : State} (h : s.register.queues.get j = []) :
    (dropDeliveries i s).register.queues.get j = [] := by
  simp only [dropDeliveries, State.setPort_register, State.setRegister_register, PerSide.get_set]
  split
  · next hji => rw [← hji, h]; rfl
  · exact h

theorem tamperAtReset_taken {i : Side} {s : State} (h : (s.ports.get i).state = .disabled) : TamperTaken i s (tamperAtReset i s) := by
  unfold tamperAtReset
  split
  · next ht =>
    rw [tamperPort_disabled h]
    refine ⟨?_, ?_, ?_, fun j hj => dropDeliveries_queue hj, notify_service _ _, Link.enqueue_tx _ _⟩
    · exact (((setLink_only s _).mono (by simp)).step (changePort_only i _ _ _) (by simp)).step (dropDeliveries_only i _) (by simp)
    · simp [dropDeliveries, changePort, notifyPort, notify, ht]
    · simp [dropDeliveries, changePort, notifyPort, notify, Port.quiet]
  · next ht => exact ⟨.refl _ _, by simp [h, ht], rfl, fun _ hj => hj, rfl, rfl⟩

/-- The ports' transmitters start nothing at a port that is DISABLED or TAMPERED. -/
theorem startReader_off {i : Side} {s : State} (hn : (s.ports.get i).state ≠ .negotiating) (ha : (s.ports.get i).state ≠ .admitted) :
    startReader s i = s.ports.get i := by
  unfold startReader
  dsimp only
  split
  · next h => exact absurd h hn
  · next h => exact absurd h ha
  · rfl

/-- What the event of a reset leaves: the blocks at their reset values, but for the ports found tampered and what they report. -/
structure ResetLeft (k : Kept) (u : State) : Prop where
  only : OnlyChanges [.register, .port .a, .port .b, .link] (State.afterReset k) u
  state : ∀ i, (u.ports.get i).state = if k.tamper.get i then .tampered else .disabled
  ready : ∀ i, (u.ports.get i).readyInput = k.ready.get i
  queue : ∀ i, u.register.queues.get i = []
  service : u.link.service = none
  tx : u.link.tx = some (.notice resetNotice)
  plain : k.tamper.a = false → k.tamper.b = false → u = State.afterReset k

theorem resetEvent_leaves (k : Kept) : ∃ u, resetEvent k = .next u ∧ ResetLeft k u := by
  have hr := afterReset_settled k
  generalize hR : State.afterReset k = r at hr
  have hd (i : Side) : r.ports.get i = Port.reset (k.ready.get i) (k.tamper.get i) := by rw [← hR]; cases i <;> rfl
  have ha : TamperTaken .a r (tamperAtReset .a r) := tamperAtReset_taken (by rw [hd]; rfl)
  have hb0 : (tamperAtReset .a r).ports.get .b = r.ports.get .b := ha.only (.port .b) (by simp)
  have hb := tamperAtReset_taken (i := .b) (s := tamperAtReset .a r) (by rw [hb0, hd]; rfl)
  generalize hv : tamperAtReset .b (tamperAtReset .a r) = v at hb
  have ha1 : v.ports.get .a = (tamperAtReset .a r).ports.get .a := hb.only (.port .a) (by simp)
  have hstate (i : Side) : (v.ports.get i).state = if k.tamper.get i then .tampered else .disabled := by
    cases i
    · rw [ha1, ha.state, hd]; rfl
    · rw [hb.state, hb0, hd]; rfl
  have hready (i : Side) : (v.ports.get i).readyInput = k.ready.get i := by
    cases i
    · rw [ha1, ha.ready, hd]; rfl
    · rw [hb.ready, hb0, hd]; rfl
  have hoff (i : Side) : startReader v i = v.ports.get i :=
    startReader_off (by rw [hstate]; split <;> decide) (by rw [hstate]; split <;> decide)
  have honly : OnlyChanges [.register, .port .a, .port .b, .link] r v := (ha.only.mono (by simp)).step hb.only (by simp)
  refine ⟨settle r v, by rw [← hv, ← hR]; rfl, ?_, fun i => ?_, fun i => ?_, fun i => ?_, ?_, ?_, fun hta htb => ?_⟩
  · rw [hR]
    exact honly.settle r hr (by simp) (fun i hi => absurd (by cases i <;> simp) hi)
      (fun _ => ⟨congrArg Power.mode (honly .power (by simp)), honly .supplyFailInput (by simp)⟩)
  · rw [settle_ports, hoff, hstate]
  · rw [settle_ports, hoff, hready]
  · rw [settle_register]
    exact hb.queue i (ha.queue i (by rw [← hR]; cases i <;> rfl))
  · rw [settle_service, hb.service, ha.service, ← hR]; rfl
  · exact settle_tx r (by rw [hb.tx, ha.tx, ← hR]; rfl)
  · have hA : tamperAtReset .a r = r := if_neg (by rw [hd]; simp [Port.reset, hta])
    have hB : tamperAtReset .b r = r := if_neg (by rw [hd]; simp [Port.reset, htb])
    rw [hR, ← hv, hA, hB, hr.settle_self]

/-- The region that a write running at the loss of power leaves unreadable is the one that its kind names (R176). -/
theorem Store.writing_eq (t : Store) (k : JobKind) (r : Region) (h : ∀ j : JobKind, j.region = some r ↔ j = k) :
    t.writing r = decide (t.running.map (fun j => j.kind) = some k) := by
  unfold Store.writing
  cases t.running with
  | none => simp
  | some j => simp [h]

theorem Store.cutSlot_eq (t : Store) (readsErased : Bool) (i : Side) :
    t.cutSlot readsErased i =
      if t.saving.map (fun r => r.op) = some { kind := .erase, side := i } then (if readsErased then .empty else .cutShort)
      else (t.slots.get i).contents := by
  unfold Store.cutSlot Store.eraseRunning
  cases t.saving with
  | none => simp
  | some r => simp

/-! ### RESTART -/

theorem atReset_eq : NozzlePosition.atReset = fun x => if x = .hung then .hung else .up := by
  funext x
  cases x <;> rfl

/-- When a RESTART is due (R174), as a proposition. -/
theorem restartReady_iff (s : State) :
    restartReady s = true ↔
      (s.store.running = none ∧ s.store.saving = none ∧ s.store.saveWaiting = [] ∧
        (s.supplyFailInput = false → s.store.waiting = []) ∧
        (s.supplyFailInput = true → ∀ j ∈ s.store.waiting, j.kind ≠ .totalsWrite)) ∧
      (∃ r, s.link.service = some r ∧ r.restart = true) ∧ s.link.replySlot = none ∧ ∀ r, s.link.tx ≠ some (.reply r) := by
  have htx : (match s.link.tx with | some (.reply _) => false | _ => true) = true ↔ ∀ r, s.link.tx ≠ some (.reply r) := by
    rcases s.link.tx with _ | (r | b | n) <;> simp
  simp only [restartReady, Bool.and_eq_true, Option.isNone_iff_eq_none, List.isEmpty_iff, Option.any_eq_true]
  cases s.supplyFailInput
  · simp; tauto
  · simp; tauto

theorem addClosureBoth_fill (r : ClosureReason) (s : State) :
    (addClosureBoth r s).fill.get .a = (addClosure .a r s).fill.get .a ∧ (addClosure .a r s).fill.get .b = s.fill.get .b :=
  ⟨addClosure_only .b r _ (.fill .a) (by simp), addClosure_only .a r s (.fill .b) (by simp)⟩

/-- A reason added to both closure sets. -/
theorem addClosureBoth_closures (r : ClosureReason) (s : State) (i : Side) :
    ((addClosureBoth r s).fill.get i).closures = (s.fill.get i).closures.add r := by
  obtain ⟨ha, hb⟩ := addClosureBoth_fill r s
  cases i
  · rw [ha, addClosure_closures]
  · rw [addClosureBoth, addClosure_closures, hb]

/-- A reason added to both closure sets closes each side that is in no fill (R47). -/
theorem addClosureBoth_sideState {s : State} {i : Side} (r : ClosureReason) (h : s.filling i = false) :
    (addClosureBoth r s).sideState i = .closed := by
  obtain ⟨ha, hb⟩ := addClosureBoth_fill r s
  cases i
  · rw [State.sideState, ha]
    exact addClosure_sideState r h
  · refine addClosure_sideState r ?_
    rw [← h, State.filling, State.filling, State.sideState, State.sideState, hb]

theorem addClosureBoth_service (r : ClosureReason) (s : State) : (addClosureBoth r s).link.service = s.link.service :=
  (addClosure_service .b r _).trans (addClosure_service .a r s)

theorem restart_accepted {s : State} (hf : Free s) (tag : Nat) (hl : s.power.mode ≠ .loading) (ha : s.anyFilling = false)
    (hw : s.supplyFailInput = false) : ∃ t, exec (.restart tag (.fields ())) s = .next t ∧
      t.link.answers Kind.restart tag .ok [] ∧
      t.link.service = some { kind := Kind.restart, tag := tag, fields := [], restart := true } ∧
      ∀ i, t.sideState i = .closed ∧ (t.fill.get i).closures = { (s.fill.get i).closures with command := true } := by
  generalize hu : s.setLink (s.link.frameTaken.enterService Kind.restart tag) = u
  generalize hv : addClosureBoth .command u = v
  have hcond : ¬(u.power.mode = .loading ∨ u.anyFilling ∨ u.supplyFailInput) := by
    rw [← hu]
    rintro (h | h | h)
    · exact hl h
    · exact absurd (h.symm.trans ha) (by decide)
    · exact absurd (h.symm.trans hw) (by decide)
  have hidle (i : Side) : u.filling i = false := by
    have := Bool.or_eq_false_iff.mp ha
    rw [← hu]
    cases i
    · exact this.1
    · exact this.2
  have hservice : v.link.service = some { kind := Kind.restart, tag := tag, fields := [], restart := false } := by
    rw [← hv, addClosureBoth_service, ← hu]; rfl
  have htake : takeRestart u = (answer .ok [] v).setLink
      { (answer .ok [] v).link with service := v.link.service.map (fun r => { r with restart := true }) } := by
    rw [← hv]
    exact if_neg hcond
  refine ⟨settle s (takeRestart u), ?_, ?_, ?_, fun i => ?_⟩
  · exact (event_next _ s).trans (congrArg (fun x => Host.Outcome.next (settle s x)) (by rw [request_free hf, hu]))
  · rw [htake]
    refine (settle_keeps _ _).answers _ _ _ _ (.inl ?_)
    simp [answer, hservice]
  · rw [htake, settle_service]
    simp [hservice]
  · have hfill : (settle s (takeRestart u)).fill = v.fill := by rw [settle_fill, htake]; rfl
    rw [State.sideState, hfill]
    rw [← hv]
    refine ⟨addClosureBoth_sideState _ (hidle i), ?_⟩
    rw [addClosureBoth_closures, ← hu]
    rfl

/-! ### The resets -/

/-- Settles O58: a reset's state is the one after any reset, with the tampered ports and the notices they make; a RESTART is due by the
test that its command makes. -/
theorem restartsAndPowerOnsReset : Obligations.RestartsAndPowerOnsReset := by
  intro x y s held isReset
  have hreset (nv : NonVolatile) (clock : Clock) (cause : ResetCause) :
      ∃ u, resetEvent (kept s nv clock cause { a := x, b := y }) = .next u ∧ isReset u nv clock cause := by
    obtain ⟨u, hu, h⟩ := resetEvent_leaves (kept s nv clock cause { a := x, b := y })
    have hstore : u.store = Store.reset nv := h.only .store (by simp)
    have hfill (i : Side) : u.fill.get i = Fill.reset ((s.fill.get i).nozzles.map NozzlePosition.atReset) := by
      rw [h.only (.fill i) (by simp)]; cases i <;> rfl
    have hpower : u.power = _ := h.only .power (by simp)
    have hside (i : Side) : u.sidePower.get i = SidePower.reset := by rw [h.only (.sidePower i) (by simp)]; cases i <;> rfl
    refine ⟨u, hu, h.only .clock (by simp), by rw [hpower]; rfl, by rw [hpower]; rfl, h.only .pending (by simp),
      h.only .estopInput (by simp), h.only .supplyFailInput (by simp), by rw [hstore]; rfl, by rw [hstore]; rfl, by rw [hstore]; rfl,
      by rw [hstore]; rfl, by rw [hstore]; rfl, by rw [hstore]; rfl, by rw [hstore]; rfl, by rw [hstore]; rfl, h.service, h.tx,
      h.state .a, h.state .b, fun i => ⟨?_, h.queue i, ?_, ?_, ?_, ?_, ?_, fun n => ?_⟩, fun hx hy => ?_⟩
    · rw [hstore]; cases i <;> rfl
    · rw [State.sideState, hfill]; rfl
    · rw [hfill]; rfl
    · rw [hside]; rfl
    · rw [hside]; rfl
    · rw [h.ready]; cases i <;> rfl
    · rw [hfill, atReset_eq]; cases n <;> rfl
    · rw [h.plain hx hy]
      simp only [kept, held, atReset_eq, hx, hy]
  refine ⟨?_, ?_, ?_, ?_⟩
  · intro tag hs hf c
    refine ⟨fun hrefused => ?_, restart_accepted hf tag⟩
    exact replied_of_answer hs hf Kind.restart tag () _ _ _ (if_pos hrefused)
  · intro hidle hsent
    have hready : restartReady s = true := (restartReady_iff s).mpr ⟨hidle, hsent⟩
    have hexec : exec (.restartReset x y) s = resetEvent (kept s s.store.atRestart s.clock .restart { a := x, b := y }) := if_pos hready
    rw [hexec]
    exact hreset _ _ _
  · intro hs hn
    have hready : ¬restartReady s = true := fun h => by
      obtain ⟨hidle, hsent⟩ := (restartReady_iff s).mp h
      exact hn.elim (· hidle) (· hsent)
    have hexec : exec (.restartReset x y) s = event id s := if_neg hready
    rw [hexec, event_next, id, hs.settle_self]
  · intro readsErased
    have hcut (k : JobKind) (r : Region) (h : ∀ j : JobKind, j.region = some r ↔ j = k) := s.store.writing_eq k r h
    obtain ⟨u, hu, h⟩ := hreset (s.store.afterPowerLoss readsErased) Clock.reset .powerOn
    refine ⟨u, hu, ?_⟩
    rw [Store.afterPowerLoss, hcut .calWrite .cal (by intro j; cases j <;> simp [JobKind.region]),
      hcut .cfgWrite .cfg (by intro j; cases j <;> simp [JobKind.region]),
      hcut .priceWrite .price (by intro j; cases j <;> simp [JobKind.region]),
      hcut .totalsWrite .totals (by intro j; cases j <;> simp [JobKind.region]), s.store.cutSlot_eq, s.store.cutSlot_eq] at h
    exact h

end Sys2Proof.Machine

namespace Sys2Proof.Machine

open Sys2Proof

/-! ### Holds, ends and writes of a fill -/

theorem setSale_fill (i : Side) (f : SaleContext → SaleContext) (s : State) :
    (setSale i f s).fill.get i = { s.fill.get i with sale := (s.fill.get i).sale.map f } := by simp [setSale]

theorem setSale_sideState (i : Side) (f : SaleContext → SaleContext) (s : State) : (setSale i f s).sideState i = s.sideState i := by
  rw [State.sideState, setSale_fill]
  rfl

/-- What a stop makes of the fill of a side (R57, R58). -/
theorem hold_fill {i : Side} {s : State} (r : StopReason) (h : s.sideState i ≠ .held) :
    (hold i r s).fill.get i = { s.fill.get i with
      state := .held, sale := (s.fill.get i).sale.map (fun c => { c with stop := some r })
      noFlowTimer := none, quietTimer := none, afterFlowTimer := none } := by
  unfold hold
  rw [enterState_fill (by rwa [setSale_sideState]), setSale_fill]
  rfl

/-- What an end makes of a side that is not in ENDING (R63, R67, R84). -/
structure Ended (i : Side) (r : EndReason) (s t : State) : Prop where
  fill : t.fill.get i = { s.fill.get i with
    state := .ending, sale := (s.fill.get i).sale.map (fun c => { c with ended := some r }), noFlowTimer := none
    quietTimer := some s.params.quietTime.toNat, afterFlowTimer := some 10000 }
  valves : t.valves.get i = { lo := 0, hi := 0 }
  blend : t.blend.get i = { s.blend.get i with window := none }

theorem endFill_ended {i : Side} {s : State} (r : EndReason) (h : s.sideState i ≠ .ending) : Ended i r s (endFill i r s) := by
  unfold endFill
  have hne : (setSale i (fun c => { c with ended := some r }) s).sideState i ≠ .ending := by rwa [setSale_sideState]
  refine ⟨?_, ?_, ?_⟩
  · rw [enterState_fill hne, setSale_fill]
    rfl
  · rw [enterState_valves hne, valveDuties_shut rfl]
  · rw [enterState_blend hne]
    rfl

/-- A write of a fill that leaves its state and its closure set stands still, and leaves the conditions of the latches. -/
theorem StandsStill.setFill {i : Side} {f : Fill} {s : State} (hs : f.state = (s.fill.get i).state)
    (hc : f.closures = (s.fill.get i).closures) : StandsStill s (s.setFill i f) := by
  refine ⟨rfl, rfl, rfl, rfl, rfl, rfl, fun j => ?_, rfl⟩
  rw [State.setFill_fill, PerSide.get_set]
  split
  · next h => rw [h]; exact ⟨hs, hc⟩
  · exact ⟨rfl, rfl⟩

theorem latchConditions_setFill {i : Side} {f : Fill} {s : State} (hc : f.closures = (s.fill.get i).closures) :
    latchConditions (s.setFill i f) = latchConditions s := by
  cases i
  all_goals
    unfold latchConditions
    simp only [State.setFill_fill, PerSide.set_a_a, PerSide.set_a_b, PerSide.set_b_a, PerSide.set_b_b, hc]
    rfl

/-- Such a write is the whole event. -/
theorem Settled.settle_setFill {i : Side} {f : Fill} {s : State} (h : Settled s) (hs : f.state = (s.fill.get i).state)
    (hc : f.closures = (s.fill.get i).closures) : Machine.settle s (s.setFill i f) = s.setFill i f :=
  h.settle_quiet (.setFill hs hc) rfl (latchConditions_setFill hc)

/-- Such a write with a frame or a reply for the link ends with the start of the link's next frame. -/
theorem Settled.settle_setFill_link {i : Side} {f : Fill} {s : State} (h : Settled s) (hs : f.state = (s.fill.get i).state)
    (hc : f.closures = (s.fill.get i).closures) {l : Link} (hl : l.latches = s.link.latches) (hlost : l.lost = s.link.lost) :
    Machine.settle s ((s.setFill i f).setLink l) = (s.setFill i f).setLink l.startNext := by
  have hq : StandsStill s (s.setFill i f) := .setFill hs hc
  refine h.settle_answered ⟨rfl, rfl, rfl, rfl, rfl, rfl, hq.fill, rfl⟩ hl ?_
  rw [← latchConditions_setFill hc]
  exact latchConditions_congr rfl rfl rfl rfl rfl rfl rfl rfl hlost rfl

/-! ### Requests on a side -/

/-- A request on a side, as the event of its owner's rule on the state that serves it. -/
theorem event_sideRequest {s : State} (h : Free s) (kind tag : Nat) (i : Side) (take : Side → State → State) :
    event (request kind tag (.fields (Side.number i)) (withSide take)) s = .next (settle s (take i (s.serving kind tag))) := by
  rw [event_request h]
  unfold withSide
  rw [sideOf_number]

/-- A request on a side that its owner refuses (R185). -/
theorem replied_of_sideRefuse {s : State} (hs : Settled s) (h : Free s) (kind tag : Nat) (i : Side) (take : Side → State → State)
    (status : Status) (fields : List Field)
    (ht : take i (s.serving kind tag) = answer status fields (s.serving kind tag)) :
    event (request kind tag (.fields (Side.number i)) (withSide take)) s = .next (s.replied kind tag status fields) := by
  refine replied_of_answer hs h kind tag _ _ status fields ?_
  change withSide take (Side.number i) (s.serving kind tag) = _
  unfold withSide
  rw [sideOf_number]
  exact ht

/-- What the event of an answered request leaves, where its effect `u` changes the blocks `bs` of the state that serves it. -/
structure Answered (kind tag : Nat) (fields : List Field) (bs : List Block) (s u t : State) : Prop where
  fill : t.fill = u.fill
  valves : t.valves = u.valves
  blend : t.blend = u.blend
  answers : t.link.answers kind tag .ok fields
  only : OnlyChanges (.link :: bs) s t

theorem answer_answered {s u : State} {bs : List Block} (hs : Settled s) (kind tag : Nat) (fields : List Field)
    (hu : OnlyChanges bs (s.serving kind tag) u) (hl : Block.link ∉ bs) (hr : Block.register ∉ bs) (hp : Block.power ∉ bs)
    (hf : Block.supplyFailInput ∉ bs) : Answered kind tag fields bs s u (settle s (answer .ok fields u)) := by
  have hserved : u.link.service = some { kind := kind, tag := tag, fields := [], restart := false } := by
    rw [show u.link = (s.serving kind tag).link from hu .link hl]; rfl
  have honly : OnlyChanges (.link :: bs) s (answer .ok fields u) :=
    (((setLink_only s _).mono (by simp)).step hu (by simp)).step (answer_only _ _ _) (by simp)
  exact ⟨settle_fill _ _, settle_valves _ _, settle_blend _ _, settle_answers s .ok fields hserved,
    OnlyChanges.settle_clear s hs honly (by simp) (by simp [hr]) (by simp [hp]) (by simp [hf])⟩

/-! ### SUSPEND, STOP_FILL and RESUME -/

/-- What a request that holds a fill leaves of it. -/
theorem hold_answered {i : Side} {s : State} (hs : Settled s) (kind tag : Nat) (r : StopReason) (h : s.sideState i ≠ .held) :
    ∃ t, settle s (answerState i (hold i r (s.serving kind tag))) = t ∧
      t.fill.get i = { s.fill.get i with
        state := .held, sale := (s.fill.get i).sale.map (fun c => { c with stop := some r })
        noFlowTimer := none, quietTimer := none, afterFlowTimer := none } ∧
      t.valves.get i = { lo := 0, hi := 0 } ∧ t.blend.get i = { s.blend.get i with window := none } ∧
      t.link.answers kind tag .ok (num 1 SideState.held.code) ∧
      OnlyChanges [.fill i, .blend i, .valves i, .display i, .link] s t := by
  have hv : (s.serving kind tag).sideState i ≠ .held := h
  have hh := hold_held r hv
  have ha := answer_answered hs kind tag (num 1 SideState.held.code) (hold_only i r (s.serving kind tag)) (by simp) (by simp) (by simp)
    (by simp)
  refine ⟨_, by rw [answerState, hh.state], ?_, ?_, ?_, ha.answers, ha.only.mono (by simp)⟩
  · rw [ha.fill, hold_fill r hv]; rfl
  · rw [ha.valves, hh.valves]
  · rw [ha.blend, hh.blend]; rfl

theorem finalStop_open {i : Side} {s : State} (r : StopReason) (h : (s.sideState i).isOpen = true) :
    finalStop i r s = hold i r s := by
  have hs : s.sideState i = .flowing ∨ s.sideState i = .slowing := by
    revert h
    cases s.sideState i <;> decide
  unfold finalStop
  rcases hs with hs | hs <;> rw [hs]

/-- A side in STARTING that a final stop ends is CANCELLED (R59). -/
theorem finalStop_starting {i : Side} {s : State} (r : StopReason) (h : s.sideState i = .starting) :
    finalStop i r s = endFill i .cancelled (setSale i (fun c => { c with stop := some r }) s) := by
  unfold finalStop
  rw [h]

theorem finalStop_held {i : Side} {s : State} (r : StopReason) (h : s.sideState i = .held) :
    finalStop i r s = if stopReason s i = some .suspend then setSale i (fun c => { c with stop := some r }) s else s := by
  unfold finalStop
  rw [h]

theorem finalStop_ending {i : Side} {s : State} (r : StopReason) (h : s.sideState i = .ending) : finalStop i r s = s := by
  unfold finalStop
  rw [h]

/-- What a resumed side chooses by its figures (R60). -/
theorem chooseFlow_held {i : Side} {s : State} (h : s.sideState i = .held) :
    let g := s.figures.get i
    let t := chooseFlow i s
    (g.targetReached = true → t.sideState i = .held ∧
      (t.fill.get i).sale = (s.fill.get i).sale.map (fun c => { c with stop := some .target })) ∧
    (g.targetReached = false → g.limitReached = true → t.sideState i = .held ∧
      (t.fill.get i).sale = (s.fill.get i).sale.map (fun c => { c with stop := some .limit })) ∧
    (g.targetReached = false → g.limitReached = false → (t.fill.get i).sale = (s.fill.get i).sale ∧
      (t.fill.get i).noFlowTimer = some (s.params.noFlowTimeout.toNat * 1000) ∧
      (flowsSlow g → t.sideState i = .slowing) ∧ (¬flowsSlow g → t.sideState i = .flowing)) := by
  intro g t
  have hheld (r : StopReason) : (hold i r s).sideState i = .held ∧
      ((hold i r s).fill.get i).sale = (s.fill.get i).sale.map (fun c => { c with stop := some r }) := by
    have he : hold i r s = setSale i (fun c => { c with stop := some r }) s := enterState_same (by rw [setSale_sideState, h])
    rw [he, setSale_sideState, setSale_fill]
    exact ⟨h, rfl⟩
  have hopen (new : SideState) (hn : new.isOpen = true) : ((enterState i new s).fill.get i).sale = (s.fill.get i).sale ∧
      ((enterState i new s).fill.get i).noFlowTimer = some (s.params.noFlowTimeout.toNat * 1000) := by
    have hwas : (s.fill.get i).state = .held := h
    rw [enterState_fill (by rw [h]; rintro rfl; exact absurd hn (by decide))]
    refine ⟨rfl, ?_⟩
    rw [noFlowAfter, hwas, if_pos hn]
    rfl
  refine ⟨fun ht => ?_, fun ht hl => ?_, fun ht hl => ?_⟩
  · simp only [t, chooseFlow_target ht]
    exact hheld .target
  · simp only [t, chooseFlow_limit ht hl]
    exact hheld .limit
  · obtain ⟨hslow, hfast⟩ := chooseFlow_open ht hl
    by_cases hf : flowsSlow g
    · simp only [t, hslow hf, enterState_sideState]
      exact ⟨(hopen _ rfl).1, (hopen _ rfl).2, fun _ => trivial, fun hn => absurd hf hn⟩
    · simp only [t, hfast hf, enterState_sideState]
      exact ⟨(hopen _ rfl).1, (hopen _ rfl).2, fun hs => absurd hs hf, fun _ => trivial⟩

theorem SideState.isFill_of_isOpen {st : SideState} (h : st.isOpen = true) : st.isFill = true := by
  revert h
  cases st <;> decide

/-- STOP_FILL in a fill state, as the event of the final stop (R59). -/
theorem stopFill_next {i : Side} {s : State} (hf : Free s) (tag : Nat) (h : s.filling i = true) :
    exec (.stopFill tag (.fields (Side.number i))) s =
      .next (settle s (answerState i (finalStop i .commandStop (s.serving Kind.stopFill tag)))) := by
  refine (event_sideRequest hf Kind.stopFill tag i takeStopFill).trans ?_
  rw [takeStopFill, if_pos (c := (s.serving Kind.stopFill tag).filling i = true) h]

/-- RESUME at a suspended side, as the event of the choice by the figures (R60). -/
theorem resume_next {i : Side} {s : State} (hf : Free s) (tag : Nat) (h : s.sideState i = .held) (hr : stopReason s i = some .suspend) :
    exec (.resume tag (.fields (Side.number i))) s = .next (settle s (answerState i
      (chooseFlow i (setSale i (fun c => { c with stop := none }) (s.serving Kind.resume tag))))) := by
  refine (event_sideRequest hf Kind.resume tag i takeResume).trans ?_
  rw [takeResume, if_pos (c := (s.serving Kind.resume tag).sideState i = .held ∧ stopReason (s.serving Kind.resume tag) i = some .suspend)
    ⟨h, hr⟩]

/-- STOP_FILL at a side in STARTING ends its fill CANCELLED (R59). -/
theorem stopFill_starting {i : Side} {s : State} (hs : Settled s) (hf : Free s) (tag : Nat) (h : s.sideState i = .starting) :
    ∃ t, exec (.stopFill tag (.fields (Side.number i))) s = .next t ∧ t.sideState i = .ending ∧
      (t.fill.get i).sale = (s.fill.get i).sale.map (fun c => { c with stop := some .commandStop, ended := some .cancelled }) ∧
      (t.fill.get i).quietTimer = some s.params.quietTime.toNat ∧ (t.fill.get i).afterFlowTimer = some 10000 ∧
      t.link.answers Kind.stopFill tag .ok (num 1 SideState.ending.code) ∧
      OnlyChanges [.fill i, .blend i, .valves i, .display i, .link] s t := by
  have hv : (s.serving Kind.stopFill tag).sideState i = .starting := h
  generalize hu : setSale i (fun c => { c with stop := some .commandStop }) (s.serving Kind.stopFill tag) = u
  have huf : (u.fill.get i).sale = (s.fill.get i).sale.map (fun c => { c with stop := some .commandStop }) := by
    rw [← hu, setSale_fill]; rfl
  have hup : u.params = s.params := by rw [← hu]; rfl
  have heq : finalStop i .commandStop (s.serving Kind.stopFill tag) = endFill i .cancelled u := by
    rw [finalStop_starting _ hv, hu]
  have hend := endFill_ended (i := i) (s := u) .cancelled (by rw [← hu, setSale_sideState, hv]; decide)
  have ha := answer_answered hs Kind.stopFill tag (num 1 SideState.ending.code)
    (heq ▸ finalStop_only i .commandStop (s.serving Kind.stopFill tag)) (by simp) (by simp) (by simp) (by simp)
  have hending : (endFill i .cancelled u).sideState i = .ending := congrArg Fill.state hend.fill
  refine ⟨_, stopFill_next hf tag (by rw [State.filling, h]; rfl), ?_⟩
  rw [heq, answerState, hending]
  refine ⟨?_, ?_, ?_, ?_, ha.answers, ha.only.mono (by simp)⟩
  · rw [State.sideState, ha.fill]; exact hending
  · rw [ha.fill, hend.fill, huf]
    exact Option.map_map _ _ _
  · rw [ha.fill, hend.fill, hup]
  · rw [ha.fill, hend.fill]

/-- STOP_FILL makes a suspended hold final (R59). -/
theorem stopFill_suspended {i : Side} {s : State} (hs : Settled s) (hf : Free s) (tag : Nat) (h : s.sideState i = .held)
    (hr : stopReason s i = some .suspend) : exec (.stopFill tag (.fields (Side.number i))) s =
      .next ((s.replied Kind.stopFill tag .ok (num 1 SideState.held.code)).setFill i
        { s.fill.get i with sale := (s.fill.get i).sale.map (fun c => { c with stop := some .commandStop }) }) := by
  have hv : (s.serving Kind.stopFill tag).sideState i = .held := h
  have heq : finalStop i .commandStop (s.serving Kind.stopFill tag) =
      setSale i (fun c => { c with stop := some .commandStop }) (s.serving Kind.stopFill tag) := by
    rw [finalStop_held _ hv]
    exact if_pos hr
  rw [stopFill_next hf tag (by rw [State.filling, h]; rfl), heq, answerState, setSale_sideState, hv]
  exact congrArg Host.Outcome.next (hs.settle_setFill_link (i := i)
    (f := { s.fill.get i with sale := (s.fill.get i).sale.map (fun c => { c with stop := some .commandStop }) })
    (l := (answer .ok (num 1 SideState.held.code) (s.serving Kind.stopFill tag)).link) rfl rfl rfl rfl)

/-- STOP_FILL leaves ENDING and any other hold as they are (R59). -/
theorem stopFill_leaves {i : Side} {s : State} (hs : Settled s) (hf : Free s) (tag : Nat)
    (h : s.sideState i = .ending ∨ s.sideState i = .held ∧ stopReason s i ≠ some .suspend) :
    exec (.stopFill tag (.fields (Side.number i))) s = .next (s.replied Kind.stopFill tag .ok (num 1 (s.sideState i).code)) := by
  refine replied_of_sideRefuse hs hf Kind.stopFill tag i takeStopFill _ _ ?_
  have hfill : (s.serving Kind.stopFill tag).filling i = true := by
    change s.filling i = true
    rcases h with h | ⟨h, -⟩ <;> rw [State.filling, h] <;> rfl
  have hstop : finalStop i .commandStop (s.serving Kind.stopFill tag) = s.serving Kind.stopFill tag := by
    rcases h with h | ⟨h, hr⟩
    · exact finalStop_ending (s := s.serving Kind.stopFill tag) _ h
    · exact (finalStop_held (s := s.serving Kind.stopFill tag) _ h).trans (if_neg hr)
  rw [takeStopFill, if_pos hfill, hstop]
  rfl

/-- RESUME takes a suspended side on by its figures (R60). -/
theorem resume_resumes {i : Side} {s : State} (hs : Settled s) (hf : Free s) (tag : Nat) (h : s.sideState i = .held)
    (hr : stopReason s i = some .suspend) :
    let g := s.figures.get i
    let stopped (r : StopReason) : Option SaleContext := (s.fill.get i).sale.map (fun c => { c with stop := some r })
    ∃ t, exec (.resume tag (.fields (Side.number i))) s = .next t ∧
      t.link.answers Kind.resume tag .ok (num 1 (t.sideState i).code) ∧
      OnlyChanges [.fill i, .blend i, .valves i, .display i, .link] s t ∧
      (g.targetReached = true → t.sideState i = .held ∧ (t.fill.get i).sale = stopped .target) ∧
      (g.targetReached = false → g.limitReached = true → t.sideState i = .held ∧ (t.fill.get i).sale = stopped .limit) ∧
      (g.targetReached = false → g.limitReached = false →
        (t.fill.get i).sale = (s.fill.get i).sale.map (fun c => { c with stop := none }) ∧
        (t.fill.get i).noFlowTimer = some (s.params.noFlowTimeout.toNat * 1000) ∧
        (flowsSlow g → t.sideState i = .slowing) ∧ (¬flowsSlow g → t.sideState i = .flowing)) := by
  intro g stopped
  generalize hu : setSale i (fun c => { c with stop := none }) (s.serving Kind.resume tag) = u
  have husale : (u.fill.get i).sale = (s.fill.get i).sale.map (fun c => { c with stop := none }) := by rw [← hu, setSale_fill]; rfl
  have hus : u.sideState i = .held := by rw [← hu, setSale_sideState]; exact h
  have hfig : u.figures.get i = g := by rw [← hu]; rfl
  have hpar : u.params = s.params := by rw [← hu]; rfl
  have hstop (r : StopReason) : (u.fill.get i).sale.map (fun c => { c with stop := some r }) = stopped r := by
    rw [husale]; exact Option.map_map _ _ _
  obtain ⟨htarget, hlimit, hflow⟩ := chooseFlow_held hus
  rw [hfig] at htarget hlimit hflow
  rw [hstop] at htarget hlimit
  rw [husale, hpar] at hflow
  have honly : OnlyChanges (stateBlocks i) (s.serving Kind.resume tag) (chooseFlow i u) := by
    rw [← hu]; exact ((setSale_only i _ _).mono (by simp)).step (chooseFlow_only i _) (by simp)
  have ha := answer_answered hs Kind.resume tag (num 1 ((chooseFlow i u).sideState i).code) honly (by simp) (by simp) (by simp) (by simp)
  have hnext := resume_next hf tag h hr
  rw [hu, answerState] at hnext
  generalize settle s (answer .ok (num 1 ((chooseFlow i u).sideState i).code) (chooseFlow i u)) = t at ha hnext
  have hstate : t.sideState i = (chooseFlow i u).sideState i := by rw [State.sideState, ha.fill]; rfl
  refine ⟨t, hnext, ?_⟩
  rw [hstate, ha.fill]
  exact ⟨ha.answers, ha.only.mono (by simp), htarget, hlimit, hflow⟩

/-- The expiry of the no-flow timer (R58). -/
theorem noFlowExpiry_holds {i : Side} {s : State} (hs : Settled s) (ho : (s.sideState i).isOpen = true)
    (ht : (s.fill.get i).noFlowTimer ≠ none) :
    ∃ t, exec (.noFlowExpiry i) s = .next t ∧
      t.fill.get i = { s.fill.get i with
        state := .held, sale := (s.fill.get i).sale.map (fun c => { c with stop := some .noFlow })
        noFlowTimer := none, quietTimer := none, afterFlowTimer := none } ∧
      t.valves.get i = { lo := 0, hi := 0 } ∧ t.blend.get i = { s.blend.get i with window := none } ∧
      OnlyChanges [.fill i, .blend i, .valves i, .display i, .link] s t := by
  have hne := SideState.ne_held_of_isOpen ho
  have hh := hold_held .noFlow hne
  have hexec : exec (.noFlowExpiry i) s = .next (settle s (hold i .noFlow s)) :=
    congrArg (fun u => Host.Outcome.next (settle s u)) (if_pos ⟨ho, Option.isSome_iff_ne_none.mpr ht⟩)
  have honly : OnlyChanges [.fill i, .blend i, .valves i, .display i, .link] s (hold i .noFlow s) := (hold_only i _ s).mono (by simp)
  refine ⟨_, hexec, ?_, ?_, ?_, honly.settle_clear s hs⟩
  · rw [settle_fill, hold_fill _ hne]
  · rw [settle_valves, hh.valves]
  · rw [settle_blend, hh.blend]

/-- Settles O35: the stops hold the fill, STOP_FILL by the state of the side, RESUME by the figures. -/
theorem stopsHoldTheFill : Obligations.StopsHoldTheFill := by
  intro tag i s hs f opened frame stopped held suspended
  refine ⟨noFlowExpiry_holds hs, fun hn => ?_, fun hf => ?_⟩
  · have hnot : ¬((s.sideState i).isOpen = true ∧ (s.fill.get i).noFlowTimer.isSome = true) := by
      rintro ⟨ho, ht⟩
      exact hn.elim (fun x => x ho) (fun x => Option.isSome_iff_ne_none.mp ht x)
    have hexec : exec (.noFlowExpiry i) s = .next (settle s s) := congrArg (fun u => Host.Outcome.next (settle s u)) (if_neg hnot)
    rw [hexec, hs.settle_self]
  · refine ⟨fun ho => ?_, fun ho => ?_, fun ho => ?_, stopFill_starting hs hf tag, stopFill_suspended hs hf tag, stopFill_leaves hs hf tag,
      fun h => ?_, resume_resumes hs hf tag, fun h => ?_⟩
    · obtain ⟨t, ht, hheld⟩ := hold_answered hs Kind.suspend tag .suspend (SideState.ne_held_of_isOpen (st := s.sideState i) ho)
      refine ⟨t, ?_, hheld⟩
      rw [← ht]
      refine (event_sideRequest hf Kind.suspend tag i takeSuspend).trans ?_
      rw [takeSuspend, if_pos (c := ((s.serving Kind.suspend tag).sideState i).isOpen = true) ho]
    · exact replied_of_sideRefuse hs hf Kind.suspend tag i takeSuspend _ _ (if_neg ho)
    · obtain ⟨t, ht, hheld⟩ := hold_answered hs Kind.stopFill tag .commandStop (SideState.ne_held_of_isOpen (st := s.sideState i) ho)
      refine ⟨t, ?_, hheld⟩
      rw [stopFill_next hf tag (SideState.isFill_of_isOpen (st := s.sideState i) ho), ← ht,
        finalStop_open (s := s.serving Kind.stopFill tag) _ ho]
    · refine replied_of_sideRefuse hs hf Kind.stopFill tag i takeStopFill _ _ (if_neg ?_)
      change ¬f.state.isFill = true
      rw [h]
      decide
    · refine replied_of_sideRefuse hs hf Kind.resume tag i takeResume _ _ (if_neg fun x => ?_)
      exact h.elim (fun y => y x.1) (fun y => y x.2)

end Sys2Proof.Machine

namespace Sys2Proof.Machine

open Sys2Proof

/-! ### The reports of nozzles -/

theorem reportNozzle_room {k : Nat} {i : Side} {c : Counted} {up : Bool} {s : State} (h : Room (k + 1) s) :
    Room k (reportNozzle i c up s) := (notify_room (.nozzle i c.nozzle c.grade up) h).of_link rfl

theorem reportNozzle_tells {k : Nat} {i : Side} {c : Counted} {up : Bool} {s : State} (h : Room (k + 1) s) :
    (reportNozzle i c up s).link.tells (.nozzle i c.nozzle c.grade up) := notify_tells (.nozzle i c.nozzle c.grade up) h

theorem reportNozzle_keeps (i : Side) (c : Counted) (up : Bool) (s : State) : s.link.Keeps (reportNozzle i c up s).link :=
  notify_keeps (.nozzle i c.nozzle c.grade up) s

theorem reportNozzle_fill (i : Side) (c : Counted) (up : Bool) (s : State) : (reportNozzle i c up s).fill = s.fill := rfl

theorem reportNozzle_port {i : Side} {c : Counted} {up : Bool} {s : State} (h : (s.ports.get i).state = .admitted) :
    (reportNozzle i c up s).ports.get i =
      { s.ports.get i with pendingNozzle := some { nozzle := c.nozzle, grade := c.grade, up := up } } := by
  have hp : (notify (.nozzle i c.nozzle c.grade up) s).ports.get i = s.ports.get i := rfl
  refine (PerSide.get_set_same _ _ _).trans ?_
  dsimp only
  rw [hp, if_pos h]

/-- A NOZZLE_STATE pending at an ADMITTED port is pending or in transmission after the event (R133). -/
theorem settle_tellsNozzle {i : Side} {p : Port} {x : NozzleStateRecord} {u : State} (old : State)
    (hp : ∃ y, u.ports.get i = { p with pendingAuth := y }) (ha : p.state = .admitted) (hx : p.pendingNozzle = some x) :
    ((settle old u).ports.get i).tellsNozzle x := by
  obtain ⟨y, hy⟩ := hp
  rw [settle_ports, startReader_eq, hy]
  exact Port.starts_tellsNozzle _ ha hx

/-! ### Counted hang-ups

A hang-up is recorded and reported, the side moves by it, and another nozzle that is up takes over the count (R49). -/

/-- The hang-up of the counted nozzle recorded and reported (R49, R149). -/
def hangUpCounted (i : Side) (c : Counted) (s : State) : State :=
  reportNozzle i c false
    (s.setFill i { s.fill.get i with counted := none, nozzles := (s.fill.get i).nozzles.set c.nozzle .hung })

/-- The side after the hang-up of the counted nozzle, before another nozzle counts. -/
def hangUpMoved (i : Side) (c : Counted) (s : State) : State := moveAtHangUp i (hangUpCounted i c s)

/-- A nozzle that takes over the count, recorded and reported (R49, R149). -/
def counting (i : Side) (c : Counted) (s : State) : State :=
  reportNozzle i c true (s.setFill i { s.fill.get i with counted := some c })

theorem hangUpCounted_fill (i : Side) (c : Counted) (s : State) :
    (hangUpCounted i c s).fill.get i =
      { s.fill.get i with counted := none, nozzles := (s.fill.get i).nozzles.set c.nozzle .hung } := PerSide.get_set_same _ _ _

theorem hangUpCounted_sideState (i : Side) (c : Counted) (s : State) : (hangUpCounted i c s).sideState i = s.sideState i := by
  rw [State.sideState, hangUpCounted_fill]
  rfl

theorem hangUpCounted_only (i : Side) (c : Counted) (s : State) : OnlyChanges [.fill i, .port i, .link] s (hangUpCounted i c s) :=
  ((setFill_only s i _).mono (by simp)).step (reportNozzle_only i c false _) (by simp)

theorem counting_fill (i : Side) (c : Counted) (s : State) :
    (counting i c s).fill.get i = { s.fill.get i with counted := some c } := PerSide.get_set_same _ _ _

theorem counting_only (i : Side) (c : Counted) (s : State) : OnlyChanges [.fill i, .port i, .link] s (counting i c s) :=
  ((setFill_only s i _).mono (by simp)).step (reportNozzle_only i c true _) (by simp)

/-- The move at a hang-up leaves the nozzle record. -/
theorem moveAtHangUp_nozzles (i : Side) (s : State) :
    ((moveAtHangUp i s).fill.get i).nozzles = (s.fill.get i).nozzles ∧ ((moveAtHangUp i s).fill.get i).map = (s.fill.get i).map ∧
      ((moveAtHangUp i s).fill.get i).counted = (s.fill.get i).counted := by
  unfold moveAtHangUp
  split
  · next h =>
    rw [(endFill_ended .hungUp (SideState.ne_ending_of_beforeEnding h)).fill]
    exact ⟨rfl, rfl, rfl⟩
  · split
    · next h =>
      rw [enterState_fill (by rw [h]; decide)]
      exact ⟨rfl, rfl, rfl⟩
    · exact ⟨rfl, rfl, rfl⟩

/-- The nozzle that the model finds up first is the one to which the count goes (R49). -/
theorem firstUp_of_countGoesTo {f : Fill} {n : Nozzle} {k : Option Counted} (h : f.CountGoesTo n k) :
    firstUp (f.nozzles.set n .hung) = k.map (fun c => c.nozzle) ∧ ∀ c, k = some c → c.grade = f.map.get c.nozzle := by
  unfold Fill.CountGoesTo at h
  generalize f.nozzles.set n .hung = p at h
  unfold firstUp allNozzles
  rcases h with ⟨rfl, hnone⟩ | ⟨m, rfl, hup, hfirst⟩
  · simp [hnone]
  · refine ⟨?_, fun c hc => by cases hc; rfl⟩
    have hlt (m' : Nozzle) (h : nozzleNumber m' < nozzleNumber m) : p.get m' ≠ .up := hfirst m' h
    cases m <;> simp_all [List.find?, nozzleNumber]

/-- A counted hang-up by the nozzle that takes over the count. -/
theorem countHangUp_eq {i : Side} {c : Counted} {k : Option Counted} {s : State} (h : (s.fill.get i).CountGoesTo c.nozzle k) :
    countHangUp i c s =
      k.elim (hangUpMoved i c s) (fun x => countAgain i (s.fill.get i).state x.nozzle (hangUpMoved i c s)) := by
  obtain ⟨hnozzles, -, -⟩ := moveAtHangUp_nozzles i (hangUpCounted i c s)
  rw [hangUpCounted_fill] at hnozzles
  have hfirst : firstUp ((hangUpMoved i c s).fill.get i).nozzles = k.map (fun x => x.nozzle) := by
    rw [hangUpMoved, hnozzles, (firstUp_of_countGoesTo h).1]
  unfold countHangUp
  change (match firstUp ((hangUpMoved i c s).fill.get i).nozzles with
    | some n => countAgain i (s.fill.get i).state n (hangUpMoved i c s) | none => hangUpMoved i c s) = _
  rw [hfirst]
  cases k <;> rfl

/-- The count of a nozzle where it moves no side: at a side that is neither IDLE nor AUTHORIZED. -/
theorem countLift_counts {i : Side} {c : Counted} {s : State} (hg : c.grade = (s.fill.get i).map.get c.nozzle)
    (hi : s.sideState i ≠ .idle) (ha : s.sideState i ≠ .authorized) : countLift i c.nozzle s = counting i c s := by
  have hc : ({ nozzle := c.nozzle, grade := (s.fill.get i).map.get c.nozzle } : Counted) = c := by rw [← hg]
  unfold countLift
  extract_lets f x w
  split
  · next h => exact absurd h hi
  · next h => exact absurd h ha
  · simp only [w, x, f, hc]
    rfl

theorem nozzleHangUp_counted {i : Side} {c : Counted} {s : State} (hn : (s.fill.get i).nozzles.get c.nozzle ≠ .hung)
    (hc : (s.fill.get i).counted = some c) : nozzleHangUp i c.nozzle s = countHangUp i c s := by
  unfold nozzleHangUp
  dsimp only
  rw [if_neg hn, hc]
  exact if_pos rfl

/-- What is told of a hang-up of `c` that leaves the count to `k`: to the host with room for so many notices, and to the reader of an
ADMITTED port (R49, R149). -/
structure HangUpTold (i : Side) (c : Counted) (k : Option Counted) (room : Nat) (s t : State) : Prop where
  host : Room room s → t.link.tells (.nozzle i c.nozzle c.grade false) ∧
    ∀ x, k = some x → t.link.tells (.nozzle i x.nozzle x.grade true)
  reader : (s.ports.get i).state = .admitted → (t.ports.get i).tellsNozzle (c.heardAtHangUp k)

/-- The link and the port after the side has moved are those of the report. -/
theorem hangUpMoved_link (i : Side) (c : Counted) (s : State) :
    (hangUpMoved i c s).link = (hangUpCounted i c s).link ∧ (hangUpMoved i c s).ports.get i = (hangUpCounted i c s).ports.get i :=
  ⟨(moveAtHangUp_only i _).link_eq, moveAtHangUp_only i _ (.port i) (by simp)⟩

/-- A hang-up after which no nozzle counts. -/
theorem hangUpMoved_told {i : Side} {c : Counted} {s : State} (old : State) (room : Nat) :
    HangUpTold i c none (room + 1) s (settle old (hangUpMoved i c s)) := by
  obtain ⟨hlink, hport⟩ := hangUpMoved_link i c s
  refine ⟨fun h => ⟨?_, fun x hx => by cases hx⟩, fun h => ?_⟩
  · refine (settle_keeps _ _).tells _ ?_
    rw [hlink]
    exact reportNozzle_tells (k := room) h
  · have hp := reportNozzle_port (i := i) (c := c) (up := false)
      (s := s.setFill i { s.fill.get i with counted := none, nozzles := (s.fill.get i).nozzles.set c.nozzle .hung }) h
    refine settle_tellsNozzle old (p := (hangUpCounted i c s).ports.get i) ⟨_, hport⟩ ?_ ?_
    · rw [hangUpCounted, hp]; exact h
    · rw [hangUpCounted, hp]; rfl

/-- A hang-up after which `x` counts, where the count follows the report with at most one notice between, and what goes on from the count
keeps the link and the pending record. -/
theorem counting_told {i : Side} {c x : Counted} {s w u : State} (old : State) (hw : (hangUpMoved i c s).link.Keeps w.link)
    (hroom : ∀ k, Room (k + 2) (hangUpMoved i c s) → Room (k + 1) w) (hport : w.ports.get i = (hangUpMoved i c s).ports.get i)
    (hu : (counting i x w).link.Keeps u.link) (hp : ∃ y, u.ports.get i = { (counting i x w).ports.get i with pendingAuth := y })
    (room : Nat) : HangUpTold i c (some x) (room + 3) s (settle old u) := by
  obtain ⟨hlink, hmoved⟩ := hangUpMoved_link i c s
  have hadmitted (h : (s.ports.get i).state = .admitted) : (w.ports.get i).state = .admitted := by
    rw [hport, hmoved, hangUpCounted, reportNozzle_port (s := s.setFill i _) h]
    exact h
  refine ⟨fun h => ⟨?_, fun y hy => ?_⟩, fun h => ?_⟩
  · refine (settle_keeps _ _).tells _ (hu.tells _ ((reportNozzle_keeps _ _ _ (w.setFill i _)).tells _ (hw.tells _ ?_)))
    rw [hlink]
    exact reportNozzle_tells (k := room + 2) h
  · cases hy
    refine (settle_keeps _ _).tells _ (hu.tells _ ?_)
    have hr : Room (room + 2) (hangUpMoved i c s) := Room.of_link (reportNozzle_room (k := room + 2) h) hlink
    exact reportNozzle_tells (k := room) (hroom room hr)
  · have hc := reportNozzle_port (i := i) (c := x) (up := true) (s := w.setFill i { w.fill.get i with counted := some x }) (hadmitted h)
    obtain ⟨y, hy⟩ := hp
    refine settle_tellsNozzle old (p := (counting i x w).ports.get i) ⟨y, hy⟩ ?_ ?_
    · rw [counting, hc]; exact hadmitted h
    · rw [counting, hc]; rfl

/-! ### The end of a fill -/

/-- The nozzle that counts, or none, after the side has moved (R49). -/
def recount (i : Side) (k : Option Counted) (s : State) : State := k.elim s (fun x => counting i x s)

theorem recount_fill {i : Side} {k : Option Counted} {s : State} (h : (s.fill.get i).counted = none) :
    (recount i k s).fill.get i = { s.fill.get i with counted := k } := by
  cases k with
  | none => exact congrArg (fun x => { s.fill.get i with counted := x }) h
  | some x => exact counting_fill i x s

theorem recount_only (i : Side) (k : Option Counted) (s : State) : OnlyChanges [.fill i, .port i, .link] s (recount i k s) := by
  cases k with
  | none => exact .refl _ s
  | some x => exact counting_only i x s

theorem hangUpMoved_counted (i : Side) (c : Counted) (s : State) : ((hangUpMoved i c s).fill.get i).counted = none := by
  obtain ⟨-, -, hcounted⟩ := moveAtHangUp_nozzles i (hangUpCounted i c s)
  rw [hangUpMoved, hcounted, hangUpCounted_fill]

/-- A hang-up at a side that stays out of CALLING, IDLE and AUTHORIZED counts the next nozzle and no more (R49). -/
theorem nozzleHangUp_recounts {i : Side} {c : Counted} {k : Option Counted} {s : State} (hn : (s.fill.get i).nozzles.get c.nozzle ≠ .hung)
    (hc : (s.fill.get i).counted = some c) (hk : (s.fill.get i).CountGoesTo c.nozzle k) (hcall : s.sideState i ≠ .calling)
    (hi : (hangUpMoved i c s).sideState i ≠ .idle) (ha : (hangUpMoved i c s).sideState i ≠ .authorized) :
    nozzleHangUp i c.nozzle s = recount i k (hangUpMoved i c s) := by
  obtain ⟨-, hmap, -⟩ := moveAtHangUp_nozzles i (hangUpCounted i c s)
  rw [hangUpCounted_fill] at hmap
  rw [nozzleHangUp_counted hn hc, countHangUp_eq hk]
  cases hkx : k with
  | none => rfl
  | some x =>
    have hg : x.grade = ((hangUpMoved i c s).fill.get i).map.get x.nozzle := by
      rw [hangUpMoved, hmap]
      exact (firstUp_of_countGoesTo hk).2 x hkx
    exact (if_neg (fun h => hcall h.1)).trans (countLift_counts hg hi ha)

/-- What such a hang-up tells, whichever nozzle takes over the count. -/
theorem recount_told {i : Side} {c : Counted} {k : Option Counted} {s : State} (old : State) :
    HangUpTold i c k 3 s (settle old (recount i k (hangUpMoved i c s))) := by
  cases k with
  | none => exact hangUpMoved_told old 2
  | some x => exact counting_told old (.refl _) (fun _ h => h.mono (by omega)) rfl (.refl _) ⟨_, rfl⟩ 0

/-- END_SALE before ENDING (R61). -/
theorem endSale_ends {i : Side} {s : State} (hs : Settled s) (hf : Free s) (tag : Nat) (h : (s.sideState i).beforeEnding = true) :
    ∃ t, exec (.endSale tag (.fields (Side.number i))) s = .next t ∧ Ended i .commandEnd s t ∧
      t.link.answers Kind.endSale tag .ok [] ∧ OnlyChanges [.fill i, .blend i, .valves i, .display i, .link] s t := by
  have hend := endFill_ended (i := i) (s := s.serving Kind.endSale tag) .commandEnd (SideState.ne_ending_of_beforeEnding h)
  have ha := answer_answered hs Kind.endSale tag [] (endFill_only i .commandEnd (s.serving Kind.endSale tag)) (by simp) (by simp)
    (by simp) (by simp)
  refine ⟨_, (event_sideRequest hf Kind.endSale tag i takeEndSale).trans ?_, ⟨?_, ?_, ?_⟩, ha.answers, ha.only.mono (by simp)⟩
  · rw [takeEndSale, if_pos (c := ((s.serving Kind.endSale tag).sideState i).beforeEnding = true) h]
  · rw [ha.fill, hend.fill]; rfl
  · rw [ha.valves, hend.valves]
  · rw [ha.blend, hend.blend]; rfl

/-- The hang-up of the counted nozzle before ENDING ends the fill (R61). -/
theorem hangUpMoved_ended {i : Side} {c : Counted} {s : State} (h : (s.sideState i).beforeEnding = true) :
    Ended i .hungUp (hangUpCounted i c s) (hangUpMoved i c s) := by
  have hst := hangUpCounted_sideState i c s
  have he : hangUpMoved i c s = endFill i .hungUp (hangUpCounted i c s) := if_pos (by rw [hst]; exact h)
  rw [he]
  exact endFill_ended .hungUp (by rw [hst]; exact SideState.ne_ending_of_beforeEnding h)

/-- Out of the states before ENDING and of CALLING the hang-up moves no side (R50). -/
theorem hangUpMoved_stays {i : Side} {c : Counted} {s : State} (h : (s.sideState i).beforeEnding = false)
    (hc : s.sideState i ≠ .calling) : hangUpMoved i c s = hangUpCounted i c s := by
  have hst := hangUpCounted_sideState i c s
  unfold hangUpMoved moveAtHangUp
  rw [hst, h, if_neg hc]
  rfl

/-- The hang-up of the counted nozzle in a fill, as what it moves and counts. -/
theorem hangUp_next {i : Side} {c : Counted} {k : Option Counted} {s : State} (hn : (s.fill.get i).nozzles.get c.nozzle ≠ .hung)
    (hc : (s.fill.get i).counted = some c) (hk : (s.fill.get i).CountGoesTo c.nozzle k) (hcall : s.sideState i ≠ .calling)
    (hst : (hangUpMoved i c s).sideState i = .ending) :
    exec (.nozzleHangUp i c.nozzle) s = .next (settle s (recount i k (hangUpMoved i c s))) := by
  have h := nozzleHangUp_recounts hn hc hk hcall (by rw [hst]; decide) (by rw [hst]; decide)
  exact congrArg (fun u => Host.Outcome.next (settle s u)) h

/-- The hang-up of the counted nozzle ends a fill (R49, R61). -/
theorem hangUp_ends {i : Side} {c : Counted} {k : Option Counted} {s : State} (hs : Settled s)
    (hn : (s.fill.get i).nozzles.get c.nozzle ≠ .hung) (hc : (s.fill.get i).counted = some c)
    (hk : (s.fill.get i).CountGoesTo c.nozzle k) (h : (s.sideState i).beforeEnding = true) :
    ∃ t, exec (.nozzleHangUp i c.nozzle) s = .next t ∧
      t.fill.get i = { s.fill.get i with
        state := .ending, sale := (s.fill.get i).sale.map (fun c => { c with ended := some .hungUp }), noFlowTimer := none
        quietTimer := some s.params.quietTime.toNat, afterFlowTimer := some 10000
        nozzles := (s.fill.get i).nozzles.set c.nozzle .hung, counted := k } ∧
      t.valves.get i = { lo := 0, hi := 0 } ∧ t.blend.get i = { s.blend.get i with window := none } ∧
      HangUpTold i c k 3 s t ∧ OnlyChanges [.port i, .fill i, .blend i, .valves i, .display i, .link] s t := by
  have hend := hangUpMoved_ended (c := c) h
  have hcall : s.sideState i ≠ .calling := fun hcall => by rw [hcall] at h; exact absurd h (by decide)
  have honly : OnlyChanges [.port i, .fill i, .blend i, .valves i, .display i, .link] s (recount i k (hangUpMoved i c s)) :=
    (((hangUpCounted_only i c s).mono (by simp)).step (moveAtHangUp_only i _) (by simp)).step (recount_only i k _) (by simp)
  refine ⟨_, hangUp_next hn hc hk hcall (congrArg Fill.state hend.fill), ?_, ?_, ?_, recount_told s, honly.settle_clear s hs⟩
  · rw [settle_fill, recount_fill (hangUpMoved_counted i c s), hend.fill, hangUpCounted_fill]
    rfl
  · rw [settle_valves, recount_only i k _ (.valves i) (by simp), hend.valves]
  · rw [settle_blend, recount_only i k _ (.blend i) (by simp), hend.blend]
    rfl

/-- In ENDING a hang-up changes the nozzle record alone (R61). -/
theorem hangUp_inEnding {i : Side} {c : Counted} {k : Option Counted} {s : State} (hs : Settled s)
    (hn : (s.fill.get i).nozzles.get c.nozzle ≠ .hung) (hc : (s.fill.get i).counted = some c)
    (hk : (s.fill.get i).CountGoesTo c.nozzle k) (h : s.sideState i = .ending) :
    ∃ t, exec (.nozzleHangUp i c.nozzle) s = .next t ∧
      t.fill.get i = { s.fill.get i with nozzles := (s.fill.get i).nozzles.set c.nozzle .hung, counted := k } ∧
      HangUpTold i c k 3 s t ∧ OnlyChanges [.fill i, .port i, .link] s t := by
  have hstay : hangUpMoved i c s = hangUpCounted i c s := hangUpMoved_stays (by rw [h]; rfl) (by rw [h]; decide)
  have honly : OnlyChanges [.fill i, .port i, .link] s (recount i k (hangUpMoved i c s)) := by
    rw [hstay]
    exact (hangUpCounted_only i c s).trans (recount_only i k _)
  refine ⟨_, hangUp_next hn hc hk (by rw [h]; decide) ?_, ?_, recount_told s, honly.settle_clear s hs⟩
  · rw [hstay, hangUpCounted_sideState, h]
  · rw [settle_fill, recount_fill (hangUpMoved_counted i c s), hstay, hangUpCounted_fill]

/-- Settles O36: END_SALE by the side's state; a hang-up by the move it makes, and the nozzle that counts after it. -/
theorem endsTakeTheFillToEnding : Obligations.EndsTakeTheFillToEnding := by
  intro tag i s hs f frame endedBy
  refine ⟨fun hf => ⟨fun h => ?_, fun h => ?_⟩, ?_⟩
  · obtain ⟨t, ht, hend, hans, honly⟩ := endSale_ends hs hf tag (i := i) h
    exact ⟨t, ht, hend.fill, hend.valves, hend.blend, hans, honly⟩
  · exact replied_of_sideRefuse hs hf Kind.endSale tag i takeEndSale _ _ (if_neg (by rw [Bool.not_eq_true]; exact h))
  · intro n g k hn hc hk told
    refine ⟨fun h => ?_, fun h => ?_⟩
    · obtain ⟨t, ht, hfill, hvalves, hblend, htold, honly⟩ := hangUp_ends hs (c := { nozzle := n, grade := g }) hn hc hk h
      exact ⟨t, ht, hfill, hvalves, hblend, ⟨htold.host, htold.reader⟩, honly⟩
    · obtain ⟨t, ht, hfill, htold, honly⟩ := hangUp_inEnding hs (c := { nozzle := n, grade := g }) hn hc hk h
      exact ⟨t, ht, hfill, ⟨htold.host, htold.reader⟩, honly⟩

end Sys2Proof.Machine

namespace Sys2Proof.Machine

open Sys2Proof

/-! ### What closures and faults tell -/

theorem notifyFault_keeps (i : Option Side) (k : FaultKind) (m : Option Meter) (sale : Option Nat) (r : Option Region) (x : Option Nat)
    (s : State) : s.link.Keeps (notifyFault i k m sale r x s).link :=
  (Link.enqueue_keeps _ _).trans (Link.setFault_keeps _ i)

theorem notifyFault_room {n : Nat} {i : Option Side} {k : FaultKind} {m : Option Meter} {sale : Option Nat} {r : Option Region}
    {x : Option Nat} {s : State} (h : Room (n + 1) s) : Room n (notifyFault i k m sale r x s) :=
  notify_room (.fault i k m sale r x) h

theorem fillFault_room {n : Nat} {i : Side} {k : FaultKind} {m : Option Meter} {s : State} (h : Room (n + 1) s) :
    Room n (fillFault i k m s) := by
  unfold fillFault
  split
  · next hb =>
    refine notifyFault_room (h.of_link ?_)
    rw [(endFill_only i _ _).link_eq, addClosure_filling _ (SideState.isFill_of_beforeEnding hb)]
    rfl
  · exact h.mono (by omega)

theorem fillFault_keeps (i : Side) (k : FaultKind) (m : Option Meter) (s : State) : s.link.Keeps (fillFault i k m s).link := by
  unfold fillFault
  split
  · refine Link.Keeps.trans ?_ (notifyFault_keeps _ _ _ _ _ _ _)
    rw [(endFill_only i _ _).link_eq]
    exact addClosure_keeps i _ s
  · exact .refl _

theorem addClosure_room {n : Nat} {i : Side} {r : ClosureReason} {s : State} (h : Room (n + 1) s) : Room n (addClosure i r s) :=
  (closeIfWaiting_carries i _).room n (h.of_link rfl)

/-- The removal of a WAITING authorization is told (R54). -/
theorem removeWaiting_tells {n : Nat} {i : Side} {why : RemovalReason} {tell : Bool} {a : Auth} {s : State}
    (ha : (s.fill.get i).slot = some a) (hp : a.phase = .waiting) (hr : Room (n + 1) s) :
    (removeWaiting i why tell s).link.tells (.authEvent i a.source a.reference (.removed why)) := by
  have hlink : (removeWaiting i why tell s).link = (notify (.authEvent i a.source a.reference (.removed why)) s).link := by
    unfold removeWaiting
    dsimp only
    rw [ha]
    dsimp only
    rw [hp]
    dsimp only
    split <;> rfl
  rw [hlink]
  exact notify_tells _ hr

/-- A closure added to a side that waits takes it to CLOSED, its WAITING authorization removed (R47). -/
theorem addClosure_waiting {i : Side} {s : State} (r : ClosureReason) (h : s.filling i = false) :
    addClosure i r s = enterState i .closed (removeWaiting i .closed true
      (s.setFill i { s.fill.get i with closures := (s.fill.get i).closures.add r })) := by
  have hidle : (s.setFill i { s.fill.get i with closures := (s.fill.get i).closures.add r }).filling i = false := by
    rw [← h]; simp [State.filling, State.sideState]
  exact if_neg (by rw [hidle]; decide)

/-- Valves that are shut stay so at a change to a state that does not flow (R67). -/
theorem enterState_shut {i : Side} {new : SideState} {s : State} (hn : new.isOpen = false) (hv : s.valves.get i = { lo := 0, hi := 0 }) :
    (enterState i new s).valves.get i = { lo := 0, hi := 0 } := by
  by_cases h : s.sideState i = new
  · rw [enterState_same h, hv]
  · rw [enterState_valves h, valveDuties_shut hn]

/-- A closure added to a side that waits removes its WAITING authorization and tells it (R47). -/
theorem addClosure_tells {n : Nat} {i : Side} {a : Auth} {s : State} (r : ClosureReason) (h : s.filling i = false)
    (ha : (s.fill.get i).slot = some a) (hp : a.phase = .waiting) (hr : Room (n + 1) s) :
    (addClosure i r s).link.tells (.authEvent i a.source a.reference (.removed .closed)) := by
  rw [addClosure_waiting r h, enterState_link]
  exact removeWaiting_tells (by rw [State.setFill_fill, PerSide.get_set_same]; exact ha) hp (hr.of_link rfl)

/-! ### The emergency stop -/

/-- What the emergency stop makes of a side while the drivers are off (R62, R68). -/
structure StoppedNow (i : Side) (s t : State) : Prop where
  valves : s.valves.get i = { lo := 0, hi := 0 } → t.valves.get i = { lo := 0, hi := 0 }
  motors : ∀ p, s.motors.get p = Motor.stopped → t.motors.get p = Motor.stopped
  closures : (t.fill.get i).closures = { (s.fill.get i).closures with estop := true }
  filling : s.filling i = true → (t.fill.get i).demand = { lo := false, hi := false } ∧ t.sideState i = .ending
  ended : (s.sideState i).beforeEnding = true →
    (t.fill.get i).sale = (s.fill.get i).sale.map (fun c => { c with ended := some (.fault .estop) }) ∧
    (t.fill.get i).quietTimer = some s.params.quietTime.toNat ∧ (t.fill.get i).afterFlowTimer = some 10000
  ending : s.sideState i = .ending → (t.fill.get i).sale = (s.fill.get i).sale
  waiting : s.filling i = false → t.sideState i = .closed ∧ ∀ a, (s.fill.get i).slot = some a → a.phase = .waiting →
    (t.fill.get i).slot = none ∧ ∀ k, Room (k + 1) s → t.link.tells (.authEvent i a.source a.reference (.removed .closed))
  keeps : s.link.Keeps t.link
  room : ∀ k, Room (k + 1) s → Room k t

theorem dropBoth_stopped {i : Side} {s : State} {p : Product} (h : s.motors.get p = Motor.stopped) :
    (dropBoth i s).motors.get p = Motor.stopped := by
  rw [dropBoth_motor]
  split
  · rfl
  · exact h

theorem dropBoth_sideState (i : Side) (s : State) : (dropBoth i s).sideState i = s.sideState i := by
  rw [State.sideState, dropBoth_fill]
  rfl

/-- The side before ENDING: its demand dropped, its fill ended by the fault, and ESTOP in its set (R62, R68). -/
theorem stopSideNow_beforeEnding {i : Side} {s : State} (h : (s.sideState i).beforeEnding = true) : StoppedNow i s (stopSideNow i s) := by
  have hfill : s.filling i = true := SideState.isFill_of_beforeEnding h
  have hne := SideState.ne_ending_of_beforeEnding h
  have hf := fillFault_faulted (s := dropBoth i s) .estop none (by rw [dropBoth_sideState]; exact h)
  have he : stopSideNow i s = addClosure i .estop (fillFault i .estop none (dropBoth i s)) := by
    unfold stopSideNow
    rw [if_pos hfill]
  have hclose := addClosure_filling .estop (s := fillFault i .estop none (dropBoth i s)) (i := i)
    (by rw [State.filling, hf.sideState]; rfl)
  have hlink := dropBoth_link i s
  have hkeeps := fillFault_keeps i .estop none (dropBoth i s)
  rw [hlink] at hkeeps
  rw [he, hclose]
  have hnew : ((fillFault i .estop none (dropBoth i s)).setFill i
      { (fillFault i .estop none (dropBoth i s)).fill.get i with
        closures := ((fillFault i .estop none (dropBoth i s)).fill.get i).closures.add .estop }).fill.get i =
      { s.fill.get i with
        state := .ending, closures := { (s.fill.get i).closures with estop := true }
        sale := (s.fill.get i).sale.map (fun x => { x with ended := some (.fault .estop) }), demand := { lo := false, hi := false }
        noFlowTimer := none, quietTimer := some s.params.quietTime.toNat, afterFlowTimer := some 10000 } := by
    have hpar : (dropBoth i s).params = s.params := dropBoth_only i s .params (by simp)
    rw [State.setFill_fill, PerSide.get_set_same, hf.fill, dropBoth_fill, hpar]
    rfl
  refine ⟨fun _ => hf.valves, fun p hp => ?_, by rw [hnew], fun _ => ⟨by rw [hnew], by rw [State.sideState, hnew]⟩,
    fun _ => ⟨by rw [hnew], by rw [hnew], by rw [hnew]⟩, fun hn => absurd hn hne, fun hn => ?_, hkeeps, fun k hr => ?_⟩
  · exact (fillFault_only i .estop none (dropBoth i s) (.motor p) (by simp)).trans (dropBoth_stopped hp)
  · rw [hfill] at hn; exact absurd hn (by decide)
  · exact (fillFault_room (s := dropBoth i s) (hr.of_link hlink)).of_link rfl

/-- The side in ENDING keeps its sale, and gives up its demand (R68). -/
theorem stopSideNow_ending {i : Side} {s : State} (h : s.sideState i = .ending) : StoppedNow i s (stopSideNow i s) := by
  have hfill : s.filling i = true := by rw [State.filling, h]; rfl
  have hst : (dropBoth i s).sideState i = .ending := (dropBoth_sideState i s).trans h
  have he : stopSideNow i s = (dropBoth i s).setFill i
      { s.fill.get i with demand := { lo := false, hi := false }, closures := { (s.fill.get i).closures with estop := true } } := by
    unfold stopSideNow
    rw [if_pos hfill, fillFault_none _ _ (by rw [hst]; rfl), addClosure_filling _ (by rw [State.filling, hst]; rfl), dropBoth_fill]
    rfl
  have hlink := dropBoth_link i s
  rw [he]
  refine ⟨fun hv => ?_, fun p hp => dropBoth_stopped hp, by simp, fun _ => ⟨by simp, ?_⟩, fun hb => ?_, fun _ => by simp, fun hn => ?_, ?_,
    fun k hr => ?_⟩
  · exact (dropBoth_only i s (.valves i) (by simp)).trans hv
  · rw [State.sideState, State.setFill_fill, PerSide.get_set_same]
    exact h
  · rw [h] at hb; exact absurd hb (by decide)
  · rw [hfill] at hn; exact absurd hn (by decide)
  · rw [State.setFill_link, hlink]
    exact .refl _
  · exact (hr.mono (by omega)).of_link hlink

/-- A side in no fill is CLOSED by ESTOP (R47, R68). -/
theorem stopSideNow_waiting {i : Side} {s : State} (h : s.filling i = false) : StoppedNow i s (stopSideNow i s) := by
  have hb : (s.sideState i).beforeEnding = false := by
    cases hx : (s.sideState i).beforeEnding
    · rfl
    · rw [State.filling, SideState.isFill_of_beforeEnding hx] at h
      exact absurd h (by decide)
  have he : stopSideNow i s = addClosure i .estop s := by
    unfold stopSideNow
    rw [if_neg (by rw [h]; decide), fillFault_none _ _ hb]
  rw [he]
  refine ⟨fun hv => ?_, fun p hp => ?_, addClosure_closures i .estop s, fun hn => ?_, fun hn => ?_, fun hn => ?_,
    fun _ => ⟨addClosure_sideState .estop h, fun a ha hp => ⟨addClosure_slot .estop h ha hp, fun k hr => addClosure_tells .estop h ha hp hr⟩⟩,
    addClosure_keeps i .estop s, fun k hr => addClosure_room hr⟩
  · rw [addClosure_waiting .estop h]
    exact enterState_shut rfl ((removeWaiting_only i _ _ _ (.valves i) (by simp)).trans hv)
  · exact (addClosure_only i .estop s (.motor p) (by simp)).trans hp
  · rw [h] at hn; exact absurd hn (by decide)
  · rw [hb] at hn; exact absurd hn (by decide)
  · rw [State.filling, hn] at h; exact absurd h (by decide)

theorem stopSideNow_stopped (i : Side) (s : State) : StoppedNow i s (stopSideNow i s) := by
  rcases hf : s.filling i with _ | _
  · exact stopSideNow_waiting hf
  · by_cases he : s.sideState i = .ending
    · exact stopSideNow_ending he
    · refine stopSideNow_beforeEnding ?_
      unfold State.filling at hf
      revert hf he
      cases s.sideState i <;> decide

/-- What the event of the emergency stop shows of a side, where the stop of the side goes from `x` to `y` and what follows leaves it. -/
theorem StoppedNow.shown {i : Side} {s x y w : State} (h : StoppedNow i x y) (hf : x.fill.get i = s.fill.get i)
    (hp : x.params = s.params) (hv : x.valves.get i = { lo := 0, hi := 0 }) (hr : Room 8 s → Room 1 x)
    (hwf : w.fill.get i = y.fill.get i) (hwv : w.valves.get i = y.valves.get i) (hk : y.link.Keeps w.link) :
    let t := settle s w
    t.valves.get i = { lo := 0, hi := 0 } ∧ (t.fill.get i).closures = { (s.fill.get i).closures with estop := true } ∧
      (s.filling i = true → (t.fill.get i).demand = { lo := false, hi := false } ∧ t.sideState i = .ending) ∧
      ((s.sideState i).beforeEnding = true →
        (t.fill.get i).sale = (s.fill.get i).sale.map (fun c => { c with ended := some (.fault .estop) }) ∧
        (t.fill.get i).quietTimer = some s.params.quietTime.toNat ∧ (t.fill.get i).afterFlowTimer = some 10000) ∧
      (s.sideState i = .ending → (t.fill.get i).sale = (s.fill.get i).sale) ∧
      (s.filling i = false → t.sideState i = .closed ∧ ∀ a, (s.fill.get i).slot = some a → a.phase = .waiting →
        (t.fill.get i).slot = none ∧
        (Room 8 s → t.link.tells (.authEvent i a.source a.reference (.removed .closed)))) := by
  intro t
  have hst : x.sideState i = s.sideState i := congrArg Fill.state hf
  have hfilling : x.filling i = s.filling i := by rw [State.filling, hst]; rfl
  have htf : t.fill.get i = y.fill.get i := by rw [settle_fill, hwf]
  have hts : t.sideState i = y.sideState i := congrArg Fill.state htf
  have htv : t.valves.get i = y.valves.get i := by rw [settle_valves, hwv]
  rw [htf, hts, htv, ← hst, ← hf, ← hp, ← hfilling]
  refine ⟨h.valves hv, h.closures, h.filling, h.ended, h.ending, fun hn => ?_⟩
  obtain ⟨hclosed, hwaiting⟩ := h.waiting hn
  refine ⟨hclosed, fun a ha hph => ⟨(hwaiting a ha hph).1, fun hroom => ?_⟩⟩
  exact (settle_keeps s w).tells _ (hk.tells _ ((hwaiting a ha hph).2 0 (hr hroom)))

/-- The emergency stop stops side A and then side B (R68). -/
theorem estopAssert_stops {s : State} (he : s.estopInput = false) : ∃ u v w, estopAssert s = w ∧
    OnlyChanges [.estopInput, .motor .lo, .motor .hi, .valves .a, .valves .b] s u ∧
    (∀ i, u.valves.get i = { lo := 0, hi := 0 }) ∧ (∀ p, u.motors.get p = Motor.stopped) ∧ u.estopInput = true ∧
    StoppedNow .a u v ∧ OnlyChanges (closureBlocks .a ++ [.motor .lo, .motor .hi]) u v ∧
    StoppedNow .b v w ∧ OnlyChanges (closureBlocks .b ++ [.motor .lo, .motor .hi]) v w := by
  refine ⟨driversOff { s with estopInput := true }, _, _, if_neg (by rw [he]; decide), ?_, fun i => by cases i <;> rfl,
    fun p => by cases p <;> rfl, rfl, stopSideNow_stopped .a _, stopSideNow_only .a _, stopSideNow_stopped .b _, stopSideNow_only .b _⟩
  exact ((setEstop_only s true).mono (by simp)).step (driversOff_only _) (by simp)

/-- Settles O38: the drivers go off, then each side is stopped (`StoppedNow`), the other standing. -/
theorem theEmergencyStopStopsEverything : Obligations.TheEmergencyStopStopsEverything := by
  intro s hs
  refine ⟨?_, fun he => ?_, fun he => ?_⟩
  · exact congrArg Host.Outcome.next (hs.settle_quiet ⟨rfl, rfl, rfl, rfl, rfl, rfl, fun _ => ⟨rfl, rfl⟩, rfl⟩ rfl rfl)
  · have hexec : exec .estopAssert s = .next (settle s s) := congrArg (fun u => Host.Outcome.next (settle s u)) (if_pos he)
    rw [hexec, hs.settle_self]
  · obtain ⟨u, v, w, hw, huo, huv, hum, hue, ha, hvo, hb, hwo⟩ := estopAssert_stops he
    have hfill (i : Side) : u.fill.get i = s.fill.get i := huo (.fill i) (by simp)
    have hlink : u.link = s.link := huo.link_eq
    have honly : OnlyChanges estopBlocks s w := by rw [← hw]; exact estopAssert_only s
    refine ⟨settle s w, congrArg (fun x => Host.Outcome.next (settle s x)) hw, ?_, fun p => ?_, fun i => ?_, ?_⟩
    · rw [settle_estopInput, hwo .estopInput (by simp), hvo .estopInput (by simp), hue]
    · rw [settle_motors]
      exact hb.motors p (ha.motors p (hum p))
    · cases i
      · exact ha.shown (hfill .a) (huo .params (by simp)) (huv .a) (fun h => (h.mono (by omega)).of_link hlink)
          (hwo (.fill .a) (by simp)) (hwo (.valves .a) (by simp)) hb.keeps
      · refine hb.shown ?_ ?_ ?_ (fun h => ha.room 1 ((h.mono (by omega)).of_link hlink)) rfl rfl (.refl _)
        · rw [← hfill]; exact hvo (.fill .b) (by simp)
        · rw [hvo .params (by simp), huo .params (by simp)]
        · rw [← huv .b]; exact hvo (.valves .b) (by simp)
    · exact (honly.settle_clear s hs).mono (by simp)

end Sys2Proof.Machine

namespace Sys2Proof.Machine

open Sys2Proof

/-! ### Requests that a CFG_WRITE answers -/

/-- The CFG region is still to be read (R158). -/
theorem configUnread_iff (s : State) : configUnread s = true ↔ s.power.mode = .loading ∧ s.store.cfg.state = .unread := by
  unfold configUnread
  rw [Bool.and_eq_true, decide_eq_true_iff, RegionState.not_isRead_iff]

/-- A request that has been accepted and waits for its CFG_WRITE (R177, R184). -/
structure HeldByJob (kind tag : Nat) (bs : List Block) (s t : State) : Prop where
  link : t.link = s.link.holding kind tag []
  serves : t.store.willServe .cfgWrite
  only : OnlyChanges (bs ++ [.store, .link]) s t

theorem serveByJob_held {s u : State} {bs : List Block} (hs : Settled s) (kind tag : Nat) (hu : OnlyChanges bs (s.serving kind tag) u)
    (q : StandsStill (s.serving kind tag) u) (hl : u.link = (s.serving kind tag).link)
    (hcond : latchConditions u = latchConditions s) : HeldByJob kind tag bs s (settle s (serveByJob .cfgWrite [] u)) := by
  obtain ⟨j, hj, hk, hsv⟩ := joinJob_mem .cfgWrite true u.store.waiting
  have hju : j ∈ (serveByJob .cfgWrite [] u).store.waiting := hj
  have hc : latchConditions (serveByJob .cfgWrite [] u) = latchConditions s :=
    (latchConditions_congr rfl rfl rfl rfl rfl rfl rfl rfl rfl rfl).trans hcond
  have honly : OnlyChanges (bs ++ [.store, .link]) s (serveByJob .cfgWrite [] u) :=
    (((setLink_only s _).mono (by simp)).step hu (List.subset_append_left _ _)).step (serveByJob_only _ _ _)
      (List.subset_append_right _ _)
  refine ⟨?_, ?_, honly.settle s hs (by simp) (fun i _ => ?_) (fun h => absurd (by simp) h)⟩
  · have hlatch : (serveByJob .cfgWrite [] u).link.latches = s.link.latches := by
      change u.link.latches = _
      rw [hl]
      rfl
    rw [hs.settle_link_answered (u := serveByJob .cfgWrite [] u) q.display q.fill q.changes hlatch hc]
    change (u.link.hold []).startNext = _
    rw [hl]
    rfl
  · have hserves := settle_willServe s hju (hsv rfl)
    rwa [hk] at hserves
  · unfold pendingDelivery
    rw [show (serveByJob .cfgWrite [] u).register = s.register from q.register]

/-- An accepted request of this kind, where its owner's rule makes the change `u`. -/
theorem cfgRequest_held {α : Type} {s u : State} {bs : List Block} (hs : Settled s) (hf : Free s) (kind tag : Nat) (x : α)
    (take : α → State → State) (ht : take x (s.serving kind tag) = serveByJob .cfgWrite [] u) (hu : OnlyChanges bs (s.serving kind tag) u)
    (q : StandsStill (s.serving kind tag) u) (hl : u.link = (s.serving kind tag).link)
    (hcond : latchConditions u = latchConditions s) :
    event (request kind tag (.fields x) take) s = .next (settle s (serveByJob .cfgWrite [] u)) ∧
      HeldByJob kind tag bs s (settle s (serveByJob .cfgWrite [] u)) :=
  ⟨by rw [event_request hf, ht], serveByJob_held hs kind tag hu q hl hcond⟩

/-! ### SET_NOZZLE_MAP -/

@[simp] theorem gradeOrNoneOf_number (g : Option Grade) : gradeOrNoneOf (gradeOrNoneNumber g) = some g := by
  rcases g with _ | g
  · rfl
  · cases g <;> rfl

theorem gradeOrNoneOf_none {n : Nat} (h : 9 ≤ n) : gradeOrNoneOf n = none := by
  unfold gradeOrNoneOf
  rw [if_neg (by omega), gradeOf_none (.inr h)]
  rfl

/-- A map with an entry outside its values is none (R74). -/
theorem mapOf_none {x : NozzleMapFields} (h : 9 ≤ x.n1 ∨ 9 ≤ x.n2 ∨ 9 ≤ x.n3 ∨ 9 ≤ x.n4) : mapOf x = none := by
  have hbad : gradeOrNoneOf x.n1 = none ∨ gradeOrNoneOf x.n2 = none ∨ gradeOrNoneOf x.n3 = none ∨ gradeOrNoneOf x.n4 = none :=
    h.imp gradeOrNoneOf_none (Or.imp gradeOrNoneOf_none (Or.imp gradeOrNoneOf_none gradeOrNoneOf_none))
  unfold mapOf
  split
  · next h1 h2 h3 h4 =>
    rw [h1, h2, h3, h4] at hbad
    simp at hbad
  · rfl

theorem takeNozzleMap_bad {x : NozzleMapFields} {s : State} (hr : ¬configUnread s = true)
    (h : 2 ≤ x.side ∨ 9 ≤ x.n1 ∨ 9 ≤ x.n2 ∨ 9 ≤ x.n3 ∨ 9 ≤ x.n4) : takeNozzleMap x s = refuse .badValue s := by
  unfold takeNozzleMap
  rw [if_neg hr]
  rcases h with h | h
  · rw [sideOf_none h]
  · rw [mapOf_none h]
    cases sideOf x.side <;> rfl

/-- SET_NOZZLE_MAP of maps within their values, by whether the side fills (R74). -/
theorem takeNozzleMap_good (i : Side) (n1 n2 n3 n4 : Option Grade) {s : State} (hr : ¬configUnread s = true) :
    takeNozzleMap
      { side := Side.number i, n1 := gradeOrNoneNumber n1, n2 := gradeOrNoneNumber n2, n3 := gradeOrNoneNumber n3
        n4 := gradeOrNoneNumber n4 } s =
      if s.filling i = true then refuse .wrongState s
      else serveByJob .cfgWrite [] (s.setFill i { s.fill.get i with map := { n1 := n1, n2 := n2, n3 := n3, n4 := n4 } }) := by
  unfold takeNozzleMap mapOf
  rw [if_neg hr, sideOf_number]
  simp only [gradeOrNoneOf_number]

theorem nozzleMap_replaced {s : State} (hs : Settled s) (hf : Free s) (hr : ¬configUnread s = true) (tag : Nat) (i : Side)
    (n1 n2 n3 n4 : Option Grade) (h : s.filling i = false) :
    ∃ t, exec (.setNozzleMap tag (.fields
        { side := Side.number i, n1 := gradeOrNoneNumber n1, n2 := gradeOrNoneNumber n2, n3 := gradeOrNoneNumber n3
          n4 := gradeOrNoneNumber n4 })) s = .next t ∧
      t.fill.get i = { s.fill.get i with map := { n1 := n1, n2 := n2, n3 := n3, n4 := n4 } } ∧
      HeldByJob Kind.setNozzleMap tag [.fill i] s t := by
  have htake := takeNozzleMap_good i n1 n2 n3 n4 (s := s.serving Kind.setNozzleMap tag) hr
  rw [if_neg (by rw [show (s.serving Kind.setNozzleMap tag).filling i = s.filling i from rfl, h]; decide)] at htake
  obtain ⟨hexec, hheld⟩ := cfgRequest_held hs hf Kind.setNozzleMap tag _ takeNozzleMap htake (setFill_only _ i _)
    (.setFill rfl rfl) rfl (latchConditions_setFill (s := s) rfl)
  exact ⟨_, hexec, by rw [settle_fill]; exact PerSide.get_set_same _ _ _, hheld⟩

/-! ### SET_GRADE -/

theorem gradeEntryOf_none {x : GradeFields}
    (h : 1 ≤ x.share ∧ x.share ≤ 49 ∨ 951 ≤ x.share ∧ x.share ≠ 1000 ∨ x.startDuty = 0 ∨ 16 ≤ x.startDuty ∨ 2 ≤ x.trim) :
    gradeEntryOf x = none := by
  unfold gradeEntryOf
  dsimp only
  split
  · next t ht =>
    have htrim : ¬2 ≤ x.trim := fun hb => by rw [switchOf_none hb] at ht; exact absurd ht (by simp)
    refine if_neg (fun hg => ?_)
    have hshare := of_decide_eq_true hg.1
    omega
  · rfl

theorem gradeEntryOf_good {g : Nat} {e : GradeEntry} (h1 : 1 ≤ e.startDuty) (h2 : e.startDuty ≤ 15)
    (hs : e.share = 0 ∨ (50 ≤ e.share ∧ e.share ≤ 950) ∨ e.share = 1000) :
    gradeEntryOf { grade := g, share := e.share, startDuty := e.startDuty, trim := if e.trim then 1 else 0 } = some e := by
  have ht : switchOf (if e.trim = true then 1 else 0) = some e.trim := by cases e.trim <;> rfl
  unfold gradeEntryOf
  rw [ht]
  exact if_pos ⟨decide_eq_true hs, h1, h2⟩

theorem takeSetGrade_bad {x : GradeFields} {s : State} (hr : ¬configUnread s = true)
    (h : gradeOf x.grade = none ∨ gradeEntryOf x = none) : takeSetGrade x s = refuse .badValue s := by
  unfold takeSetGrade
  rw [if_neg hr]
  rcases h with h | h
  · rw [h]
  · rw [h]
    cases gradeOf x.grade <;> rfl

/-- A fill of the grade runs (R88). -/
theorem fillingGrade_iff (s : State) (g : Grade) :
    (fillingGrade s g .a || fillingGrade s g .b) = true ↔
      ∃ i x, s.filling i = true ∧ (s.fill.get i).sale = some x ∧ x.grade = g := by
  have h (i : Side) : fillingGrade s g i = true ↔ ∃ x, s.filling i = true ∧ (s.fill.get i).sale = some x ∧ x.grade = g := by
    unfold fillingGrade
    rw [Bool.and_eq_true, Option.any_eq_true]
    simp
  rw [Bool.or_eq_true, h, h]
  constructor
  · rintro (h | h)
    · exact ⟨.a, h⟩
    · exact ⟨.b, h⟩
  · rintro ⟨i, h⟩
    cases i
    · exact .inl h
    · exact .inr h

/-- SET_GRADE of an entry within its values, by whether a fill of the grade runs (R88). -/
theorem takeSetGrade_good (g : Grade) {e : GradeEntry} (h1 : 1 ≤ e.startDuty) (h2 : e.startDuty ≤ 15)
    (hs : e.share = 0 ∨ (50 ≤ e.share ∧ e.share ≤ 950) ∨ e.share = 1000) {s : State} (hr : ¬configUnread s = true) :
    takeSetGrade { grade := Grade.number g, share := e.share, startDuty := e.startDuty, trim := if e.trim then 1 else 0 } s =
      if (fillingGrade s g .a || fillingGrade s g .b) = true then refuse .wrongState s
      else serveByJob .cfgWrite [] { s with grades := s.grades.set g e } := by
  unfold takeSetGrade
  rw [if_neg hr, gradeOf_number, gradeEntryOf_good h1 h2 hs]

/-! ### SET_SCHEDULE -/

theorem timeGood_iff (t : Option Nat) : timeGood t = true ↔ ∀ x ∈ t, x < 86400 := by
  unfold timeGood
  rw [Option.all_eq_true]
  exact forall₂_congr fun _ _ => decide_eq_true_iff

/-- SET_SCHEDULE outside LOADING, by its times (R161). -/
theorem takeSetSchedule_loaded {x : ScheduleFields} {s : State} (h : s.power.mode ≠ .loading) :
    takeSetSchedule x s =
      if timeGood x.nightAt && timeGood x.wakeAt then
        serveByJob .cfgWrite [] (s.setPower { s.power with nightAt := x.nightAt, wakeAt := x.wakeAt })
      else refuse .badValue s := if_neg h

/-- The times of a schedule, checked (R161). -/
theorem timesGood_iff (x : ScheduleFields) :
    (timeGood x.nightAt && timeGood x.wakeAt) = true ↔ (∀ t ∈ x.nightAt, t < 86400) ∧ ∀ t ∈ x.wakeAt, t < 86400 := by
  rw [Bool.and_eq_true, timeGood_iff, timeGood_iff]

/-! ### The Class Table -/

theorem lookupClass_insert_same (e : ClassEntry) (t : List ClassEntry) : lookupClass (insertClass e t) e.code = some e := by
  induction t with
  | nil => simp [lookupClass, insertClass]
  | cons x rest ih =>
    unfold insertClass
    split
    · simp [lookupClass]
    · split
      · simp [lookupClass]
      · next hne _ =>
        unfold lookupClass at ih ⊢
        rw [List.find?_cons_of_neg (by simpa using hne)]
        exact ih

theorem lookupClass_insert_other {e : ClassEntry} {code : Nat} (h : code ≠ e.code) (t : List ClassEntry) :
    lookupClass (insertClass e t) code = lookupClass t code := by
  have hskip (r : List ClassEntry) : lookupClass (e :: r) code = lookupClass r code :=
    List.find?_cons_of_neg (by simpa using h.symm)
  induction t with
  | nil => exact hskip []
  | cons x rest ih =>
    unfold insertClass
    split
    · next hx =>
      rw [hskip]
      exact (List.find?_cons_of_neg (by simpa [hx] using h.symm)).symm
    · split
      · exact hskip _
      · unfold lookupClass at ih ⊢
        rw [List.find?_cons, List.find?_cons, ih]

theorem builtIn_below {code : Nat} (h : code ∈ Cls.builtIn) : code < 0x40 := by
  have hall : ∀ c ∈ Cls.builtIn, c < 0x40 := by decide
  exact hall code h

theorem directionOf_code (d : Direction) : directionOf d.code = some d := by cases d <;> rfl

theorem directionOf_none {n : Nat} (h : 3 ≤ n) : directionOf n = none := by
  match n, h with
  | _ + 3, _ => rfl

theorem directionOf_some {n : Nat} {d : Direction} (h : directionOf n = some d) : n = d.code := by
  match n with
  | 0 | 1 | 2 => cases h; rfl
  | n + 3 => cases (directionOf_none (Nat.le_add_left 3 n)).symm.trans h

theorem toReader_iff (d : Direction) : d.toReader = true ↔ d ≠ .readerToLink := by cases d <;> decide

theorem fromReader_iff (d : Direction) : d.fromReader = true ↔ d ≠ .linkToReader := by cases d <;> decide

theorem switchOf_bit (b : Bool) : switchOf (if b = true then 1 else 0) = some b := by cases b <;> rfl

/-- The fields that SET_CLASS carries for an entry. -/
def ClassEntry.fields (e : ClassEntry) : ClassFields :=
  { code := e.code, direction := e.direction.code, maxBody := e.maxBody, weight := e.weight
    essential := if e.essential then 1 else 0, asks := e.asks, answer := if e.answer then 1 else 0 }

/-- An entry within the values of R131. -/
theorem classEntryOf_fields {e : ClassEntry} (h1 : 0x40 ≤ e.code) (h2 : e.code ≤ 0xFF) (h3 : e.maxBody ≤ 200) (h4 : 1 ≤ e.weight)
    (h5 : e.weight ≤ 4) (hasks : ∀ a ∈ e.asks, e.direction ≠ .readerToLink ∧ 0x40 ≤ a ∧ a ≤ 0xFF ∧ a ≠ e.code)
    (hans : e.answer = true → e.direction ≠ .linkToReader) : classEntryOf e.fields = some e := by
  unfold classEntryOf ClassEntry.fields
  dsimp only
  rw [directionOf_code, switchOf_bit, switchOf_bit]
  refine if_pos ⟨h1, h2, h3, h4, h5, ?_, fun ha => (fromReader_iff _).mpr (hans ha)⟩
  rw [Option.all_eq_true]
  intro a ha
  obtain ⟨hd, hcode⟩ := hasks a ha
  rw [(toReader_iff _).mpr hd, Bool.true_and]
  exact decide_eq_true hcode

/-- What check 2 of R131 has shown of an accepted entry. -/
theorem classEntryOf_within {x : ClassFields} {e : ClassEntry} (h : classEntryOf x = some e) :
    0x40 ≤ x.code ∧ x.code ≤ 0xFF ∧ x.direction < 3 ∧ x.maxBody ≤ 200 ∧ 1 ≤ x.weight ∧ x.weight ≤ 4 ∧ x.essential < 2 ∧ x.answer < 2 ∧
      (∀ y ∈ x.asks, x.direction ≠ Direction.readerToLink.code ∧ 0x40 ≤ y ∧ y ≤ 0xFF ∧ y ≠ x.code) ∧
      ¬(x.answer = 1 ∧ x.direction = Direction.linkToReader.code) := by
  have hbit {n : Nat} {b : Bool} (hb : switchOf n = some b) : n < 2 := by
    by_contra hn
    rw [switchOf_none (by omega)] at hb
    cases hb
  unfold classEntryOf at h
  split at h
  · next d ess ans hd hess hans =>
    dsimp only at h
    split at h
    · next hg =>
      obtain ⟨h1, h2, h3, h4, h5, hasks, hfrom⟩ := hg
      have hcode := directionOf_some hd
      refine ⟨h1, h2, ?_, h3, h4, h5, hbit hess, hbit hans, fun y hy => ?_, fun hboth => ?_⟩
      · rw [hcode]
        cases d <;> decide
      · have hy' := (Option.all_eq_true ..).mp hasks y hy
        rw [Bool.and_eq_true, decide_eq_true_iff] at hy'
        refine ⟨fun hr => ?_, hy'.2⟩
        rw [hr] at hd
        cases hd
        exact absurd hy'.1 (by decide)
      · obtain ⟨ha, hl⟩ := hboth
        rw [ha] at hans
        rw [hl] at hd
        cases hans
        cases hd
        exact absurd (hfrom rfl) (by decide)
    · cases h
  · cases h

theorem classesFull_iff (t : List ClassEntry) : classesFull t = true ↔ 14 ≤ t.length := by
  unfold classesFull
  rw [decide_eq_true_iff]
  have hten : Cls.builtIn.length = 10 := rfl
  have hall : Const.classPlaces = 24 := rfl
  omega

theorem answers_iff (e : ClassEntry) : e.answers = true ↔ e.answer = true ∧ e.direction ≠ .linkToReader := by
  unfold ClassEntry.answers
  rw [Bool.and_eq_true, fromReader_iff]

/-- The questions that a set entry leaves: those of an entry that no longer takes answers go (R131). -/
theorem setClassEntry_conversations {e : ClassEntry} (hans : e.answer = true → e.direction ≠ .linkToReader) (s : State) :
    (setClassEntry e s).conversations =
      if (∃ x, lookupClass s.classes e.code = some x ∧ x.answer = true ∧ x.direction ≠ .linkToReader) ∧ e.answer = false then
        s.conversations.filter (fun x => x.answer ≠ e.code)
      else s.conversations := by
  refine if_congr ?_ rfl rfl
  have hnew : e.answers = e.answer := by
    rw [Bool.eq_iff_iff, answers_iff]
    exact ⟨fun h => h.1, fun h => ⟨h, hans h⟩⟩
  rw [Bool.and_eq_true, Option.any_eq_true, hnew, Bool.not_eq_true']
  simp only [answers_iff]

theorem takeSetClass_bad {x : ClassFields} {s : State} (hr : ¬configUnread s = true) (hb : x.code ∉ Cls.builtIn)
    (h : classEntryOf x = none) : takeSetClass x s = refuse .badValue s := by
  unfold takeSetClass
  rw [if_neg hr, if_neg hb, h]

/-- SET_CLASS of an entry that passed check 2, by the room of the table (R131). -/
theorem takeSetClass_good {x : ClassFields} {e : ClassEntry} {s : State} (hr : ¬configUnread s = true) (h : classEntryOf x = some e)
    (hb : x.code ∉ Cls.builtIn) :
    takeSetClass x s =
      if (lookupClass s.classes e.code).isNone ∧ classesFull s.classes then refuse .classRefused s
      else serveByJob .cfgWrite [] (setClassEntry e s) := by
  unfold takeSetClass
  rw [if_neg hr, if_neg hb, h]

theorem takeSetClass_builtIn {x : ClassFields} {s : State} (hr : ¬configUnread s = true) (hb : x.code ∈ Cls.builtIn) :
    takeSetClass x s = refuse .classRefused s := by
  unfold takeSetClass
  rw [if_neg hr, if_pos hb]

/-- DELETE_CLASS, by the code and its entry (R132). -/
theorem takeDeleteClass_read {code : Nat} (s : State) (hr : ¬configUnread s = true) :
    takeDeleteClass code s =
      if code ∈ Cls.builtIn then refuse .classRefused s
      else if code < 0x40 then refuse .badValue s
      else if (lookupClass s.classes code).isNone then refuse .notFound s
      else
        serveByJob .cfgWrite []
          { s with classes := removeClass code s.classes, conversations := dropExpected code s.conversations } := if_neg hr

/-- An accepted request on classes (R131, R132). -/
theorem classRequest_held {α : Type} {s : State} (hs : Settled s) (hf : Free s) (kind tag : Nat) (x : α) (take : α → State → State)
    (c : List ClassEntry) (v : List Conversation)
    (ht : take x (s.serving kind tag) =
      serveByJob .cfgWrite [] { s.serving kind tag with classes := c, conversations := v }) :
    ∃ t, event (request kind tag (.fields x) take) s = .next t ∧ t.classes = c ∧ t.conversations = v ∧
      HeldByJob kind tag [.classes, .conversations] s t := by
  obtain ⟨hexec, hheld⟩ := cfgRequest_held hs hf kind tag x take ht (setClasses_only _ c v)
    ⟨rfl, rfl, rfl, rfl, rfl, rfl, fun _ => ⟨rfl, rfl⟩, rfl⟩ rfl (latchConditions_congr rfl rfl rfl rfl rfl rfl rfl rfl rfl rfl)
  exact ⟨_, hexec, settle_classes .., settle_conversations .., hheld⟩

/-! ### The requests, one by one -/

theorem setClock_replied {s : State} (hs : Settled s) (hf : Free s) (tag : Nat) {v : Nat} (hv : v < 4294967296) :
    exec (.setClock tag (.fields v)) s =
      .next { s.replied Kind.setClock tag .ok (num 4 v) with
        clock := { value := BitVec.ofNat 32 v, valid := true, second := some 1000 } } := by
  change event (request Kind.setClock tag (.fields v) takeSetClock) s = _
  have hval : (BitVec.ofNat 32 v).toNat = v := by
    rw [BitVec.toNat_ofNat]
    exact Nat.mod_eq_of_lt hv
  have htake : takeSetClock v (s.serving Kind.setClock tag) =
      { s.setLink (s.link.answered Kind.setClock tag .ok (num 4 v)) with
        clock := { value := BitVec.ofNat 32 v, valid := true, second := some 1000 } } := by
    unfold takeSetClock
    dsimp only
    rw [hval]
    rfl
  rw [event_request hf, htake]
  exact congrArg Host.Outcome.next (hs.settle_answered (u := { s.setLink (s.link.answered Kind.setClock tag .ok (num 4 v)) with
      clock := { value := BitVec.ofNat 32 v, valid := true, second := some 1000 } })
    ⟨rfl, rfl, rfl, rfl, rfl, rfl, fun _ => ⟨rfl, rfl⟩, rfl⟩ rfl
    (latchConditions_congr rfl rfl rfl rfl rfl rfl rfl rfl rfl rfl))

theorem setGrade_replaced {s : State} (hs : Settled s) (hf : Free s) (hr : ¬configUnread s = true) (tag : Nat) (g : Grade)
    {e : GradeEntry} (h1 : 1 ≤ e.startDuty) (h2 : e.startDuty ≤ 15)
    (hsh : e.share = 0 ∨ (50 ≤ e.share ∧ e.share ≤ 950) ∨ e.share = 1000)
    (h : ¬(fillingGrade s g .a || fillingGrade s g .b) = true) :
    ∃ t, exec (.setGrade tag (.fields
        { grade := Grade.number g, share := e.share, startDuty := e.startDuty, trim := if e.trim then 1 else 0 })) s = .next t ∧
      t.grades = s.grades.set g e ∧ HeldByJob Kind.setGrade tag [.grades] s t := by
  have htake := (takeSetGrade_good g h1 h2 hsh (s := s.serving Kind.setGrade tag) hr).trans (if_neg h)
  obtain ⟨hexec, hheld⟩ := cfgRequest_held hs hf Kind.setGrade tag _ takeSetGrade htake (setGrades_only _ _)
    ⟨rfl, rfl, rfl, rfl, rfl, rfl, fun _ => ⟨rfl, rfl⟩, rfl⟩ rfl (latchConditions_congr rfl rfl rfl rfl rfl rfl rfl rfl rfl rfl)
  exact ⟨_, hexec, settle_grades .., hheld⟩

theorem setSchedule_replaced {s : State} (hs : Settled s) (hf : Free s) (hm : s.power.mode ≠ .loading) (tag : Nat)
    (x : ScheduleFields) (h : (timeGood x.nightAt && timeGood x.wakeAt) = true) :
    ∃ t, exec (.setSchedule tag (.fields x)) s = .next t ∧
      t.power = { s.power with nightAt := x.nightAt, wakeAt := x.wakeAt } ∧ HeldByJob Kind.setSchedule tag [.power] s t := by
  have htake := (takeSetSchedule_loaded (x := x) (s := s.serving Kind.setSchedule tag) hm).trans (if_pos h)
  obtain ⟨hexec, hheld⟩ := cfgRequest_held hs hf Kind.setSchedule tag _ takeSetSchedule htake (setPower_only _ _)
    ⟨rfl, rfl, rfl, rfl, rfl, rfl, fun _ => ⟨rfl, rfl⟩, rfl⟩ rfl (latchConditions_congr rfl rfl rfl rfl rfl rfl rfl rfl rfl rfl)
  exact ⟨_, hexec, settle_power .., hheld⟩

theorem setClass_replaced {s : State} (hs : Settled s) (hf : Free s) (hr : ¬configUnread s = true) (tag : Nat) {e : ClassEntry}
    (hgood : classEntryOf e.fields = some e) (hb : e.code ∉ Cls.builtIn) (hans : e.answer = true → e.direction ≠ .linkToReader)
    (h : lookupClass s.classes e.code ≠ none ∨ s.classes.length < 14) :
    ∃ t, exec (.setClass tag (.fields e.fields)) s = .next t ∧ lookupClass t.classes e.code = some e ∧
      (∀ code, code ≠ e.code → lookupClass t.classes code = lookupClass s.classes code) ∧
      t.conversations =
        (if (∃ x, lookupClass s.classes e.code = some x ∧ x.answer = true ∧ x.direction ≠ .linkToReader) ∧ e.answer = false then
          s.conversations.filter (fun x => x.answer ≠ e.code) else s.conversations) ∧
      HeldByJob Kind.setClass tag [.classes, .conversations] s t := by
  have hroom : ¬((lookupClass s.classes e.code).isNone ∧ classesFull s.classes) := by
    rw [Option.isNone_iff_eq_none, classesFull_iff]
    rintro ⟨hnone, hfull⟩
    rcases h with h | h
    · exact h hnone
    · omega
  obtain ⟨t, hexec, hclasses, hconv, hheld⟩ := classRequest_held hs hf Kind.setClass tag e.fields takeSetClass _ _
    ((takeSetClass_good (s := s.serving Kind.setClass tag) hr hgood hb).trans (if_neg hroom))
  refine ⟨t, hexec, ?_, fun code hne => ?_, hconv.trans (setClassEntry_conversations hans s), hheld⟩
  · rw [hclasses]
    exact lookupClass_insert_same e _
  · rw [hclasses]
    exact lookupClass_insert_other hne _

theorem deleteClass_removed {s : State} (hs : Settled s) (hf : Free s) (hr : ¬configUnread s = true) (tag : Nat) {code : Nat}
    (hcode : 0x40 ≤ code) (h : lookupClass s.classes code ≠ none) :
    ∃ t, exec (.deleteClass tag (.fields code)) s = .next t ∧ t.classes = s.classes.filter (fun e => e.code ≠ code) ∧
      t.conversations = s.conversations.filter (fun x => x.answer ≠ code) ∧
      HeldByJob Kind.deleteClass tag [.classes, .conversations] s t := by
  refine classRequest_held hs hf Kind.deleteClass tag code takeDeleteClass _ _ ?_
  have hb : code ∉ Cls.builtIn := fun hb => absurd (builtIn_below hb) (by omega)
  rw [takeDeleteClass_read (s.serving _ _) hr, if_neg hb, if_neg (by omega)]
  exact if_neg fun hn => h (Option.isNone_iff_eq_none.mp hn)

/-- Settles O41: each request by the equation of its taking; what a CFG_WRITE answers is held (`HeldByJob`). -/
theorem configurationsAndTheClockAreSet : Obligations.ConfigurationsAndTheClockAreSet := by
  refine ⟨fun tag s hs hf => ⟨fun hl x => ?_, fun hl hu => ⟨fun x => ?_, fun x => ?_, fun x => ?_, fun x => ?_⟩, fun v hv => ?_⟩,
    fun tag s hs hf hread => ?_, fun tag s hs hf hread => ?_⟩
  · exact replied_of_refuse hs hf Kind.setSchedule tag x takeSetSchedule _ (if_pos hl)
  · exact replied_of_refuse hs hf Kind.setNozzleMap tag x takeNozzleMap _ (if_pos ((configUnread_iff s).mpr ⟨hl, hu⟩))
  · exact replied_of_refuse hs hf Kind.setGrade tag x takeSetGrade _ (if_pos ((configUnread_iff s).mpr ⟨hl, hu⟩))
  · exact replied_of_refuse hs hf Kind.setClass tag x takeSetClass _ (if_pos ((configUnread_iff s).mpr ⟨hl, hu⟩))
  · exact replied_of_refuse hs hf Kind.deleteClass tag x takeDeleteClass _ (if_pos ((configUnread_iff s).mpr ⟨hl, hu⟩))
  · exact setClock_replied hs hf tag hv
  · have hr : ¬configUnread s = true := fun h => hread ((configUnread_iff s).mp h)
    refine ⟨fun x hx => ?_, fun x hx => ?_, fun i n1 n2 n3 n4 => ⟨fun h => ?_, fun h => ?_⟩,
      fun g e h1 h2 hsh => ⟨fun h => ?_, fun h => ?_⟩, fun nightAt wakeAt hm => ⟨fun h => ?_, fun h => ?_⟩⟩
    · exact replied_of_refuse hs hf Kind.setNozzleMap tag x takeNozzleMap _ (takeNozzleMap_bad hr hx)
    · refine replied_of_refuse hs hf Kind.setGrade tag x takeSetGrade _ (takeSetGrade_bad hr ?_)
      rcases hx with h | h | h
      · exact .inl (gradeOf_none (.inl h))
      · exact .inl (gradeOf_none (.inr h))
      · exact .inr (gradeEntryOf_none h)
    · exact replied_of_refuse hs hf Kind.setNozzleMap tag _ takeNozzleMap _
        ((takeNozzleMap_good i n1 n2 n3 n4 (s := s.serving Kind.setNozzleMap tag) hr).trans (if_pos h))
    · obtain ⟨t, hexec, hfill, hheld⟩ := nozzleMap_replaced hs hf hr tag i n1 n2 n3 n4 h
      exact ⟨t, hexec, hfill, hheld.link, hheld.serves, hheld.only⟩
    · exact replied_of_refuse hs hf Kind.setGrade tag _ takeSetGrade _
        ((takeSetGrade_good g h1 h2 hsh (s := s.serving Kind.setGrade tag) hr).trans (if_pos ((fillingGrade_iff s g).mpr h)))
    · obtain ⟨t, hexec, hgrades, hheld⟩ := setGrade_replaced hs hf hr tag g h1 h2 hsh (fun hb => h ((fillingGrade_iff s g).mp hb))
      exact ⟨t, hexec, hgrades, hheld.link, hheld.serves, hheld.only⟩
    · exact replied_of_refuse hs hf Kind.setSchedule tag _ takeSetSchedule _
        ((takeSetSchedule_loaded (s := s.serving Kind.setSchedule tag) hm).trans (if_neg (fun hb => h ((timesGood_iff _).mp hb))))
    · obtain ⟨t, hexec, hpower, hheld⟩ := setSchedule_replaced hs hf hm tag { nightAt := nightAt, wakeAt := wakeAt } ((timesGood_iff _).mpr h)
      exact ⟨t, hexec, hpower, hheld.link, hheld.serves, hheld.only⟩
  · have hr : ¬configUnread s = true := fun h => hread ((configUnread_iff s).mp h)
    refine ⟨fun e h1 h2 h3 h4 h5 hasks hans => ?_, fun x hx => ?_, fun x hb hx => ?_,
      fun code => ⟨fun h => ?_, fun hb h => ?_, fun hcode h => ?_, fun hcode h => ?_⟩⟩
    · have hgood := classEntryOf_fields h1 h2 h3 h4 h5 hasks hans
      have hb : e.code ∉ Cls.builtIn := fun hb => absurd (builtIn_below hb) (by omega)
      refine ⟨fun hnone hfull => ?_, fun h => ?_⟩
      · exact replied_of_refuse hs hf Kind.setClass tag e.fields takeSetClass _
          ((takeSetClass_good (s := s.serving Kind.setClass tag) hr hgood hb).trans
            (if_pos ⟨Option.isNone_iff_eq_none.mpr hnone, (classesFull_iff _).mpr hfull⟩))
      · obtain ⟨t, hexec, hsame, hother, hconv, hheld⟩ := setClass_replaced hs hf hr tag hgood hb hans h
        exact ⟨t, hexec, hsame, hother, hconv, hheld.link, hheld.serves, hheld.only⟩
    · exact replied_of_refuse hs hf Kind.setClass tag x takeSetClass _ (takeSetClass_builtIn hr hx)
    · refine replied_of_refuse hs hf Kind.setClass tag x takeSetClass _ (takeSetClass_bad hr hb ?_)
      rw [Option.eq_none_iff_forall_ne_some]
      intro e he
      obtain ⟨h1, h2, h3, h4, h5, h6, h7, h8, hasks, hans⟩ := classEntryOf_within he
      rcases hx with h | h | h | h | h | h | h | h | ⟨y, hy, h⟩ | h
      case inr.inr.inr.inr.inr.inr.inr.inr.inl =>
        obtain ⟨hd, hy1, hy2, hy3⟩ := hasks y hy
        rcases h with h | h | h | h
        · exact hd h
        · omega
        · omega
        · exact hy3 h
      case inr.inr.inr.inr.inr.inr.inr.inr.inr => exact hans h
      all_goals omega
    · exact replied_of_refuse hs hf Kind.deleteClass tag code takeDeleteClass _ ((takeDeleteClass_read (s.serving _ _) hr).trans (if_pos h))
    · exact replied_of_refuse hs hf Kind.deleteClass tag code takeDeleteClass _
        (((takeDeleteClass_read (s.serving _ _) hr).trans (if_neg hb)).trans (if_pos h))
    · have hb : code ∉ Cls.builtIn := fun hb => absurd (builtIn_below hb) (by omega)
      refine replied_of_refuse hs hf Kind.deleteClass tag code takeDeleteClass _ ?_
      rw [takeDeleteClass_read (s.serving _ _) hr, if_neg hb, if_neg (by omega)]
      exact if_pos (Option.isNone_iff_eq_none.mpr h)
    · obtain ⟨t, hexec, hclasses, hconv, hheld⟩ := deleteClass_removed hs hf hr tag hcode h
      exact ⟨t, hexec, hclasses, hconv, hheld.link, hheld.serves, hheld.only⟩

end Sys2Proof.Machine

namespace Sys2Proof.Machine

open Sys2Proof

/-! ### Frames of a SHOWING controller -/

/-- What the current frame of a SHOWING controller is made of (R107). -/
structure SameFrame (i : Side) (s t : State) : Prop where
  fill : t.fill.get i = s.fill.get i
  figures : t.figures.get i = s.figures.get i
  params : t.params = s.params
  hold : (t.display.get i).hold = (s.display.get i).hold
  dark : (t.display.get i).dark = (s.display.get i).dark

theorem SameFrame.currentFrame {i : Side} {s t : State} (h : SameFrame i s t) (hs : (s.display.get i).controller = .showing)
    (ht : (t.display.get i).controller = .showing) : currentFrame t i = currentFrame s i := by
  unfold Machine.currentFrame
  rw [hs, ht]
  unfold normalFrame shownFigures decimalPosition State.filling State.sideState
  rw [h.fill, h.figures, h.params, h.hold, h.dark]

/-- A step that leaves the display, the fill, the figures and the parameters leaves the frame. -/
theorem OnlyChanges.sameFrame {bs : List Block} {i : Side} {s t : State} (h : OnlyChanges bs s t) (hd : Block.display i ∉ bs)
    (hf : Block.fill i ∉ bs) (hg : Block.figures i ∉ bs) (hp : Block.params ∉ bs) : SameFrame i s t := by
  have hdisp : t.display.get i = s.display.get i := h (.display i) hd
  exact ⟨h (.fill i) hf, h (.figures i) hg, h .params hp, by rw [hdisp], by rw [hdisp]⟩

/-- A controller has something to send at once (R108, R109, R111). -/
def Display.owes (d : Display) : Bool :=
  d.transfer.isNone &&
    match d.controller with
    | .shutting => true
    | .testing => d.test.any (·.due)
    | .standby | .showing => d.sendOwed
    | .unpowered => false

theorem startDisplay_silent {i : Side} {s : State} (h : (s.display.get i).owes = false) : startDisplay i s = s.display.get i := by
  unfold startDisplay
  generalize s.display.get i = d at h ⊢
  rcases d with ⟨c, la, tr, so, te, ho, re, tp, th, sh, hw, da, se, rt, fa, st, rf, ec, sa⟩
  rcases tr with _ | x
  · cases c
    case shutting => cases h
    case testing =>
      rcases te with _ | ⟨k, ph, du, ti⟩
      · rfl
      · cases du
        · rfl
        · cases h
    case unpowered => rfl
    all_goals
      cases so
      · rfl
      · cases h
  · rfl

theorem startDisplay_sends {i : Side} {s : State} (h : (s.display.get i).owes = true) : (startDisplay i s).transfer ≠ none := by
  unfold startDisplay
  generalize s.display.get i = d at h ⊢
  rcases d with ⟨c, la, tr, so, te, ho, re, tp, th, sh, hw, da, se, rt, fa, st, rf, ec, sa⟩
  rcases tr with _ | x
  · cases c
    case shutting => exact Option.some_ne_none _
    case testing =>
      rcases te with _ | ⟨k, ph, du, ti⟩
      · cases h
      · cases du
        · cases h
        · exact Option.some_ne_none _
    case unpowered => cases h
    all_goals
      cases so
      · cases h
      · exact Option.some_ne_none _
  · exact Option.some_ne_none _

theorem Display.owes_flight {d : Display} (h : d.transfer ≠ none) : d.owes = false := by
  unfold Display.owes
  rw [Option.isNone_eq_false_iff.mpr (Option.isSome_iff_ne_none.mpr h), Bool.false_and]

/-- Between events no controller has anything to send. -/
theorem Settled.silent {s : State} (h : Settled s) (i : Side) : (s.display.get i).owes = false := by
  by_contra ho
  have hs := startDisplay_sends (eq_true_of_ne_false ho)
  rw [h.display i] at hs
  exact ho (Display.owes_flight hs)

/-- A SHOWING controller that owes a frame sends it where nothing is in flight (R109). -/
theorem startDisplay_owing {i : Side} {s : State} (hc : (s.display.get i).controller = .showing) (ht : (s.display.get i).transfer = none)
    (h : (s.display.get i).sendOwed = true) :
    startDisplay i s = Display.send { s.display.get i with sendOwed := false } (currentFrame s i) false := by
  unfold startDisplay
  dsimp only
  rw [ht, hc, h]
  rfl

/-- A SHOWING controller with nothing in flight owes nothing between events. -/
theorem Settled.paid {s : State} {i : Side} (h : Settled s) (hc : (s.display.get i).controller = .showing)
    (ht : (s.display.get i).transfer = none) : (s.display.get i).sendOwed = false := by
  have ho := h.silent i
  unfold Display.owes at ho
  rw [hc, ht] at ho
  exact ho

/-! ### Events of a display head alone -/

/-- An event that changes a display head alone ends with what that head sends. -/
theorem Settled.settle_setDisplay {s : State} (h : Settled s) (i : Side) (d : Display) :
    Machine.settle s (s.setDisplay i d) = s.setDisplay i (startDisplay i (s.setDisplay i d)) := by
  have hother (j : Side) (hj : j ≠ i) (x : Display) : startDisplay j (s.setDisplay i x) = s.display.get j :=
    h.display_of_same (PerSide.get_set_other _ _ hj)
  have hdisp (j : Side) : startDisplay j (s.setDisplay i (startDisplay i (s.setDisplay i d))) = startDisplay j (s.setDisplay i d) := by
    by_cases hj : j = i
    · subst hj
      have := startDisplay_idem j (s.setDisplay j d) (s.display.set j (startDisplay j (s.setDisplay j d))) (PerSide.get_set_same _ _ _)
        (s.setDisplay j (startDisplay j (s.setDisplay j d))) rfl
      rw [this, PerSide.get_set_same]
    · rw [hother j hj, hother j hj]
  have hsent : sendDisplays (s.setDisplay i (startDisplay i (s.setDisplay i d))) = sendDisplays (s.setDisplay i d) := by
    rw [sendDisplays_eq, sendDisplays_eq, hdisp, hdisp]
    rfl
  have hsettle : Machine.settle s (s.setDisplay i d) = Machine.settle s (s.setDisplay i (startDisplay i (s.setDisplay i d))) := by
    rw [settle_eq, settle_eq, hdisp, hdisp]
    unfold reported
    rw [hsent]
    rfl
  have hcalm := h.settle_calm (u := s.setDisplay i (startDisplay i (s.setDisplay i d))) (fun j => ?_)
    (fun j => h.port_of_same rfl rfl) (h.store_of_same rfl rfl rfl) (fun j => ⟨rfl, rfl⟩) rfl rfl h.changes
  · rw [hsettle, hcalm, State.setDisplay_link, h.startNext_link]
    rfl
  · rw [hdisp, State.setDisplay_display, PerSide.get_set]
    split
    · next hj => rw [hj]
    · next hj => exact hother j hj d

/-- Such an event whose head has nothing to send is that change alone. -/
theorem Settled.settle_setDisplay_silent {s : State} (h : Settled s) {i : Side} {d : Display} (hd : d.owes = false) :
    Machine.settle s (s.setDisplay i d) = s.setDisplay i d := by
  have hget : (s.setDisplay i d).display.get i = d := PerSide.get_set_same _ _ _
  rw [h.settle_setDisplay, startDisplay_silent (by rw [hget]; exact hd), hget]

/-! ### Refresh -/

theorem refreshExpiry_stopped {i : Side} {s : State}
    (h : (s.display.get i).controller ≠ .showing ∨ (s.display.get i).refreshTimer = none) : refreshExpiry i s = s := by
  refine if_neg (fun hb => ?_)
  rcases h with h | h
  · exact h hb.1
  · rw [h] at hb
    exact absurd hb.2 (by decide)

/-- A refresh expiry of a SHOWING controller, by what is in flight and what it last showed (R109). -/
theorem refreshExpiry_running {i : Side} {s : State} (hc : (s.display.get i).controller = .showing)
    (ht : (s.display.get i).refreshTimer ≠ none) :
    refreshExpiry i s =
      if (s.display.get i).transfer.isNone ∧ (s.display.get i).last.map (·.frame) ≠ some (currentFrame s i) then
        s.setDisplay i (Display.send { s.display.get i with refreshTimer := some (refreshInterval s) } (currentFrame s i) false)
      else s.setDisplay i { s.display.get i with refreshTimer := some (refreshInterval s) } :=
  if_pos ⟨hc, Option.isSome_iff_ne_none.mpr ht⟩

theorem refresh_sends {i : Side} {s : State} (hs : Settled s) (hc : (s.display.get i).controller = .showing)
    (ht : (s.display.get i).refreshTimer ≠ none) (hn : (s.display.get i).transfer = none)
    (hl : (s.display.get i).last.map (fun e => e.frame) ≠ some (currentFrame s i)) :
    exec (.refreshExpiry i) s = .next (s.setDisplay i
      { s.display.get i with
        refreshTimer := some s.params.refreshInterval.toNat, transfer := some { frame := currentFrame s i, retry := false }
        echoTimer := some 20, sent := (s.display.get i).sent + 1 }) := by
  change event (refreshExpiry i) s = _
  rw [event_next, refreshExpiry_running hc ht, if_pos ⟨by rw [hn]; rfl, hl⟩, hs.settle_setDisplay_silent rfl]
  rfl

theorem refresh_waits {i : Side} {s : State} (hs : Settled s) (hc : (s.display.get i).controller = .showing)
    (ht : (s.display.get i).refreshTimer ≠ none)
    (h : (s.display.get i).transfer ≠ none ∨ (s.display.get i).last.map (fun e => e.frame) = some (currentFrame s i)) :
    exec (.refreshExpiry i) s = .next (s.setDisplay i
      { s.display.get i with refreshTimer := some s.params.refreshInterval.toNat }) := by
  have hno : ¬((s.display.get i).transfer.isNone ∧ (s.display.get i).last.map (·.frame) ≠ some (currentFrame s i)) := by
    rintro ⟨h1, h2⟩
    rcases h with h | h
    · exact h (Option.isNone_iff_eq_none.mp h1)
    · exact h2 h
  change event (refreshExpiry i) s = _
  rw [event_next, refreshExpiry_running hc ht, if_neg hno]
  exact congrArg Host.Outcome.next (hs.settle_setDisplay_silent (hs.silent i))

/-! ### Echoes and retries -/

/-- A stray echo, which only counts (R110). -/
theorem echo_stray {i : Side} {s : State} (hs : Settled s) (sum : Byte) (h : (s.display.get i).transfer = none) :
    exec (.displayEcho i sum) s = .next (s.setDisplay i { s.display.get i with stray := (s.display.get i).stray + 1 }) := by
  have he : displayEcho i sum s = s.setDisplay i { s.display.get i with stray := (s.display.get i).stray + 1 } := by
    unfold displayEcho
    dsimp only
    rw [h]
  change event (displayEcho i sum) s = _
  rw [event_next, he]
  exact congrArg Host.Outcome.next (hs.settle_setDisplay_silent (hs.silent i))

theorem echoTimeout_none {i : Side} {s : State} (h : (s.display.get i).transfer = none) : echoTimeout i s = s := by
  unfold echoTimeout
  dsimp only
  rw [h]

theorem echoTimeout_stopped {i : Side} {s : State} (h : (s.display.get i).echoTimer = none) : echoTimeout i s = s := by
  unfold echoTimeout
  dsimp only
  rw [h]
  cases (s.display.get i).transfer <;> rfl

theorem displayEcho_matching {i : Side} {x : Transfer} {s : State} (h : (s.display.get i).transfer = some x) :
    displayEcho i x.frame.sumCheck s = endTransfer i x true s := by
  unfold displayEcho
  dsimp only
  rw [h]
  exact if_pos rfl

/-- The two ways in which an attempt is lost: an echo that does not match, and the expiry of the echo timer (R110). -/
theorem attempt_lost {i : Side} {sum : Byte} {x : Transfer} {s : State} {command : Instr} (h : (s.display.get i).transfer = some x)
    (hc : command = .displayEcho i sum ∧ sum ≠ x.frame.sumCheck ∨ command = .echoTimeout i ∧ (s.display.get i).echoTimer ≠ none) :
    exec command s = .next (settle s (attemptLost i x s)) := by
  rcases hc with ⟨rfl, hne⟩ | ⟨rfl, ht⟩
  · change event (displayEcho i sum) s = _
    have he : displayEcho i sum s = attemptLost i x s := by
      unfold displayEcho
      dsimp only
      rw [h]
      exact if_neg hne
    rw [event_next, he]
  · change event (echoTimeout i) s = _
    have he : echoTimeout i s = attemptLost i x s := by
      unfold echoTimeout
      dsimp only
      rw [h]
      exact if_pos (Option.isSome_iff_ne_none.mpr ht)
    rw [event_next, he]

/-- A first attempt that is lost is retried (R110). -/
theorem attempt_retried {i : Side} {x : Transfer} {s : State} (hs : Settled s) (h : x.retry = false) :
    settle s (attemptLost i x s) = s.setDisplay i
      { s.display.get i with
        transfer := some { frame := x.frame, retry := true }, echoTimer := some 20, retries := (s.display.get i).retries + 1
        sent := (s.display.get i).sent + 1 } := by
  have he : attemptLost i x s =
      s.setDisplay i (Display.send { s.display.get i with retries := (s.display.get i).retries + 1 } x.frame true) :=
    if_neg (by rw [h]; decide)
  rw [he, hs.settle_setDisplay_silent rfl]
  rfl

/-- A transfer of a SHOWING controller that is confirmed (R109, R110). -/
theorem endTransfer_confirmed {i : Side} {x : Transfer} {s : State} (hc : (s.display.get i).controller = .showing) :
    endTransfer i x true s = s.setDisplay i ((s.display.get i).ended x.frame true) := by
  have hc' : ((s.display.get i).ended x.frame true).controller = .showing := hc
  unfold endTransfer
  dsimp only
  rw [hc]
  rw [if_pos rfl]
  unfold tryEndTest
  dsimp only
  rw [State.setDisplay_display, PerSide.get_set_same, hc']

/-- A transfer of a SHOWING controller that fails (R110). -/
theorem endTransfer_failed {i : Side} {x : Transfer} {s : State} (hc : (s.display.get i).controller = .showing) :
    endTransfer i x false s = raiseDisplay i (s.setDisplay i ((s.display.get i).ended x.frame false)) := by
  have hc' : ((s.display.get i).ended x.frame false).controller = .showing := hc
  unfold endTransfer
  dsimp only
  rw [hc]
  dsimp only
  rw [if_neg (by decide)]
  unfold failTransfer
  dsimp only
  rw [State.setDisplay_display, PerSide.get_set_same, hc']

theorem echo_confirms {i : Side} {x : Transfer} {s : State} (hs : Settled s) (h : (s.display.get i).transfer = some x)
    (hc : (s.display.get i).controller = .showing) :
    let ended : Display :=
      { s.display.get i with transfer := none, echoTimer := none, last := some { frame := x.frame, confirmed := true } }
    ((s.display.get i).sendOwed = false → exec (.displayEcho i x.frame.sumCheck) s = .next (s.setDisplay i ended)) ∧
      ((s.display.get i).sendOwed = true → exec (.displayEcho i x.frame.sumCheck) s = .next (s.setDisplay i
        { ended with
          sendOwed := false, transfer := some { frame := currentFrame s i, retry := false }
          echoTimer := some 20, sent := (s.display.get i).sent + 1 })) := by
  intro ended
  have hexec : exec (.displayEcho i x.frame.sumCheck) s = .next (settle s (s.setDisplay i ended)) := by
    change event (displayEcho i x.frame.sumCheck) s = _
    rw [event_next, displayEcho_matching h, endTransfer_confirmed hc]
    rfl
  have hget : (s.setDisplay i ended).display.get i = ended := PerSide.get_set_same _ _ _
  rw [hexec]
  refine ⟨fun ho => ?_, fun ho => ?_⟩
  · have hsilent : ended.owes = false := by
      unfold Display.owes
      rw [show ended.controller = .showing from hc]
      exact ho
    rw [hs.settle_setDisplay_silent hsilent]
  · have hframe : currentFrame (s.setDisplay i ended) i = currentFrame s i :=
      SameFrame.currentFrame ⟨rfl, rfl, rfl, by rw [hget], by rw [hget]⟩ hc (by rw [hget]; exact hc)
    rw [hs.settle_setDisplay, startDisplay_owing (by rw [hget]; exact hc) (by rw [hget]) (by rw [hget]; exact ho), hframe, hget]
    rfl

/-! ### Changes of the side's state -/

/-- A SHOWING controller owes a frame for each change of its side's state but STARTING entry (R109). -/
theorem Display.sideChanged_owes {d : Display} (h : d.controller = .showing) {new : SideState} (hn : new ≠ .starting)
    (old : SideState) (refresh : Nat) : d.sideChanged old new refresh = { d with sendOwed := true } := by
  rcases d with ⟨c, la, tr, so, te, ho, re, tp, th, sh, hw, da, se, rt, fa, st, rf, ec, sa⟩
  obtain rfl : c = .showing := h
  exact if_neg hn

/-- The display head at a change of the side's state while the controller is SHOWING: it sends the current frame at once, or owes it
while a transfer is in flight (R109). -/
theorem enterState_display {i : Side} {new : SideState} {s : State} (hc : (s.display.get i).controller = .showing)
    (hne : s.sideState i ≠ new) (hn : new ≠ .starting) :
    ((s.display.get i).transfer = none → (enterState i new s).display.get i =
      Display.send { s.display.get i with sendOwed := false } (currentFrame (enterState i new s) i) false) ∧
    ((s.display.get i).transfer ≠ none → (enterState i new s).display.get i = { s.display.get i with sendOwed := true }) := by
  rw [enterState_other hne]
  generalize hw : (((s.setFill i _).setBlend i _).setValves i _).setDisplay i _ = w
  have hget : w.display.get i = { s.display.get i with sendOwed := true } := by
    rw [← hw, State.setDisplay_display, PerSide.get_set_same, Display.sideChanged_owes hc hn]
  have hsent : (sendDue i w).display.get i = startDisplay i w := PerSide.get_set_same _ _ _
  refine ⟨fun ht => ?_, fun ht => ?_⟩
  · have hstart := startDisplay_owing (s := w) (i := i) (by rw [hget]; exact hc) (by rw [hget]; exact ht) (by rw [hget])
    have hsame : SameFrame i w (sendDue i w) :=
      ⟨rfl, rfl, rfl, by rw [hsent, hstart]; rfl, by rw [hsent, hstart]; rfl⟩
    rw [hsame.currentFrame (by rw [hget]; exact hc) (by rw [sendDue_controller, hget]; exact hc), hsent, hstart, hget]
  · rw [hsent, startDisplay_silent (Display.owes_flight (by rw [hget]; exact ht)), hget]

/-- What a SHOWING controller keeps while it sends: its state, its last frame and its counters of failures. -/
structure KeepsShowing (d e : Display) : Prop where
  controller : e.controller = .showing
  test : e.test = d.test
  last : e.last = d.last
  failed : e.failed = d.failed
  refreshTimer : e.refreshTimer = d.refreshTimer

theorem KeepsShowing.refl {d : Display} (h : d.controller = .showing) : KeepsShowing d d := ⟨h, rfl, rfl, rfl, rfl⟩

theorem KeepsShowing.trans {d e f : Display} (h : KeepsShowing d e) (k : KeepsShowing e f) : KeepsShowing d f :=
  ⟨k.controller, k.test.trans h.test, k.last.trans h.last, k.failed.trans h.failed, k.refreshTimer.trans h.refreshTimer⟩

theorem KeepsShowing.of_eq {d e : Display} (h : d.controller = .showing) (he : e = d) : KeepsShowing d e := by
  rw [he]
  exact .refl h

theorem startDisplay_keepsShowing {i : Side} {s : State} (hc : (s.display.get i).controller = .showing) :
    KeepsShowing (s.display.get i) (startDisplay i s) := by
  by_cases ht : (s.display.get i).transfer = none
  · rcases ho : (s.display.get i).sendOwed with _ | _
    · exact .of_eq hc (startDisplay_silent (by unfold Display.owes; rw [ht, hc]; exact ho))
    · rw [startDisplay_owing hc ht ho]
      exact ⟨hc, rfl, rfl, rfl, rfl⟩
  · exact .of_eq hc (startDisplay_silent (Display.owes_flight ht))

theorem enterState_keepsShowing {i : Side} {new : SideState} {s : State} (hc : (s.display.get i).controller = .showing)
    (hn : new ≠ .starting) : KeepsShowing (s.display.get i) ((enterState i new s).display.get i) := by
  by_cases hne : s.sideState i = new
  · rw [enterState_same hne]
    exact .refl hc
  · obtain ⟨hfree, hbusy⟩ := enterState_display hc hne hn
    by_cases ht : (s.display.get i).transfer = none
    · rw [hfree ht]
      exact ⟨hc, rfl, rfl, rfl, rfl⟩
    · rw [hbusy ht]
      exact ⟨hc, rfl, rfl, rfl, rfl⟩

theorem fillFault_keepsShowing {i : Side} (k : FaultKind) (m : Option Meter) {s : State}
    (hc : (s.display.get i).controller = .showing) : KeepsShowing (s.display.get i) ((fillFault i k m s).display.get i) := by
  unfold fillFault
  split
  · next hb =>
    rw [addClosure_filling _ (SideState.isFill_of_beforeEnding hb)]
    exact enterState_keepsShowing (i := i) (new := .ending)
      (s := setSale i _ (s.setFill i { s.fill.get i with closures := (s.fill.get i).closures.add (faultClosure k) })) hc (by decide)
  · exact .refl hc

theorem addClosure_keepsShowing {i : Side} (r : ClosureReason) {s : State} (hc : (s.display.get i).controller = .showing) :
    KeepsShowing (s.display.get i) ((addClosure i r s).display.get i) := by
  rcases hf : s.filling i with _ | _
  · rw [addClosure_waiting r hf]
    have hd := removeWaiting_only i .closed true (s.setFill i { s.fill.get i with closures := (s.fill.get i).closures.add r })
      (.display i) (by simp)
    have hkeep := enterState_keepsShowing (i := i) (new := .closed)
      (s := removeWaiting i .closed true (s.setFill i { s.fill.get i with closures := (s.fill.get i).closures.add r }))
      ((congrArg Display.controller hd).trans hc) (by decide)
    exact (KeepsShowing.of_eq hc hd).trans hkeep
  · rw [addClosure_filling r hf]
    exact .refl hc

/-- A fill fault leaves the reader's port alone, for it removes no WAITING authorization (R62). -/
theorem fillFault_clear (i : Side) (k : FaultKind) (m : Option Meter) (s : State) :
    OnlyChanges (stateBlocks i ++ [.link]) s (fillFault i k m s) := by
  unfold fillFault
  split
  · next hb =>
    rw [addClosure_filling _ (SideState.isFill_of_beforeEnding hb)]
    exact (((setFill_only s i _).mono (by simp)).step (endFill_only i _ _) (by simp)).step (notifyFault_only _ _ _ _ _ _ _) (by simp)
  · exact .refl _ _

/-! ### DISPLAY raised -/

theorem raiseDisplay_filling {i : Side} {s : State} (h : s.filling i = true) : raiseDisplay i s = fillFault i .display none s := if_pos h

theorem raiseDisplay_standing {i : Side} {s : State} (h : s.filling i = false) (hd : (s.fill.get i).closures.display = true) :
    raiseDisplay i s = s := by
  unfold raiseDisplay
  rw [if_neg (by rw [h]; decide), if_pos hd]

theorem raiseDisplay_closes {i : Side} {s : State} (h : s.filling i = false) (hd : (s.fill.get i).closures.display = false) :
    raiseDisplay i s = notifyFault (some i) .display none none none none (addClosure i .display s) := by
  unfold raiseDisplay
  rw [if_neg (by rw [h]; decide), if_neg (by rw [hd]; decide)]

theorem raiseDisplay_keepsShowing {i : Side} {s : State} (hc : (s.display.get i).controller = .showing) :
    KeepsShowing (s.display.get i) ((raiseDisplay i s).display.get i) := by
  rcases hf : s.filling i with _ | _
  · rcases hd : (s.fill.get i).closures.display with _ | _
    · rw [raiseDisplay_closes hf hd]
      exact addClosure_keepsShowing .display hc
    · rw [raiseDisplay_standing hf hd]
      exact .refl hc
  · rw [raiseDisplay_filling hf]
    exact fillFault_keepsShowing .display none hc

/-- DISPLAY raised at a side in no fill, with its notice (R110). -/
theorem raiseDisplay_closed {i : Side} {s : State} (h : s.filling i = false) (hd : (s.fill.get i).closures.display = false) :
    (raiseDisplay i s).sideState i = .closed ∧
      ((raiseDisplay i s).fill.get i).closures = { (s.fill.get i).closures with display := true } ∧
      ∀ n, Room (n + 2) s → (raiseDisplay i s).link.tells (.fault (some i) .display none none none none) := by
  rw [raiseDisplay_closes h hd]
  refine ⟨addClosure_sideState .display h, addClosure_closures i .display s, fun n hr => ?_⟩
  exact (Link.setFault_keeps _ (some i)).tells _ (notify_tells (k := n) _ (addClosure_room hr))

/-! ### A failed transfer of a SHOWING controller -/

/-- The end of an event leaves a SHOWING controller what it keeps. -/
theorem settle_keepsShowing {i : Side} (old : State) {u : State} (hc : (u.display.get i).controller = .showing) :
    KeepsShowing (u.display.get i) ((settle old u).display.get i) := by
  rw [settle_display]
  exact startDisplay_keepsShowing hc

/-- The retry of a SHOWING controller's frame that is lost: the transfer failed, and DISPLAY is raised (R110). -/
theorem attempt_failed {i : Side} {x : Transfer} {s : State} (hx : x.retry = true) (hc : (s.display.get i).controller = .showing) :
    ∃ u, settle s (attemptLost i x s) = settle s (raiseDisplay i u) ∧ u = s.setDisplay i ((s.display.get i).ended x.frame false) ∧
      ((settle s (raiseDisplay i u)).display.get i).last = some { frame := x.frame, confirmed := false } ∧
      ((settle s (raiseDisplay i u)).display.get i).failed = (s.display.get i).failed + 1 := by
  have hget : (s.setDisplay i ((s.display.get i).ended x.frame false)).display.get i = (s.display.get i).ended x.frame false :=
    PerSide.get_set_same _ _ _
  have hshow : ((s.setDisplay i ((s.display.get i).ended x.frame false)).display.get i).controller = .showing := by rw [hget]; exact hc
  have hraise := raiseDisplay_keepsShowing hshow
  have hkeep := hraise.trans (settle_keepsShowing s hraise.controller)
  rw [hget] at hkeep
  refine ⟨_, ?_, rfl, hkeep.last, hkeep.failed⟩
  rw [attemptLost, if_pos hx, endTransfer_failed hc]

/-! ### SUSPEND of a side that is shown -/

theorem SideState.ne_of_isOpen {st new : SideState} (h : st.isOpen = true) (hn : new.isOpen = false) : st ≠ new := by
  rintro rfl
  rw [hn] at h
  exact absurd h (by decide)

/-- The display head of a side that SUSPEND holds (R109). -/
theorem suspend_shows {s : State} (hf : Free s) (tag : Nat) {i : Side}
    (hc : (s.display.get i).controller = .showing) (ho : (s.sideState i).isOpen = true) :
    ∃ t, exec (.suspend tag (.fields (Side.number i))) s = .next t ∧ t.sideState i = .held ∧
      ((s.display.get i).transfer = none → t.display.get i =
        { s.display.get i with
          sendOwed := false, transfer := some { frame := currentFrame t i, retry := false }, echoTimer := some 20
          sent := (s.display.get i).sent + 1 }) ∧
      ((s.display.get i).transfer ≠ none → t.display.get i = { s.display.get i with sendOwed := true }) := by
  have hv : (s.serving Kind.suspend tag).sideState i ≠ .held := SideState.ne_of_isOpen ho rfl
  have hheld := hold_held .suspend hv
  obtain ⟨u, hu⟩ : ∃ u, u = hold i .suspend (s.serving Kind.suspend tag) := ⟨_, rfl⟩
  obtain ⟨hfree, hbusy⟩ := enterState_display (i := i) (new := .held)
    (s := setSale i (fun c => { c with stop := some .suspend }) (s.serving Kind.suspend tag)) hc (by rwa [setSale_sideState]) (by decide)
  have hexec : exec (.suspend tag (.fields (Side.number i))) s = .next (settle s (answerState i u)) := by
    refine (event_sideRequest hf Kind.suspend tag i takeSuspend).trans ?_
    rw [takeSuspend, if_pos (c := ((s.serving Kind.suspend tag).sideState i).isOpen = true) ho, hu]
  have hflight : (u.display.get i).transfer ≠ none := by
    rw [hu]
    by_cases ht : (s.display.get i).transfer = none
    · exact fun hn => absurd ((congrArg Display.transfer (hfree ht)).symm.trans hn) (Option.some_ne_none _)
    · exact fun hn => ht ((congrArg Display.transfer (hbusy ht)).symm.trans hn)
  have hdisp : (settle s (answerState i u)).display.get i = u.display.get i := by
    rw [settle_display]
    exact startDisplay_silent (s := answerState i u) (Display.owes_flight hflight)
  have hshow : (u.display.get i).controller = .showing := by
    rw [hu]
    exact (enterState_keepsShowing (i := i) (new := .held)
      (s := setSale i (fun c => { c with stop := some .suspend }) (s.serving Kind.suspend tag)) hc (by decide)).controller
  have hsame : SameFrame i u (settle s (answerState i u)) :=
    ⟨congrArg (PerSide.get · i) (settle_fill s _), congrArg (PerSide.get · i) (settle_figures s _), settle_params s _,
      by rw [hdisp], by rw [hdisp]⟩
  have hframe : currentFrame (settle s (answerState i u)) i = currentFrame u i := hsame.currentFrame hshow (by rw [hdisp]; exact hshow)
  refine ⟨_, hexec, ?_, fun ht => ?_, fun ht => ?_⟩
  · rw [settle_sideState, hu]
    exact hheld.state
  · rw [hframe, hdisp, hu]
    exact hfree ht
  · rw [hdisp, hu]
    exact hbusy ht

/-- Settles O42: the refresh and the echoes by the event of the head alone (`settle_setDisplay`); the failed transfer by what DISPLAY
raised makes of the side; the change of state by `enterState_display`. -/
theorem framesAreSentEchoedAndRetried : Obligations.FramesAreSentEchoedAndRetried := by
  intro i sum s hs d interval
  refine ⟨fun hc ht => ⟨fun hn hl => refresh_sends hs hc ht hn hl, fun h => refresh_waits hs hc ht h⟩,
    fun h => hs.event_none (refreshExpiry_stopped h),
    fun h => ⟨echo_stray hs sum h, hs.event_none (echoTimeout_none h)⟩, fun h => hs.event_none (echoTimeout_stopped h),
    fun x hx => ⟨fun hsum hc => ?_, fun command hcom => ⟨fun hr => ?_, fun hr hc hf hd => ?_, fun hr hc => ⟨fun hb => ?_, fun hst => ?_⟩⟩⟩,
    fun tag hfree hc ho => ?_⟩
  · rw [hsum]
    exact echo_confirms hs hx hc
  · rw [attempt_lost hx hcom, attempt_retried hs hr]
  · obtain ⟨u, he, rfl, hlast, hfailed⟩ := attempt_failed hr hc
    obtain ⟨hclosed, hset, htells⟩ := raiseDisplay_closed (i := i) (s := s.setDisplay i ((s.display.get i).ended x.frame false)) hf hd
    have honly := ((setDisplay_only s i ((s.display.get i).ended x.frame false)).mono (by simp)).step (raiseDisplay_only i _)
      (List.Subset.refl _)
    refine ⟨_, by rw [attempt_lost hx hcom, he], hlast, hfailed, ?_, ?_, fun hroom => ?_, (honly.settle_clear s hs).mono (by simp)⟩
    · rw [settle_fill, hset]
      rfl
    · rw [settle_sideState, hclosed]
    · exact (settle_keeps s _).tells _ (htells 2 (hroom.of_link rfl))
  · obtain ⟨u, he, rfl, hlast, hfailed⟩ := attempt_failed hr hc
    have hfault := fillFault_faulted (s := s.setDisplay i ((s.display.get i).ended x.frame false)) .display none hb
    have honly := ((setDisplay_only s i ((s.display.get i).ended x.frame false)).mono (by simp)).step (fillFault_clear i .display none _)
      (List.Subset.refl _)
    rw [raiseDisplay_filling (s := s.setDisplay i _) (SideState.isFill_of_beforeEnding hb)] at he hlast hfailed
    refine ⟨_, by rw [attempt_lost hx hcom, he], ⟨hlast, hfailed⟩, ?_, ?_, ?_, ?_, ?_, ?_, fun hroom => ?_,
      (honly.settle_clear s hs).mono (by simp)⟩
    · rw [settle_sideState, hfault.sideState]
    · rw [settle_fill, hfault.fill]; rfl
    · rw [settle_fill, hfault.fill]; rfl
    · rw [settle_fill, hfault.fill]; rfl
    · rw [settle_fill, hfault.fill]; rfl
    · rw [settle_valves, hfault.valves]
    · exact (settle_keeps s _).tells _ (hfault.tells 3 (hroom.of_link rfl))
  · obtain ⟨u, he, rfl, hlast, hfailed⟩ := attempt_failed hr hc
    have hsame : raiseDisplay i (s.setDisplay i ((s.display.get i).ended x.frame false)) =
        s.setDisplay i ((s.display.get i).ended x.frame false) := by
      rcases hst with hst | ⟨hf, hd⟩
      · have hfill : s.filling i = true := by rw [State.filling, show s.sideState i = .ending from hst]; rfl
        have hnone : ((s.setDisplay i ((s.display.get i).ended x.frame false)).sideState i).beforeEnding = false := by
          rw [show (s.setDisplay i _).sideState i = .ending from hst]; rfl
        rw [raiseDisplay_filling (s := s.setDisplay i _) hfill, fillFault_none _ _ hnone]
      · exact raiseDisplay_standing (s := s.setDisplay i _) hf hd
    rw [hsame] at he hlast hfailed
    refine ⟨_, by rw [attempt_lost hx hcom, he], ⟨hlast, hfailed⟩, ?_⟩
    rw [hs.settle_setDisplay]
    exact setDisplay_only _ _ _
  · exact suspend_shows hfree tag hc ho

end Sys2Proof.Machine

namespace Sys2Proof.Machine

open Sys2Proof

/-! ### A controller that shows the side again -/

/-- A SHOWING controller that owes a frame with nothing in flight (R109). -/
structure Owing (i : Side) (s : State) : Prop where
  controller : (s.display.get i).controller = .showing
  transfer : (s.display.get i).transfer = none
  owed : (s.display.get i).sendOwed = true

/-- A SHOWING controller whose current frame is owed with nothing in flight, or in flight. -/
def FrameDue (i : Side) (s : State) : Prop :=
  Owing i s ∨ (s.display.get i).controller = .showing ∧ (s.display.get i).transfer = some { frame := currentFrame s i, retry := false }

theorem FrameDue.controller {i : Side} {s : State} (h : FrameDue i s) : (s.display.get i).controller = .showing := by
  rcases h with h | ⟨h, _⟩
  · exact h.controller
  · exact h

theorem Owing.step {bs : List Block} {i : Side} {s t : State} (h : Owing i s) (ho : OnlyChanges bs s t) (hd : Block.display i ∉ bs) :
    Owing i t := by
  have e : t.display.get i = s.display.get i := ho (.display i) hd
  obtain ⟨hc, ht, hw⟩ := h
  rw [← e] at hc ht hw
  exact ⟨hc, ht, hw⟩

/-- A step that leaves what the frame shows leaves it due. -/
theorem FrameDue.step {bs : List Block} {i : Side} {s t : State} (h : FrameDue i s) (ho : OnlyChanges bs s t) (hd : Block.display i ∉ bs)
    (hf : Block.fill i ∉ bs) (hg : Block.figures i ∉ bs) (hp : Block.params ∉ bs) : FrameDue i t := by
  have e : t.display.get i = s.display.get i := ho (.display i) hd
  rcases h with h | ⟨hc, ht⟩
  · exact .inl (h.step ho hd)
  · have hframe := (ho.sameFrame hd hf hg hp).currentFrame hc (by rw [e]; exact hc)
    exact .inr ⟨by rw [e]; exact hc, by rw [e, hframe, ht]⟩

/-- A change of state sends the frame that is owed (R109). -/
theorem Owing.enterState {i : Side} {new : SideState} {s : State} (h : Owing i s) (hn : new ≠ .starting) :
    FrameDue i (enterState i new s) := by
  by_cases hne : s.sideState i = new
  · rw [enterState_same hne]
    exact .inl h
  · refine .inr ⟨enterState_showing h.controller new, ?_⟩
    rw [(enterState_display h.controller hne hn).1 h.transfer]
    rfl

theorem Owing.hold {i : Side} {s : State} (h : Owing i s) (r : StopReason) : FrameDue i (hold i r s) :=
  (h.step (setSale_only i _ s) (by simp)).enterState (by decide)

theorem Owing.fillFault {i : Side} {s : State} (h : Owing i s) (k : FaultKind) (m : Option Meter) : FrameDue i (fillFault i k m s) := by
  unfold Machine.fillFault
  split
  · next hb =>
    rw [addClosure_filling _ (SideState.isFill_of_beforeEnding hb)]
    have hset : Owing i (s.setFill i { s.fill.get i with closures := (s.fill.get i).closures.add (faultClosure k) }) :=
      h.step (setFill_only s i _) (by simp)
    have hend : FrameDue i (endFill i (.fault k)
        (s.setFill i { s.fill.get i with closures := (s.fill.get i).closures.add (faultClosure k) })) :=
      (hset.step (setSale_only i _ _) (by simp)).enterState (by decide)
    exact hend.step (notifyFault_only _ _ _ _ _ _ _) (by simp) (by simp) (by simp) (by simp)
  · exact .inl h

theorem Owing.addClosure {i : Side} {s : State} (h : Owing i s) (r : ClosureReason) : FrameDue i (addClosure i r s) := by
  rcases hf : s.filling i with _ | _
  · rw [addClosure_waiting r hf]
    exact ((h.step (setFill_only s i _) (by simp)).step (removeWaiting_only i _ _ _) (by simp)).enterState (by decide)
  · rw [addClosure_filling r hf]
    exact .inl (h.step (setFill_only s i _) (by simp))

theorem Owing.raiseDisplay {i : Side} {s : State} (h : Owing i s) : FrameDue i (raiseDisplay i s) := by
  rcases hf : s.filling i with _ | _
  · rcases hd : (s.fill.get i).closures.display with _ | _
    · rw [raiseDisplay_closes hf hd]
      exact (h.addClosure .display).step (notifyFault_only _ _ _ _ _ _ _) (by simp) (by simp) (by simp) (by simp)
    · rw [raiseDisplay_standing hf hd]
      exact .inl h
  · rw [raiseDisplay_filling hf]
    exact h.fillFault .display none

theorem Owing.chooseFlow {i : Side} {s : State} (h : Owing i s) : FrameDue i (chooseFlow i s) := by
  unfold Machine.chooseFlow
  dsimp only
  split
  · exact h.hold _
  · split
    · exact h.hold _
    · split
      · exact h.enterState (by decide)
      · exact h.enterState (by decide)

/-- A side that is shown again: the controller is SHOWING without a test, its refresh timer runs, and the current frame is in flight
(R109, R111). -/
structure ShownAgain (i : Side) (r : Nat) (t : State) : Prop where
  controller : (t.display.get i).controller = .showing
  test : (t.display.get i).test = none
  transfer : (t.display.get i).transfer = some { frame := currentFrame t i, retry := false }
  refreshTimer : (t.display.get i).refreshTimer = some r

/-- The end of the event sends the frame that is due. -/
theorem FrameDue.shown {i : Side} {r : Nat} {d : Display} (old : State) {u : State} (h : FrameDue i u)
    (hk : KeepsShowing d (u.display.get i)) (ht : d.test = none) (hr : d.refreshTimer = some r) : ShownAgain i r (settle old u) := by
  have hkeep := hk.trans (settle_keepsShowing old h.controller)
  refine ⟨hkeep.controller, hkeep.test.trans ht, ?_, hkeep.refreshTimer.trans hr⟩
  have hdisp : (settle old u).display.get i = startDisplay i u := settle_display old u i
  have hframe : (startDisplay i u).transfer = some { frame := currentFrame u i, retry := false } ∧
      (startDisplay i u).hold = (u.display.get i).hold ∧ (startDisplay i u).dark = (u.display.get i).dark := by
    rcases h with ⟨hc, hn, ho⟩ | ⟨hc, hflight⟩
    · rw [startDisplay_owing hc hn ho]
      exact ⟨rfl, rfl, rfl⟩
    · rw [startDisplay_silent (Display.owes_flight (by rw [hflight]; exact Option.some_ne_none _))]
      exact ⟨hflight, rfl, rfl⟩
  obtain ⟨hsent, hhold, hdark⟩ := hframe
  have hsame : SameFrame i u (settle old u) :=
    ⟨congrArg (PerSide.get · i) (settle_fill old u), congrArg (PerSide.get · i) (settle_figures old u), settle_params old u,
      by rw [hdisp, hhold], by rw [hdisp, hdark]⟩
  rw [hsame.currentFrame h.controller hkeep.controller, hdisp, hsent]

theorem State.setDisplay_setDisplay (s : State) (i : Side) (d e : Display) : (s.setDisplay i d).setDisplay i e = s.setDisplay i e := by
  simp [State.setDisplay]

/-! ### Phases of a test -/

theorem phaseExpiry_none {i : Side} {s : State} (h : (s.display.get i).test = none) : phaseExpiry i s = s := by
  unfold phaseExpiry
  dsimp only
  rw [h]

theorem phaseExpiry_stopped {i : Side} {x : DisplayTest} {s : State} (h : (s.display.get i).test = some x) (ht : x.timer = none) :
    phaseExpiry i s = s := by
  unfold phaseExpiry
  dsimp only
  rw [h]
  exact if_pos (by rw [ht]; rfl)

/-- A phase before the last one makes the next phase's frame due (R111, R112). -/
theorem phaseExpiry_next {i : Side} {x : DisplayTest} {s : State} (h : (s.display.get i).test = some x) (ht : x.timer ≠ none)
    (hl : x.phase ≠ x.kind.lastPhase) :
    phaseExpiry i s = s.setDisplay i
      { s.display.get i with test := some { kind := x.kind, phase := x.phase.next, due := true, timer := none } } := by
  unfold phaseExpiry
  dsimp only
  rw [h]
  dsimp only
  rw [if_neg (by rw [Option.isNone_iff_eq_none]; exact ht), if_neg hl]

theorem phaseExpiry_last {i : Side} {x : DisplayTest} {s : State} (h : (s.display.get i).test = some x) (ht : x.timer ≠ none)
    (hl : x.phase = x.kind.lastPhase) :
    phaseExpiry i s = tryEndTest i (s.setDisplay i { s.display.get i with test := some { x with timer := none } }) := by
  unfold phaseExpiry
  dsimp only
  rw [h]
  dsimp only
  rw [if_neg (by rw [Option.isNone_iff_eq_none]; exact ht), if_pos hl]

/-- The phases that follow each other within a test (R111, R112). -/
theorem phase_next {x : DisplayTest} {phase : TestPhase}
    (h : x.phase = .all ∧ phase = .blank ∨ x.phase = .blank ∧ x.kind = .check ∧ phase = .audit) :
    x.phase ≠ x.kind.lastPhase ∧ x.phase.next = phase := by
  rcases x with ⟨k, p, d, t⟩
  rcases h with ⟨h1, h2⟩ | ⟨h1, h2, h3⟩
  · obtain rfl : p = .all := h1
    obtain rfl := h2
    cases k
    · exact ⟨nofun, rfl⟩
    · exact ⟨nofun, rfl⟩
  · obtain rfl : p = .blank := h1
    obtain rfl : k = .check := h2
    obtain rfl := h3
    exact ⟨nofun, rfl⟩

/-- A TESTING controller sends the frame of a phase that is due, with the phase's time (R111, R112). -/
theorem startDisplay_phase {i : Side} {x : DisplayTest} {s : State} (hc : (s.display.get i).controller = .testing)
    (hn : (s.display.get i).transfer = none) (hx : (s.display.get i).test = some x) (hd : x.due = true) :
    startDisplay i s = Display.send
      { s.display.get i with test := some { kind := x.kind, phase := x.phase, due := false, timer := some x.phase.duration } }
      (testFrame s x.phase) false := by
  unfold startDisplay
  dsimp only
  rw [hn, hc, hx]
  exact if_pos hd

/-- The end of a phase, where nothing is in flight and where a transfer is (R111, R112). -/
theorem phase_ends {i : Side} {x : DisplayTest} {phase : TestPhase} {s : State} (hs : Settled s) (hx : (s.display.get i).test = some x)
    (hc : (s.display.get i).controller = .testing) (ht : x.timer ≠ none) (hl : x.phase ≠ x.kind.lastPhase)
    (hp : x.phase.next = phase) :
    ((s.display.get i).transfer = none → exec (.testPhaseExpiry i) s = .next (s.setDisplay i
      { s.display.get i with
        test := some { kind := x.kind, phase := phase, due := false, timer := some phase.duration }
        transfer := some { frame := testFrame s phase, retry := false }, echoTimer := some 20
        sent := (s.display.get i).sent + 1 })) ∧
    ((s.display.get i).transfer ≠ none → exec (.testPhaseExpiry i) s = .next (s.setDisplay i
      { s.display.get i with test := some { kind := x.kind, phase := phase, due := true, timer := none } })) := by
  have hexec : exec (.testPhaseExpiry i) s = .next (settle s (s.setDisplay i
      { s.display.get i with test := some { kind := x.kind, phase := phase, due := true, timer := none } })) := by
    change event (phaseExpiry i) s = _
    rw [event_next, phaseExpiry_next hx ht hl, hp]
  rw [hexec]
  refine ⟨fun hn => ?_, fun hn => ?_⟩
  · have hget := PerSide.get_set_same s.display i
      { s.display.get i with test := some { kind := x.kind, phase := phase, due := true, timer := none } }
    have hsend := startDisplay_phase (i := i) (s := s.setDisplay i
        { s.display.get i with test := some { kind := x.kind, phase := phase, due := true, timer := none } })
      (x := { kind := x.kind, phase := phase, due := true, timer := none }) (by rw [State.setDisplay_display, hget]; exact hc)
      (by rw [State.setDisplay_display, hget]; exact hn) (by rw [State.setDisplay_display, hget]) rfl
    rw [State.setDisplay_display, hget] at hsend
    rw [hs.settle_setDisplay, hsend]
    cases phase <;> rfl
  · exact congrArg Host.Outcome.next (hs.settle_setDisplay_silent (Display.owes_flight hn))

theorem DisplayTest.over_iff (x : DisplayTest) : x.over = true ↔ x.phase = x.kind.lastPhase ∧ x.due = false ∧ x.timer = none := by
  unfold DisplayTest.over
  rw [Bool.and_eq_true, Bool.and_eq_true, decide_eq_true_iff, Bool.not_eq_true', Option.isNone_iff_eq_none, and_assoc]

/-- A TESTING controller with nothing in flight ends a test that is over, and no other (R111, R112). -/
theorem tryEndTest_testing {i : Side} {x : DisplayTest} {s : State} (hc : (s.display.get i).controller = .testing)
    (hn : (s.display.get i).transfer = none) (hx : (s.display.get i).test = some x) :
    tryEndTest i s = if x.over = true then testDone i x.kind s else s := by
  unfold tryEndTest
  dsimp only
  rw [hc, hn, hx]

/-- A confirmed transfer of a TESTING controller (R110). -/
theorem endTransfer_testing {i : Side} {x : DisplayTest} {y : Transfer} {s : State} (hc : (s.display.get i).controller = .testing)
    (hx : (s.display.get i).test = some x) :
    endTransfer i y true s = if x.over = true then testDone i x.kind (s.setDisplay i ((s.display.get i).ended y.frame true))
      else s.setDisplay i ((s.display.get i).ended y.frame true) := by
  have hget := PerSide.get_set_same s.display i ((s.display.get i).ended y.frame true)
  have htry := tryEndTest_testing (i := i) (s := s.setDisplay i ((s.display.get i).ended y.frame true)) (x := x)
    (by rw [State.setDisplay_display, hget]; exact hc) (by rw [State.setDisplay_display, hget]; rfl)
    (by rw [State.setDisplay_display, hget]; exact hx)
  rw [← htry]
  unfold endTransfer
  dsimp only
  rw [hc]
  rfl

/-- The echo of a test's frame where the test goes on (R111, R112). -/
theorem test_confirmed {i : Side} {x : DisplayTest} {y : Transfer} {s : State} (hs : Settled s) (hx : (s.display.get i).test = some x)
    (hc : (s.display.get i).controller = .testing) (hy : (s.display.get i).transfer = some y) :
    let confirmed : Display :=
      { s.display.get i with transfer := none, echoTimer := none, last := some { frame := y.frame, confirmed := true } }
    (x.due = true → exec (.displayEcho i y.frame.sumCheck) s = .next (s.setDisplay i
      { confirmed with
        test := some { x with due := false, timer := some x.phase.duration }
        transfer := some { frame := testFrame s x.phase, retry := false }, echoTimer := some 20
        sent := (s.display.get i).sent + 1 })) ∧
    (x.due = false → x.over = false → exec (.displayEcho i y.frame.sumCheck) s = .next (s.setDisplay i confirmed)) := by
  intro confirmed
  have hgoes (h : ¬x.over = true) : exec (.displayEcho i y.frame.sumCheck) s = .next (settle s (s.setDisplay i confirmed)) := by
    change event (displayEcho i y.frame.sumCheck) s = _
    rw [event_next, displayEcho_matching hy, endTransfer_testing hc hx, if_neg h]
    rfl
  refine ⟨fun hd => ?_, fun hd ho => ?_⟩
  · have hget : (s.setDisplay i confirmed).display.get i = confirmed := PerSide.get_set_same _ _ _
    have hsend := startDisplay_phase (i := i) (s := s.setDisplay i confirmed) (x := x) (by rw [hget]; exact hc) (by rw [hget])
      (by rw [hget]; exact hx) hd
    rw [hget] at hsend
    rw [hgoes (fun ho => by rw [((x.over_iff).mp ho).2.1] at hd; cases hd), hs.settle_setDisplay, hsend]
    cases hp : x.phase <;> rfl
  · have hsilent : confirmed.owes = false := by
      unfold Display.owes
      rw [show confirmed.controller = .testing from hc, show confirmed.test = some x from hx]
      exact hd
    rw [hgoes (by rw [ho]; decide), hs.settle_setDisplay_silent hsilent]

/-! ### The end of a test -/

/-- What the end of a test makes of the display head, and what follows for the test's owner (R111, R112). -/
def testEnded (i : Side) (k : TestKind) (s : State) : State :=
  match k with
  | .fill => tryLeaveStarting i (s.setFill i { s.fill.get i with testDone := true })
  | .check => reportCheck i s

/-- A head that has just left its test: SHOWING, its frame owed, its refresh timer started. -/
structure JustShown (r : Nat) (d : Display) : Prop where
  controller : d.controller = .showing
  test : d.test = none
  transfer : d.transfer = none
  owed : d.sendOwed = true
  refreshTimer : d.refreshTimer = some r

/-- A test that ends, at its last phase's end or at the echo of its last frame, leaves the head just shown and goes on to its owner. -/
theorem test_ends {i : Side} {x : DisplayTest} {s : State} {command : Instr} (hx : (s.display.get i).test = some x)
    (hc : (s.display.get i).controller = .testing)
    (hcom : command = .testPhaseExpiry i ∧ x.timer ≠ none ∧ (s.display.get i).transfer = none ∨
      x.timer = none ∧ ∃ y, (s.display.get i).transfer = some y ∧ command = .displayEcho i y.frame.sumCheck)
    (hl : x.phase = x.kind.lastPhase) (hd : x.due = false) :
    ∃ d, JustShown s.params.refreshInterval.toNat d ∧ exec command s = .next (settle s (testEnded i x.kind (s.setDisplay i d))) := by
  have hover : ∀ t, ({ x with timer := t } : DisplayTest).over = true ↔ t = none := fun t => by
    rw [DisplayTest.over_iff]
    exact ⟨fun h => h.2.2, fun h => ⟨hl, hd, h⟩⟩
  have hdone (d : Display) : testDone i x.kind (s.setDisplay i d) =
      testEnded i x.kind (s.setDisplay i (d.toShowing (refreshInterval s))) := by
    unfold testDone
    dsimp only
    rw [State.setDisplay_display, PerSide.get_set_same, State.setDisplay_setDisplay]
    rfl
  rcases hcom with ⟨rfl, ht, hn⟩ | ⟨ht, y, hy, rfl⟩
  · have hget := PerSide.get_set_same s.display i { s.display.get i with test := some { x with timer := none } }
    have htry := tryEndTest_testing (i := i) (s := s.setDisplay i { s.display.get i with test := some { x with timer := none } })
      (x := { x with timer := none }) (by rw [State.setDisplay_display, hget]; exact hc)
      (by rw [State.setDisplay_display, hget]; exact hn) (by rw [State.setDisplay_display, hget])
    rw [if_pos ((hover none).mpr rfl)] at htry
    refine ⟨Display.toShowing { s.display.get i with test := some { x with timer := none } } (refreshInterval s),
      ⟨rfl, rfl, hn, rfl, rfl⟩, ?_⟩
    change event (phaseExpiry i) s = _
    rw [event_next, phaseExpiry_last hx ht hl, htry, hdone]
  · refine ⟨((s.display.get i).ended y.frame true).toShowing (refreshInterval s), ⟨rfl, rfl, rfl, rfl, rfl⟩, ?_⟩
    change event (displayEcho i y.frame.sumCheck) s = _
    rw [event_next, displayEcho_matching hy, endTransfer_testing hc hx, if_pos ((hover x.timer).mpr ht), hdone]

theorem JustShown.owing {i : Side} {r : Nat} {d : Display} {s : State} (h : JustShown r d) : Owing i (s.setDisplay i d) := by
  have hget : (s.setDisplay i d).display.get i = d := PerSide.get_set_same _ _ _
  exact ⟨by rw [hget]; exact h.controller, by rw [hget]; exact h.transfer, by rw [hget]; exact h.owed⟩

/-- What the end of an event shows of a head that has just left its test. -/
theorem JustShown.shown {i : Side} {r : Nat} {d : Display} {u : State} (h : JustShown r d) (old : State) (hu : FrameDue i u)
    (hk : KeepsShowing d (u.display.get i)) : ShownAgain i r (settle old u) := hu.shown old hk h.test h.refreshTimer

/-- The fill test of a side whose motors do not all run yet is recorded (R56). -/
theorem fillTest_waits {i : Side} {d : Display} {s : State} (hs : Settled s) (h : JustShown s.params.refreshInterval.toNat d)
    (hm : motorsReady s i = false) :
    let t := settle s (testEnded i .fill (s.setDisplay i d))
    ShownAgain i s.params.refreshInterval.toNat t ∧ t.fill.get i = { s.fill.get i with testDone := true } ∧
      OnlyChanges [.display i, .fill i, .link] s t := by
  have hstays : testEnded i .fill (s.setDisplay i d) = (s.setDisplay i d).setFill i { s.fill.get i with testDone := true } := by
    refine if_neg (fun hb => ?_)
    have hready : motorsReady s i = true := hb.2.2
    rw [hm] at hready
    exact absurd hready (by decide)
  have honly : OnlyChanges [.display i, .fill i, .link] s ((s.setDisplay i d).setFill i { s.fill.get i with testDone := true }) :=
    ((setDisplay_only s i d).mono (by simp)).step (setFill_only _ i _) (by simp)
  have howing : Owing i ((s.setDisplay i d).setFill i { s.fill.get i with testDone := true }) :=
    h.owing.step (setFill_only _ i _) (by simp)
  dsimp only
  rw [hstays]
  refine ⟨h.shown s (.inl howing) (.of_eq h.controller (PerSide.get_set_same _ _ _)), ?_, honly.settle_clear s hs⟩
  rw [settle_fill]
  exact PerSide.get_set_same _ _ _

theorem hold_keepsShowing {i : Side} (r : StopReason) {s : State} (hc : (s.display.get i).controller = .showing) :
    KeepsShowing (s.display.get i) ((hold i r s).display.get i) :=
  enterState_keepsShowing (i := i) (new := .held) (s := setSale i (fun c => { c with stop := some r }) s) hc (by decide)

theorem chooseFlow_keepsShowing {i : Side} {s : State} (hc : (s.display.get i).controller = .showing) :
    KeepsShowing (s.display.get i) ((chooseFlow i s).display.get i) := by
  unfold chooseFlow
  dsimp only
  split
  · exact hold_keepsShowing _ hc
  · split
    · exact hold_keepsShowing _ hc
    · split
      · exact enterState_keepsShowing hc (by decide)
      · exact enterState_keepsShowing hc (by decide)

/-- What a side in STARTING chooses by its figures (R56). -/
theorem chooseFlow_starting {i : Side} {s : State} (h : s.sideState i = .starting) :
    let g := s.figures.get i
    let t := chooseFlow i s
    (t.fill.get i).testDone = (s.fill.get i).testDone ∧
    (g.targetReached = true → t.sideState i = .held ∧
      (t.fill.get i).sale = (s.fill.get i).sale.map (fun c => { c with stop := some .target })) ∧
    (g.targetReached = false → g.limitReached = true → t.sideState i = .held ∧
      (t.fill.get i).sale = (s.fill.get i).sale.map (fun c => { c with stop := some .limit })) ∧
    (g.targetReached = false → g.limitReached = false → (t.fill.get i).sale = (s.fill.get i).sale ∧
      (t.fill.get i).noFlowTimer = some (s.params.noFlowTimeout.toNat * 1000) ∧
      (flowsSlow g → t.sideState i = .slowing) ∧ (¬flowsSlow g → t.sideState i = .flowing)) := by
  intro g t
  have hne : s.sideState i ≠ .held := by rw [h]; decide
  have hopens (new : SideState) (hn : new.isOpen = true) : ((enterState i new s).fill.get i).testDone = (s.fill.get i).testDone := by
    rw [enterState_fill (by rw [h]; rintro rfl; exact absurd hn (by decide))]
  rcases ht : g.targetReached with _ | _
  · rcases hl : g.limitReached with _ | _
    · obtain ⟨hslow, hflow⟩ := chooseFlow_open ht hl
      by_cases hs : flowsSlow g
      · have he : t = enterState i .slowing s := hslow hs
        obtain ⟨htimer, hsale, _⟩ := enterState_opens (new := .slowing) h rfl
        rw [he]
        exact ⟨hopens .slowing rfl, nofun, nofun, fun _ _ => ⟨hsale, htimer, fun _ => enterState_sideState _ _ _, fun hn => absurd hs hn⟩⟩
      · have he : t = enterState i .flowing s := hflow hs
        obtain ⟨htimer, hsale, _⟩ := enterState_opens (new := .flowing) h rfl
        rw [he]
        exact ⟨hopens .flowing rfl, nofun, nofun, fun _ _ => ⟨hsale, htimer, fun hn => absurd hn hs, fun _ => enterState_sideState _ _ _⟩⟩
    · have he : t = hold i .limit s := chooseFlow_limit ht hl
      have hh := hold_held .limit hne
      rw [he]
      exact ⟨by rw [hold_fill _ hne], nofun, fun _ _ => ⟨hh.state, hh.sale⟩, nofun⟩
  · have he : t = hold i .target s := chooseFlow_target ht
    have hh := hold_held .target hne
    rw [he]
    exact ⟨by rw [hold_fill _ hne], fun _ => ⟨hh.state, hh.sale⟩, nofun, nofun⟩

/-- The fill test of a side in STARTING whose motors run takes the side on by its figures (R56). -/
theorem fillTest_flows {i : Side} {d : Display} {s : State} (hs : Settled s) (h : JustShown s.params.refreshInterval.toNat d)
    (hst : s.sideState i = .starting) (hm : motorsReady s i = true) :
    let t := settle s (testEnded i .fill (s.setDisplay i d))
    let g := s.figures.get i
    ShownAgain i s.params.refreshInterval.toNat t ∧ (t.fill.get i).testDone = true ∧
      OnlyChanges [.display i, .fill i, .blend i, .valves i, .link] s t ∧
      (g.targetReached = true → t.sideState i = .held ∧
        (t.fill.get i).sale = (s.fill.get i).sale.map (fun c => { c with stop := some .target })) ∧
      (g.targetReached = false → g.limitReached = true → t.sideState i = .held ∧
        (t.fill.get i).sale = (s.fill.get i).sale.map (fun c => { c with stop := some .limit })) ∧
      (g.targetReached = false → g.limitReached = false → (t.fill.get i).sale = (s.fill.get i).sale ∧
        (t.fill.get i).noFlowTimer = some (s.params.noFlowTimeout.toNat * 1000) ∧
        (flowsSlow g → t.sideState i = .slowing) ∧ (¬flowsSlow g → t.sideState i = .flowing)) := by
  have hfill := PerSide.get_set_same s.fill i { s.fill.get i with testDone := true }
  have hust : ((s.setDisplay i d).setFill i { s.fill.get i with testDone := true }).sideState i = .starting := by
    rw [State.sideState, State.setFill_fill, State.setDisplay_fill, hfill]
    exact hst
  have hleave : testEnded i .fill (s.setDisplay i d) = chooseFlow i ((s.setDisplay i d).setFill i { s.fill.get i with testDone := true }) :=
    if_pos ⟨hust, congrArg Fill.testDone hfill, hm⟩
  have howing : Owing i ((s.setDisplay i d).setFill i { s.fill.get i with testDone := true }) :=
    h.owing.step (setFill_only _ i _) (by simp)
  have hkeep := (KeepsShowing.of_eq h.controller (PerSide.get_set_same s.display i d)).trans (chooseFlow_keepsShowing howing.controller)
  have honly : OnlyChanges [.display i, .fill i, .blend i, .valves i, .link] s
      (chooseFlow i ((s.setDisplay i d).setFill i { s.fill.get i with testDone := true })) :=
    (((setDisplay_only s i d).mono (by simp)).step (setFill_only _ i _) (by simp)).step (chooseFlow_only i _) (by simp)
  obtain ⟨hdone, hchosen⟩ := chooseFlow_starting hust
  rw [State.setFill_fill, State.setDisplay_fill, hfill] at hdone hchosen
  intro t g
  have ht : t = settle s (chooseFlow i ((s.setDisplay i d).setFill i { s.fill.get i with testDone := true })) :=
    congrArg (settle s) hleave
  rw [ht, settle_sideState, settle_fill]
  exact ⟨h.shown s howing.chooseFlow hkeep, hdone, honly.settle_clear s hs, hchosen⟩

/-- The check test that ends before the quiet time is reported (R168). -/
theorem reportCheck_waits {i : Side} {s : State} (h : (s.sidePower.get i).quietTimer ≠ none) :
    reportCheck i s = s.setSidePower i { s.sidePower.get i with testReported := true } := by
  refine if_neg (fun hb => h ?_)
  have hq := hb.2.2
  rwa [editSide, State.setSidePower_sidePower, PerSide.get_set_same] at hq

theorem editSide_sidePower (i : Side) (f : SidePower → SidePower) (s : State) :
    (editSide i f s).sidePower.get i = f (s.sidePower.get i) := PerSide.get_set_same _ _ _

/-- A step that leaves the stage of a side leaves its report to wait for the quiet time. -/
theorem reportCheck_shown {i : Side} {bs : List Block} {d : Display} {s u : State} (hs : Settled s)
    (h : JustShown s.params.refreshInterval.toNat d) (hu : FrameDue i u) (hk : KeepsShowing d (u.display.get i))
    (ho : OnlyChanges bs s u) (hb : Block.sidePower i ∉ bs) (hq : (s.sidePower.get i).quietTimer ≠ none)
    (hr : Block.register ∉ bs) (hp : Block.power ∉ bs) (hf : Block.supplyFailInput ∉ bs) :
    let t := settle s (reportCheck i u)
    ShownAgain i s.params.refreshInterval.toNat t ∧ t.sidePower.get i = { s.sidePower.get i with testReported := true } ∧
      OnlyChanges (.sidePower i :: .link :: bs) s t ∧ KeepsShowing d (t.display.get i) ∧ t.fill = u.fill ∧ u.link.Keeps t.link := by
  have hside : u.sidePower.get i = s.sidePower.get i := ho (.sidePower i) hb
  have hreport := reportCheck_waits (s := u) (i := i) (by rw [hside]; exact hq)
  have hstep : OnlyChanges [.sidePower i] u (u.setSidePower i { u.sidePower.get i with testReported := true }) := setSidePower_only u i _
  have honly : OnlyChanges (.sidePower i :: .link :: bs) s (u.setSidePower i { u.sidePower.get i with testReported := true }) :=
    (ho.mono (by intro b hb'; simp [hb'])).step hstep (by simp)
  dsimp only
  rw [hreport]
  refine ⟨h.shown s (hu.step hstep (by simp) (by simp) (by simp) (by simp)) hk, ?_,
    honly.settle_clear s hs (by simp) (by simp [hr]) (by simp [hp]) (by simp [hf]),
    hk.trans (settle_keepsShowing s (u := u.setSidePower i _) hu.controller), settle_fill _ _, settle_keeps s (u.setSidePower i _)⟩
  rw [settle_sidePower, State.setSidePower_sidePower, PerSide.get_set_same, hside]

/-! ### A test whose transfer fails -/

/-- A test's retry that is lost ends the test: the transfer failed, the head is just shown, and DISPLAY is raised; a check test is
reported (R110 to R112). -/
theorem test_fails {i : Side} {x : DisplayTest} {y : Transfer} {s : State} (hx : (s.display.get i).test = some x)
    (hc : (s.display.get i).controller = .testing) (hy : y.retry = true) :
    ∃ d, JustShown s.params.refreshInterval.toNat d ∧ d.last = some { frame := y.frame, confirmed := false } ∧
      d.failed = (s.display.get i).failed + 1 ∧
      attemptLost i y s = (match x.kind with
        | .fill => raiseDisplay i (s.setDisplay i d)
        | .check => reportCheck i (raiseDisplay i (s.setDisplay i d))) := by
  refine ⟨((s.display.get i).ended y.frame false).toShowing (refreshInterval s), ⟨rfl, rfl, rfl, rfl, rfl⟩, rfl, rfl, ?_⟩
  have hget := PerSide.get_set_same s.display i ((s.display.get i).ended y.frame false)
  have hlost : attemptLost i y s = endTransfer i y false s := if_pos hy
  have hend : endTransfer i y false s = failTransfer i (s.setDisplay i ((s.display.get i).ended y.frame false)) := by
    unfold endTransfer
    dsimp only
    rw [hc]
    rfl
  rw [hlost, hend]
  unfold failTransfer
  dsimp only
  rw [State.setDisplay_display, hget, show ((s.display.get i).ended y.frame false).controller = .testing from hc,
    show ((s.display.get i).ended y.frame false).test = some x from hx, State.setDisplay_setDisplay]
  rfl

/-- The head after a test that failed: shown again, its last frame unconfirmed. -/
theorem testFailed_shown {i : Side} {y : Transfer} {d : Display} {s u : State} (h : JustShown s.params.refreshInterval.toNat d)
    (hl : d.last = some { frame := y.frame, confirmed := false }) (hf : d.failed = (s.display.get i).failed + 1) (hu : FrameDue i u)
    (hk : KeepsShowing d (u.display.get i)) :
    ShownAgain i s.params.refreshInterval.toNat (settle s u) ∧
      ((settle s u).display.get i).last = some { frame := y.frame, confirmed := false } ∧
      ((settle s u).display.get i).failed = (s.display.get i).failed + 1 := by
  have hkeep := hk.trans (settle_keepsShowing s hu.controller)
  exact ⟨h.shown s hu hk, hkeep.last.trans hl, hkeep.failed.trans hf⟩

theorem raised_shows {i : Side} {r : Nat} {d : Display} {s : State} (h : JustShown r d) :
    FrameDue i (raiseDisplay i (s.setDisplay i d)) ∧ KeepsShowing d ((raiseDisplay i (s.setDisplay i d)).display.get i) :=
  ⟨(h.owing (i := i)).raiseDisplay,
    (KeepsShowing.of_eq h.controller (PerSide.get_set_same s.display i d)).trans (raiseDisplay_keepsShowing (h.owing (i := i)).controller)⟩

/-- The timer of a test's retry, or an echo that does not match it. -/
theorem retry_lost {i : Side} {y : Transfer} {s : State} {command : Instr} (hy : (s.display.get i).transfer = some y)
    (hc : command = .echoTimeout i ∧ (s.display.get i).echoTimer ≠ none ∨
      ∃ sum, command = .displayEcho i sum ∧ sum ≠ y.frame.sumCheck) :
    exec command s = .next (settle s (attemptLost i y s)) := by
  rcases hc with hc | ⟨sum, hc⟩
  · exact attempt_lost (sum := 0) hy (.inr hc)
  · exact attempt_lost hy (.inl hc)

/-- Settles O43: the phases by what the head sends; the end of a test by its owner, the head just shown (`test_ends`); a failed
transfer by DISPLAY raised over it (`test_fails`). -/
theorem displayTestsRunThroughTheirPhases : Obligations.DisplayTestsRunThroughTheirPhases := by
  intro i s hs d f p picture time shown
  have hpicture (phase : TestPhase) : picture phase = testFrame s phase := by cases phase <;> rfl
  have htime (phase : TestPhase) : time phase = phase.duration := by cases phase <;> rfl
  have hshown {t : State} (h : ShownAgain i s.params.refreshInterval.toNat t) : shown t :=
    ⟨h.controller, h.test, h.transfer, h.refreshTimer⟩
  refine ⟨fun h => hs.event_none (phaseExpiry_none h), fun x hx hc => ?_⟩
  intro last
  have hlast : last ↔ x.phase = x.kind.lastPhase := by
    rcases x with ⟨k, ph, du, ti⟩
    cases k <;> exact Iff.rfl
  refine ⟨fun ht => hs.event_none (phaseExpiry_stopped hx ht), fun phase ht hph => ?_, fun y hy => ?_,
    fun command hcom hl hdue => ?_, fun y hy hretry command hcom => ?_⟩
  · obtain ⟨hne, hnext⟩ := phase_next hph
    rw [hpicture, htime]
    exact phase_ends hs hx hc ht hne hnext
  · obtain ⟨hgoes, hstays⟩ := test_confirmed hs hx hc hy
    intro confirmed
    rw [hpicture, htime]
    refine ⟨hgoes, fun hdue hno => hstays hdue ?_⟩
    by_contra ho
    obtain ⟨hl, _, ht⟩ := (x.over_iff).mp (eq_true_of_ne_false ho)
    rcases hno with hno | hno
    · exact hno (hlast.mpr hl)
    · exact hno ht
  · obtain ⟨e, he, hexec⟩ := test_ends hx hc hcom (hlast.mp hl) hdue
    refine ⟨fun hk hst hm => ?_, fun hk hst hm => ?_, fun hk hq => ?_⟩
    · rw [hk] at hexec
      obtain ⟨hagain, hfill, honly⟩ := fillTest_waits hs he hm
      exact ⟨_, hexec, hshown hagain, hfill, honly⟩
    · rw [hk] at hexec
      obtain ⟨hagain, hdone, honly, htarget, hlimit, hopen⟩ := fillTest_flows hs he hst hm
      refine ⟨_, hexec, hshown hagain, hdone, honly, htarget, hlimit, fun hg hl' => ?_⟩
      obtain ⟨hsale, htimer, hslow, hflow⟩ := hopen hg hl'
      refine ⟨?_, hsale, htimer⟩
      split
      · next hb => exact hslow hb
      · next hb => exact hflow hb
    · rw [hk] at hexec
      obtain ⟨hagain, hside, honly, _⟩ := reportCheck_shown hs he (.inl he.owing)
        (.of_eq he.controller (PerSide.get_set_same s.display i e)) (setDisplay_only s i e) (by simp) hq (by simp) (by simp) (by simp)
      exact ⟨_, hexec, hshown hagain, hside, honly.mono (by simp)⟩
  · intro lost
    obtain ⟨e, he, hel, hef, hattempt⟩ := test_fails hx hc hretry
    have hexec := retry_lost hy hcom
    rw [hattempt] at hexec
    obtain ⟨hdue, hkeep⟩ := raised_shows (i := i) (s := s) he
    refine ⟨fun hk hst => ?_, fun hk hf hd hq => ?_⟩
    · rw [hk] at hexec
      have hb : ((s.setDisplay i e).sideState i).beforeEnding = true := by
        rw [show (s.setDisplay i e).sideState i = .starting from hst]; rfl
      have hfault := fillFault_faulted .display none hb
      have hraise : raiseDisplay i (s.setDisplay i e) = fillFault i .display none (s.setDisplay i e) :=
        raiseDisplay_filling (SideState.isFill_of_beforeEnding hb)
      obtain ⟨hagain, hl, hfl⟩ := testFailed_shown he hel hef hdue hkeep
      have honly : OnlyChanges (stateBlocks i ++ [.link]) s (raiseDisplay i (s.setDisplay i e)) := by
        rw [hraise]
        exact ((setDisplay_only s i e).mono (by simp)).step (fillFault_clear i .display none _) (List.Subset.refl _)
      refine ⟨_, hexec, ⟨hshown hagain, hl, hfl⟩, ?_, ?_, ?_, ?_, ?_, fun hroom => ?_, (honly.settle_clear s hs).mono (by simp)⟩
      · rw [settle_sideState, hraise, hfault.sideState]
      · rw [settle_fill, hraise, hfault.fill]; rfl
      · rw [settle_fill, hraise, hfault.fill]; rfl
      · rw [settle_fill, hraise, hfault.fill]; rfl
      · rw [settle_fill, hraise, hfault.fill]; rfl
      · rw [hraise]
        exact (settle_keeps s _).tells _ (hfault.tells 3 (hroom.of_link rfl))
    · rw [hk] at hexec
      obtain ⟨hclosed, hset, htells⟩ := raiseDisplay_closed (s := s.setDisplay i e) hf hd
      have honly := ((setDisplay_only s i e).mono (by simp)).step (raiseDisplay_only i _) (List.Subset.refl _)
      obtain ⟨hagain, hside, hblocks, hkept, hfill, hlink⟩ := reportCheck_shown hs he hdue hkeep honly (by simp) hq (by simp) (by simp)
        (by simp)
      refine ⟨_, hexec, ⟨hshown hagain, hkept.last.trans hel, hkept.failed.trans hef⟩, ?_, ?_, hside, fun hroom => ?_,
        hblocks.mono (by simp)⟩
      · rw [State.sideState, hfill]; exact hclosed
      · rw [hfill]; exact hset
      · exact hlink.tells _ (htells 2 (hroom.of_link rfl))

end Sys2Proof.Machine

namespace Sys2Proof.Machine

open Sys2Proof

/-! ### An authorization that enters the slot -/

/-- An AUTH_STATE is pending only at an ADMITTED port (R145). -/
theorem pendAuthState_ports (i : Side) (k : AuthStateKind) (r : Nat) (s : State) :
    (pendAuthState i k r s).ports.get i =
      if (s.ports.get i).state = .admitted then { s.ports.get i with pendingAuth := some { kind := k, reference := r } }
      else s.ports.get i := by
  refine (PerSide.get_set_same _ _ _).trans ?_
  split <;> rfl

/-- A block that stands as it was need not be named in a frame. -/
theorem OnlyChanges.drop {b : Block} {bs cs : List Block} {s t : State} (h : OnlyChanges cs s t) (hb : b.same s t)
    (hsub : cs ⊆ b :: bs) : OnlyChanges bs s t := by
  intro c hc
  by_cases he : c = b
  · rw [he]; exact hb
  · exact h.mono hsub c (by simp [he, hc])

/-- The timer of an accepted authorization (R53). -/
def authTimerOf (s : State) : Timer := if s.params.authTimeout.toNat = 0 then none else some (s.params.authTimeout.toNat * 1000)

/-- The slot has taken an authorization, which the host has been told, and the reader of a READER one (R53, R147). -/
def authEntered (i : Side) (a : Auth) (s : State) : State :=
  let t := notify (.authEvent i a.source a.reference .accepted)
    (s.setFill i { s.fill.get i with slot := some a, authTimer := authTimerOf s })
  if a.source = .reader then pendAuthState i .accepted (a.reference.getD 0) t else t

/-- The authorization of a side without a counted nozzle that calls (R53). -/
theorem acceptAuth_waits {i : Side} {s : State} (a : Auth) (h : s.sideState i ≠ .calling) :
    acceptAuth i a s = enterState i .authorized (authEntered i a s) := by
  have hst : (s.fill.get i).state ≠ .calling := h
  unfold acceptAuth
  extract_lets f t u v
  have hv : v = authEntered i a s := rfl
  rw [hv]
  split
  · next hc _ => exact absurd hc hst
  · rfl

/-- The authorization of a CALLING side tests the counted nozzle's lift (R53). -/
theorem acceptAuth_tests {i : Side} {c : Counted} {s : State} (a : Auth) (h : s.sideState i = .calling)
    (hc : (s.fill.get i).counted = some c) : acceptAuth i a s = testLift i a c (authEntered i a s) := by
  have hst : (s.fill.get i).state = .calling := h
  unfold acceptAuth
  extract_lets f t u v
  have hv : v = authEntered i a s := rfl
  have hfst : f.state = .calling := hst
  have hfc : f.counted = some c := hc
  rw [hv, hfst, hfc]

theorem authEntered_fill (i : Side) (a : Auth) (s : State) :
    (authEntered i a s).fill.get i = { s.fill.get i with slot := some a, authTimer := authTimerOf s } := by
  unfold authEntered
  dsimp only
  split
  · exact PerSide.get_set_same _ _ _
  · exact PerSide.get_set_same _ _ _

theorem authEntered_sideState (i : Side) (a : Auth) (s : State) : (authEntered i a s).sideState i = s.sideState i := by
  rw [State.sideState, authEntered_fill]
  rfl

theorem authEntered_only (i : Side) (a : Auth) (s : State) : OnlyChanges [.fill i, .link, .port i] s (authEntered i a s) := by
  have h : OnlyChanges [.fill i, .link, .port i] s (notify (.authEvent i a.source a.reference .accepted)
      (s.setFill i { s.fill.get i with slot := some a, authTimer := authTimerOf s })) :=
    ((setFill_only s i _).mono (by simp)).step (notify_only _ _) (by simp)
  exact (h.step (pendAuthState_only i _ _ _) (by simp)).ite h

/-- The port of an entered authorization: told only where a reader gave it (R145, R147). -/
theorem authEntered_port (i : Side) (a : Auth) (s : State) :
    (authEntered i a s).ports.get i =
      if a.source = .reader ∧ (s.ports.get i).state = .admitted then
        { s.ports.get i with pendingAuth := some { kind := .accepted, reference := a.reference.getD 0 } }
      else s.ports.get i := by
  unfold authEntered
  dsimp only
  by_cases hr : a.source = .reader
  · rw [if_pos hr, pendAuthState_ports]
    exact if_congr ⟨fun h => ⟨hr, h⟩, fun h => h.2⟩ rfl rfl
  · rw [if_neg hr, if_neg (fun h => hr h.1)]
    rfl

theorem authEntered_link (i : Side) (a : Auth) (s : State) :
    (authEntered i a s).link = (notify (.authEvent i a.source a.reference .accepted) s).link := by
  unfold authEntered
  dsimp only
  split <;> rfl

theorem authEntered_keeps (i : Side) (a : Auth) (s : State) : s.link.Keeps (authEntered i a s).link := by
  rw [authEntered_link]
  exact notify_keeps _ _

theorem authEntered_room {n : Nat} {i : Side} {a : Auth} {s : State} (h : Room (n + 1) s) : Room n (authEntered i a s) :=
  (notify_room (.authEvent i a.source a.reference .accepted) h).of_link (authEntered_link i a s)

theorem authEntered_tells {n : Nat} {i : Side} {a : Auth} {s : State} (h : Room (n + 1) s) :
    (authEntered i a s).link.tells (.authEvent i a.source a.reference .accepted) := by
  rw [authEntered_link]
  exact notify_tells _ h

/-! ### The test of a lift -/

/-- The conditions of an allowed lift as a table (R51). -/
theorem liftRefusal_table (s : State) (i : Side) (a : Auth) (g : Grade) :
    liftRefusal s i a g =
      if a.grades.getLsbD (g.number - 1) = false then some .grade
      else if s.prices.lookup (s.prices.sideGeneration.get i) g a.level = 0 then some .price
      else if (s.display.get i).dark = true then some .dark
      else if (s.store.slots.get i).state ≠ .erased then some .save else none := by
  unfold liftRefusal inGrades
  simp only [Bool.not_eq_true']

theorem liftRefusal_of_only {bs : List Block} {i : Side} {s t : State} (h : OnlyChanges bs s t) (hp : Block.prices ∉ bs)
    (hd : Block.display i ∉ bs) (hs : Block.store ∉ bs) (a : Auth) (g : Grade) : liftRefusal t i a g = liftRefusal s i a g := by
  have eprices : t.prices = s.prices := h .prices hp
  have edisplay : t.display.get i = s.display.get i := h (.display i) hd
  have estore : t.store = s.store := h .store hs
  unfold liftRefusal
  rw [eprices, edisplay, estore]

theorem testLift_refused {i : Side} {a : Auth} {n : Nozzle} {g : Grade} {r : LiftRefusal} {s : State}
    (h : liftRefusal s i a g = some r) :
    testLift i a { nozzle := n, grade := some g } s = notify (.gradeRefused i n (some g) r) (enterState i .authorized s) := by
  unfold testLift
  dsimp only
  rw [h]

theorem testLift_allowed {i : Side} {a : Auth} {n : Nozzle} {g : Grade} {s : State} (h : liftRefusal s i a g = none) :
    testLift i a { nozzle := n, grade := some g } s = startSale i a n g s := by
  unfold testLift
  dsimp only
  rw [h]

/-- The fill of a side outside AUTHORIZED that becomes so: its fill timers stand still. -/
theorem enterState_authorized {i : Side} {s : State} (h : s.sideState i ≠ .authorized) :
    (enterState i .authorized s).fill.get i =
      { s.fill.get i with state := .authorized, noFlowTimer := none, quietTimer := none, afterFlowTimer := none } := by
  rw [enterState_fill h]
  rfl

/-- What an accepted authorization that waits makes of an IDLE or a CALLING side (R53, R147). -/
structure AuthWaits (i : Side) (a : Auth) (s t : State) : Prop where
  fill : t.fill.get i =
    { s.fill.get i with
      state := .authorized, slot := some a, authTimer := authTimerOf s, noFlowTimer := none, quietTimer := none
      afterFlowTimer := none }
  port : t.ports.get i = (authEntered i a s).ports.get i
  accepted : ∀ n, Room (n + 1) s → t.link.tells (.authEvent i a.source a.reference .accepted)
  keeps : s.link.Keeps t.link
  only : OnlyChanges (closureBlocks i) s t

theorem enterAuthorized_waits {i : Side} {s : State} (a : Auth) (h : s.sideState i ≠ .authorized) :
    AuthWaits i a s (enterState i .authorized (authEntered i a s)) := by
  have honly := enterState_only i .authorized (authEntered i a s)
  have hlink := enterState_link i .authorized (authEntered i a s)
  refine ⟨?_, honly (.port i) (by simp), fun n hr => ?_, ?_, ((authEntered_only i a s).mono (by simp)).step honly (by simp)⟩
  · rw [enterState_authorized (by rw [authEntered_sideState]; exact h), authEntered_fill]
  · rw [hlink]
    exact authEntered_tells hr
  · rw [hlink]
    exact authEntered_keeps i a s

theorem AuthWaits.notify {i : Side} {a : Auth} {s t : State} (h : AuthWaits i a s t) (x : Notice) : AuthWaits i a s (notify x t) :=
  ⟨h.fill, h.port, fun n hr => (notify_keeps x t).tells _ (h.accepted n hr), h.keeps.trans (notify_keeps x t),
    h.only.step (notify_only x t) (by simp)⟩

/-- An authorization accepted at an IDLE side waits (R53). -/
theorem acceptAuth_idle {i : Side} {s : State} (a : Auth) (h : s.sideState i = .idle) : AuthWaits i a s (acceptAuth i a s) := by
  rw [acceptAuth_waits a (by rw [h]; decide)]
  exact enterAuthorized_waits a (by rw [h]; decide)

/-- At a CALLING side whose lift is refused it waits too, with GRADE_REFUSED (R51, R53). -/
theorem acceptAuth_refused {i : Side} {n : Nozzle} {g : Grade} {r : LiftRefusal} {s : State} (a : Auth) (h : s.sideState i = .calling)
    (hc : (s.fill.get i).counted = some { nozzle := n, grade := some g }) (hr : liftRefusal s i a g = some r) :
    AuthWaits i a s (acceptAuth i a s) ∧
      ∀ k, Room (k + 2) s → (acceptAuth i a s).link.tells (.gradeRefused i n (some g) r) := by
  have href : liftRefusal (authEntered i a s) i a g = some r :=
    (liftRefusal_of_only (authEntered_only i a s) (by simp) (by simp) (by simp) a g).trans hr
  rw [acceptAuth_tests a h hc, testLift_refused href]
  refine ⟨(enterAuthorized_waits a (by rw [h]; decide)).notify _, fun k hroom => ?_⟩
  exact notify_tells (k := k) _ ((authEntered_room hroom).of_link (enterState_link i _ _))

/-- At a CALLING side whose lift is allowed the fill starts (R51, R53, R55). -/
theorem acceptAuth_starts {i : Side} {n : Nozzle} {g : Grade} {s : State} (a : Auth) (h : s.sideState i = .calling)
    (hc : (s.fill.get i).counted = some { nozzle := n, grade := some g }) (hr : liftRefusal s i a g = none)
    (he : s.estopInput = false) (hw : s.supplyFailInput = false) :
    acceptAuth i a s = startSale i a n g (authEntered i a s) ∧ SaleStarted i a n g (authEntered i a s) (acceptAuth i a s) := by
  have hall : liftRefusal (authEntered i a s) i a g = none :=
    (liftRefusal_of_only (authEntered_only i a s) (by simp) (by simp) (by simp) a g).trans hr
  have hst : acceptAuth i a s = startSale i a n g (authEntered i a s) := by rw [acceptAuth_tests a h hc, testLift_allowed hall]
  refine ⟨hst, ?_⟩
  rw [hst]
  exact startSale_started a n g (by rw [authEntered_sideState, h]; decide)
    ((authEntered_only i a s .estopInput (by simp)).trans he) ((authEntered_only i a s .supplyFailInput (by simp)).trans hw)

/-- What STARTING entry tells a reader whose port is ADMITTED, and no other (R55, R145). -/
theorem startSale_port (i : Side) (a : Auth) (n : Nozzle) (g : Grade) (s : State) :
    (startSale i a n g s).ports.get i =
      if a.source = .reader ∧ (s.ports.get i).state = .admitted then
        { s.ports.get i with pendingAuth := some { kind := .started (takenNumber s i), reference := a.reference.getD 0 } }
      else s.ports.get i := by
  have hafter : (startSale i a n g s).ports.get i = (saleTested i a n g s).ports.get i := by
    rw [startSale_eq]
    split
    · exact fillFault_clear i .estop none _ (.port i) (by simp)
    · exact (tryLeaveStarting_only i _ (.port i) (by simp)).trans (raiseNeeded_only i _ (.port i) (by simp))
  have htested : (saleTested i a n g s).ports.get i = (saleTold i a n g s).ports.get i :=
    saleTested_display i a n g s (.port i) (by simp)
  have hentered : (saleEntered i a n g s).ports.get i = s.ports.get i :=
    (saleEntered_only i a n g s (.port i) (by simp)).trans (saleOpened_only i a n g s (.port i) (by simp))
  rw [hafter, htested]
  unfold saleTold
  by_cases hr : a.source = .reader
  · rw [if_pos hr, pendAuthState_ports, hentered]
    exact if_congr ⟨fun h => ⟨hr, h⟩, fun h => h.2⟩ rfl rfl
  · rw [if_neg hr, if_neg (fun h => hr h.1), hentered]

/-! ### AUTHORIZE -/

/-- The limit an AUTHORIZE within its codes carries (R53). -/
def limitTaken (l : Option LimitFields) : Option Limit :=
  l.map (fun y => { kind := if y.kind = 0 then .money else .volume, value := max 100 (min y.value 999000) })

theorem authorizeLimit_good {l : Option LimitFields} (h : ∀ y ∈ l, y.kind ≤ 1) : authorizeLimit l = some (limitTaken l) := by
  rcases l with _ | ⟨k, v⟩
  · rfl
  · have hk : k ≤ 1 := h _ rfl
    match k, hk with
    | 0, _ => rfl
    | 1, _ => rfl

theorem authorizeLimit_bad {l : Option LimitFields} (h : ∃ y ∈ l, 2 ≤ y.kind) : authorizeLimit l = none := by
  obtain ⟨⟨k, v⟩, hl, hk⟩ := h
  obtain rfl : l = some ⟨k, v⟩ := hl
  obtain ⟨m, rfl⟩ := Nat.exists_eq_add_of_le' hk
  rfl

theorem takeAuthorize_bad {x : AuthorizeFields} {s : State}
    (h : 2 ≤ x.side ∨ x.grades = 0 ∨ x.level ≠ 1 ∧ x.level ≠ 2 ∨ (∃ y ∈ x.limit, 2 ≤ y.kind)) :
    takeAuthorize x s = refuse .badValue s := by
  unfold takeAuthorize
  split
  · next i l limit hi hl hlim =>
    refine if_pos ?_
    rcases h with h | h | h | h
    · rw [sideOf_none h] at hi; cases hi
    · exact h
    · rw [levelOf_none (by omega)] at hl; cases hl
    · rw [authorizeLimit_bad h] at hlim; cases hlim
  · rfl

/-- The authorization of an AUTHORIZE (R52, R53). -/
def linkAuth (reference : Option Nat) (grades : BitVec 8) (l : Level) (limit : Option LimitFields) (stamp : Option Nat) : Auth :=
  { source := .link, reference := reference, grades := grades, level := l, limit := limitTaken limit, phase := .waiting
    acceptedAt := stamp }

/-- The checks of an AUTHORIZE within its codes, in their order (R53). -/
theorem takeAuthorize_checks (i : Side) (reference : Option Nat) (grades : BitVec 8) (l : Level) {limit : Option LimitFields}
    (h : ∀ y ∈ limit, y.kind ≤ 1) (s : State) :
    takeAuthorize { side := Side.number i, reference := reference, grades := grades, level := Level.number l, limit := limit } s =
      if grades = 0 then refuse .badValue s
      else if nightMode s then refuse .night s
      else if (s.fill.get i).slot.isSome then refuse .alreadyAuthorized s
      else if !mayAuthorize s i then refuse .wrongState s
      else if stackFull s i then refuse .stackFull s
      else acceptAuth i (linkAuth reference grades l limit s.stamp) (answer .ok (optional limitField (limitTaken limit)) s) := by
  unfold takeAuthorize
  dsimp only
  rw [sideOf_number, levelOf_number, authorizeLimit_good h]
  rfl

theorem nightMode_iff (s : State) : nightMode s = true ↔ s.power.mode = .night ∨ s.power.mode = .nightPending := decide_eq_true_iff

theorem mayAuthorize_iff (s : State) (i : Side) : mayAuthorize s i = true ↔ s.sideState i = .idle ∨ s.sideState i = .calling :=
  decide_eq_true_iff

theorem stackFull_iff (s : State) (i : Side) : stackFull s i = true ↔ s.params.stackDepth ≤ ((s.register.queues.get i).length : Int) :=
  decide_eq_true_iff

/-- An AUTHORIZE that passes its checks. -/
structure Authorizable (i : Side) (grades : BitVec 8) (s : State) : Prop where
  grades : grades ≠ 0
  day : ¬(s.power.mode = .night ∨ s.power.mode = .nightPending)
  free : (s.fill.get i).slot = none
  state : s.sideState i = .idle ∨ s.sideState i = .calling
  room : ¬s.params.stackDepth ≤ ((s.register.queues.get i).length : Int)

/-- Such an AUTHORIZE is accepted (R53). -/
theorem takeAuthorize_accepts {i : Side} {grades : BitVec 8} {s : State} (h : Authorizable i grades s) (reference : Option Nat) (l : Level)
    {limit : Option LimitFields} (hl : ∀ y ∈ limit, y.kind ≤ 1) :
    takeAuthorize { side := Side.number i, reference := reference, grades := grades, level := Level.number l, limit := limit } s =
      acceptAuth i (linkAuth reference grades l limit s.stamp) (answer .ok (optional limitField (limitTaken limit)) s) := by
  have hmay : ¬(!mayAuthorize s i) = true := by
    rw [(mayAuthorize_iff s i).mpr h.state]
    decide
  rw [takeAuthorize_checks i reference grades l hl, if_neg h.grades, if_neg (fun hn => h.day ((nightMode_iff s).mp hn)),
    if_neg (by rw [h.free]; decide), if_neg hmay, if_neg (fun hf => h.room ((stackFull_iff s i).mp hf))]

/-- The answer to the request in service. -/
theorem answer_serving (kind tag : Nat) (fields : List Field) (s : State) :
    (answer .ok fields (s.serving kind tag)).link.answers kind tag .ok fields := .inl rfl

/-- What the event of an AUTHORIZE leaves whose authorization waits. -/
theorem AuthWaits.answered {i : Side} {a : Auth} {kind tag : Nat} {fields : List Field} {s u : State} (hs : Settled s)
    (h : AuthWaits i a (answer .ok fields (s.serving kind tag)) u) (ha : a.source = .link) :
    let t := settle s u
    t.fill.get i = { s.fill.get i with
      state := .authorized, slot := some a, authTimer := authTimerOf s, noFlowTimer := none, quietTimer := none
      afterFlowTimer := none } ∧
    t.link.answers kind tag .ok fields ∧ (∀ n, Room (n + 1) s → t.link.tells (.authEvent i a.source a.reference .accepted)) ∧
    OnlyChanges [.fill i, .blend i, .valves i, .display i, .link] s t := by
  have hserved : OnlyChanges (closureBlocks i) s (answer .ok fields (s.serving kind tag)) :=
    ((setLink_only s _).mono (by simp)).step (answer_only _ _ _) (by simp)
  have hport : u.ports.get i = s.ports.get i := by
    rw [h.port, authEntered_port, if_neg (by rw [ha]; rintro ⟨hr, _⟩; cases hr)]
    rfl
  have honly : OnlyChanges [.fill i, .blend i, .valves i, .display i, .link] s u :=
    (hserved.trans h.only).drop (b := .port i) hport (by simp)
  refine ⟨?_, ?_, fun n hr => (settle_keeps s u).tells _ (h.accepted n hr), honly.settle_clear s hs⟩
  · rw [settle_fill, h.fill]
    rfl
  · exact (settle_keeps s u).answers _ _ _ _ (h.keeps.answers _ _ _ _ (answer_serving kind tag fields s))

/-- What the event of an AUTHORIZE leaves whose side has entered STARTING. -/
theorem SaleStarted.answered {i : Side} {a : Auth} {n : Nozzle} {g : Grade} {kind tag : Nat} {fields : List Field} {s u : State}
    (hs : Settled s) (ha : a.source = .link) (hu : u = startSale i a n g (authEntered i a (answer .ok fields (s.serving kind tag))))
    (h : SaleStarted i a n g (authEntered i a (answer .ok fields (s.serving kind tag))) u) :
    let t := settle s u
    t.sideState i = .starting ∧ (t.fill.get i).slot = some { a with phase := .inUse } ∧ (t.fill.get i).authTimer = none ∧
    (t.fill.get i).sale = some (openContext s i a n g) ∧ t.link.answers kind tag .ok fields ∧
    (∀ k, Room (k + 2) s → t.link.tells (.authEvent i a.source a.reference .accepted) ∧
      t.link.tells (.authEvent i a.source a.reference .inUse)) ∧
    OnlyChanges [.fill i, .blend i, .valves i, .display i, .link, .register, .figures i, .sideMeters i,
      .meter { side := i, product := .lo }, .meter { side := i, product := .hi }, .motor .lo, .motor .hi] s t := by
  have hserved : OnlyChanges [.link] s (answer .ok fields (s.serving kind tag)) := (setLink_only s _).trans (answer_only _ _ _)
  have hentered : OnlyChanges [.fill i, .link, .port i] s (authEntered i a (answer .ok fields (s.serving kind tag))) :=
    (hserved.mono (by simp)).trans (authEntered_only i a _)
  have hport : u.ports.get i = s.ports.get i := by
    have hnot {p : Prop} : ¬(a.source = .reader ∧ p) := by rw [ha]; rintro ⟨hr, _⟩; cases hr
    rw [hu, startSale_port, if_neg hnot, authEntered_port, if_neg hnot]
    rfl
  have hcontext : openContext (authEntered i a (answer .ok fields (s.serving kind tag))) i a n g = openContext s i a n g := by
    have hreg : (authEntered i a (answer .ok fields (s.serving kind tag))).register = s.register := hentered .register (by simp)
    have hclock : (authEntered i a (answer .ok fields (s.serving kind tag))).clock = s.clock := hentered .clock (by simp)
    unfold openContext takenNumber State.stamp
    rw [hreg, hclock]
  have hfill := h.fill
  rw [hcontext] at hfill
  have honly := ((hentered.mono (by simp)).trans h.only).drop (b := .port i)
    (bs := [.fill i, .blend i, .valves i, .display i, .link, .register, .figures i, .sideMeters i,
      .meter { side := i, product := .lo }, .meter { side := i, product := .hi }, .motor .lo, .motor .hi]) hport (by simp)
  have hqueues : u.register.queues = s.register.queues := by
    rw [h.register, show (authEntered i a (answer .ok fields (s.serving kind tag))).register = s.register from hentered .register (by simp)]
  intro t
  have htf : t.fill.get i = u.fill.get i := by rw [settle_fill]
  refine ⟨?_, ?_, ?_, ?_, ?_, fun k hr => ⟨?_, ?_⟩, ?_⟩
  · rw [State.sideState, htf, hfill]
  · rw [htf, hfill]
  · rw [htf, hfill]
  · rw [htf, hfill]
  · exact (settle_keeps s u).answers _ _ _ _ (h.keeps.answers _ _ _ _
      ((authEntered_keeps i a _).answers _ _ _ _ (answer_serving kind tag fields s)))
  · exact (settle_keeps s u).tells _ (h.keeps.tells _ (authEntered_tells (n := k + 1) hr))
  · exact (settle_keeps s u).tells _ (h.tells k (authEntered_room (n := k + 1) hr))
  · refine honly.settle s hs (by simp) (fun j _ => ?_) (fun _ => ⟨congrArg Power.mode (honly .power (by simp)), honly .supplyFailInput (by simp)⟩)
    unfold pendingDelivery
    rw [hqueues]

/-! ### CANCEL_AUTH and the authorization timer -/

/-- The side of a withdrawn authorization: its slot is empty, and its state is that of its nozzle record (R47, R54). -/
def Fill.withdrawn (f : Fill) : Fill :=
  { f with
    state := if f.counted.any (fun c => c.grade.isSome) then .calling else .idle
    slot := none, authTimer := none, noFlowTimer := none, quietTimer := none, afterFlowTimer := none }

/-- What the withdrawal of the WAITING authorization of an AUTHORIZED side leaves (R54). -/
structure Withdrawn (i : Side) (why : RemovalReason) (a : Auth) (s t : State) : Prop where
  fill : t.fill.get i = (s.fill.get i).withdrawn
  tells : ∀ n, Room (n + 1) s → t.link.tells (.authEvent i a.source a.reference (.removed why))
  keeps : s.link.Keeps t.link

theorem withdrawWaiting_withdrawn {i : Side} {why : RemovalReason} {tell : Bool} {a : Auth} {s : State}
    (ha : (s.fill.get i).slot = some a) (hp : a.phase = .waiting) (hst : s.sideState i = .authorized) :
    Withdrawn i why a s (withdrawWaiting i why tell s) := by
  have hfill : (removeWaiting i why tell s).fill.get i = { s.fill.get i with slot := none, authTimer := none } := by
    rw [removeWaiting_fill, Fill.withoutWaiting_waiting ha hp]
  have hstate : (removeWaiting i why tell s).sideState i = .authorized := by
    rw [State.sideState, hfill]
    exact hst
  have hwas : (s.fill.get i).slot.any (fun a => a.phase = .waiting) = true := by rw [ha]; exact decide_eq_true hp
  have he : withdrawWaiting i why tell s = enterImplied i (removeWaiting i why tell s) := if_pos ⟨hwas, hstate⟩
  rw [he]
  unfold enterImplied
  refine ⟨?_, fun n hr => ?_, ?_⟩
  · have hne : (removeWaiting i why tell s).sideState i ≠ ((removeWaiting i why tell s).fill.get i).impliedState := by
      rw [hstate]
      unfold Fill.impliedState
      split <;> decide
    rw [enterState_fill hne, hfill]
    unfold Fill.withdrawn Fill.impliedState
    dsimp only
    split
    · rfl
    · rfl
  · rw [enterState_link]
    exact removeWaiting_tells ha hp hr
  · rw [enterState_link]
    exact removeWaiting_keeps i why tell s

/-- Settles O32: the checks by `takeAuthorize_checks`; an accepted authorization that waits (`AuthWaits`) or starts the fill
(`SaleStarted`); a withdrawal by `Withdrawn`. -/
theorem authorizationsEnterAndLeaveTheSlot : Obligations.AuthorizationsEnterAndLeaveTheSlot := by
  intro tag i s hs f frame
  refine ⟨fun hf x hx => replied_of_refuse hs hf Kind.authorize tag x takeAuthorize _ (takeAuthorize_bad hx), ?_, ?_, ?_, ?_, ?_⟩
  · intro reference grades l limit hf hl c lim night full
    have hchecks := takeAuthorize_checks i reference grades l hl (s.serving Kind.authorize tag)
    have hrefused {st : Status} (h : takeAuthorize
        { side := Side.number i, reference := reference, grades := grades, level := Level.number l, limit := limit }
        (s.serving Kind.authorize tag) = refuse st (s.serving Kind.authorize tag)) :
        exec c s = .next (s.replied Kind.authorize tag st []) := replied_of_refuse hs hf Kind.authorize tag _ takeAuthorize st h
    have hday (h : ¬night) : ¬nightMode (s.serving Kind.authorize tag) = true := fun hn => h ((nightMode_iff s).mp hn)
    have hmay (h : f.state = .idle ∨ f.state = .calling) : ¬(!mayAuthorize (s.serving Kind.authorize tag) i) = true := by
      rw [show mayAuthorize (s.serving Kind.authorize tag) i = true from (mayAuthorize_iff s i).mpr h]
      decide
    have hempty (h : f.slot = none) : ¬((s.serving Kind.authorize tag).fill.get i).slot.isSome = true := by
      rw [show ((s.serving Kind.authorize tag).fill.get i).slot = none from h]
      decide
    have haccepted (hg : grades ≠ 0) (hn : ¬night) (hslot : f.slot = none) (hst : f.state = .idle ∨ f.state = .calling) (hfull : ¬full) :
        exec c s = .next (settle s (acceptAuth i (linkAuth reference grades l limit s.stamp)
          (answer .ok (optional limitField (limitTaken limit)) (s.serving Kind.authorize tag)))) := by
      refine (event_request hf Kind.authorize tag _ takeAuthorize).trans ?_
      have hok : Authorizable i grades (s.serving Kind.authorize tag) := ⟨hg, hn, hslot, hst, hfull⟩
      rw [takeAuthorize_accepts hok reference l hl]
      rfl
    refine ⟨fun hg => ?_, fun hg hn => ?_, fun hg hn hslot => ?_, fun hg hn hslot h1 h2 => ?_, fun hg hn hslot hst hfull => ?_,
      fun hg hn hslot hst hfull => ?_, fun n g hg hn hslot hst hfull hc => ?_⟩
    · exact hrefused (hchecks.trans (if_pos hg))
    · exact hrefused ((hchecks.trans (if_neg hg)).trans (if_pos ((nightMode_iff s).mpr hn)))
    · refine hrefused (hchecks.trans ?_)
      rw [if_neg hg, if_neg (hday hn)]
      exact if_pos (Option.isSome_iff_ne_none.mpr hslot)
    · refine hrefused (hchecks.trans ?_)
      rw [if_neg hg, if_neg (hday hn), if_neg (hempty hslot)]
      refine if_pos ?_
      rw [Bool.not_eq_true', Bool.eq_false_iff]
      exact fun hm => ((mayAuthorize_iff s i).mp hm).elim h1 h2
    · refine hrefused (hchecks.trans ?_)
      rw [if_neg hg, if_neg (hday hn), if_neg (hempty hslot), if_neg (hmay hst)]
      exact if_pos ((stackFull_iff s i).mpr hfull)
    · obtain ⟨hfill, hans, htells, honly⟩ := (acceptAuth_idle (linkAuth reference grades l limit s.stamp)
        (s := answer .ok (optional limitField (limitTaken limit)) (s.serving Kind.authorize tag)) hst).answered hs rfl
      exact ⟨_, haccepted hg hn hslot (.inl hst) hfull, hfill, hans, htells 1, honly⟩
    · intro a refused
      have htable : refused = liftRefusal (answer .ok (optional limitField (limitTaken limit)) (s.serving Kind.authorize tag)) i a g :=
        (liftRefusal_table s i a g).symm
      have hexec := haccepted hg hn hslot (.inr hst) hfull
      refine ⟨fun r hr => ?_, fun hr he hw => ⟨takenNumber_given s i, ?_⟩⟩
      · obtain ⟨hwaits, hrefuse⟩ := acceptAuth_refused (linkAuth reference grades l limit s.stamp)
          (s := answer .ok (optional limitField (limitTaken limit)) (s.serving Kind.authorize tag)) hst hc (htable.symm.trans hr)
        obtain ⟨hfill, hans, htells, honly⟩ := hwaits.answered hs rfl
        exact ⟨_, hexec, hfill, hans, fun hroom => ⟨htells 2 hroom, (settle_keeps s _).tells _ (hrefuse 1 hroom)⟩, honly⟩
      · obtain ⟨heq, hstart⟩ := acceptAuth_starts (linkAuth reference grades l limit s.stamp)
          (s := answer .ok (optional limitField (limitTaken limit)) (s.serving Kind.authorize tag)) hst hc (htable.symm.trans hr) he hw
        obtain ⟨hside, hinuse, htimer, hsale, hans, htells, honly⟩ := hstart.answered hs rfl heq
        exact ⟨_, hexec, hside, hinuse, htimer, hsale, hans, htells 1, honly⟩
  · intro a ha hp hst left
    refine ⟨fun hf => ?_, fun ht => ?_⟩
    · have htake : takeCancelAuth i (s.serving Kind.cancelAuth tag) =
          withdrawWaiting i .cancelled true (answer .ok [] (s.serving Kind.cancelAuth tag)) := by
        unfold takeCancelAuth
        rw [show ((s.serving Kind.cancelAuth tag).fill.get i).slot = some a from ha]
        dsimp only
        rw [hp]
      have hleft := withdrawWaiting_withdrawn (why := .cancelled) (tell := true) (s := answer .ok [] (s.serving Kind.cancelAuth tag))
        ha hp hst
      have honly : OnlyChanges (closureBlocks i) s (withdrawWaiting i .cancelled true (answer .ok [] (s.serving Kind.cancelAuth tag))) :=
        (((setLink_only s _).mono (by simp)).step (answer_only _ _ _) (by simp)).step (withdrawWaiting_only i _ _ _) (List.Subset.refl _)
      refine ⟨_, (event_sideRequest hf Kind.cancelAuth tag i takeCancelAuth).trans (by rw [htake]), ?_, ?_, fun hr => ?_,
        (honly.settle_clear s hs).mono (by simp [frame])⟩
      · rw [settle_fill, hleft.fill]
        rfl
      · exact (settle_keeps s _).answers _ _ _ _ (hleft.keeps.answers _ _ _ _ (answer_serving Kind.cancelAuth tag [] s))
      · exact (settle_keeps s _).tells _ (hleft.tells 1 hr)
    · have hleft := withdrawWaiting_withdrawn (why := .expired) (tell := true) ha hp hst
      refine ⟨_, congrArg (fun u => Host.Outcome.next (settle s u)) (if_pos (Option.isSome_iff_ne_none.mpr ht)), ?_, fun hr => ?_,
        ((withdrawWaiting_only i .expired true s).settle_clear s hs).mono (by simp [frame])⟩
      · rw [settle_fill, hleft.fill]
        rfl
      · exact (settle_keeps s _).tells _ (hleft.tells 1 hr)
  · intro h
    refine hs.event_none (if_neg ?_)
    rw [show (s.fill.get i).authTimer = none from h]
    decide
  · intro hf h
    refine replied_of_sideRefuse hs hf Kind.cancelAuth tag i takeCancelAuth _ _ ?_
    unfold takeCancelAuth
    rw [show ((s.serving Kind.cancelAuth tag).fill.get i).slot = none from h]
    rfl
  · intro hf a ha hp
    refine replied_of_sideRefuse hs hf Kind.cancelAuth tag i takeCancelAuth _ _ ?_
    unfold takeCancelAuth
    rw [show ((s.serving Kind.cancelAuth tag).fill.get i).slot = some a from ha]
    dsimp only
    rw [hp]
    rfl

end Sys2Proof.Machine

namespace Sys2Proof.Machine

open Sys2Proof

/-! ### A payment record that reaches its owner -/

/-- The port that has consumed a payment record out of its committed bucket (R137, R139, R141). -/
def Port.consumes (p : Port) : Port :=
  { p with
    receiver := .hunting, committed := p.committed - 1
    counters := { p.counters with received := p.counters.received + 1, consumed := p.counters.consumed + 1 } }

/-- A payment record of its own length at an ADMITTED port with a committed token passes the check list (R140). -/
theorem arrive_consumes {i : Side} {cls tag : Nat} {s : State} (take : State → State) (hp : (s.ports.get i).state = .admitted)
    (hl : Cls.length cls ≤ (s.ports.get i).terms.elim 200 (fun x => x.maxBody)) (hc : 1 ≤ (s.ports.get i).committed)
    (hcls : cls = Cls.grant ∨ cls = Cls.cancel) :
    arrive i true cls tag (Cls.length cls) (fun u => take (countConsumed i u)) s =
      take (s.setPort i (s.ports.get i).consumes) := by
  have hbuilt : cls ∈ Cls.builtIn := by rcases hcls with rfl | rfl <;> decide
  have hadmission : Cls.isAdmission cls = false := by rcases hcls with rfl | rfl <;> decide
  have hpayment : Cls.isPayment cls = true := by rcases hcls with rfl | rfl <;> decide
  have hget : (s.setPort i (s.ports.get i).frameTaken).ports.get i = (s.ports.get i).frameTaken := PerSide.get_set_same _ _ _
  have hrunning : (s.ports.get i).state.running = true := by rw [hp]; rfl
  have hjudge : judge (s.setPort i (s.ports.get i).frameTaken) i true cls tag (Cls.length cls) =
      ({ (s.ports.get i).frameTaken with committed := (s.ports.get i).committed - 1 }, none) := by
    have hlimit : ¬(!true ∨ (s.ports.get i).frameTaken.bodyLimit < Cls.length cls) := by
      have hb : (s.ports.get i).frameTaken.bodyLimit = (s.ports.get i).terms.elim 200 (fun x => x.maxBody) := if_pos hp
      rw [hb]
      rintro (h | h)
      · exact absurd h (by decide)
      · omega
    have hstate : ¬(s.ports.get i).frameTaken.wrongState cls = true := by
      have hw : (s.ports.get i).frameTaken.wrongState cls = Cls.isAdmission cls :=
        if_neg (fun h => by rw [show (s.ports.get i).frameTaken.state = .admitted from hp] at h; cases h)
      rw [hw, hadmission]
      decide
    have hside : ¬(!readerSide (s.setPort i (s.ports.get i).frameTaken).classes cls) = true := by
      unfold readerSide
      rw [hpayment]
      simp
    have hlength : ¬wrongLength (s.setPort i (s.ports.get i).frameTaken).classes cls (Cls.length cls) = true := by
      unfold wrongLength
      rw [if_pos hbuilt]
      simp
    have hrate : classRate (s.setPort i (s.ports.get i).frameTaken).classes cls = (1, true) := if_pos hbuilt
    have hmeter : (s.ports.get i).frameTaken.meterRecord 1 true =
        ({ (s.ports.get i).frameTaken with committed := (s.ports.get i).committed - 1 }, true) := by
      have hcolour : (s.ports.get i).frameTaken.colour 1 = .green := if_pos hc
      unfold Port.meterRecord
      rw [hcolour]
      rfl
    have hasked : unasked (s.setPort i (s.ports.get i).frameTaken) i cls tag = false := by
      unfold unasked
      rw [decide_eq_false (fun h => h hbuilt)]
      rfl
    unfold judge
    dsimp only
    rw [hget, if_neg hlimit, if_neg hstate, if_neg hside, if_neg hlength, if_neg (by rw [hadmission]; decide), hrate]
    dsimp only
    rw [hmeter]
    dsimp only
    rw [hasked]
    rfl
  have hcount : countConsumed i ((s.setPort i (s.ports.get i).frameTaken).setPort i
      { (s.ports.get i).frameTaken with committed := (s.ports.get i).committed - 1 }) = s.setPort i (s.ports.get i).consumes := by
    unfold countConsumed
    simp [State.setPort, Port.consumes, Port.frameTaken]
  unfold arrive
  dsimp only
  rw [if_pos hrunning, hjudge]
  exact congrArg take hcount

/-- The transmitter of an ADMITTED port starts a pending AUTH_STATE first, or keeps it pending (R133). -/
theorem Port.starts_tellsAuth {p : Port} (d : Option SaleRecord) {x : AuthStateRecord} (h : p.state = .admitted)
    (hx : p.pendingAuth = some x) : (p.starts d).pendingAuth = some x ∨ (p.starts d).tx = some (.authState x) := by
  by_cases ht : p.tx = none
  · rw [Port.starts_admitted d ht h]
    unfold Port.startNext
    rw [hx]
    exact .inr rfl
  · rw [Port.starts_busy d ht]
    exact .inl hx

theorem Port.starts_counters_eq (p : Port) (d : Option SaleRecord) : (p.starts d).counters = p.counters := by
  have h := congrArg Port.counters (Port.starts_counters p d p.counters)
  exact h

/-- The port after a payment record that its owner has answered (R141, R145). -/
def Port.answered (p : Port) (x : AuthStateRecord) : Port := { p.consumes with pendingAuth := some x }

/-- What the end of the event shows of that port. -/
theorem answered_told {i : Side} {p : Port} {x : AuthStateRecord} (old : State) {u : State} (hp : p.state = .admitted)
    (hu : u.ports.get i = p.answered x) :
    (((settle old u).ports.get i).pendingAuth = some x ∨ ((settle old u).ports.get i).tx = some (.authState x)) ∧
      ((settle old u).ports.get i).counters =
        { p.counters with received := p.counters.received + 1, consumed := p.counters.consumed + 1 } := by
  rw [settle_ports, startReader_eq, hu, Port.starts_counters_eq]
  exact ⟨Port.starts_tellsAuth _ hp rfl, rfl⟩

/-- The port of a consumed record whose owner has pended an AUTH_STATE. -/
theorem pendAuthState_answered {i : Side} {p : Port} {s : State} (k : AuthStateKind) (r : Nat) (hp : p.state = .admitted)
    (hs : s.ports.get i = p.consumes) : (pendAuthState i k r s).ports.get i = p.answered { kind := k, reference := r } := by
  rw [pendAuthState_ports, hs]
  exact if_pos hp

/-! ### AUTH_GRANT -/

/-- The limits an AUTH_GRANT may carry (R146). -/
def grantGood (kind value revision : Nat) : Prop :=
  kind = 0 ∨ (100 ≤ value ∧ value ≤ 999000 ∧ (kind = 1 ∨ kind = 2 ∧ revision ≠ 1))

/-- The limit of an AUTH_GRANT that may carry it (R146). -/
def grantTaken (kind value : Nat) : Option Limit :=
  if kind = 0 then none else some { kind := if kind = 1 then .money else .volume, value := value }

theorem grantLimit_good {kind value revision : Nat} (h : grantGood kind value revision) :
    grantLimit kind value revision = some (grantTaken kind value) := by
  unfold grantLimit
  dsimp only
  rcases h with rfl | ⟨h1, h2, rfl | ⟨rfl, hr⟩⟩
  · rfl
  · exact if_pos (decide_eq_true ⟨h1, h2⟩)
  · exact if_pos ⟨decide_eq_true ⟨h1, h2⟩, hr⟩

theorem grantLimit_bad {kind value revision : Nat} (h : ¬grantGood kind value revision) : grantLimit kind value revision = none := by
  unfold grantGood at h
  unfold grantLimit
  dsimp only
  match kind with
  | 0 => exact absurd (.inl rfl) h
  | 1 => exact if_neg (fun hb => h (.inr ⟨(of_decide_eq_true hb).1, (of_decide_eq_true hb).2, .inl rfl⟩))
  | 2 => exact if_neg (fun hb => h (.inr ⟨(of_decide_eq_true hb.1).1, (of_decide_eq_true hb.1).2, .inr ⟨rfl, hb.2⟩⟩))
  | _ + 3 => rfl

/-- What makes a grant fail its checks, and why (R146). -/
def grantFails (i : Side) (grades : BitVec 8) (good : Prop) (s : State) (reason : PaymentReason) : Prop :=
  let night : Prop := s.power.mode = .night ∨ s.power.mode = .nightPending
  let f := s.fill.get i
  let full : Prop := s.params.stackDepth ≤ ((s.register.queues.get i).length : Int)
  grades = 0 ∧ reason = .grades ∨ grades ≠ 0 ∧ ¬good ∧ reason = .range ∨
    grades ≠ 0 ∧ good ∧ night ∧ reason = .night ∨
    grades ≠ 0 ∧ good ∧ ¬night ∧ f.slot ≠ none ∧ reason = .alreadyAuthorized ∨
    grades ≠ 0 ∧ good ∧ ¬night ∧ f.slot = none ∧ f.state ≠ .idle ∧ f.state ≠ .calling ∧ reason = .closed ∨
    grades ≠ 0 ∧ good ∧ ¬night ∧ f.slot = none ∧ (f.state = .idle ∨ f.state = .calling) ∧ full ∧ reason = .stackFull

/-- A grant within the limits, by what its part and its side are (R146). -/
theorem judgeGrant_checks {s : State} {i : Side} {grades : BitVec 8} {kind value : Nat} (hg : grades ≠ 0)
    (hgood : grantGood kind value (agreedRevision s i)) :
    judgeGrant s i grades kind value =
      if nightMode s then .error .night
      else if (s.fill.get i).slot.isSome then .error .alreadyAuthorized
      else if !mayAuthorize s i then .error .closed
      else if stackFull s i then .error .stackFull
      else .ok (grantTaken kind value) := by
  unfold judgeGrant
  rw [if_neg hg, grantLimit_good hgood]

theorem judgeGrant_fails {s : State} {i : Side} {grades : BitVec 8} {kind value : Nat} {reason : PaymentReason}
    (h : grantFails i grades (grantGood kind value (agreedRevision s i)) s reason) :
    judgeGrant s i grades kind value = .error reason := by
  have hday (hn : ¬(s.power.mode = .night ∨ s.power.mode = .nightPending)) : ¬nightMode s = true := fun h => hn ((nightMode_iff s).mp h)
  have hempty (hslot : (s.fill.get i).slot = none) : ¬(s.fill.get i).slot.isSome = true := by rw [hslot]; decide
  rcases h with ⟨hg, rfl⟩ | ⟨hg, hbad, rfl⟩ | ⟨hg, hgood, hn, rfl⟩ | ⟨hg, hgood, hn, hslot, rfl⟩ | ⟨hg, hgood, hn, hslot, h1, h2, rfl⟩ |
    ⟨hg, hgood, hn, hslot, hst, hfull, rfl⟩
  · exact if_pos hg
  · unfold judgeGrant
    rw [if_neg hg, grantLimit_bad hbad]
  · exact (judgeGrant_checks hg hgood).trans (if_pos ((nightMode_iff s).mpr hn))
  · rw [judgeGrant_checks hg hgood, if_neg (hday hn)]
    exact if_pos (Option.isSome_iff_ne_none.mpr hslot)
  · rw [judgeGrant_checks hg hgood, if_neg (hday hn), if_neg (hempty hslot)]
    refine if_pos ?_
    rw [Bool.not_eq_true', Bool.eq_false_iff]
    exact fun hm => ((mayAuthorize_iff s i).mp hm).elim h1 h2
  · rw [judgeGrant_checks hg hgood, if_neg (hday hn), if_neg (hempty hslot),
      if_neg (by rw [(mayAuthorize_iff s i).mpr hst]; decide)]
    exact if_pos ((stackFull_iff s i).mpr hfull)

theorem judgeGrant_passes {s : State} {i : Side} {grades : BitVec 8} {kind value : Nat} (h : Authorizable i grades s)
    (hgood : grantGood kind value (agreedRevision s i)) : judgeGrant s i grades kind value = .ok (grantTaken kind value) := by
  rw [judgeGrant_checks h.grades hgood, if_neg (fun hn => h.day ((nightMode_iff s).mp hn)), if_neg (by rw [h.free]; decide),
    if_neg (by rw [(mayAuthorize_iff s i).mpr h.state]; decide), if_neg (fun hf => h.room ((stackFull_iff s i).mp hf))]

/-- The authorization of an AUTH_GRANT (R147). -/
def grantAuth (reference : Nat) (grades : BitVec 8) (kind value : Nat) (stamp : Option Nat) : Auth :=
  { source := .reader, reference := some reference, grades := grades, level := .l2, limit := grantTaken kind value, phase := .waiting
    acceptedAt := stamp }

/-- A payment record at an ADMITTED port with room in its committed bucket. -/
structure Payable (i : Side) (s : State) : Prop where
  state : (s.ports.get i).state = .admitted
  body : 9 ≤ (s.ports.get i).terms.elim 200 (fun x => x.maxBody)
  token : 1 ≤ (s.ports.get i).committed

/-- The state in which the owner of a payment record takes it. -/
def State.consumed (s : State) (i : Side) : State := s.setPort i (s.ports.get i).consumes

theorem State.consumed_port (s : State) (i : Side) : (s.consumed i).ports.get i = (s.ports.get i).consumes := PerSide.get_set_same _ _ _

theorem State.consumed_only (s : State) (i : Side) : OnlyChanges [.port i] s (s.consumed i) := setPort_only _ _ _

theorem grant_exec {i : Side} {s : State} (h : Payable i s) (tag reference : Nat) (grades : BitVec 8) (kind value : Nat) :
    exec (.authGrant i tag reference grades kind value) s = .next (settle s (takeGrant i reference grades kind value (s.consumed i))) :=
  congrArg (fun u => Host.Outcome.next (settle s u))
    (arrive_consumes (takeGrant i reference grades kind value) h.state h.body h.token (.inl rfl))

theorem cancel_exec {i : Side} {s : State} (h : Payable i s) (tag reference : Nat) :
    exec (.authCancel i tag reference) s = .next (settle s (takeCancel i reference (s.consumed i))) :=
  congrArg (fun u => Host.Outcome.next (settle s u))
    (arrive_consumes (takeCancel i reference) h.state (Nat.le_trans (by decide) h.body) h.token (.inr rfl))

/-- The revision agreed with a port stands while a record is consumed. -/
theorem consumed_revision (s : State) (i : Side) : agreedRevision (s.consumed i) i = (s.ports.get i).terms.elim 0 (fun x => x.revision) := by
  unfold agreedRevision
  rw [State.consumed_port]
  rfl

theorem takeGrant_accepts {i : Side} {grades : BitVec 8} {kind value : Nat} {s : State} (h : Authorizable i grades (s.consumed i))
    (hgood : grantGood kind value ((s.ports.get i).terms.elim 0 (fun x => x.revision))) (reference : Nat) :
    takeGrant i reference grades kind value (s.consumed i) =
      acceptAuth i (grantAuth reference grades kind value s.stamp) (s.consumed i) := by
  unfold takeGrant
  rw [judgeGrant_passes h (by rw [consumed_revision]; exact hgood)]
  rfl

/-- What the event of a grant leaves whose authorization waits (R147). -/
theorem AuthWaits.granted {i : Side} {a : Auth} {s u : State} (hs : Settled s) (h : AuthWaits i a (s.consumed i) u)
    (hp : (s.ports.get i).state = .admitted) (ha : a.source = .reader) :
    u.ports.get i = (s.ports.get i).answered { kind := .accepted, reference := a.reference.getD 0 } ∧
    (settle s u).fill.get i = { s.fill.get i with
      state := .authorized, slot := some a, authTimer := authTimerOf s, noFlowTimer := none, quietTimer := none
      afterFlowTimer := none } ∧
    (∀ n, Room (n + 1) s → (settle s u).link.tells (.authEvent i a.source a.reference .accepted)) ∧
    OnlyChanges [.fill i, .blend i, .valves i, .display i, .port i, .link] s (settle s u) := by
  have honly : OnlyChanges (closureBlocks i) s u := ((s.consumed_only i).mono (by simp)).trans h.only
  refine ⟨?_, ?_, fun n hr => (settle_keeps s u).tells _ (h.accepted n hr), (honly.settle_clear s hs).mono (by simp)⟩
  · rw [h.port, authEntered_port, State.consumed_port]
    exact if_pos ⟨ha, hp⟩
  · rw [settle_fill, h.fill]
    rfl

/-- What the event of a grant leaves whose side has entered STARTING (R147). -/
theorem SaleStarted.granted {i : Side} {a : Auth} {n : Nozzle} {g : Grade} {s u : State} (hs : Settled s)
    (hp : (s.ports.get i).state = .admitted) (ha : a.source = .reader) (hu : u = startSale i a n g (authEntered i a (s.consumed i)))
    (h : SaleStarted i a n g (authEntered i a (s.consumed i)) u) :
    u.ports.get i = (s.ports.get i).answered { kind := .started (takenNumber s i), reference := a.reference.getD 0 } ∧
    (settle s u).sideState i = .starting ∧ ((settle s u).fill.get i).slot = some { a with phase := .inUse } ∧
    ((settle s u).fill.get i).authTimer = none ∧ ((settle s u).fill.get i).sale = some (openContext s i a n g) ∧
    (∀ k, Room (k + 2) s → (settle s u).link.tells (.authEvent i a.source a.reference .accepted) ∧
      (settle s u).link.tells (.authEvent i a.source a.reference .inUse)) ∧
    OnlyChanges [.fill i, .blend i, .valves i, .display i, .port i, .link, .register, .figures i, .sideMeters i,
      .meter { side := i, product := .lo }, .meter { side := i, product := .hi }, .motor .lo, .motor .hi] s (settle s u) := by
  have hentered : OnlyChanges [.fill i, .link, .port i] s (authEntered i a (s.consumed i)) :=
    ((s.consumed_only i).mono (by simp)).trans (authEntered_only i a _)
  have hreg : (authEntered i a (s.consumed i)).register = s.register := hentered .register (by simp)
  have hnumber : takenNumber (authEntered i a (s.consumed i)) i = takenNumber s i := by
    unfold takenNumber
    rw [hreg]
  have hcontext : openContext (authEntered i a (s.consumed i)) i a n g = openContext s i a n g := by
    have hclock : (authEntered i a (s.consumed i)).clock = s.clock := hentered .clock (by simp)
    unfold openContext State.stamp
    rw [hnumber, hclock]
  have hport : (authEntered i a (s.consumed i)).ports.get i =
      { (s.ports.get i).consumes with pendingAuth := some { kind := .accepted, reference := a.reference.getD 0 } } := by
    rw [authEntered_port, State.consumed_port]
    exact if_pos ⟨ha, hp⟩
  have hfill := h.fill
  rw [hcontext] at hfill
  have honly : OnlyChanges (startBlocks i) s u := (hentered.mono (by simp)).trans h.only
  have hqueues : u.register.queues = s.register.queues := by rw [h.register, hreg]
  have htf : (settle s u).fill.get i = u.fill.get i := by rw [settle_fill]
  refine ⟨?_, ?_, ?_, ?_, ?_, fun k hr => ⟨?_, ?_⟩, ?_⟩
  · rw [hu, startSale_port, hport, hnumber]
    exact if_pos ⟨ha, hp⟩
  · rw [State.sideState, htf, hfill]
  · rw [htf, hfill]
  · rw [htf, hfill]
  · rw [htf, hfill]
  · exact (settle_keeps s u).tells _ (h.keeps.tells _ (authEntered_tells (n := k + 1) hr))
  · exact (settle_keeps s u).tells _ (h.tells k (authEntered_room (n := k + 1) hr))
  · refine (honly.settle s hs (by simp) (fun j _ => ?_)
      (fun _ => ⟨congrArg Power.mode (honly .power (by simp)), honly .supplyFailInput (by simp)⟩)).mono (by simp)
    unfold pendingDelivery
    rw [hqueues]

/-! ### AUTH_CANCEL -/

theorem takeCancel_unknown {i : Side} {reference : Nat} {s : State}
    (h : (s.fill.get i).slot = none ∨ ∃ a, (s.fill.get i).slot = some a ∧ (a.source ≠ .reader ∨ a.reference ≠ some reference)) :
    takeCancel i reference s = pendAuthState i (.refused .unknown) reference s := by
  unfold takeCancel
  rcases h with h | ⟨a, h, hno⟩
  · rw [h]
  · rw [h]
    refine if_neg ?_
    unfold matchesCancel
    rw [Bool.and_eq_true, beq_iff_eq, beq_iff_eq]
    rintro ⟨h1, h2⟩
    rcases hno with hno | hno
    · exact hno h1
    · exact hno h2

theorem matchesCancel_of {a : Auth} {reference : Nat} (h1 : a.source = .reader) (h2 : a.reference = some reference) :
    matchesCancel a reference = true := by
  unfold matchesCancel
  rw [h1, h2]
  simp

theorem takeCancel_waiting {i : Side} {reference : Nat} {a : Auth} {s : State} (h : (s.fill.get i).slot = some a)
    (h1 : a.source = .reader) (h2 : a.reference = some reference) (hp : a.phase = .waiting) :
    takeCancel i reference s = pendAuthState i .cancelled reference (withdrawWaiting i .cancelled false s) := by
  unfold takeCancel
  rw [h]
  dsimp only
  rw [if_pos (matchesCancel_of h1 h2), hp]

theorem takeCancel_inUse {i : Side} {reference : Nat} {a : Auth} {x : SaleContext} {s : State} (h : (s.fill.get i).slot = some a)
    (h1 : a.source = .reader) (h2 : a.reference = some reference) (hp : a.phase = .inUse) (hx : (s.fill.get i).sale = some x) :
    takeCancel i reference s = pendAuthState i (.stopped x.number) reference (finalStop i .readerCancel s) := by
  have hnumber : (saleNumber s i).getD 0 = x.number := by
    unfold saleNumber
    rw [hx]
    rfl
  unfold takeCancel
  rw [h]
  dsimp only
  rw [if_pos (matchesCancel_of h1 h2), hp]
  dsimp only
  rw [hnumber]

/-- A withdrawal that does not tell the reader leaves its port. -/
theorem withdrawWaiting_port {i : Side} {why : RemovalReason} {a : Auth} {s : State} (ha : (s.fill.get i).slot = some a)
    (hp : a.phase = .waiting) : (withdrawWaiting i why false s).ports.get i = s.ports.get i := by
  have hremoved : (removeWaiting i why false s).ports.get i = s.ports.get i := by
    unfold removeWaiting
    dsimp only
    rw [ha]
    dsimp only
    rw [hp]
    rfl
  unfold withdrawWaiting
  dsimp only
  split
  · exact (enterImplied_only i _ (.port i) (by simp)).trans hremoved
  · exact hremoved

/-- What a final stop by the reader makes of a fill (R59, R148). -/
theorem finalStop_cancels {i : Side} {x : SaleContext} {s : State} (hx : (s.fill.get i).sale = some x) :
    let u := finalStop i .readerCancel s
    (s.sideState i = .starting → u.sideState i = .ending ∧
      (u.fill.get i).sale = some { x with stop := some .readerCancel, ended := some .cancelled }) ∧
    ((s.sideState i).isOpen = true → u.sideState i = .held ∧ u.valves.get i = { lo := 0, hi := 0 } ∧
      (u.fill.get i).sale = some { x with stop := some .readerCancel }) ∧
    (s.sideState i = .held → x.stop = some .suspend →
      u.sideState i = .held ∧ (u.fill.get i).sale = some { x with stop := some .readerCancel }) ∧
    (s.sideState i = .held → x.stop ≠ some .suspend → u.fill.get i = s.fill.get i) ∧
    (s.sideState i = .ending → u.fill.get i = s.fill.get i) := by
  have hstop : stopReason s i = x.stop := by
    unfold stopReason
    rw [hx]
    rfl
  intro u
  refine ⟨fun h => ?_, fun h => ?_, fun h hsus => ?_, fun h hsus => ?_, fun h => ?_⟩
  · have hne : (setSale i (fun c => { c with stop := some .readerCancel }) s).sideState i ≠ .ending := by
      rw [setSale_sideState, h]; decide
    have hend := (endFill_ended .cancelled hne).fill
    have hu : u = endFill i .cancelled (setSale i (fun c => { c with stop := some .readerCancel }) s) := finalStop_starting _ h
    rw [hu, State.sideState, hend, setSale_fill, hx]
    exact ⟨rfl, rfl⟩
  · have hh := hold_held (s := s) .readerCancel (SideState.ne_of_isOpen h rfl)
    have hu : u = hold i .readerCancel s := finalStop_open _ h
    rw [hu, hh.sale, hx]
    exact ⟨hh.state, hh.valves, rfl⟩
  · have hu : u = setSale i (fun c => { c with stop := some .readerCancel }) s := by
      refine (finalStop_held _ h).trans (if_pos ?_)
      rw [hstop, hsus]
    rw [hu, setSale_sideState, setSale_fill, hx]
    exact ⟨h, rfl⟩
  · have hu : u = s := by
      refine (finalStop_held _ h).trans (if_neg ?_)
      rw [hstop]
      exact hsus
    rw [hu]
  · rw [show u = s from finalStop_ending _ h]

/-- Settles O51: a grant by `judgeGrant_fails`, `AuthWaits` and `SaleStarted`; a cancel by what the slot holds. -/
theorem grantsAndCancelsAreAnswered : Obligations.GrantsAndCancelsAreAnswered := by
  intro i tag reference s hs p f told counted frame hadm hbody htoken
  have hpay : Payable i s := ⟨hadm, hbody, htoken⟩
  have hanswered {u : State} {k : AuthStateKind} (hu : u.ports.get i = p.answered { kind := k, reference := reference }) :
      told (settle s u) k ∧ counted (settle s u) := answered_told s hadm hu
  refine ⟨fun grades kind value => ?_, ?_⟩
  · intro night full revision good limit c
    have hexec := grant_exec hpay tag reference grades kind value
    refine ⟨fun reason hreason => ?_, fun hg hgood hn hslot hst hfull => ?_, fun n g hg hgood hn hslot hst hfull hc => ?_⟩
    · have htake : takeGrant i reference grades kind value (s.consumed i) = pendAuthState i (.refused reason) reference (s.consumed i) := by
        have hjudge : judgeGrant (s.consumed i) i grades kind value = .error reason :=
          judgeGrant_fails (by rw [consumed_revision]; exact hreason)
        unfold takeGrant
        rw [hjudge]
      obtain ⟨htold, hcounted⟩ := hanswered (pendAuthState_answered (.refused reason) reference hadm (s.consumed_port i))
      have honly : OnlyChanges [.port i, .link] s (pendAuthState i (.refused reason) reference (s.consumed i)) :=
        ((s.consumed_only i).mono (by simp)).step (pendAuthState_only i _ _ _) (by simp)
      exact ⟨_, hexec.trans (by rw [htake]), htold, hcounted, honly.settle_clear s hs⟩
    · have hok : Authorizable i grades (s.consumed i) := ⟨hg, hn, hslot, .inl hst, hfull⟩
      obtain ⟨hport, hfill, htells, honly⟩ := (acceptAuth_idle (grantAuth reference grades kind value s.stamp) (s := s.consumed i)
        hst).granted hs hadm rfl
      obtain ⟨htold, hcounted⟩ := hanswered hport
      exact ⟨_, hexec.trans (by rw [takeGrant_accepts hok hgood]), hfill, htold, hcounted, htells 1, honly⟩
    · intro a refused
      have hok : Authorizable i grades (s.consumed i) := ⟨hg, hn, hslot, .inr hst, hfull⟩
      have htable : refused = liftRefusal (s.consumed i) i a g := (liftRefusal_table s i a g).symm
      refine ⟨fun r hr => ?_, fun hr he hw => ⟨takenNumber_given s i, ?_⟩⟩
      · obtain ⟨hwaits, hrefuse⟩ := acceptAuth_refused (grantAuth reference grades kind value s.stamp) (s := s.consumed i) hst hc
          (htable.symm.trans hr)
        obtain ⟨hport, hfill, htells, honly⟩ := hwaits.granted hs hadm rfl
        obtain ⟨htold, hcounted⟩ := hanswered hport
        exact ⟨_, hexec.trans (by rw [takeGrant_accepts hok hgood]), hfill, htold, hcounted,
          fun hroom => ⟨htells 2 hroom, (settle_keeps s _).tells _ (hrefuse 1 hroom)⟩, honly⟩
      · obtain ⟨heq, hstart⟩ := acceptAuth_starts (grantAuth reference grades kind value s.stamp) (s := s.consumed i) hst hc
          (htable.symm.trans hr) he hw
        obtain ⟨hport, hside, hinuse, htimer, hsale, htells, honly⟩ := hstart.granted hs hadm rfl heq
        obtain ⟨htold, hcounted⟩ := hanswered hport
        exact ⟨_, hexec.trans (by rw [takeGrant_accepts hok hgood]), hside, hinuse, htimer, hsale, htold, hcounted, htells 1, honly⟩
  · intro c
    have hexec := cancel_exec hpay tag reference
    refine ⟨fun hno => ?_, fun a ha h1 h2 => ⟨fun hp hst => ?_, fun x hp hx => ?_⟩⟩
    · obtain ⟨htold, hcounted⟩ := hanswered (pendAuthState_answered (.refused .unknown) reference hadm (s.consumed_port i))
      have honly : OnlyChanges [.port i, .link] s (pendAuthState i (.refused .unknown) reference (s.consumed i)) :=
        ((s.consumed_only i).mono (by simp)).step (pendAuthState_only i _ _ _) (by simp)
      exact ⟨_, hexec.trans (by rw [takeCancel_unknown (s := s.consumed i) hno]), htold, hcounted, honly.settle_clear s hs⟩
    · have hleft := withdrawWaiting_withdrawn (why := .cancelled) (tell := false) (s := s.consumed i) ha hp hst
      have hport := (withdrawWaiting_port (why := .cancelled) (s := s.consumed i) ha hp).trans (s.consumed_port i)
      obtain ⟨htold, hcounted⟩ := hanswered (pendAuthState_answered .cancelled reference hadm hport)
      have honly : OnlyChanges (closureBlocks i) s (pendAuthState i .cancelled reference (withdrawWaiting i .cancelled false (s.consumed i))) :=
        (((s.consumed_only i).mono (by simp)).step (withdrawWaiting_only i _ _ _) (List.Subset.refl _)).step
          (pendAuthState_only i _ _ _) (by simp)
      have hfill : (settle s (pendAuthState i .cancelled reference (withdrawWaiting i .cancelled false (s.consumed i)))).fill.get i =
          (s.fill.get i).withdrawn := by
        rw [settle_fill]
        exact hleft.fill
      refine ⟨_, hexec.trans (by rw [takeCancel_waiting (s := s.consumed i) ha h1 h2 hp]), ?_, ?_, ?_, htold, hcounted, fun hr => ?_,
        (honly.settle_clear s hs).mono (by simp [frame])⟩
      · rw [State.sideState, hfill]
        rfl
      · rw [hfill]
        rfl
      · rw [hfill]
        rfl
      · have htells := hleft.tells 1 hr
        rw [h1, h2] at htells
        exact (settle_keeps s _).tells _ htells
    · have hport : (finalStop i .readerCancel (s.consumed i)).ports.get i = p.consumes :=
        (finalStop_only i _ _ (.port i) (by simp)).trans (s.consumed_port i)
      obtain ⟨htold, hcounted⟩ := hanswered (pendAuthState_answered (.stopped x.number) reference hadm hport)
      have honly : OnlyChanges frame s (pendAuthState i (.stopped x.number) reference (finalStop i .readerCancel (s.consumed i))) :=
        (((s.consumed_only i).mono (by simp [frame])).step (finalStop_only i _ _) (by simp [frame])).step
          (pendAuthState_only i _ _ _) (by simp [frame])
      refine ⟨_, hexec.trans (by rw [takeCancel_inUse (s := s.consumed i) ha h1 h2 hp hx]), htold, hcounted,
        honly.settle_clear s hs (by simp [frame]) (by simp [frame]) (by simp [frame]) (by simp [frame]), ?_⟩
      rw [settle_sideState, settle_fill, settle_valves]
      exact finalStop_cancels (s := s.consumed i) hx

end Sys2Proof.Machine

namespace Sys2Proof.Machine

open Sys2Proof

/-! ### SIDE_STATE at the end of an event -/

/-- The SIDE_STATE notice of a fill (R48). -/
def Fill.notice (f : Fill) (i : Side) : Notice := .sideState i f.state f.closures f.counted (openSale f)

theorem reportSide_tells {n : Nat} {i : Side} {old : Fill} {s : State} (hr : Room (n + 1) s)
    (h : ¬((s.fill.get i).state = old.state ∧ (s.fill.get i).closures = old.closures)) :
    (reportSide i old s).link.tells ((s.fill.get i).notice i) := by
  have he : reportSide i old s = reportState i s := if_neg h
  rw [he]
  exact notify_tells _ hr

/-- A side whose state or closure set an event has changed is told (R48). -/
theorem settle_tellsSide {i : Side} {old u : State}
    (h : ¬((u.fill.get i).state = (old.fill.get i).state ∧ (u.fill.get i).closures = (old.fill.get i).closures)) (hr : Room 2 u) :
    (settle old u).link.tells ((u.fill.get i).notice i) := by
  obtain ⟨x, hx⟩ : ∃ x, x = reportSide .a old.fill.a (sendDisplays u) := ⟨_, rfl⟩
  have hxf : x.fill = u.fill := by
    obtain ⟨l, hl⟩ := reportSide_eq .a old.fill.a (sendDisplays u)
    rw [hx, hl]
    rfl
  have htold : (reportSide .b old.fill.b x).link.tells ((u.fill.get i).notice i) := by
    cases i with
    | a =>
      refine (reportSide_keeps .b old.fill.b x).tells _ ?_
      rw [hx]
      exact reportSide_tells (n := 1) (s := sendDisplays u) hr h
    | b =>
      have hroom : Room 1 x := by
        rw [hx]
        exact reportSide_room (n := 1) (s := sendDisplays u) hr
      have ht := reportSide_tells (n := 0) (i := .b) (old := old.fill.b) hroom (by rw [hxf]; exact h)
      rwa [hxf] at ht
  rw [settle_link]
  unfold reported
  rw [← hx]
  refine (Link.startNext_keeps _).tells _ ((Link.follow_keeps _ _).tells _ ?_)
  exact (notifyAll_keeps _ _).tells _ htold

/-! ### The count of a lift -/

/-- The nozzle that a lift counts (R49). -/
def lifted (f : Fill) (n : Nozzle) : Counted := { nozzle := n, grade := f.map.get n }

/-- At an IDLE side a nozzle with a grade calls (R50). -/
theorem countLift_calls {i : Side} {n : Nozzle} {s : State} (hi : s.sideState i = .idle)
    (hg : (lifted (s.fill.get i) n).grade.isSome = true) :
    countLift i n s = enterState i .calling (counting i (lifted (s.fill.get i) n) s) := by
  have hst : (s.fill.get i).state = .idle := hi
  unfold countLift
  extract_lets f c w
  have hf : f.state = .idle := hst
  rw [hf]
  exact if_pos hg

/-- At an IDLE side a nozzle without a grade is counted and moves nothing (R50). -/
theorem countLift_unmapped {i : Side} {n : Nozzle} {s : State} (hi : s.sideState i = .idle)
    (hg : ¬(lifted (s.fill.get i) n).grade.isSome = true) : countLift i n s = counting i (lifted (s.fill.get i) n) s := by
  have hst : (s.fill.get i).state = .idle := hi
  unfold countLift
  extract_lets f c w
  have hf : f.state = .idle := hst
  rw [hf]
  exact if_neg hg

/-- At an AUTHORIZED side the lift is tested (R50). -/
theorem countLift_authorized {i : Side} {n : Nozzle} {a : Auth} {s : State} (hst : s.sideState i = .authorized)
    (ha : (s.fill.get i).slot = some a) :
    countLift i n s = testLift i a (lifted (s.fill.get i) n) (counting i (lifted (s.fill.get i) n) s) := countLift_tests n hst ha

theorem counting_sideState (i : Side) (c : Counted) (s : State) : (counting i c s).sideState i = s.sideState i := by
  rw [State.sideState, counting_fill]
  rfl

/-- An IDLE side that goes to CALLING: its fill timers stand still. -/
theorem enterState_calling {i : Side} {s : State} (h : s.sideState i = .idle) :
    (enterState i .calling s).fill.get i =
      { s.fill.get i with state := .calling, noFlowTimer := none, quietTimer := none, afterFlowTimer := none } := by
  rw [enterState_fill (by rw [h]; decide)]
  rfl

theorem enterState_idle {i : Side} {s : State} (h : s.sideState i = .calling) :
    (enterState i .idle s).fill.get i =
      { s.fill.get i with state := .idle, noFlowTimer := none, quietTimer := none, afterFlowTimer := none } := by
  rw [enterState_fill (by rw [h]; decide)]
  rfl

/-! ### Lifts -/

theorem nozzleLift_hung {i : Side} {n : Nozzle} {s : State} (h : (s.fill.get i).nozzles.get n ≠ .hung) : nozzleLift i n s = s := if_neg h

/-- A lift that does not wake the part is recorded (R49, R164). -/
theorem nozzleLift_records {i : Side} {n : Nozzle} {s : State} (h : (s.fill.get i).nozzles.get n = .hung)
    (hw : ¬(s.power.mode = .night ∧ s.params.wakeOnNozzle ≠ 0)) : nozzleLift i n s = recordLift i n s :=
  (if_pos h).trans (if_neg hw)

theorem recordLift_counted {i : Side} {n : Nozzle} {s : State} (h : (s.fill.get i).counted ≠ none) :
    recordLift i n s = s.setFill i { s.fill.get i with nozzles := (s.fill.get i).nozzles.set n .up } :=
  if_neg (by rw [Option.isNone_iff_eq_none]; exact h)

theorem recordLift_first {i : Side} {n : Nozzle} {s : State} (h : (s.fill.get i).counted = none) :
    recordLift i n s = countLift i n (s.setFill i { s.fill.get i with nozzles := (s.fill.get i).nozzles.set n .up }) :=
  if_pos (by rw [h]; rfl)

/-- The count of a nozzle just recorded is its counted lift. -/
theorem counting_recorded (i : Side) (c : Counted) (s : State) :
    counting i c (s.setFill i { s.fill.get i with nozzles := (s.fill.get i).nozzles.set c.nozzle .up }) = liftCounted i c s := by
  unfold counting liftCounted
  rw [State.setFill_fill, PerSide.get_set_same, State.setFill_setFill]

theorem recorded_fill (i : Side) (n : Nozzle) (s : State) :
    (s.setFill i { s.fill.get i with nozzles := (s.fill.get i).nozzles.set n .up }).fill.get i =
      { s.fill.get i with nozzles := (s.fill.get i).nozzles.set n .up } := PerSide.get_set_same _ _ _

/-- The first nozzle lifted takes an IDLE side to CALLING where it has a grade (R49, R50). -/
theorem lift_calls {i : Side} {n : Nozzle} {s : State} (hs : Settled s) (h : (s.fill.get i).counted = none)
    (hi : s.sideState i = .idle) (hg : (lifted (s.fill.get i) n).grade.isSome = true) :
    let u := recordLift i n s
    u = enterState i .calling (liftCounted i (lifted (s.fill.get i) n) s) ∧
      (settle s u).fill.get i =
        { s.fill.get i with
          state := .calling, nozzles := (s.fill.get i).nozzles.set n .up, counted := some (lifted (s.fill.get i) n)
          noFlowTimer := none, quietTimer := none, afterFlowTimer := none } ∧
      (Room 3 s → (settle s u).link.tells
        (.sideState i .calling (s.fill.get i).closures (some (lifted (s.fill.get i) n)) (openSale (s.fill.get i)))) ∧
      OnlyChanges (closureBlocks i) s (settle s u) := by
  have hfill := recorded_fill i n s
  have hidle : (s.setFill i { s.fill.get i with nozzles := (s.fill.get i).nozzles.set n .up }).sideState i = .idle := by
    rw [State.sideState, hfill]
    exact hi
  have hsame : lifted ((s.setFill i { s.fill.get i with nozzles := (s.fill.get i).nozzles.set n .up }).fill.get i) n =
      lifted (s.fill.get i) n := by
    rw [hfill]
    rfl
  have hcall := countLift_calls hidle (by rw [hsame]; exact hg)
  rw [hsame] at hcall
  intro u
  have hu : u = enterState i .calling (liftCounted i (lifted (s.fill.get i) n) s) := by
    have hcount := counting_recorded i (lifted (s.fill.get i) n) s
    exact (recordLift_first h).trans (hcall.trans (congrArg (enterState i .calling) hcount))
  have huf : u.fill.get i = { s.fill.get i with
      state := .calling, nozzles := (s.fill.get i).nozzles.set n .up, counted := some (lifted (s.fill.get i) n)
      noFlowTimer := none, quietTimer := none, afterFlowTimer := none } := by
    rw [hu, enterState_calling ((liftCounted_sideState _ _ _).trans hi), liftCounted_fill]
    rfl
  have honly : OnlyChanges (closureBlocks i) s u := by
    rw [hu]
    exact ((liftCounted_only i _ s).mono (by simp)).step (enterState_only i _ _) (by simp)
  refine ⟨hu, by rw [settle_fill, huf], fun hr => ?_, honly.settle_clear s hs⟩
  have hroom : Room 2 u := by
    rw [hu]
    exact (liftCounted_room hr).of_link (enterState_link i _ _)
  have htell := settle_tellsSide (i := i) (old := s) (u := u)
    (by rw [huf]; exact fun hb => (show SideState.calling ≠ .idle by decide) (hb.1.trans hi)) hroom
  rw [huf] at htell
  exact htell

/-- Any other first nozzle lifted at a side that is not AUTHORIZED is counted and no more (R49). -/
theorem lift_counts {i : Side} {n : Nozzle} {s : State} (h : (s.fill.get i).counted = none) (ha : s.sideState i ≠ .authorized)
    (hn : ¬(s.sideState i = .idle ∧ (lifted (s.fill.get i) n).grade.isSome = true)) :
    recordLift i n s = liftCounted i (lifted (s.fill.get i) n) s := by
  have hfill := recorded_fill i n s
  have hstate : (s.setFill i { s.fill.get i with nozzles := (s.fill.get i).nozzles.set n .up }).sideState i = s.sideState i := by
    rw [State.sideState, hfill]
    rfl
  have hsame : lifted ((s.setFill i { s.fill.get i with nozzles := (s.fill.get i).nozzles.set n .up }).fill.get i) n =
      lifted (s.fill.get i) n := by
    rw [hfill]
    rfl
  have hcount := counting_recorded i (lifted (s.fill.get i) n) s
  rw [recordLift_first h]
  by_cases hi : s.sideState i = .idle
  · have hcounts := countLift_unmapped (hstate.trans hi) (by rw [hsame]; exact fun hg => hn ⟨hi, hg⟩)
    rw [hsame] at hcounts
    exact hcounts.trans hcount
  · exact (countLift_counts (c := lifted (s.fill.get i) n) (by rw [hfill]; rfl) (by rw [hstate]; exact hi)
      (by rw [hstate]; exact ha)).trans hcount

/-- A nozzle without a grade at an AUTHORIZED side is refused for it (R51). -/
theorem lift_ungraded {i : Side} {n : Nozzle} {a : Auth} {s : State} (h : (s.fill.get i).counted = none)
    (ha : s.sideState i = .authorized) (hslot : (s.fill.get i).slot = some a) (hg : (s.fill.get i).map.get n = none) :
    recordLift i n s = notify (.gradeRefused i n none .grade) (liftCounted i { nozzle := n, grade := none } s) := by
  have hfill := recorded_fill i n s
  have hlifted : lifted ((s.setFill i { s.fill.get i with nozzles := (s.fill.get i).nozzles.set n .up }).fill.get i) n =
      { nozzle := n, grade := none } := by
    rw [hfill]
    unfold lifted
    rw [hg]
  have hstate : (s.setFill i { s.fill.get i with nozzles := (s.fill.get i).nozzles.set n .up }).sideState i = .authorized := by
    rw [State.sideState, hfill]
    exact ha
  have htest := countLift_authorized (n := n) hstate (by rw [hfill]; exact hslot)
  rw [hlifted, counting_recorded i { nozzle := n, grade := none } s] at htest
  rw [recordLift_first h, htest]
  exact congrArg (notify _) (enterState_same ((liftCounted_sideState _ _ _).trans ha))

/-! ### Hang-ups outside a fill -/

theorem SideState.beforeEnding_of_isFill {st : SideState} (h : st.isFill = false) : st.beforeEnding = false := by
  revert h
  cases st <;> decide

/-- The side after the hang-up of its counted nozzle outside a fill: a CALLING side has gone to IDLE (R50). -/
theorem hangUpMoved_fill {i : Side} (c : Counted) {s : State} (h : (s.sideState i).isFill = false) :
    (hangUpMoved i c s).fill.get i =
      if s.sideState i = .calling then
        { s.fill.get i with
          state := .idle, counted := none, nozzles := (s.fill.get i).nozzles.set c.nozzle .hung
          noFlowTimer := none, quietTimer := none, afterFlowTimer := none }
      else { s.fill.get i with counted := none, nozzles := (s.fill.get i).nozzles.set c.nozzle .hung } := by
  have hst := hangUpCounted_sideState i c s
  have hb := SideState.beforeEnding_of_isFill h
  split
  · next hc =>
    have he : hangUpMoved i c s = enterState i .idle (hangUpCounted i c s) := by
      unfold hangUpMoved moveAtHangUp
      rw [hst, hb, if_pos hc]
      rfl
    rw [he, enterState_idle (hst.trans hc), hangUpCounted_fill]
  · next hc => rw [hangUpMoved_stays hb hc, hangUpCounted_fill]

theorem hangUpMoved_sideState {i : Side} (c : Counted) {s : State} (h : (s.sideState i).isFill = false) :
    (hangUpMoved i c s).sideState i = if s.sideState i = .calling then .idle else s.sideState i := by
  rw [State.sideState, hangUpMoved_fill c h]
  split <;> rfl

/-- The nozzle to which the count goes, as its lift counts it. -/
theorem lifted_of_countGoesTo {f g : Fill} {n : Nozzle} {k : Option Counted} {x : Counted} (h : f.CountGoesTo n k) (hk : k = some x)
    (hm : g.map = f.map) : lifted g x.nozzle = x := by
  have hg := (firstUp_of_countGoesTo h).2 x hk
  unfold lifted
  rw [hm, ← hg]

/-- A hang-up after which the nozzle that counts, if any, moves no side (R49, R50). -/
theorem hangUp_recounts {i : Side} {c : Counted} {k : Option Counted} {s : State} (hn : (s.fill.get i).nozzles.get c.nozzle ≠ .hung)
    (hc : (s.fill.get i).counted = some c) (hk : (s.fill.get i).CountGoesTo c.nozzle k) (hf : (s.sideState i).isFill = false)
    (h : ∀ x, k = some x → s.sideState i ≠ .authorized ∧
      (x.grade.isSome = true → s.sideState i ≠ .calling ∧ s.sideState i ≠ .idle)) :
    nozzleHangUp i c.nozzle s = recount i k (hangUpMoved i c s) := by
  obtain ⟨-, hmap, -⟩ := moveAtHangUp_nozzles i (hangUpCounted i c s)
  rw [hangUpCounted_fill] at hmap
  rw [nozzleHangUp_counted hn hc, countHangUp_eq hk]
  cases hkx : k with
  | none => rfl
  | some x =>
    obtain ⟨hauth, hgraded⟩ := h x hkx
    have hl : lifted ((hangUpMoved i c s).fill.get i) x.nozzle = x := lifted_of_countGoesTo hk hkx hmap
    have hst := hangUpMoved_sideState c hf
    have hagain : countAgain i (s.fill.get i).state x.nozzle (hangUpMoved i c s) = countLift i x.nozzle (hangUpMoved i c s) := by
      refine if_neg (fun hb => ?_)
      have hg : x.grade.isSome = true := by rw [← hl]; exact hb.2
      exact (hgraded hg).1 hb.1
    refine hagain.trans ?_
    by_cases hi : (hangUpMoved i c s).sideState i = .idle
    · have hg : ¬x.grade.isSome = true := by
        intro hg
        obtain ⟨h1, h2⟩ := hgraded hg
        rw [hst, if_neg h1] at hi
        exact h2 hi
      have hcount := countLift_unmapped hi (by rw [hl]; exact hg)
      rw [hl] at hcount
      exact hcount
    · refine countLift_counts (by rw [← hl]; rfl) hi ?_
      rw [hst]
      split
      · decide
      · exact hauth

/-- A CALLING side that another nozzle with a grade takes back to CALLING: each of its two changes has its notice (R48, R49). -/
theorem hangUp_callsAgain {i : Side} {c x : Counted} {s : State} (hn : (s.fill.get i).nozzles.get c.nozzle ≠ .hung)
    (hc : (s.fill.get i).counted = some c) (hk : (s.fill.get i).CountGoesTo c.nozzle (some x)) (hst : s.sideState i = .calling)
    (hg : x.grade.isSome = true) :
    nozzleHangUp i c.nozzle s = reportState i (enterState i .calling (counting i x (reportState i (hangUpMoved i c s)))) := by
  have hf : (s.sideState i).isFill = false := by rw [hst]; rfl
  obtain ⟨-, hmap, -⟩ := moveAtHangUp_nozzles i (hangUpCounted i c s)
  rw [hangUpCounted_fill] at hmap
  have hl : lifted ((hangUpMoved i c s).fill.get i) x.nozzle = x := lifted_of_countGoesTo hk rfl hmap
  have hidle : (hangUpMoved i c s).sideState i = .idle := (hangUpMoved_sideState c hf).trans (if_pos hst)
  have hcall := countLift_calls (s := reportState i (hangUpMoved i c s)) (n := x.nozzle) hidle
    (by rw [show lifted ((reportState i (hangUpMoved i c s)).fill.get i) x.nozzle = x from hl]; exact hg)
  rw [show lifted ((reportState i (hangUpMoved i c s)).fill.get i) x.nozzle = x from hl] at hcall
  have hagain : countAgain i (s.fill.get i).state x.nozzle (hangUpMoved i c s) =
      reportState i (countLift i x.nozzle (reportState i (hangUpMoved i c s))) := by
    refine if_pos ⟨hst, ?_⟩
    rw [← hl] at hg
    exact hg
  rw [nozzleHangUp_counted hn hc, countHangUp_eq hk]
  exact hagain.trans (congrArg (reportState i) hcall)

/-- An IDLE side that another nozzle with a grade takes to CALLING (R49, R50). -/
theorem hangUp_calls {i : Side} {c x : Counted} {s : State} (hn : (s.fill.get i).nozzles.get c.nozzle ≠ .hung)
    (hc : (s.fill.get i).counted = some c) (hk : (s.fill.get i).CountGoesTo c.nozzle (some x)) (hst : s.sideState i = .idle)
    (hg : x.grade.isSome = true) :
    nozzleHangUp i c.nozzle s = enterState i .calling (counting i x (hangUpMoved i c s)) := by
  have hf : (s.sideState i).isFill = false := by rw [hst]; rfl
  obtain ⟨-, hmap, -⟩ := moveAtHangUp_nozzles i (hangUpCounted i c s)
  rw [hangUpCounted_fill] at hmap
  have hl : lifted ((hangUpMoved i c s).fill.get i) x.nozzle = x := lifted_of_countGoesTo hk rfl hmap
  have hidle : (hangUpMoved i c s).sideState i = .idle :=
    (hangUpMoved_sideState c hf).trans ((if_neg (by rw [hst]; decide)).trans hst)
  have hcall := countLift_calls (n := x.nozzle) hidle (by rw [hl]; exact hg)
  rw [hl] at hcall
  have hagain : countAgain i (s.fill.get i).state x.nozzle (hangUpMoved i c s) = countLift i x.nozzle (hangUpMoved i c s) :=
    if_neg (fun hb => absurd (hst.symm.trans hb.1) (by decide))
  rw [nozzleHangUp_counted hn hc, countHangUp_eq hk]
  exact hagain.trans hcall

/-- An AUTHORIZED side's authorization is tested at the lift of the nozzle that takes over the count (R49, R50). -/
theorem hangUp_tests {i : Side} {c x : Counted} {a : Auth} {s : State} (hn : (s.fill.get i).nozzles.get c.nozzle ≠ .hung)
    (hc : (s.fill.get i).counted = some c) (hk : (s.fill.get i).CountGoesTo c.nozzle (some x)) (hst : s.sideState i = .authorized)
    (ha : (s.fill.get i).slot = some a) :
    nozzleHangUp i c.nozzle s = testLift i a x (counting i x (hangUpMoved i c s)) := by
  have hf : (s.sideState i).isFill = false := by rw [hst]; rfl
  have hfill := hangUpMoved_fill c hf
  rw [if_neg (by rw [hst]; decide)] at hfill
  have hl : lifted ((hangUpMoved i c s).fill.get i) x.nozzle = x := lifted_of_countGoesTo hk rfl (by rw [hfill])
  have hstate : (hangUpMoved i c s).sideState i = .authorized := by
    rw [State.sideState, hfill]
    exact hst
  have htest := countLift_authorized (n := x.nozzle) hstate (by rw [hfill]; exact ha)
  rw [hl] at htest
  have hagain : countAgain i (s.fill.get i).state x.nozzle (hangUpMoved i c s) = countLift i x.nozzle (hangUpMoved i c s) :=
    if_neg (fun hb => absurd (hst.symm.trans hb.1) (by decide))
  rw [nozzleHangUp_counted hn hc, countHangUp_eq hk]
  exact hagain.trans htest

theorem hangUpMoved_only (i : Side) (c : Counted) (s : State) : OnlyChanges (closureBlocks i) s (hangUpMoved i c s) :=
  ((hangUpCounted_only i c s).mono (by simp)).step (moveAtHangUp_only i _) (by simp)

theorem hangUpMoved_room {n : Nat} {i : Side} {c : Counted} {s : State} (h : Room (n + 1) s) : Room n (hangUpMoved i c s) :=
  Room.of_link (reportNozzle_room (k := n) h) (hangUpMoved_link i c s).1

theorem counting_room {n : Nat} {i : Side} {c : Counted} {s : State} (h : Room (n + 1) s) : Room n (counting i c s) :=
  reportNozzle_room (k := n) h

theorem recount_room {n : Nat} {i : Side} {k : Option Counted} {s : State} (h : Room (n + 1) s) : Room n (recount i k s) := by
  cases k with
  | none => exact h.mono (by omega)
  | some x => exact counting_room h

theorem HangUpTold.mono {i : Side} {c : Counted} {k : Option Counted} {m n : Nat} {s t : State} (h : HangUpTold i c k m s t)
    (hmn : m ≤ n) : HangUpTold i c k n s t := ⟨fun hr => h.host (hr.mono hmn), h.reader⟩

/-- The nozzle record and the state that a hang-up leaves where the count goes to `k` and the side to `x`. -/
def Fill.movedTo (f : Fill) (n : Nozzle) (k : Option Counted) (x : SideState) : Fill :=
  { f with
    nozzles := f.nozzles.set n .hung, counted := k, state := x, noFlowTimer := none, quietTimer := none, afterFlowTimer := none }

/-- The event in which a CALLING side calls again. -/
theorem hangUp_callsAgain_event {i : Side} {c x : Counted} {s : State} (hs : Settled s)
    (hn : (s.fill.get i).nozzles.get c.nozzle ≠ .hung) (hc : (s.fill.get i).counted = some c)
    (hk : (s.fill.get i).CountGoesTo c.nozzle (some x)) (hst : s.sideState i = .calling) (hg : x.grade.isSome = true) :
    let t := settle s (nozzleHangUp i c.nozzle s)
    t.fill.get i = (s.fill.get i).movedTo c.nozzle (some x) .calling ∧
      (Room 5 s → t.link.tells (.sideState i .idle (s.fill.get i).closures none (openSale (s.fill.get i))) ∧
        t.link.tells (.sideState i .calling (s.fill.get i).closures (some x) (openSale (s.fill.get i)))) ∧
      HangUpTold i c (some x) 5 s t ∧ OnlyChanges (closureBlocks i) s t := by
  have hmf := hangUpMoved_fill c (show (s.sideState i).isFill = false by rw [hst]; rfl)
  rw [if_pos hst] at hmf
  obtain ⟨w, hw⟩ : ∃ w, w = reportState i (hangUpMoved i c s) := ⟨_, rfl⟩
  have hwf : w.fill.get i = (hangUpMoved i c s).fill.get i := by rw [hw]; rfl
  have hidle : (counting i x w).sideState i = .idle := by rw [counting_sideState, State.sideState, hwf, hmf]
  obtain ⟨v, hv⟩ : ∃ v, v = enterState i .calling (counting i x w) := ⟨_, rfl⟩
  have hvf : v.fill.get i = (s.fill.get i).movedTo c.nozzle (some x) .calling := by
    rw [hv, enterState_calling hidle, counting_fill, hwf, hmf]
    rfl
  have hvl : v.link = (counting i x w).link := by rw [hv]; exact enterState_link i _ _
  have hu : nozzleHangUp i c.nozzle s = reportState i v := by rw [hangUp_callsAgain hn hc hk hst hg, hv, hw]
  have hwl : (hangUpMoved i c s).link.Keeps w.link := by rw [hw]; exact notify_keeps _ _
  have hport : v.ports.get i = (counting i x w).ports.get i := by rw [hv]; exact enterState_only i _ _ (.port i) (by simp)
  have hwroom {n : Nat} (h : Room (n + 1) (hangUpMoved i c s)) : Room n w := by rw [hw]; exact notify_room _ h
  have honly : OnlyChanges (closureBlocks i) s (reportState i v) := by
    rw [hv, hw]
    exact (((((hangUpMoved_only i c s).step (notify_only _ _) (by simp)).step (counting_only i x _) (by simp)).step
      (enterState_only i _ _) (by simp)).step (notify_only _ _) (by simp))
  intro t
  have ht : t = settle s (reportState i v) := congrArg (settle s) hu
  rw [ht]
  refine ⟨?_, fun hr => ⟨?_, ?_⟩, ?_, honly.settle_clear s hs⟩
  · rw [settle_fill]
    exact hvf
  · have htell : w.link.tells (((hangUpMoved i c s).fill.get i).notice i) := by
      rw [hw]
      exact notify_tells (k := 3) _ (hangUpMoved_room hr)
    rw [hmf] at htell
    refine (settle_keeps s _).tells _ ((notify_keeps _ v).tells _ ?_)
    rw [hvl]
    exact (reportNozzle_keeps i x true _).tells _ htell
  · have htell : (reportState i v).link.tells ((v.fill.get i).notice i) :=
      notify_tells (k := 1) _ (Room.of_link (counting_room (hwroom (hangUpMoved_room hr))) hvl)
    rw [hvf] at htell
    exact (settle_keeps s _).tells _ htell
  · refine counting_told s hwl (fun k h => hwroom h) (by rw [hw]; rfl) ?_ ⟨(v.ports.get i).pendingAuth, ?_⟩ 2
    · rw [← hvl]
      exact notify_keeps _ v
    · rw [← hport]
      rfl

/-- The event in which an IDLE side calls. -/
theorem hangUp_calls_event {i : Side} {c x : Counted} {s : State} (hs : Settled s)
    (hn : (s.fill.get i).nozzles.get c.nozzle ≠ .hung) (hc : (s.fill.get i).counted = some c)
    (hk : (s.fill.get i).CountGoesTo c.nozzle (some x)) (hst : s.sideState i = .idle) (hg : x.grade.isSome = true) :
    let t := settle s (nozzleHangUp i c.nozzle s)
    t.fill.get i = (s.fill.get i).movedTo c.nozzle (some x) .calling ∧
      (Room 5 s → t.link.tells (.sideState i .calling (s.fill.get i).closures (some x) (openSale (s.fill.get i)))) ∧
      HangUpTold i c (some x) 5 s t ∧ OnlyChanges (closureBlocks i) s t := by
  have hmf := hangUpMoved_fill c (show (s.sideState i).isFill = false by rw [hst]; rfl)
  rw [if_neg (by rw [hst]; decide)] at hmf
  have hidle : (counting i x (hangUpMoved i c s)).sideState i = .idle := by
    rw [counting_sideState, State.sideState, hmf]
    exact hst
  obtain ⟨v, hv⟩ : ∃ v, v = enterState i .calling (counting i x (hangUpMoved i c s)) := ⟨_, rfl⟩
  have hvf : v.fill.get i = (s.fill.get i).movedTo c.nozzle (some x) .calling := by
    rw [hv, enterState_calling hidle, counting_fill, hmf]
    rfl
  have hvl : v.link = (counting i x (hangUpMoved i c s)).link := by rw [hv]; exact enterState_link i _ _
  have hport : v.ports.get i = (counting i x (hangUpMoved i c s)).ports.get i := by
    rw [hv]
    exact enterState_only i _ _ (.port i) (by simp)
  have hu : nozzleHangUp i c.nozzle s = v := by rw [hangUp_calls hn hc hk hst hg, hv]
  have honly : OnlyChanges (closureBlocks i) s v := by
    rw [hv]
    exact ((hangUpMoved_only i c s).step (counting_only i x _) (by simp)).step (enterState_only i _ _) (by simp)
  intro t
  have ht : t = settle s v := congrArg (settle s) hu
  rw [ht]
  refine ⟨by rw [settle_fill, hvf], fun hr => ?_, ?_, honly.settle_clear s hs⟩
  · have htell := settle_tellsSide (i := i) (old := s) (u := v)
      (by rw [hvf]; exact fun hb => (show SideState.calling ≠ .idle by decide) (hb.1.trans hst))
      ((Room.of_link (counting_room (hangUpMoved_room hr)) hvl).mono (by omega))
    rw [hvf] at htell
    exact htell
  · refine counting_told s (.refl _) (fun k h => h.mono (by omega)) rfl ?_ ⟨(v.ports.get i).pendingAuth, ?_⟩ 2
    · rw [hvl]
      exact .refl _
    · rw [← hport]

/-- The event in which the nozzle that counts, if any, moves no side. -/
theorem hangUp_recounts_event {i : Side} {c : Counted} {k : Option Counted} {s : State} (hs : Settled s)
    (hn : (s.fill.get i).nozzles.get c.nozzle ≠ .hung) (hc : (s.fill.get i).counted = some c)
    (hk : (s.fill.get i).CountGoesTo c.nozzle k) (hf : (s.sideState i).isFill = false)
    (h : ∀ x, k = some x → s.sideState i ≠ .authorized ∧
      (x.grade.isSome = true → s.sideState i ≠ .calling ∧ s.sideState i ≠ .idle)) :
    let t := settle s (nozzleHangUp i c.nozzle s)
    (s.sideState i = .calling → t.fill.get i = (s.fill.get i).movedTo c.nozzle k .idle ∧
      (Room 5 s → t.link.tells (.sideState i .idle (s.fill.get i).closures k (openSale (s.fill.get i))))) ∧
      (s.sideState i ≠ .calling →
        t.fill.get i = { s.fill.get i with nozzles := (s.fill.get i).nozzles.set c.nozzle .hung, counted := k }) ∧
      HangUpTold i c k 5 s t ∧ OnlyChanges (closureBlocks i) s t := by
  have hmf := hangUpMoved_fill c hf
  have hrf := recount_fill (i := i) (k := k) (hangUpMoved_counted i c s)
  have hu := hangUp_recounts hn hc hk hf h
  have honly : OnlyChanges (closureBlocks i) s (recount i k (hangUpMoved i c s)) :=
    (hangUpMoved_only i c s).step (recount_only i k _) (by simp)
  intro t
  have ht : t = settle s (recount i k (hangUpMoved i c s)) := congrArg (settle s) hu
  rw [ht]
  refine ⟨fun hst => ?_, fun hst => ?_, (recount_told s).mono (by omega), honly.settle_clear s hs⟩
  · rw [if_pos hst] at hmf
    have hmoved : (recount i k (hangUpMoved i c s)).fill.get i = (s.fill.get i).movedTo c.nozzle k .idle := by
      rw [hrf, hmf]
      rfl
    refine ⟨by rw [settle_fill, hmoved], fun hr => ?_⟩
    have htell := settle_tellsSide (i := i) (old := s) (u := recount i k (hangUpMoved i c s))
      (by rw [hmoved]; exact fun hb => (show SideState.idle ≠ .calling by decide) (hb.1.trans hst))
      ((recount_room (hangUpMoved_room hr)).mono (by omega))
    rw [hmoved] at htell
    exact htell
  · rw [if_neg hst] at hmf
    rw [settle_fill, hrf, hmf]

/-- The test of the next nozzle's lift that is refused (R50, R51). -/
theorem hangUp_refused_event {i : Side} {c x : Counted} {a : Auth} {r : LiftRefusal} {s : State} (hs : Settled s)
    (hn : (s.fill.get i).nozzles.get c.nozzle ≠ .hung) (hc : (s.fill.get i).counted = some c)
    (hk : (s.fill.get i).CountGoesTo c.nozzle (some x)) (hst : s.sideState i = .authorized) (ha : (s.fill.get i).slot = some a)
    (hr : x.grade.elim (r = .grade) (fun g => liftRefusal s i a g = some r)) :
    let t := settle s (nozzleHangUp i c.nozzle s)
    t.fill.get i = { s.fill.get i with nozzles := (s.fill.get i).nozzles.set c.nozzle .hung, counted := some x } ∧
      (Room 5 s → t.link.tells (.gradeRefused i x.nozzle x.grade r)) ∧ HangUpTold i c (some x) 5 s t ∧
      OnlyChanges [.fill i, .port i, .link] s t := by
  have hstay : hangUpMoved i c s = hangUpCounted i c s := hangUpMoved_stays (by rw [hst]; rfl) (by rw [hst]; decide)
  obtain ⟨v, hv⟩ : ∃ v, v = counting i x (hangUpMoved i c s) := ⟨_, rfl⟩
  have hvonly : OnlyChanges [.fill i, .port i, .link] s v := by
    rw [hv, hstay]
    exact (hangUpCounted_only i c s).trans (counting_only i x _)
  have hvf : v.fill.get i = { s.fill.get i with nozzles := (s.fill.get i).nozzles.set c.nozzle .hung, counted := some x } := by
    rw [hv, counting_fill, hstay, hangUpCounted_fill]
  have hsame : enterState i .authorized v = v := enterState_same (by rw [State.sideState, hvf]; exact hst)
  have htest : testLift i a x v = notify (.gradeRefused i x.nozzle x.grade r) v := by
    rcases x with ⟨n, _ | g⟩
    · obtain rfl : r = .grade := hr
      exact congrArg (notify _) hsame
    · have hrefused : liftRefusal v i a g = some r := (liftRefusal_of_only hvonly (by simp) (by simp) (by simp) a g).trans hr
      rw [testLift_refused hrefused, hsame]
  have hu : nozzleHangUp i c.nozzle s = notify (.gradeRefused i x.nozzle x.grade r) v := by
    rw [hangUp_tests hn hc hk hst ha, ← hv, htest]
  have hroom (h : Room 5 s) : Room 3 v := by
    rw [hv]
    exact counting_room (hangUpMoved_room h)
  intro t
  have ht : t = settle s (notify (.gradeRefused i x.nozzle x.grade r) v) := congrArg (settle s) hu
  rw [ht]
  refine ⟨?_, fun h => (settle_keeps s _).tells _ (notify_tells (k := 2) _ (hroom h)), ?_,
    (hvonly.step (notify_only _ _) (by simp)).settle_clear s hs⟩
  · rw [settle_fill]
    exact hvf
  · refine counting_told s (.refl _) (fun k h => h.mono (by omega)) rfl ?_ ⟨(v.ports.get i).pendingAuth, ?_⟩ 2
    · rw [← hv]
      exact notify_keeps _ v
    · rw [← hv]
      rfl

/-- The test of the next nozzle's lift that is allowed starts the fill (R50, R55). -/
theorem hangUp_starts_event {i : Side} {c x : Counted} {a : Auth} {g : Grade} {s : State} (hs : Settled s)
    (hn : (s.fill.get i).nozzles.get c.nozzle ≠ .hung) (hc : (s.fill.get i).counted = some c)
    (hk : (s.fill.get i).CountGoesTo c.nozzle (some x)) (hst : s.sideState i = .authorized) (ha : (s.fill.get i).slot = some a)
    (hg : x.grade = some g) (hr : liftRefusal s i a g = none) (he : s.estopInput = false) (hw : s.supplyFailInput = false) :
    let t := settle s (nozzleHangUp i c.nozzle s)
    t.sideState i = .starting ∧ (t.fill.get i).nozzles = (s.fill.get i).nozzles.set c.nozzle .hung ∧
      (t.fill.get i).counted = some x ∧ (t.fill.get i).slot = some { a with phase := .inUse } ∧
      (t.fill.get i).sale = some (openContext s i a x.nozzle g) ∧ HangUpTold i c (some x) 5 s t ∧ OnlyChanges (startBlocks i) s t := by
  have hstay : hangUpMoved i c s = hangUpCounted i c s := hangUpMoved_stays (by rw [hst]; rfl) (by rw [hst]; decide)
  obtain ⟨v, hv⟩ : ∃ v, v = counting i x (hangUpMoved i c s) := ⟨_, rfl⟩
  have hvonly : OnlyChanges [.fill i, .port i, .link] s v := by
    rw [hv, hstay]
    exact (hangUpCounted_only i c s).trans (counting_only i x _)
  have hvf : v.fill.get i = { s.fill.get i with nozzles := (s.fill.get i).nozzles.set c.nozzle .hung, counted := some x } := by
    rw [hv, counting_fill, hstay, hangUpCounted_fill]
  have hallowed : liftRefusal v i a g = none := (liftRefusal_of_only hvonly (by simp) (by simp) (by simp) a g).trans hr
  have hu : nozzleHangUp i c.nozzle s = startSale i a x.nozzle g v := by
    rw [hangUp_tests hn hc hk hst ha, ← hv]
    rcases x with ⟨n, gx⟩
    obtain rfl : gx = some g := hg
    exact testLift_allowed hallowed
  have hstart := startSale_started a x.nozzle g (s := v) (i := i)
    (by rw [State.sideState, hvf]; exact fun hb => (show SideState.authorized ≠ .starting by decide) (hst.symm.trans hb))
    ((hvonly .estopInput (by simp)).trans he) ((hvonly .supplyFailInput (by simp)).trans hw)
  have hreg : v.register = s.register := hvonly .register (by simp)
  have hcontext : openContext v i a x.nozzle g = openContext s i a x.nozzle g := by
    have hclock : v.clock = s.clock := hvonly .clock (by simp)
    unfold openContext takenNumber State.stamp
    rw [hreg, hclock]
  have hfill := hstart.fill
  rw [hcontext, hvf] at hfill
  have honly : OnlyChanges (startBlocks i) s (startSale i a x.nozzle g v) := (hvonly.mono (by simp)).trans hstart.only
  have hqueues : (startSale i a x.nozzle g v).register.queues = s.register.queues := by rw [hstart.register, hreg]
  intro t
  have ht : t = settle s (startSale i a x.nozzle g v) := congrArg (settle s) hu
  have htf : t.fill.get i = (startSale i a x.nozzle g v).fill.get i := by rw [ht, settle_fill]
  refine ⟨?_, ?_, ?_, ?_, ?_, ?_, ?_⟩
  · rw [State.sideState, htf, hfill]
  · rw [htf, hfill]
  · rw [htf, hfill]
  · rw [htf, hfill]
  · rw [htf, hfill]
  · rw [ht]
    refine counting_told s (.refl _) (fun k h => h.mono (by omega)) rfl ?_ ?_ 2
    · rw [← hv]
      exact hstart.keeps
    · rw [← hv]
      exact hstart.port
  · rw [ht]
    refine honly.settle s hs (by simp) (fun j _ => ?_)
      (fun _ => ⟨congrArg Power.mode (honly .power (by simp)), honly .supplyFailInput (by simp)⟩)
    unfold pendingDelivery
    rw [hqueues]

/-- The reason of a lift that is refused (R51). -/
def refusalOf (s : State) (i : Side) (a : Auth) (g : Grade) : LiftRefusal :=
  if a.grades.getLsbD (g.number - 1) = false then .grade
  else if s.prices.lookup (s.prices.sideGeneration.get i) g a.level = 0 then .price
  else if (s.display.get i).dark = true then .dark else .save

/-- The conditions of an allowed lift (R51). -/
def liftAllowed (s : State) (i : Side) (a : Auth) (g : Grade) : Prop :=
  a.grades.getLsbD (g.number - 1) = true ∧ s.prices.lookup (s.prices.sideGeneration.get i) g a.level ≠ 0 ∧
    (s.display.get i).dark = false ∧ (s.store.slots.get i).state = .erased

theorem liftRefusal_allowed {s : State} {i : Side} {a : Auth} {g : Grade} (h : liftAllowed s i a g) : liftRefusal s i a g = none := by
  obtain ⟨hg, hp, hd, hs⟩ := h
  exact (liftRefusal_eq s i a g).2.2.2.2 hg hp hd hs

theorem liftRefusal_refused {s : State} {i : Side} {a : Auth} {g : Grade} (h : ¬liftAllowed s i a g) :
    liftRefusal s i a g = some (refusalOf s i a g) := by
  unfold liftAllowed at h
  rw [liftRefusal_table]
  unfold refusalOf
  split
  · rfl
  · next hg =>
    split
    · rfl
    · next hp =>
      split
      · rfl
      · next hd =>
        refine if_pos (fun hs => h ⟨?_, hp, ?_, hs⟩)
        · simpa using hg
        · simpa using hd

/-- Settles O31: a lift by what it counts and moves; a hang-up by the side's state and the nozzle that counts after it. -/
theorem nozzlesAreCounted : Obligations.NozzlesAreCounted := by
  intro i n s hs f hung frame sale
  have hframe : closureBlocks i ⊆ frame := by simp [frame]
  refine ⟨fun h => hs.event_none (nozzleLift_hung h), fun hn hw => ?_, fun h => hs.event_none (if_pos h), fun hn hc => ?_, ?_⟩
  · intro c told
    have hexec : exec (.nozzleLift i n) s = .next (settle s (recordLift i n s)) :=
      congrArg (fun u => Host.Outcome.next (settle s u)) (nozzleLift_records hn hw)
    have htold {u : State} (hl : (liftCounted i c s).link.Keeps u.link) (hp : u.ports.get i = (liftCounted i c s).ports.get i) :
        told (settle s u) := by
      obtain ⟨hhost, hreader⟩ := liftCounted_told (c := c) (u := u) s hl ⟨(u.ports.get i).pendingAuth, by rw [← hp]⟩
      exact ⟨hhost 2, hreader⟩
    refine ⟨fun hc => ?_, fun hc ha => ?_, fun a hc ha hslot hg => ?_⟩
    · rw [hexec, recordLift_counted hc]
      exact congrArg Host.Outcome.next (hs.settle_setFill rfl rfl)
    · by_cases hcall : f.state = .idle ∧ c.grade.isSome = true
      · obtain ⟨hu, hfill, htell, honly⟩ := lift_calls hs hc hcall.1 hcall.2
        refine ⟨_, hexec, by rw [if_pos hcall]; exact hfill, fun _ _ => htell, ?_, honly.mono hframe⟩
        rw [hu]
        refine htold ?_ (enterState_only i _ _ (.port i) (by simp))
        rw [enterState_link]
        exact .refl _
      · have hu := lift_counts hc ha hcall
        refine ⟨_, hexec, ?_, fun h1 h2 => absurd ⟨h1, h2⟩ hcall, ?_, ?_⟩
        · rw [if_neg hcall, settle_fill, hu, liftCounted_fill]
          rfl
        · rw [hu]
          exact htold (.refl _) rfl
        · rw [hu]
          exact (((liftCounted_only i c s).mono (by simp [frame])).settle_clear s hs (by simp [frame]) (by simp [frame])
            (by simp [frame]) (by simp [frame]))
    · have hcu : c = { nozzle := n, grade := none } := congrArg (Counted.mk n) hg
      have hu := lift_ungraded hc ha hslot hg
      rw [← hcu] at hu
      refine ⟨_, hexec, ?_, fun hr => ?_, ?_, ?_⟩
      · rw [settle_fill, hu]
        exact liftCounted_fill i c s
      · rw [hu]
        exact (settle_keeps s _).tells _ (notify_tells (k := 1) _ (liftCounted_room hr))
      · rw [hu]
        exact htold (notify_keeps _ _) rfl
      · rw [hu]
        exact ((liftCounted_only i c s).step (notify_only _ _) (by simp)).settle_clear s hs
  · have hu : nozzleHangUp i n s = s.setFill i { f with nozzles := hung } := by
      unfold nozzleHangUp
      dsimp only
      rw [if_neg hn]
      split
      · next x hx => exact if_neg (hc x hx)
      · rfl
    exact congrArg Host.Outcome.next ((congrArg (settle s) hu).trans (hs.settle_setFill rfl rfl))
  · intro g k hn hc hfill hk left moved mapped told
    refine ⟨fun hst => ?_, fun a c hst hslot hkc => ?_⟩
    · have hauth {x : Counted} (hx : k = some x) : s.sideState i ≠ .authorized := by
        rcases hst with hst | hst
        · exact hst
        · rw [hst] at hx; cases hx
      have hmapped {x : Counted} (hx : k = some x) (hg : x.grade.isSome = true) : mapped := by
        change k.any (fun c => c.grade.isSome) = true
        rw [hx]
        exact hg
      by_cases hmoves : mapped ∧ (f.state = .calling ∨ f.state = .idle)
      · obtain ⟨hm, hstate⟩ := hmoves
        obtain ⟨x, hx, hg⟩ := Option.any_eq_true .. |>.mp hm
        obtain rfl : k = some x := hx
        rcases hstate with hcall | hidle
        · obtain ⟨hf, htells, htold, honly⟩ := hangUp_callsAgain_event (c := { nozzle := n, grade := g }) hs hn hc hk hcall hg
          refine ⟨_, rfl, fun _ => ⟨by rw [if_pos hm]; exact hf, fun _ => htells, fun hno => absurd hm hno⟩,
            fun h => absurd (hcall.symm.trans h) (by decide), fun h => absurd hcall h, ⟨htold.host, htold.reader⟩, honly.mono hframe⟩
        · obtain ⟨hf, htells, htold, honly⟩ := hangUp_calls_event (c := { nozzle := n, grade := g }) hs hn hc hk hidle hg
          refine ⟨_, rfl, fun h => absurd (hidle.symm.trans h) (by decide), fun _ _ => ⟨hf, htells⟩,
            fun _ h => (h.elim (fun h => h hidle) (fun h => h hm)).elim, ⟨htold.host, htold.reader⟩, honly.mono hframe⟩
      · obtain ⟨hcalling, hother, htold, honly⟩ := hangUp_recounts_event (c := { nozzle := n, grade := g }) hs hn hc hk hfill
          (fun x hx => ⟨hauth hx, fun hg => ⟨fun h => hmoves ⟨hmapped hx hg, .inl h⟩, fun h => hmoves ⟨hmapped hx hg, .inr h⟩⟩⟩)
        refine ⟨_, rfl, fun h => ?_, fun h hm => absurd ⟨hm, .inr h⟩ hmoves, fun h _ => hother h, ⟨htold.host, htold.reader⟩,
          honly.mono hframe⟩
        have hno : ¬mapped := fun hm => hmoves ⟨hm, .inl h⟩
        obtain ⟨hf, htell⟩ := hcalling h
        exact ⟨by rw [if_neg hno]; exact hf, fun hm => absurd hm hno, fun _ => htell⟩
    · intro allowed
      obtain rfl := hkc
      refine ⟨fun hno => ?_, fun x hx hall he hw => ?_⟩
      · obtain ⟨hf, htell, htold, honly⟩ := hangUp_refused_event (c := { nozzle := n, grade := g }) hs hn hc hk hst hslot
          (r := c.grade.elim .grade (refusalOf s i a)) (by
            rcases hcg : c.grade with _ | x
            · rfl
            · exact liftRefusal_refused (hno x hcg))
        exact ⟨_, rfl, hf, htell, ⟨htold.host, htold.reader⟩, honly⟩
      · obtain ⟨hside, hnoz, hcounted, hinuse, hsale, htold, honly⟩ := hangUp_starts_event (c := { nozzle := n, grade := g }) hs hn hc hk
          hst hslot hx (liftRefusal_allowed hall) he hw
        exact ⟨_, rfl, hside, hnoz, hcounted, hinuse, hsale, ⟨htold.host, htold.reader⟩, honly.mono (by simp [frame])⟩

end Sys2Proof.Machine

namespace Sys2Proof.Machine

open Sys2Proof

/-! ### POWER_STAGE at the end of an event -/

theorem notifyAll_tells {n : Notice} (ns : List Notice) {s : State} (hn : n ∈ ns) (hr : Room ns.length s) :
    (ns.foldl (fun u x => notify x u) s).link.tells n := by
  induction ns generalizing s with
  | nil => exact absurd hn List.not_mem_nil
  | cons x xs ih =>
    rcases List.mem_cons.mp hn with rfl | hx
    · exact (notifyAll_keeps xs _).tells _ (notify_tells (k := xs.length) n hr)
    · exact ih hx (notify_room (k := xs.length) x hr)

/-- Each POWER_STAGE notice that an event owes is told at its end (R157). -/
theorem settle_tellsPower {old u : State} {n : Notice} (hn : n ∈ powerNotices old u)
    (hr : Room ((powerNotices old u).length + 2) u) : (settle old u).link.tells n := by
  obtain ⟨v, hv⟩ : ∃ v, v = reportSide .b old.fill.b (reportSide .a old.fill.a (sendDisplays u)) := ⟨_, rfl⟩
  have hroom : Room (powerNotices old u).length v := by
    rw [hv]
    exact reportSide_room (reportSide_room (s := sendDisplays u) hr)
  have hsame : powerNotices old v = powerNotices old u := by
    obtain ⟨l1, h1⟩ := reportSide_eq .a old.fill.a (sendDisplays u)
    obtain ⟨l2, h2⟩ := reportSide_eq .b old.fill.b ((sendDisplays u).setLink l1)
    rw [hv, h1, h2]
    rfl
  have ht : (reportPower old v).link.tells n := by
    unfold reportPower
    rw [hsame]
    exact notifyAll_tells _ hn hroom
  rw [settle_link]
  unfold reported
  rw [← hv]
  exact (Link.startNext_keeps _).tells _ ((Link.follow_keeps _ _).tells _ ht)

/-- Where the mode stands, every change is told by its own notice (R157). -/
theorem settle_tellsStage {old u : State} {ns : List Notice} {n : Notice} (hc : u.changes = ns.map PowerChange.stage) (hn : n ∈ ns)
    (hr : Room (ns.length + 2) u) : (settle old u).link.tells n := by
  have hm (l : List Notice) : (l.map PowerChange.stage).findSome? PowerChange.modeCause = none := by
    induction l with
    | nil => rfl
    | cons n ns ih => exact ih
  have e : powerNotices old u = ns := by
    unfold powerNotices
    rw [hc, hm, List.filterMap_map]
    exact List.filterMap_some
  exact settle_tellsPower (by rw [e]; exact hn) (by rw [e]; exact hr)

/-- What POWER_STAGE tells of the part but for the power state of `i` (R157). -/
structure ToldAlike (i : Side) (s w : State) : Prop where
  mode : w.power.mode = s.power.mode
  attended : ∀ j, (w.sidePower.get j).attended = (s.sidePower.get j).attended
  cold : ∀ j, (w.sidePower.get j).cold = (s.sidePower.get j).cold
  other : (w.sidePower.get i.other).state = (s.sidePower.get i.other).state

/-- The notice of a change of a side's power state, in a part that is otherwise told as `s` (R157). -/
theorem ToldAlike.powerNotice {i : Side} {s w : State} (h : ToldAlike i s w) (p : PowerState) (c : PowerCause)
    (f : SidePower → SidePower) (ha : ∀ q, (f q).attended = q.attended) (hc : ∀ q, (f q).cold = q.cold) :
    powerNotice (some i) c (editSide i (fun q => { f q with state := p }) w) = s.stageTold i p c := by
  obtain ⟨hm, hat, hco, ho⟩ := h
  have a1 := hat .a
  have a2 := hat .b
  have c1 := hco .a
  have c2 := hco .b
  cases i <;> simp_all [Machine.powerNotice, State.stageTold, editSide, PerSide.set, PerSide.get, Side.other]

theorem ToldAlike.refl (i : Side) (s : State) : ToldAlike i s s := ⟨rfl, fun _ => rfl, fun _ => rfl, rfl⟩

theorem ToldAlike.trans {i : Side} {s t u : State} (h : ToldAlike i s t) (k : ToldAlike i t u) : ToldAlike i s u :=
  ⟨k.mode.trans h.mode, fun j => (k.attended j).trans (h.attended j), fun j => (k.cold j).trans (h.cold j), k.other.trans h.other⟩

/-- An operation that leaves the power of both sides, and the mode. -/
theorem ToldAlike.of_eq {i : Side} {s t : State} (hm : t.power.mode = s.power.mode) (hs : t.sidePower = s.sidePower) : ToldAlike i s t :=
  ⟨hm, fun _ => by rw [hs], fun _ => by rw [hs], by rw [hs]⟩

/-- A change of a side's power that leaves its flags. -/
theorem editSide_toldAlike {i : Side} {s : State} {f : SidePower → SidePower} (ha : ∀ q, (f q).attended = q.attended)
    (hc : ∀ q, (f q).cold = q.cold) : ToldAlike i s (editSide i f s) := by
  refine ⟨rfl, fun j => ?_, fun j => ?_, ?_⟩
  · unfold editSide
    rw [State.setSidePower_sidePower, PerSide.get_set]
    split
    · next hj => rw [ha, hj]
    · rfl
  · unfold editSide
    rw [State.setSidePower_sidePower, PerSide.get_set]
    split
    · next hj => rw [hc, hj]
    · rfl
  · exact congrArg SidePower.state (PerSide.get_set_other _ _ (by cases i <;> decide))

/-- A change of a side's power state with what it tells (R157). -/
theorem setStage_told {i : Side} {p : PowerState} {c : PowerCause} {f : SidePower → SidePower} {s w : State} (h : ToldAlike i s w)
    (ha : ∀ q, (f q).attended = q.attended) (hc : ∀ q, (f q).cold = q.cold) :
    ToldAlike i s (setStage i p c f w) ∧ (setStage i p c f w).changes = w.changes ++ [.stage (s.stageTold i p c)] := by
  refine ⟨h.trans ((editSide_toldAlike (f := fun q => { f q with state := p }) ha hc).trans (.of_eq rfl rfl)), ?_⟩
  rw [(setStage_spec i p c f w).2, h.powerNotice p c f ha hc]

end Sys2Proof.Machine

namespace Sys2Proof.Machine

open Sys2Proof

/-! ### What sending and changes of side state leave of a display head -/

/-- What the thermostat and the arbiter go by stands (R115). -/
structure KeepsHead (d e : Display) : Prop where
  temperature : e.temperature = d.temperature
  thermostat : e.thermostat = d.thermostat
  stageHeat : e.stageHeat = d.stageHeat
  heatWant : e.heatWant = d.heatWant

theorem KeepsHead.refl (d : Display) : KeepsHead d d := ⟨rfl, rfl, rfl, rfl⟩

theorem KeepsHead.trans {d e f : Display} (h : KeepsHead d e) (k : KeepsHead e f) : KeepsHead d f :=
  ⟨k.temperature.trans h.temperature, k.thermostat.trans h.thermostat, k.stageHeat.trans h.stageHeat, k.heatWant.trans h.heatWant⟩

theorem KeepsHead.of_eq {d e : Display} (h : e = d) : KeepsHead d e := by
  rw [h]
  exact .refl d

theorem startDisplay_keepsHead (i : Side) (s : State) : KeepsHead (s.display.get i) (startDisplay i s) := by
  unfold startDisplay
  dsimp only
  split
  · exact .refl _
  · split
    · exact ⟨rfl, rfl, rfl, rfl⟩
    · split
      · split
        · exact ⟨rfl, rfl, rfl, rfl⟩
        · exact .refl _
      · exact .refl _
    · split
      · exact ⟨rfl, rfl, rfl, rfl⟩
      · exact .refl _
    · split
      · exact ⟨rfl, rfl, rfl, rfl⟩
      · exact .refl _
    · exact .refl _

theorem sendDue_keepsHead (i : Side) (s : State) : KeepsHead (s.display.get i) ((sendDue i s).display.get i) := by
  unfold sendDue
  rw [State.setDisplay_display, PerSide.get_set_same]
  exact startDisplay_keepsHead i s

theorem Display.sideChanged_keepsHead (d : Display) (old new : SideState) (r : Nat) : KeepsHead d (d.sideChanged old new r) := by
  unfold Display.sideChanged
  split
  · split
    · exact .refl _
    · exact ⟨rfl, rfl, rfl, rfl⟩
  · split
    · exact ⟨rfl, rfl, rfl, rfl⟩
    · exact .refl _
  · exact .refl _

theorem enterState_keepsHead (i : Side) (new : SideState) (s : State) :
    KeepsHead (s.display.get i) ((enterState i new s).display.get i) := by
  by_cases h : s.sideState i = new
  · rw [enterState_same h]
    exact .refl _
  · rw [enterState_other h]
    refine KeepsHead.trans ?_ (sendDue_keepsHead i _)
    rw [State.setDisplay_display, PerSide.get_set_same]
    exact Display.sideChanged_keepsHead _ _ _ _

theorem setClosures_keepsHead (i : Side) (c : Closures) (s : State) :
    KeepsHead (s.display.get i) ((setClosures i c s).display.get i) := by
  unfold setClosures
  dsimp only
  split
  · exact enterState_keepsHead i _ (s.setFill i { s.fill.get i with closures := c })
  · exact .refl _

/-- A controller without power sends nothing (R108). -/
theorem startDisplay_unpowered {i : Side} {s : State} (h : (s.display.get i).controller = .unpowered) :
    startDisplay i s = s.display.get i := by
  refine startDisplay_silent ?_
  unfold Display.owes
  rw [h, Bool.and_false]

theorem enterState_unpowered {i : Side} (new : SideState) {s : State} (h : (s.display.get i).controller = .unpowered) :
    (enterState i new s).display.get i = s.display.get i := by
  by_cases hs : s.sideState i = new
  · rw [enterState_same hs]
  · rw [enterState_other hs]
    have hd (a b : SideState) (r : Nat) : (s.display.get i).sideChanged a b r = s.display.get i := by
      unfold Display.sideChanged
      rw [h]
    unfold sendDue
    rw [State.setDisplay_display, PerSide.get_set_same, startDisplay_unpowered]
    · rw [State.setDisplay_display, PerSide.get_set_same, hd]
    · rw [State.setDisplay_display, PerSide.get_set_same, hd, h]

theorem setClosures_unpowered {i : Side} (c : Closures) {s : State} (h : (s.display.get i).controller = .unpowered) :
    (setClosures i c s).display.get i = s.display.get i := by
  unfold setClosures
  dsimp only
  split
  · exact enterState_unpowered (i := i) _ (s := s.setFill i { s.fill.get i with closures := c }) h
  · rfl

/-- The heat want alone follows (R115). -/
theorem updateHeat_display (i : Side) (s : State) :
    (updateHeat i s).display.get i = { s.display.get i with heatWant := heatWanted s i } := by
  unfold updateHeat
  dsimp only
  split
  · next h =>
    rw [h]
  · exact PerSide.get_set_same _ _ _

theorem setStageHeat_display (i : Side) (on : Bool) (s : State) :
    (setStageHeat i on s).display.get i =
      { s.display.get i with
        stageHeat := on, heatWant := heatWanted (s.setDisplay i { s.display.get i with stageHeat := on }) i } := by
  unfold setStageHeat
  rw [updateHeat_display, State.setDisplay_display, PerSide.get_set_same]

theorem setStageHeat_changes (i : Side) (on : Bool) (s : State) : (setStageHeat i on s).changes = s.changes :=
  updateHeat_changes i _

theorem setClosures_changes (i : Side) (c : Closures) (s : State) : (setClosures i c s).changes = s.changes := by
  unfold setClosures
  dsimp only
  split
  · exact enterState_changes i _ (s.setFill i { s.fill.get i with closures := c })
  · rfl

/-! ### Supply-good in the SUPPLY stage -/

/-- The display head as supply-good leaves it: in STANDBY, with its BLANK frame in flight (R108, R166). -/
structure StandsBy (d e : Display) : Prop where
  controller : e.controller = .standby
  flight : e.transfer ≠ none
  temperature : e.temperature = d.temperature
  frame : d.controller = .unpowered → d.transfer = none → e.sent = d.sent + 1 ∧ ∃ y, e.transfer = some y ∧ y.frame.mode = .blank

theorem sendDue_standsBy {i : Side} {s : State} :
    StandsBy (s.display.get i) ((sendDue i (s.setDisplay i (s.display.get i).toStandby)).display.get i) := by
  have hget : (s.setDisplay i (s.display.get i).toStandby).display.get i = (s.display.get i).toStandby := PerSide.get_set_same _ _ _
  have hsent : (sendDue i (s.setDisplay i (s.display.get i).toStandby)).display.get i =
      startDisplay i (s.setDisplay i (s.display.get i).toStandby) := PerSide.get_set_same _ _ _
  have hkeep := sendDue_keepsHead i (s.setDisplay i (s.display.get i).toStandby)
  refine ⟨?_, ?_, by rw [hkeep.temperature, hget]; rfl, fun _ ht => ?_⟩
  · rw [sendDue_controller, hget]
    rfl
  · rw [hsent]
    by_cases ht : (s.display.get i).transfer = none
    · refine startDisplay_sends ?_
      rw [hget]
      unfold Display.owes
      change ((s.display.get i).transfer.isNone && true) = true
      rw [ht]
      rfl
    · rw [startDisplay_silent (Display.owes_flight (by rw [hget]; exact ht)), hget]
      exact ht
  · have hst : startDisplay i (s.setDisplay i (s.display.get i).toStandby) =
        Display.send { (s.display.get i).toStandby with sendOwed := false }
          (currentFrame (s.setDisplay i (s.display.get i).toStandby) i) false := by
      unfold startDisplay
      dsimp only
      rw [hget]
      have h1 : (s.display.get i).toStandby.transfer = none := ht
      rw [h1]
      rfl
    rw [hsent, hst]
    refine ⟨rfl, _, rfl, ?_⟩
    change (currentFrame (s.setDisplay i (s.display.get i).toStandby) i).mode = .blank
    unfold currentFrame
    rw [hget]
    rfl

/-- What HEAT entry and, for a warm side, CHECK entry leave (R167, R168). -/
structure Heats (i : Side) (s t : State) : Prop where
  power : t.power = s.power
  controllerCold : warm s i = false → (t.display.get i).controller = (s.display.get i).controller
  controllerWarm : warm s i = true → (s.display.get i).controller = .standby → (t.display.get i).controller = .testing
  heat : warm s i = false → (t.display.get i).stageHeat = true
  transfer : (s.display.get i).transfer ≠ none →
    (t.display.get i).transfer = (s.display.get i).transfer ∧ (t.display.get i).sent = (s.display.get i).sent
  cold : warm s i = false → t.sidePower.get i =
    { s.sidePower.get i with state := .heat, stageTimer := some (s.params.heatMaximum.toNat * 60000) }
  warm : warm s i = true → t.sidePower.get i =
    { s.sidePower.get i with state := .check, stageTimer := none, quietTimer := some 3000, quietEdge := false, testReported := false }
  changes : ∀ w, ToldAlike i w s → t.changes = s.changes ++ (if Machine.warm s i then [w.stageTold i .heat .supplyGood, w.stageTold i .check .skipped]
    else [w.stageTold i .heat .supplyGood]).map .stage
  only : OnlyChanges [.display i, .arbiter, .sidePower i] s t
  alike : ∀ w, ToldAlike i w s → ToldAlike i w t

/-- CHECK entry over a head with a frame in flight (R168). -/
theorem enterCheck_display {i : Side} {c : PowerCause} {s : State} (hc : (s.display.get i).controller = .standby) :
    ((enterCheck i c s).display.get i).controller = .testing := by
  unfold enterCheck
  dsimp only
  rw [sendDue_controller, State.setDisplay_display, PerSide.get_set_same]
  have hd : (setStage i .check c (fun p => { p with
      stageTimer := none, quietTimer := some Const.quietCheck, quietEdge := false, testReported := false }) s).display = s.display := rfl
  rw [hd]
  unfold Display.startTest
  rw [hc]

theorem Display.startTest_transfer (d : Display) (k : TestKind) : (d.startTest k).transfer = d.transfer ∧ (d.startTest k).sent = d.sent := by
  unfold Display.startTest
  split <;> exact ⟨rfl, rfl⟩

theorem enterCheck_flight {i : Side} {c : PowerCause} {s : State} (ht : (s.display.get i).transfer ≠ none) :
    ((enterCheck i c s).display.get i).transfer = (s.display.get i).transfer ∧
      ((enterCheck i c s).display.get i).sent = (s.display.get i).sent := by
  obtain ⟨h1, h2⟩ := Display.startTest_transfer (s.display.get i) .check
  obtain ⟨v, hv⟩ : ∃ v, v = (setStage i .check c (fun p => { p with
      stageTimer := none, quietTimer := some Const.quietCheck, quietEdge := false, testReported := false }) s).setDisplay i
        ((s.display.get i).startTest .check) := ⟨_, rfl⟩
  have hget : v.display.get i = (s.display.get i).startTest .check := by rw [hv]; exact PerSide.get_set_same _ _ _
  have he : enterCheck i c s = sendDue i v := by rw [hv]; rfl
  rw [he]
  unfold sendDue
  rw [State.setDisplay_display, PerSide.get_set_same, startDisplay_silent (Display.owes_flight (by rw [hget, h1]; exact ht)), hget]
  exact ⟨h1, h2⟩

theorem enterCheck_stage (i : Side) (c : PowerCause) (s : State) :
    (enterCheck i c s).sidePower.get i = { s.sidePower.get i with
      state := .check, stageTimer := none, quietTimer := some 3000, quietEdge := false, testReported := false } ∧
      OnlyChanges [.display i, .sidePower i] s (enterCheck i c s) ∧
      ∀ w, ToldAlike i w s → (enterCheck i c s).changes = s.changes ++ [.stage (w.stageTold i .check c)] ∧
        ToldAlike i w (enterCheck i c s) := by
  refine ⟨?_, ?_, fun w hw => ?_⟩
  · exact (setStage_spec i .check c (fun p => { p with
      stageTimer := none, quietTimer := some Const.quietCheck, quietEdge := false, testReported := false }) s).1
  · exact (((setStage_only i _ c _ s).mono (by simp)).step (setDisplay_only _ i _) (by simp)).step (sendDue_only i _) (by simp)
  · obtain ⟨ha, hc⟩ := setStage_told (p := .check) (c := c) (f := fun p => { p with
      stageTimer := none, quietTimer := some Const.quietCheck, quietEdge := false, testReported := false }) hw
      (fun _ => rfl) (fun _ => rfl)
    exact ⟨hc, ha.trans (.of_eq rfl rfl)⟩

theorem enterHeat_heats (i : Side) (s : State) : Heats i s (enterHeat i s) := by
  obtain ⟨v, hv⟩ : ∃ v, v = setStage i .heat .supplyGood (fun p => { p with stageTimer := none }) s := ⟨_, rfl⟩
  have hsp : v.sidePower.get i = { s.sidePower.get i with state := .heat, stageTimer := none } := by
    rw [hv]
    exact (setStage_spec i .heat .supplyGood (fun p => { p with stageTimer := none }) s).1
  have hd : v.display = s.display := by rw [hv]; rfl
  have hw : warm v i = warm s i := by rw [hv]; rfl
  have hp : v.power = s.power := by rw [hv]; rfl
  have ho : OnlyChanges [.display i, .arbiter, .sidePower i] s v := by rw [hv]; exact (setStage_only i _ _ _ s).mono (by simp)
  have htold (w : State) (h : ToldAlike i w s) :
      ToldAlike i w v ∧ v.changes = s.changes ++ [.stage (w.stageTold i .heat .supplyGood)] := by
    rw [hv]
    exact setStage_told h (fun _ => rfl) (fun _ => rfl)
  have he : enterHeat i s = if warm v i then enterCheck i .skipped v
      else editSide i (fun p => { p with stageTimer := some (v.params.heatMaximum.toNat * 60000) }) (setStageHeat i true v) := by
    rw [hv]; rfl
  rcases hb : warm s i with _ | _
  · have e : enterHeat i s =
        editSide i (fun p => { p with stageTimer := some (v.params.heatMaximum.toNat * 60000) }) (setStageHeat i true v) := by
      rw [he, hw, hb]; rfl
    have hon : OnlyChanges [.display i, .arbiter] v (setStageHeat i true v) := setStageHeat_only i true v
    rw [e]
    refine ⟨?_, fun _ => ?_, fun h => ?_, fun _ => ?_, fun _ => ?_, fun _ => ?_, fun h => ?_, fun w h => ?_, ?_, fun w h => ?_⟩
    · exact (hon .power (by simp)).trans hp
    · change ((setStageHeat i true v).display.get i).controller = _
      rw [setStageHeat_display, hd]
    · rw [hb] at h; exact absurd h (by decide)
    · change ((setStageHeat i true v).display.get i).stageHeat = _
      rw [setStageHeat_display]
    · change ((setStageHeat i true v).display.get i).transfer = _ ∧ ((setStageHeat i true v).display.get i).sent = _
      rw [setStageHeat_display, hd]
      exact ⟨rfl, rfl⟩
    · have hs1 : (setStageHeat i true v).sidePower.get i = v.sidePower.get i := hon (.sidePower i) (by simp)
      have hpar : v.params = s.params := ho .params (by simp)
      unfold editSide
      rw [State.setSidePower_sidePower, PerSide.get_set_same, hs1, hsp, hpar]
    · rw [hb] at h; exact absurd h (by decide)
    · obtain ⟨-, hc⟩ := htold w h
      change (setStageHeat i true v).changes = _
      rw [setStageHeat_changes, hc, hb, if_neg Bool.false_ne_true]
      rfl
    · exact (ho.step hon (by simp)).step (editSide_only i _ _) (by simp)
    · refine ((htold w h).1.trans ?_).trans (editSide_toldAlike (fun _ => rfl) (fun _ => rfl))
      have hz (j : Side) : (setStageHeat i true v).sidePower.get j = v.sidePower.get j := hon (.sidePower j) (by simp)
      exact ⟨by rw [hon .power (by simp)], fun j => by rw [hz], fun j => by rw [hz], by rw [hz]⟩
  · have e : enterHeat i s = enterCheck i .skipped v := by rw [he, hw, hb]; rfl
    obtain ⟨hst, hon, hch⟩ := enterCheck_stage i .skipped v
    rw [e]
    refine ⟨?_, fun h => ?_, fun _ hc => ?_, fun h => ?_, fun ht => ?_, fun h => ?_, fun _ => ?_, fun w h => ?_, ?_, fun w h => ?_⟩
    · exact (hon .power (by simp)).trans hp
    · rw [hb] at h; exact absurd h (by decide)
    · exact enterCheck_display (by rw [hd]; exact hc)
    · rw [hb] at h; exact absurd h (by decide)
    · obtain ⟨h1, h2⟩ := enterCheck_flight (c := .skipped) (s := v) (i := i) (by rw [hd]; exact ht)
      exact ⟨h1.trans (by rw [hd]), h2.trans (by rw [hd])⟩
    · rw [hb] at h; exact absurd h (by decide)
    · rw [hst, hsp]
    · obtain ⟨ha, hc⟩ := htold w h
      rw [(hch w ha).1, hc, hb, if_pos rfl]
      simp
    · exact ho.step hon (by simp)
    · exact (hch w (htold w h).1).2

/-- What supply-good leaves of a side in SUPPLY (R166). -/
structure SupplyTaken (i : Side) (s t : State) : Prop where
  power : t.power = { s.power with holdTimer := some 200 }
  closures : (t.fill.get i).closures = { (s.fill.get i).closures with supply := false }
  flight : (t.display.get i).transfer ≠ none
  frame : (s.display.get i).controller = .unpowered → (s.display.get i).transfer = none →
    (t.display.get i).sent = (s.display.get i).sent + 1 ∧ ∃ y, (t.display.get i).transfer = some y ∧ y.frame.mode = .blank
  cold : warm s i = false → (t.display.get i).controller = .standby ∧ (t.display.get i).stageHeat = true ∧ t.sidePower.get i =
    { s.sidePower.get i with state := .heat, stageTimer := some (s.params.heatMaximum.toNat * 60000) }
  warm : warm s i = true → (t.display.get i).controller = .testing ∧ t.sidePower.get i =
    { s.sidePower.get i with state := .check, stageTimer := none, quietTimer := some 3000, quietEdge := false, testReported := false }
  changes : ∀ w, ToldAlike i w s → t.changes = s.changes ++ (if Machine.warm s i then
      [w.stageTold i .heat .supplyGood, w.stageTold i .check .skipped] else [w.stageTold i .heat .supplyGood]).map .stage
  only : OnlyChanges [.fill i, .blend i, .valves i, .display i, .arbiter, .power, .sidePower i] s t

theorem takeSupplyGood_taken (i : Side) (s : State) : SupplyTaken i s (takeSupplyGood i s) := by
  obtain ⟨c, hc⟩ : ∃ c, c = setClosures i { (s.fill.get i).closures with supply := false } s := ⟨_, rfl⟩
  obtain ⟨b, hb⟩ : ∃ b, b = sendDue i (c.setDisplay i (c.display.get i).toStandby) := ⟨_, rfl⟩
  obtain ⟨v, hv⟩ : ∃ v, v = (updateHeat i b).setPower { (updateHeat i b).power with holdTimer := some Const.permitHold } := ⟨_, rfl⟩
  have he : takeSupplyGood i s = enterHeat i v := by rw [hv, hb, hc]; rfl
  have oc : OnlyChanges (stateBlocks i) s c := by rw [hc]; exact setClosures_only i _ s
  have ob : OnlyChanges (stateBlocks i) s b := by
    rw [hb]
    exact (oc.step (setDisplay_only c i _) (by simp)).step (sendDue_only i _) (by simp)
  have ov : OnlyChanges [.fill i, .blend i, .valves i, .display i, .arbiter, .power] s v := by
    rw [hv]
    exact ((ob.mono (by simp)).step (updateHeat_only i b) (by simp)).step (setPower_only _ _) (by simp)
  have hpower : v.power = { s.power with holdTimer := some 200 } := by
    have h1 : (updateHeat i b).power = s.power := (updateHeat_only i b .power (by simp)).trans (ob .power (by simp))
    rw [hv]
    change { (updateHeat i b).power with holdTimer := some Const.permitHold } = _
    rw [h1]
    rfl
  have hsp (j : Side) : v.sidePower.get j = s.sidePower.get j := ov (.sidePower j) (by simp)
  have hstand : StandsBy (c.display.get i) (b.display.get i) := by rw [hb]; exact sendDue_standsBy
  have hheadc : KeepsHead (s.display.get i) (c.display.get i) := by rw [hc]; exact setClosures_keepsHead i _ s
  have hdisp : v.display.get i = { b.display.get i with heatWant := heatWanted b i } := by
    rw [hv]
    exact updateHeat_display i b
  have hparams : v.params = s.params := ov .params (by simp)
  have hwarm : Machine.warm v i = Machine.warm s i := by
    unfold Machine.warm
    rw [hdisp, hparams]
    dsimp only
    rw [hstand.temperature, hheadc.temperature]
  have hch : v.changes = s.changes := by
    rw [hv]
    change (updateHeat i b).changes = _
    rw [updateHeat_changes, hb]
    change c.changes = _
    rw [hc, setClosures_changes]
  have hcl : (v.fill.get i).closures = { (s.fill.get i).closures with supply := false } := by
    have h1 : v.fill.get i = c.fill.get i := by
      rw [hv]
      exact (updateHeat_only i b (.fill i) (by simp)).trans (by rw [hb]; rfl)
    rw [h1, hc, setClosures_closures]
  have hvt : (v.display.get i).transfer ≠ none := by rw [hdisp]; exact hstand.flight
  have hvc : (v.display.get i).controller = .standby := by rw [hdisp]; exact hstand.controller
  have halike (w : State) (h : ToldAlike i w s) : ToldAlike i w v :=
    h.trans ⟨by rw [hpower], fun j => by rw [hsp], fun j => by rw [hsp], by rw [hsp]⟩
  have H := enterHeat_heats i v
  obtain ⟨htr, hsent⟩ := H.transfer hvt
  rw [he]
  refine ⟨H.power.trans hpower, ?_, by rw [htr]; exact hvt, fun hu ht => ?_, fun hw => ?_, fun hw => ?_, fun w h => ?_, ?_⟩
  · rw [H.only (.fill i) (by simp), hcl]
  · have hcd : c.display.get i = s.display.get i := by rw [hc]; exact setClosures_unpowered _ hu
    obtain ⟨f1, f2⟩ := hstand.frame (by rw [hcd]; exact hu) (by rw [hcd]; exact ht)
    rw [htr, hsent, hdisp]
    exact ⟨f1.trans (by rw [hcd]), f2⟩
  · rw [← hwarm] at hw
    exact ⟨(H.controllerCold hw).trans hvc, H.heat hw, by rw [H.cold hw, hsp, hparams]⟩
  · rw [← hwarm] at hw
    exact ⟨H.controllerWarm hw hvc, by rw [H.warm hw, hsp]⟩
  · rw [H.changes w (halike w h), hch, hwarm]
  · exact (ov.mono (by simp)).step H.only (by simp)

end Sys2Proof.Machine

namespace Sys2Proof.Machine

open Sys2Proof

/-! ### What the withdrawals leave of a side's fill -/

/-- What the removal of an authorization leaves of a fill: the sale, the closures, and every state but AUTHORIZED (R54, R129). -/
structure Withdraws (f g : Fill) : Prop where
  sale : g.sale = f.sale
  slot : g.slot = f.slot ∨ g.slot = none
  closures : g.closures = f.closures
  state : f.state ≠ .authorized → g.state = f.state

theorem Withdraws.refl (f : Fill) : Withdraws f f := ⟨rfl, .inl rfl, rfl, fun _ => rfl⟩

theorem Withdraws.of_eq {f g : Fill} (h : g = f) : Withdraws f g := by
  rw [h]
  exact .refl f

theorem Withdraws.trans {f g h : Fill} (a : Withdraws f g) (b : Withdraws g h) : Withdraws f h := by
  refine ⟨b.sale.trans a.sale, ?_, b.closures.trans a.closures, fun hf => ?_⟩
  · rcases b.slot with e | e
    · rw [e]
      exact a.slot
    · exact .inr e
  · have hg := a.state hf
    rw [b.state (by rw [hg]; exact hf), hg]

theorem Fill.withoutWaiting_withdraws (f : Fill) : Withdraws f f.withoutWaiting := by
  unfold Fill.withoutWaiting
  split
  · exact ⟨rfl, .inr rfl, rfl, fun _ => rfl⟩
  · exact .refl f

theorem removeWaiting_withdraws (i : Side) (why : RemovalReason) (tell : Bool) (s : State) :
    Withdraws (s.fill.get i) ((removeWaiting i why tell s).fill.get i) := by
  rw [removeWaiting_fill]
  exact Fill.withoutWaiting_withdraws _

theorem withdrawWaiting_withdraws (i : Side) (why : RemovalReason) (tell : Bool) (s : State) :
    Withdraws (s.fill.get i) ((withdrawWaiting i why tell s).fill.get i) := by
  have hr := removeWaiting_withdraws i why tell s
  unfold withdrawWaiting
  dsimp only
  split
  · next h =>
    have hst : ((removeWaiting i why tell s).fill.get i).state = (s.fill.get i).state := by
      rw [removeWaiting_fill]
      unfold Fill.withoutWaiting
      split <;> rfl
    obtain ⟨-, ha⟩ := h
    refine ⟨?_, ?_, ?_, fun hn => absurd (hst.symm.trans ha) hn⟩
    · rw [← hr.sale]
      unfold enterImplied
      by_cases he : (removeWaiting i why tell s).sideState i = ((removeWaiting i why tell s).fill.get i).impliedState
      · rw [enterState_same he]
      · rw [enterState_fill he]
    · have hk := hr.slot
      unfold enterImplied
      by_cases he : (removeWaiting i why tell s).sideState i = ((removeWaiting i why tell s).fill.get i).impliedState
      · rw [enterState_same he]
        exact hk
      · rw [enterState_fill he]
        exact hk
    · rw [← hr.closures]
      exact enterState_closures i _ _
  · exact hr

theorem leavePort_withdraws (i : Side) (r : PortReason) (change : Port → Port) (s : State) :
    Withdraws (s.fill.get i) ((leavePort i r change s).fill.get i) := by
  unfold leavePort
  dsimp only
  split
  · unfold readerLost
    split
    · exact withdrawWaiting_withdraws i .linkLost false
        (changePort i r (change (s.ports.get i).exited) { s with conversations := dropPort i s.conversations })
    · exact .refl _
  · exact .refl _

theorem disablePort_withdraws (i : Side) (r : PortReason) (s : State) :
    Withdraws (s.fill.get i) ((disablePort i r s).fill.get i) := by
  unfold disablePort
  split
  · exact .refl _
  · exact .refl _
  all_goals exact leavePort_withdraws i r _ s

theorem withdrawWaiting_changes (i : Side) (why : RemovalReason) (tell : Bool) (s : State) :
    (withdrawWaiting i why tell s).changes = s.changes := by
  unfold withdrawWaiting
  dsimp only
  split
  · exact (enterState_changes i _ _).trans (removeWaiting_changes i why tell s)
  · exact removeWaiting_changes i why tell s

theorem leavePort_changes (i : Side) (r : PortReason) (change : Port → Port) (s : State) :
    (leavePort i r change s).changes = s.changes := by
  unfold leavePort
  dsimp only
  split
  · unfold readerLost
    split
    · exact withdrawWaiting_changes i _ _ _
    · rfl
  · rfl

theorem disablePort_changes (i : Side) (r : PortReason) (s : State) : (disablePort i r s).changes = s.changes := by
  unfold disablePort
  split
  · rfl
  · rfl
  all_goals exact leavePort_changes i r _ s

/-- A display head without power stays without it at a disable of the reader (R108, R129). -/
theorem disablePort_unpowered {i : Side} (r : PortReason) {s : State} (h : (s.display.get i).controller = .unpowered) :
    (disablePort i r s).display.get i = s.display.get i := by
  have hw (why : RemovalReason) (tell : Bool) (u : State) (hu : (u.display.get i).controller = .unpowered) :
      (withdrawWaiting i why tell u).display.get i = u.display.get i := by
    have hr : (removeWaiting i why tell u).display.get i = u.display.get i := removeWaiting_only i why tell u (.display i) (by simp)
    unfold withdrawWaiting
    dsimp only
    split
    · unfold enterImplied
      rw [enterState_unpowered _ (by rw [hr]; exact hu), hr]
    · exact hr
  have hl (change : Port → Port) : (leavePort i r change s).display.get i = s.display.get i := by
    unfold leavePort
    dsimp only
    split
    · unfold readerLost
      split
      · exact hw .linkLost false
          (changePort i r (change (s.ports.get i).exited) { s with conversations := dropPort i s.conversations }) h
      · rfl
    · rfl
  unfold disablePort
  split
  · rfl
  · rfl
  all_goals exact hl _

/-- A port that is not TAMPERED is DISABLED by a disable (R129). -/
theorem disablePort_disables {i : Side} (r : PortReason) {s : State} (h : (s.ports.get i).state ≠ .tampered) :
    ((disablePort i r s).ports.get i).state = .disabled := by
  unfold disablePort
  split
  · next hd => exact hd
  · next ht => exact absurd ht h
  all_goals exact leavePort_portState i r _ s .disabled (fun _ => rfl)

/-! ### The end of a side's supply -/

/-- What switching a supply off leaves (R108, R129, R162). -/
structure SupplyCut (i : Side) (s t : State) : Prop where
  power : t.sidePower.get i = { s.sidePower.get i with supplyOn := false, shutting := false }
  fill : Withdraws (s.fill.get i) (t.fill.get i)
  controller : (t.display.get i).controller = .unpowered
  transfer : (t.display.get i).transfer = none
  port : (s.ports.get i).state ≠ .tampered → (t.ports.get i).state = .disabled
  changes : t.changes = s.changes
  keeps : s.link.Keeps t.link
  room : ∀ n, Room (n + 2) s → Room n t
  only : OnlyChanges ([.sidePower i, .arbiter] ++ portBlocks i) s t

theorem unpowerDisplay_display (i : Side) (s : State) :
    ((unpowerDisplay i s).display.get i).controller = .unpowered ∧ ((unpowerDisplay i s).display.get i).transfer = none := by
  unfold unpowerDisplay
  rw [updateHeat_display, State.setDisplay_display, PerSide.get_set_same]
  exact ⟨rfl, rfl⟩

theorem supplyOff_cut (i : Side) (s : State) : SupplyCut i s (supplyOff i s) := by
  obtain ⟨v, hv⟩ : ∃ v, v = unpowerDisplay i (editSide i (fun p => { p with supplyOn := false, shutting := false }) s) := ⟨_, rfl⟩
  have he : supplyOff i s = disablePort i .disabled v := by rw [hv]; rfl
  have ov : OnlyChanges [.sidePower i, .display i, .arbiter] s v := by
    rw [hv]
    exact ((editSide_only i _ s).mono (by simp)).step (unpowerDisplay_only i _) (by simp)
  have hsp : v.sidePower.get i = { s.sidePower.get i with supplyOn := false, shutting := false } := by
    rw [hv]
    exact (unpowerDisplay_only i _ (.sidePower i) (by simp)).trans (PerSide.get_set_same _ _ _)
  obtain ⟨hcon, htr⟩ : (v.display.get i).controller = .unpowered ∧ (v.display.get i).transfer = none := by
    rw [hv]
    exact unpowerDisplay_display i _
  have hch : v.changes = s.changes := by rw [hv]; exact updateHeat_changes i _
  have hfill : v.fill.get i = s.fill.get i := ov (.fill i) (by simp)
  have hlink : v.link = s.link := ov.link_eq
  have hport : v.ports.get i = s.ports.get i := ov (.port i) (by simp)
  have hc := disablePort_carries i .disabled v
  have ho := disablePort_only i .disabled v
  have hd := disablePort_unpowered .disabled hcon
  rw [he]
  refine ⟨(ho (.sidePower i) (by simp)).trans hsp, ?_, by rw [hd, hcon], by rw [hd, htr], fun h => ?_,
    (disablePort_changes i _ v).trans hch, ?_, fun n hr => hc.room n (hr.of_link hlink), (ov.mono (by simp)).step ho (by simp)⟩
  · rw [← hfill]
    exact disablePort_withdraws i .disabled v
  · exact disablePort_disables _ (by rw [hport]; exact h)
  · rw [← hlink]
    exact hc.keeps

end Sys2Proof.Machine

namespace Sys2Proof.Machine

open Sys2Proof

/-! ### The supply permit -/

/-- A side in SUPPLY with the permit that it has taken (R166). -/
def permitTaken (i : Side) (s : State) : State :=
  setStage i .supply .permit (fun p => { p with supplyOn := true, stageTimer := some Const.supplyWait })
    (s.setPower { s.power with holder := some i, waiting := s.power.waiting.erase i })

theorem permitTaken_sidePower (i : Side) (s : State) : (permitTaken i s).sidePower.get i =
    { s.sidePower.get i with state := .supply, supplyOn := true, stageTimer := some 2000 } :=
  PerSide.get_set_same _ _ _

theorem permitTaken_power (i : Side) (s : State) :
    (permitTaken i s).power = { s.power with holder := some i, waiting := s.power.waiting.erase i } := rfl

theorem permitTaken_only (i : Side) (s : State) : OnlyChanges [.power, .sidePower i] s (permitTaken i s) :=
  ((setPower_only s _).mono (by simp)).step (setStage_only i _ _ _ _) (by simp)

theorem permitTaken_told {i : Side} {w s : State} (h : ToldAlike i w s) : ToldAlike i w (permitTaken i s) ∧
    (permitTaken i s).changes = s.changes ++ [.stage (w.stageTold i .supply .permit)] :=
  setStage_told (w := s.setPower { s.power with holder := some i, waiting := s.power.waiting.erase i })
    (h.trans (.of_eq rfl rfl)) (fun _ => rfl) (fun _ => rfl)

theorem takePermit_waits {i : Side} {s : State} (h : (s.sidePower.get i).supplyGood = false) : takePermit i s = permitTaken i s := by
  refine if_neg ?_
  have hg : ((permitTaken i s).sidePower.get i).supplyGood = false := by rw [permitTaken_sidePower]; exact h
  exact ne_true_of_eq_false hg

theorem takePermit_passes {i : Side} {s : State} (h : (s.sidePower.get i).supplyGood = true) :
    takePermit i s = takeSupplyGood i (permitTaken i s) := by
  refine if_pos ?_
  have hg : ((permitTaken i s).sidePower.get i).supplyGood = true := by rw [permitTaken_sidePower]; exact h
  exact hg

/-- What a side writes that takes the permit (R166). -/
abbrev permitBlocks (i : Side) : List Block := [.fill i, .blend i, .valves i, .display i, .arbiter, .power, .sidePower i]

theorem takePermit_clear (i : Side) (s : State) : OnlyChanges (permitBlocks i) s (takePermit i s) := by
  have h1 : OnlyChanges (permitBlocks i) s (permitTaken i s) := (permitTaken_only i s).mono (by simp)
  rcases hg : (s.sidePower.get i).supplyGood with _ | _
  · rw [takePermit_waits hg]
    exact h1
  · rw [takePermit_passes hg]
    exact h1.trans (takeSupplyGood_taken i _).only

theorem takePermit_mode (i : Side) (s : State) : (takePermit i s).power.mode = s.power.mode := (takePermit_advances i s).carries.mode

/-- What taking the permit tells: SUPPLY, and the stages that a standing supply-good passes at once (R157, R166). -/
theorem takePermit_changes {i : Side} {w s : State} (h : ToldAlike i w s) : ∃ gs : List Notice, gs.length ≤ 2 ∧
    (takePermit i s).changes = s.changes ++ (w.stageTold i .supply .permit :: gs).map .stage := by
  obtain ⟨ha, hc⟩ := permitTaken_told h
  rcases hg : (s.sidePower.get i).supplyGood with _ | _
  · rw [takePermit_waits hg]
    exact ⟨[], Nat.zero_le _, hc⟩
  · rw [takePermit_passes hg, (takeSupplyGood_taken i _).changes w ha, hc]
    refine ⟨_, ?_, by rw [List.append_assoc]; rfl⟩
    split
    · exact Nat.le_refl _
    · exact Nat.le_succ _

theorem grantPermit_held {s : State} (h : s.power.holder ≠ none ∨ s.power.waiting = []) : grantPermit s = s := by
  unfold grantPermit
  split
  · next j l hh hw =>
    rcases h with h | h
    · exact absurd hh h
    · rw [hw] at h
      exact absurd h (List.cons_ne_nil _ _)
  · rfl

theorem grantPermit_head {s : State} {i : Side} {rest : List Side} (hh : s.power.holder = none) (hw : s.power.waiting = i :: rest) :
    grantPermit s = takePermit i s := by
  unfold grantPermit
  rw [hh, hw]

/-- What a free permit does to the side that it is handed to, where `i` does not wait for it (R166). -/
structure HandsOn (i : Side) (s t : State) : Prop where
  changes : ∃ gs : List Notice, gs.length ≤ 3 ∧ t.changes = s.changes ++ gs.map .stage
  only : OnlyChanges (permitBlocks i.other) s t
  mode : t.power.mode = s.power.mode

theorem Side.eq_other {i j : Side} (h : j ≠ i) : j = i.other := by
  revert h
  cases i <;> cases j <;> decide

theorem grantPermit_handsOn {i : Side} {s : State} (h : i ∉ s.power.waiting) : HandsOn i s (grantPermit s) := by
  by_cases hn : s.power.holder ≠ none ∨ s.power.waiting = []
  · rw [grantPermit_held hn]
    exact ⟨⟨[], Nat.zero_le _, (List.append_nil _).symm⟩, .refl _ _, rfl⟩
  · obtain ⟨hh, hw⟩ := not_or.mp hn
    obtain ⟨j, rest, hj⟩ := List.exists_cons_of_ne_nil hw
    have hjo : j = i.other := Side.eq_other (fun e => h (by rw [hj, e]; exact List.mem_cons_self))
    subst hjo
    rw [grantPermit_head (not_not.mp hh) hj]
    obtain ⟨gs, hl, hc⟩ := takePermit_changes (.refl i.other s)
    exact ⟨⟨s.stageTold i.other .supply .permit :: gs, Nat.succ_le_succ hl, hc⟩, takePermit_clear _ s, takePermit_mode _ s⟩

/-- The power after a side has left the permit and its list (R162, R166). -/
theorem leavePermit_power (i : Side) (s : State) : (leavePermit i s).power =
    { s.power with
      waiting := s.power.waiting.filter (· ≠ i)
      holder := if s.power.holder = some i then none else s.power.holder
      holdTimer := if s.power.holder = some i then none else s.power.holdTimer } := by
  unfold leavePermit
  dsimp only
  split
  · rfl
  · rfl

theorem leavePermit_waiting (i : Side) (s : State) : i ∉ (leavePermit i s).power.waiting := by
  rw [leavePermit_power]
  simp

theorem leavePermit_changes (i : Side) (s : State) : (leavePermit i s).changes = s.changes := by
  unfold leavePermit
  dsimp only
  split <;> rfl

/-! ### A side that goes to DOWN_FAULT -/

/-- The power of a side that has gone to DOWN_FAULT (R171). -/
def SidePower.fallen (p : SidePower) : SidePower :=
  { p with state := .downFault, supplyOn := false, shutting := false, bringUp := false, stageTimer := none, quietTimer := none }

/-- What DOWN_FAULT leaves of a side up to the permit that is handed on (R166, R171). -/
structure FallsTo (i : Side) (s t : State) : Prop where
  power : t.sidePower.get i = (s.sidePower.get i).fallen
  closures : (t.fill.get i).closures = { (s.fill.get i).closures with supply := true }
  closed : s.filling i = false → t.sideState i = .closed
  filling : s.filling i = true → t.sideState i = s.sideState i
  sale : (t.fill.get i).sale = (s.fill.get i).sale
  slot : (t.fill.get i).slot = (s.fill.get i).slot ∨ (t.fill.get i).slot = none
  controller : (t.display.get i).controller = .unpowered
  port : (s.ports.get i).state ≠ .tampered → (t.ports.get i).state = .disabled
  keeps : s.link.Keeps t.link
  room : ∀ n, Room (n + 3) s → Room n t

theorem removeWaiting_portState (i : Side) (why : RemovalReason) (tell : Bool) (s : State) :
    ((removeWaiting i why tell s).ports.get i).state = (s.ports.get i).state := by
  unfold removeWaiting
  dsimp only
  split
  · split
    · rfl
    · split
      · unfold pendAuthState
        rw [State.setPort_ports, PerSide.get_set_same]
        rfl
      · rfl
  · rfl

theorem addClosure_portState (i : Side) (r : ClosureReason) (s : State) :
    ((addClosure i r s).ports.get i).state = (s.ports.get i).state := by
  unfold addClosure closeIfWaiting
  dsimp only
  split
  · rfl
  · rw [enterState_only i .closed _ (.port i) (by simp), removeWaiting_portState]
    rfl

/-- A part of which one side's flags alone could have changed, and have not. -/
theorem ToldAlike.of_sides {i : Side} {s t : State} (hm : t.power.mode = s.power.mode)
    (ha : (t.sidePower.get i).attended = (s.sidePower.get i).attended) (hc : (t.sidePower.get i).cold = (s.sidePower.get i).cold)
    (ho : t.sidePower.get i.other = s.sidePower.get i.other) : ToldAlike i s t := by
  refine ⟨hm, fun j => ?_, fun j => ?_, congrArg SidePower.state ho⟩
  · by_cases hj : j = i
    · rw [hj]
      exact ha
    · rw [Side.eq_other hj, ho]
  · by_cases hj : j = i
    · rw [hj]
      exact hc
    · rw [Side.eq_other hj, ho]

/-- A side gone to DOWN_FAULT, before the permit that it held is handed on (R171). -/
def fallen (i : Side) (c : PowerCause) (s : State) : State :=
  leavePermit i (setStage i .downFault c (fun p => { p.stopTimers with bringUp := false })
    (setStageHeat i false (supplyOff i (addClosure i .supply s))))

theorem downFault_eq (i : Side) (c : PowerCause) (s : State) : downFault i c s = grantPermit (runTest c (fallen i c s)) := rfl

/-- What a side's going to DOWN_FAULT writes before the permit is handed on. -/
abbrev fallBlocks (i : Side) : List Block := [.sidePower i, .arbiter, .power] ++ portBlocks i

theorem addClosure_slot_or {i : Side} (r : ClosureReason) (s : State) :
    ((addClosure i r s).fill.get i).sale = (s.fill.get i).sale ∧
      (((addClosure i r s).fill.get i).slot = (s.fill.get i).slot ∨ ((addClosure i r s).fill.get i).slot = none) := by
  rcases hf : s.filling i with _ | _
  · rw [addClosure_waiting r hf]
    obtain ⟨v, hv⟩ : ∃ v, v = s.setFill i { s.fill.get i with closures := (s.fill.get i).closures.add r } := ⟨_, rfl⟩
    have hvf : v.fill.get i = { s.fill.get i with closures := (s.fill.get i).closures.add r } := by
      rw [hv]
      exact PerSide.get_set_same _ _ _
    have hw := removeWaiting_withdraws i .closed true v
    rw [← hv]
    have hsale := hw.sale
    have hslot := hw.slot
    rw [hvf] at hsale hslot
    by_cases he : (removeWaiting i .closed true v).sideState i = .closed
    · rw [enterState_same he]
      exact ⟨hsale, hslot⟩
    · rw [enterState_fill he]
      exact ⟨hsale, hslot⟩
  · rw [addClosure_filling r hf, State.setFill_fill, PerSide.get_set_same]
    exact ⟨rfl, .inl rfl⟩

theorem SideState.ne_authorized_of_isFill {st : SideState} (h : st.isFill = true) : st ≠ .authorized := by
  rintro rfl; exact absurd h (by decide)

theorem fallen_falls (i : Side) (c : PowerCause) (s : State) : FallsTo i s (fallen i c s) ∧
    (fallen i c s).power = (leavePermit i s).power ∧ OnlyChanges (fallBlocks i) s (fallen i c s) ∧
    ∀ w, ToldAlike i w s → (fallen i c s).changes = s.changes ++ [.stage (w.stageTold i .downFault c)] := by
  obtain ⟨a, ha⟩ : ∃ a, a = addClosure i .supply s := ⟨_, rfl⟩
  obtain ⟨b, hb⟩ : ∃ b, b = supplyOff i a := ⟨_, rfl⟩
  obtain ⟨d, hd⟩ : ∃ d, d = setStageHeat i false b := ⟨_, rfl⟩
  obtain ⟨e, he⟩ : ∃ e, e = setStage i .downFault c (fun p => { p.stopTimers with bringUp := false }) d := ⟨_, rfl⟩
  have hall : fallen i c s = leavePermit i e := by rw [he, hd, hb, ha]; rfl
  have oa : OnlyChanges (closureBlocks i) s a := by rw [ha]; exact addClosure_only i _ s
  have C : SupplyCut i a b := by rw [hb]; exact supplyOff_cut i a
  have od : OnlyChanges [.display i, .arbiter] b d := by rw [hd]; exact setStageHeat_only i false b
  have oe : OnlyChanges [.sidePower i] d e := by rw [he]; exact setStage_only i _ c _ d
  have obd : OnlyChanges ([.sidePower i, .arbiter] ++ portBlocks i) s d :=
    ((oa.mono (by simp)).step C.only (List.Subset.refl _)).step od (by simp)
  have ol : OnlyChanges [.power] e (leavePermit i e) := leavePermit_only i e
  have hpw : e.power = s.power := (oe .power (by simp)).trans (obd .power (by simp))
  have hsp : d.sidePower.get i = { s.sidePower.get i with supplyOn := false, shutting := false } := by
    have h1 : d.sidePower.get i = b.sidePower.get i := od (.sidePower i) (by simp)
    have h2 : a.sidePower.get i = s.sidePower.get i := oa (.sidePower i) (by simp)
    rw [h1, C.power, h2]
  have hse : e.sidePower.get i = (s.sidePower.get i).fallen := by
    rw [he, (setStage_spec i .downFault c (fun p => { p.stopTimers with bringUp := false }) d).1, hsp]
    rfl
  have hfl : (leavePermit i e).fill.get i = b.fill.get i := by
    rw [ol (.fill i) (by simp), oe (.fill i) (by simp), od (.fill i) (by simp)]
  have hcl : (a.fill.get i).closures = { (s.fill.get i).closures with supply := true } := by
    rw [ha, addClosure_closures]
    rfl
  have hlk : (leavePermit i e).link = b.link := by rw [ol.link_eq, oe.link_eq, od.link_eq]
  have hdisp : (d.display.get i).controller = (b.display.get i).controller := by rw [hd, setStageHeat_display]
  obtain ⟨hsale, hslot⟩ := addClosure_slot_or (i := i) .supply s
  rw [← ha] at hsale hslot
  rw [hall]
  refine ⟨⟨?_, ?_, fun h => ?_, fun h => ?_, ?_, ?_, ?_, fun h => ?_, ?_, fun n hr => ?_⟩, ?_, ?_, fun w hw => ?_⟩
  · rw [ol (.sidePower i) (by simp), hse]
  · rw [hfl, C.fill.closures, hcl]
  · have h1 : a.sideState i = .closed := by rw [ha]; exact addClosure_sideState .supply h
    have h2 := C.fill.state (by change a.sideState i ≠ _; rw [h1]; decide)
    change ((leavePermit i e).fill.get i).state = _
    rw [hfl, h2]
    exact h1
  · have h1 : a.sideState i = s.sideState i := by
      rw [ha, addClosure_filling _ h]
      unfold State.sideState
      rw [State.setFill_fill, PerSide.get_set_same]
    have h2 := C.fill.state (by change a.sideState i ≠ _; rw [h1]; exact SideState.ne_authorized_of_isFill h)
    change ((leavePermit i e).fill.get i).state = _
    rw [hfl, h2]
    exact h1
  · rw [hfl, C.fill.sale, hsale]
  · rw [hfl]
    rcases C.fill.slot with x | x
    · rw [x]
      exact hslot
    · exact .inr x
  · rw [ol (.display i) (by simp), oe (.display i) (by simp), hdisp, C.controller]
  · have hp : (a.ports.get i).state = (s.ports.get i).state := by
      rw [ha]
      exact addClosure_portState i .supply s
    rw [ol (.port i) (by simp), oe (.port i) (by simp), od (.port i) (by simp)]
    exact C.port (by rw [hp]; exact h)
  · rw [hlk]
    refine Link.Keeps.trans ?_ C.keeps
    rw [ha]
    exact addClosure_keeps i _ s
  · refine (C.room n ?_).of_link hlk
    rw [ha]
    exact addClosure_room hr
  · rw [leavePermit_power, leavePermit_power, hpw]
  · exact ((obd.mono (by simp)).step oe (by simp)).step ol (by simp)
  · have hal : ToldAlike i w d := by
      refine hw.trans (.of_sides (by rw [obd .power (by simp)]) (by rw [hsp]) (by rw [hsp]) ?_)
      exact obd (.sidePower i.other) (by cases i <;> decide)
    have hch : d.changes = s.changes := by
      rw [hd, setStageHeat_changes, C.changes, ha, addClosure_changes]
    rw [leavePermit_changes, he,
      (setStage_told (f := fun p => { p.stopTimers with bringUp := false }) hal (fun _ => rfl) (fun _ => rfl)).2, hch]

end Sys2Proof.Machine

namespace Sys2Proof.Machine

open Sys2Proof

/-! ### DOWN_FAULT with the permit handed on -/

theorem FallsTo.of_only {bs : List Block} {i : Side} {s t u : State} (h : FallsTo i s t) (ho : OnlyChanges bs t u)
    (hs : Block.sidePower i ∉ bs) (hf : Block.fill i ∉ bs) (hd : Block.display i ∉ bs) (hp : Block.port i ∉ bs)
    (hl : Block.link ∉ bs) : FallsTo i s u := by
  have ef : u.fill.get i = t.fill.get i := ho (.fill i) hf
  have el : u.link = t.link := ho.link_eq hl
  have es : u.sideState i = t.sideState i := congrArg Fill.state ef
  refine ⟨(ho (.sidePower i) hs).trans h.power, by rw [ef, h.closures], fun hn => es.trans (h.closed hn), fun hn => es.trans (h.filling hn),
    by rw [ef, h.sale], by rw [ef]; exact h.slot, ?_, fun hn => ?_, by rw [el]; exact h.keeps, fun n hr => (h.room n hr).of_link el⟩
  · have ed : u.display.get i = t.display.get i := ho (.display i) hd
    rw [ed, h.controller]
  · have ep : u.ports.get i = t.ports.get i := ho (.port i) hp
    rw [ep, h.port hn]

/-- What a side's going to DOWN_FAULT leaves, tells and makes of the mode (R157, R170, R171). -/
structure GoesDown (i : Side) (c : PowerCause) (s t : State) : Prop where
  falls : FallsTo i s t
  stays : ¬s.EndsWaking i → t.power.mode = s.power.mode ∧ ∀ w, ToldAlike i w s →
    ∃ gs : List Notice, gs.length ≤ 3 ∧ t.changes = s.changes ++ (w.stageTold i .downFault c :: gs).map .stage
  ends : s.EndsWaking i → t.power.mode = .run ∧ ∃ n gs, t.changes = s.changes ++ .stage n :: .mode c :: gs

theorem PowerState.settled_iff (p : PowerState) : p.settled = true ↔ p ∈ [PowerState.up, .downFault] := by cases p <;> decide

/-- In WAKING a side at UP or DOWN_FAULT ends it where the other is there too (R170). -/
theorem runTest_settled {i : Side} (c : PowerCause) {s : State} (h : (s.sidePower.get i).state.settled = true) :
    (s.EndsWaking i → runTest c s = setMode .run c s) ∧ (¬s.EndsWaking i → runTest c s = s) := by
  have hiff : (s.power.mode = .waking ∧ s.sidePower.a.state.settled ∧ s.sidePower.b.state.settled) ↔ s.EndsWaking i := by
    unfold State.EndsWaking
    rw [← PowerState.settled_iff]
    cases i with
    | a => exact and_congr_right fun _ => and_iff_right h
    | b => exact and_congr_right fun _ => and_iff_left h
  exact ⟨fun he => if_pos (hiff.mpr he), fun he => if_neg (fun x => he (hiff.mp x))⟩

theorem permitBlocks_other (i : Side) : Block.sidePower i ∉ permitBlocks i.other ∧ Block.fill i ∉ permitBlocks i.other ∧
    Block.display i ∉ permitBlocks i.other ∧ Block.port i ∉ permitBlocks i.other ∧ Block.link ∉ permitBlocks i.other := by
  cases i <;> decide

theorem fallen_endsWaking (i : Side) (c : PowerCause) (s : State) : (fallen i c s).EndsWaking i ↔ s.EndsWaking i := by
  obtain ⟨-, hp, ho, -⟩ := fallen_falls i c s
  have e : (fallen i c s).sidePower.get i.other = s.sidePower.get i.other := ho (.sidePower i.other) (by cases i <;> decide)
  unfold State.EndsWaking
  rw [hp, e, leavePermit_power]

theorem fallen_settled (i : Side) (c : PowerCause) (s : State) : ((fallen i c s).sidePower.get i).state.settled = true := by
  rw [(fallen_falls i c s).1.power]
  rfl

theorem downFault_goesDown (i : Side) (c : PowerCause) (s : State) : GoesDown i c s (downFault i c s) := by
  obtain ⟨hfall, hpow, -, hch⟩ := fallen_falls i c s
  obtain ⟨hends, hstays⟩ := runTest_settled c (fallen_settled i c s)
  rw [fallen_endsWaking] at hends hstays
  have hw : i ∉ (fallen i c s).power.waiting := by
    rw [hpow]
    exact leavePermit_waiting i s
  have hmode : (fallen i c s).power.mode = s.power.mode := by rw [hpow, leavePermit_power]
  obtain ⟨b1, b2, b3, b4, b5⟩ := permitBlocks_other i
  by_cases he : s.EndsWaking i
  · have H : HandsOn i (setMode .run c (fallen i c s)) (grantPermit (setMode .run c (fallen i c s))) :=
      grantPermit_handsOn (i := i) (s := setMode .run c (fallen i c s)) hw
    obtain ⟨gs, -, hg⟩ := H.changes
    rw [downFault_eq, hends he]
    refine ⟨(hfall.of_only (setMode_only .run c _) (by simp) (by simp) (by simp) (by simp) (by simp)).of_only H.only b1 b2 b3 b4 b5,
      fun hn => absurd he hn, fun _ => ⟨H.mode, s.stageTold i .downFault c, gs.map .stage, ?_⟩⟩
    rw [hg]
    change ((fallen i c s).changes ++ [PowerChange.mode c]) ++ _ = _
    rw [hch s (.refl i s), List.append_assoc, List.append_assoc]
    rfl
  · have H : HandsOn i (fallen i c s) (grantPermit (fallen i c s)) := grantPermit_handsOn hw
    obtain ⟨gs, hl, hg⟩ := H.changes
    rw [downFault_eq, hstays he]
    refine ⟨hfall.of_only H.only b1 b2 b3 b4 b5, fun _ => ⟨H.mode.trans hmode, fun w h => ⟨gs, hl, ?_⟩⟩, fun hn => absurd hn he⟩
    rw [hg, hch w h, List.append_assoc]
    rfl

/-- A side's going to DOWN_FAULT is told at the end of its event (R157). -/
theorem GoesDown.told {i : Side} {c : PowerCause} {old w s t u : State} (h : GoesDown i c s t) (hw : ToldAlike i w s)
    (hs : s.changes = []) (hc : u.changes = t.changes) (hm : u.power.mode = t.power.mode) (hr : Room 6 u) :
    w.TellsDownFault (settle old u) i c := by
  have hiff : w.EndsWaking i ↔ s.EndsWaking i := by
    unfold State.EndsWaking
    rw [hw.mode, hw.other]
  refine ⟨fun hn => ?_, fun he => ?_⟩
  · obtain ⟨-, hch⟩ := h.stays (fun x => hn (hiff.mpr x))
    obtain ⟨gs, hl, hg⟩ := hch w hw
    refine settle_tellsStage (ns := w.stageTold i .downFault c :: gs) ?_ List.mem_cons_self (hr.mono ?_)
    · rw [hc, hg, hs, List.nil_append]
    · rw [List.length_cons]
      omega
  · obtain ⟨hmode, n, gs, hg⟩ := h.ends (hiff.mp he)
    have hf : u.changes.findSome? PowerChange.modeCause = some c := by
      rw [hc, hg, hs]
      rfl
    obtain ⟨sa, sb, j, aa, ca, ab, cb, ht⟩ := settle_tellsMode (old := old) hf (hr.mono (by omega))
    rw [hm, hmode] at ht
    exact ⟨sa, sb, j, aa, ca, ab, cb, ht⟩

/-- Where nobody else waits the permit that DOWN_FAULT releases is free (R166). -/
theorem downFault_frees {i : Side} (c : PowerCause) {s : State} (hh : s.power.holder = some i) (hw : ∀ j ∈ s.power.waiting, j = i) :
    (downFault i c s).power.holder = none := by
  obtain ⟨-, hpow, -, -⟩ := fallen_falls i c s
  have hempty : (fallen i c s).power.waiting = [] := by
    rw [hpow, leavePermit_power]
    exact List.filter_eq_nil_iff.mpr (fun j hj => by simp [hw j hj])
  have hfree : (fallen i c s).power.holder = none := by
    rw [hpow, leavePermit_power]
    exact if_pos hh
  have hrun : (runTest c (fallen i c s)).power.waiting = [] ∧ (runTest c (fallen i c s)).power.holder = none := by
    unfold runTest
    split
    · exact ⟨hempty, hfree⟩
    · exact ⟨hempty, hfree⟩
  rw [downFault_eq, grantPermit_held (.inr hrun.1), hrun.2]

/-- The other side takes the permit that DOWN_FAULT releases (R166). -/
theorem downFault_grants {i : Side} (c : PowerCause) {s : State} (hh : s.power.holder = some i) (hw : s.power.waiting = [i.other])
    (hoff : (s.sidePower.get i.other).state = .off) (hg : (s.sidePower.get i.other).supplyGood = false) :
    let t := downFault i c s
    t.power.holder = some i.other ∧ t.power.waiting = [] ∧
      t.sidePower.get i.other = { s.sidePower.get i.other with state := .supply, supplyOn := true, stageTimer := some 2000 } ∧
      t.changes = (fallen i c s).changes ++
        [.stage ((s.setSidePower i (s.sidePower.get i).fallen).stageTold i.other .supply .permit)] := by
  intro t
  obtain ⟨hfall, hpow, ho, -⟩ := fallen_falls i c s
  have hne : i.other ≠ i := by cases i <;> decide
  have hwait : (fallen i c s).power.waiting = [i.other] := by
    rw [hpow, leavePermit_power, hw]
    simp [hne]
  have hfree : (fallen i c s).power.holder = none := by
    rw [hpow, leavePermit_power]
    exact if_pos hh
  have hq : (fallen i c s).sidePower.get i.other = s.sidePower.get i.other := ho (.sidePower i.other) (by cases i <;> decide)
  have hn : ¬(fallen i c s).EndsWaking i := by
    unfold State.EndsWaking
    rw [hq, hoff]
    exact fun x => absurd x.2 (by decide)
  have ht : t = permitTaken i.other (fallen i c s) := by
    change downFault i c s = _
    rw [downFault_eq, (runTest_settled c (fallen_settled i c s)).2 hn, grantPermit_head hfree hwait,
      takePermit_waits (by rw [hq]; exact hg)]
  have htold : ToldAlike i.other (s.setSidePower i (s.sidePower.get i).fallen) (fallen i c s) := by
    have hii : i.other.other = i := by cases i <;> rfl
    have hso : (s.setSidePower i (s.sidePower.get i).fallen).sidePower.get i.other = s.sidePower.get i.other :=
      PerSide.get_set_other _ _ hne
    refine .of_sides (by rw [hpow, leavePermit_power]; rfl) (by rw [hq, hso]) (by rw [hq, hso]) ?_
    rw [hii, hfall.power]
    exact (PerSide.get_set_same _ _ _).symm
  rw [ht]
  refine ⟨rfl, ?_, ?_, (permitTaken_told htold).2⟩
  · rw [permitTaken_power, hwait]
    exact List.erase_cons_head _ _
  · rw [permitTaken_sidePower, hq]

end Sys2Proof.Machine

namespace Sys2Proof.Machine

open Sys2Proof

/-! ### A close at once -/

theorem SideState.ne_closing_of_isFill {st : SideState} (h : st.isFill = true) (b : Bool) :
    st ≠ (if b then SideState.idle else .closed) := by
  revert h
  cases st <;> cases b <;> decide

/-- The close of a side in any fill state (R64). -/
theorem closeSide_filling {i : Side} {s : State} (h : s.filling i = true) :
    (∃ x, (closeSide i s).fill.get i = (s.fill.get i).closed x) ∧ (closeSide i s).valves.get i = { lo := 0, hi := 0 } := by
  obtain ⟨w, hw⟩ : ∃ w, w = closeSpent i s := ⟨_, rfl⟩
  obtain ⟨x, hf⟩ := closeSpent_fill i s
  rw [← hw] at hf
  have hcl : (w.fill.get i).closures = (s.fill.get i).closures := by rw [hf]
  have hne : w.sideState i ≠ (if (s.fill.get i).closures.isEmpty then SideState.idle else .closed) := by
    unfold State.sideState
    rw [hf]
    exact SideState.ne_closing_of_isFill h _
  have ht : closeSide i s = zeroCreep i (enterState i (if (s.fill.get i).closures.isEmpty then .idle else .closed) w) := by
    rw [closeSide_eq, ← hw, hcl]
  have hend (b : Bool) : (if b then SideState.idle else SideState.closed) ≠ .ending := by cases b <;> decide
  rw [ht]
  refine ⟨⟨x, ?_⟩, ?_⟩
  · rw [zeroCreep_only i _ (.fill i) (by simp), enterState_fill hne, hf]
    unfold Fill.closed noFlowAfter
    rw [closingState_isOpen, if_neg (hend _), if_neg (hend _)]
    rfl
  · rw [zeroCreep_only i _ (.valves i) (by simp), enterState_valves hne, valveDuties_shut (closingState_isOpen _)]

theorem adoptAtClose_room {n : Nat} {i : Side} {s : State} (h : Room (n + 1) s) : Room n (adoptAtClose i s) := by
  unfold adoptAtClose
  split
  · exact h.mono (by omega)
  · exact notify_room (s := s.setPrices _) _ h

theorem closeSide_room {n : Nat} {i : Side} {s : State} (h : Room (n + 2) s) : Room n (closeSide i s) := by
  have hr : Room (n + 1) (dropBoth i (endAuth i s)) := (endAuth_room (k := n + 1) h).of_link (dropBoth_link i _)
  exact (adoptAtClose_room hr).of_link (closeSide_link i s)

theorem endAuth_changes (i : Side) (s : State) : (endAuth i s).changes = s.changes := by
  unfold endAuth
  dsimp only
  split <;> rfl

theorem dropDemand_changes (i : Side) (p : Product) (s : State) : (dropDemand i p s).changes = s.changes := by
  unfold dropDemand
  dsimp only
  split
  · split <;> rfl
  · rfl

theorem adoptAtClose_changes (i : Side) (s : State) : (adoptAtClose i s).changes = s.changes := by
  unfold adoptAtClose
  split <;> rfl

theorem closeSide_changes (i : Side) (s : State) : (closeSide i s).changes = s.changes := by
  rw [closeSide_eq]
  change (enterState i _ (closeSpent i s)).changes = _
  rw [enterState_changes]
  change (adoptAtClose i (dropDemand i .hi (dropDemand i .lo (endAuth i s)))).changes = _
  rw [adoptAtClose_changes, dropDemand_changes, dropDemand_changes, endAuth_changes]

theorem takeRecord_changes (r : SaleRecord) (s : State) : (takeRecord r s).changes = s.changes := by
  unfold takeRecord
  dsimp only
  split <;> rfl

theorem handOver_changes (r : SaleRecord) (s : State) : (handOver r s).changes = s.changes := by
  unfold handOver
  dsimp only
  split
  · split <;> rfl
  · rfl

theorem closeRecord_changes (i : Side) (c : SaleContext) (s : State) : (closeRecord i c s).changes = s.changes := by
  have hg : (recordGiven i c s).changes = s.changes := by
    have ht : (recordTaken i c s).changes = s.changes := takeRecord_changes _ (finalized i s)
    unfold recordGiven
    split
    · rw [handOver_changes, ht]
    · exact ht
  exact hg

theorem takeRecord_keeps (r : SaleRecord) (s : State) : s.link.Keeps (takeRecord r s).link := by
  unfold takeRecord
  dsimp only
  split
  · exact notify_keeps _ s
  · exact notify_keeps _ (s.setRegister _)

theorem closeRecord_keeps (i : Side) (c : SaleContext) (s : State) : s.link.Keeps (closeRecord i c s).link := by
  rw [closeRecord_link]
  exact takeRecord_keeps _ (finalized i s)

theorem closeRecord_room {n : Nat} {i : Side} {c : SaleContext} {s : State} (h : Room (n + 1) s) : Room n (closeRecord i c s) :=
  (takeRecord_tells (k := n) (h.of_link (u := finalized i s) rfl)).2.of_link (closeRecord_link i c s)

/-- The sale context with the end reason that a close at once sets (R64). -/
def SaleContext.endedBy (c : SaleContext) (why : Option EndReason) : SaleContext := { c with ended := why.orElse (fun _ => c.ended) }

/-- The state that a close hands its record over in: the sale with its end reason (R64). -/
def closing (i : Side) (why : Option EndReason) (c : SaleContext) (s : State) : State := setSale i (fun _ => c.endedBy why) s

theorem closing_fill {i : Side} {why : Option EndReason} {c : SaleContext} {s : State} (h : (s.fill.get i).sale = some c) :
    (closing i why c s).fill.get i = { s.fill.get i with sale := some (c.endedBy why) } := by
  unfold closing setSale
  dsimp only
  rw [State.setFill_fill, PerSide.get_set_same, h]
  rfl

theorem closing_only (i : Side) (why : Option EndReason) (c : SaleContext) (s : State) : OnlyChanges [.fill i] s (closing i why c s) :=
  setFill_only _ _ _

theorem closeSale_some {i : Side} {why : Option EndReason} {c : SaleContext} {s : State} (h : (s.fill.get i).sale = some c) :
    closeSale i why s = closeSide i (closeRecord i (c.endedBy why) (closing i why c s)) := by
  unfold closeSale
  rw [h]
  rfl

theorem closeSale_none {i : Side} {why : Option EndReason} {s : State} (h : (s.fill.get i).sale = none) :
    closeSale i why s = closeSide i s := by
  unfold closeSale
  rw [h]

/-- What a close at once leaves of its side, and of what the event has told (R64). -/
structure ClosedNow (i : Side) (why : Option EndReason) (s t : State) : Prop where
  fill : s.filling i = true → ∃ x, t.fill.get i =
    Fill.closed { s.fill.get i with sale := (s.fill.get i).sale.map (fun c => c.endedBy why) } x
  valves : s.filling i = true → t.valves.get i = { lo := 0, hi := 0 }
  changes : t.changes = s.changes
  keeps : s.link.Keeps t.link
  room : ∀ n, Room (n + 3) s → Room n t

theorem closeSale_closedNow (i : Side) (why : Option EndReason) (s : State) : ClosedNow i why s (closeSale i why s) := by
  rcases hsale : (s.fill.get i).sale with _ | c
  · rw [closeSale_none hsale]
    refine ⟨fun h => ?_, fun h => (closeSide_filling h).2, closeSide_changes i s, closeSide_keeps i s,
      fun n h => closeSide_room (h.mono (by omega))⟩
    have e : { s.fill.get i with sale := (s.fill.get i).sale.map (fun c => c.endedBy why) } = s.fill.get i := by
      rw [hsale, Option.map_none, ← hsale]
    rw [e]
    exact (closeSide_filling h).1
  · obtain ⟨v, hv⟩ : ∃ v, v = closeRecord i (c.endedBy why) (closing i why c s) := ⟨_, rfl⟩
    have hf : v.fill.get i = { s.fill.get i with sale := some (c.endedBy why) } := by
      rw [hv, closeRecord_clear i _ _ (.fill i) (by simp), closing_fill hsale]
    have hfill (h : s.filling i = true) : v.filling i = true := by
      unfold State.filling State.sideState
      rw [hf]
      exact h
    rw [closeSale_some hsale, ← hv]
    refine ⟨fun h => ?_, fun h => (closeSide_filling (hfill h)).2, ?_, ?_, fun n h => ?_⟩
    · obtain ⟨x, hx⟩ := (closeSide_filling (hfill h)).1
      refine ⟨x, ?_⟩
      rw [hx, hf, hsale]
      rfl
    · rw [closeSide_changes, hv, closeRecord_changes]
      rfl
    · refine Link.Keeps.trans ?_ (closeSide_keeps i v)
      rw [hv]
      exact closeRecord_keeps i _ (closing i why c s)
    · refine closeSide_room ?_
      rw [hv]
      exact closeRecord_room (s := closing i why c s) (h.of_link rfl)

theorem ClosedNow.state {i : Side} {why : Option EndReason} {s t : State} (h : ClosedNow i why s t) (hf : s.filling i = true) :
    t.sideState i = (if (s.fill.get i).closures.isEmpty then .idle else .closed) ∧ (t.fill.get i).closures = (s.fill.get i).closures ∧
      (t.fill.get i).slot = none ∧ t.filling i = false := by
  obtain ⟨x, hx⟩ := h.fill hf
  have hst : t.sideState i = (if (s.fill.get i).closures.isEmpty then .idle else .closed) := by
    unfold State.sideState
    rw [hx]
    rfl
  refine ⟨hst, by rw [hx]; rfl, by rw [hx]; rfl, ?_⟩
  unfold State.filling
  rw [hst]
  cases (s.fill.get i).closures.isEmpty <;> rfl

end Sys2Proof.Machine

namespace Sys2Proof.Machine

open Sys2Proof

/-! ### Supplies -/

/-- The limit that a side is warm by (R167; notes/assumptions/69.md). -/
theorem warm_iff (i : Side) (s : State) : warm s i = true ↔
    ∀ x ∈ (s.display.get i).temperature, max s.params.heaterOff (s.params.heaterOn + 2) ≤ x := by
  unfold warm
  rcases (s.display.get i).temperature with _ | x
  · simp
  · simp [heaterOff]

/-- A step that leaves the register leaves every delivery. -/
theorem OnlyChanges.pendingDelivery {bs : List Block} {s u : State} (h : OnlyChanges bs s u) (hr : Block.register ∉ bs) (j : Side) :
    Machine.pendingDelivery u j = Machine.pendingDelivery s j := by
  have e : u.register = s.register := h .register hr
  unfold Machine.pendingDelivery
  rw [e]

/-- The permit can change with nothing to send or to start. -/
theorem Settled.settle_setPower {s : State} (h : Settled s) {p : Power} (hm : p.mode = s.power.mode) :
    Machine.settle s (s.setPower p) = s.setPower p :=
  h.settle_quiet ⟨rfl, rfl, rfl, rfl, hm, rfl, fun _ => ⟨rfl, rfl⟩, rfl⟩ rfl
    (latchConditions_congr rfl rfl rfl rfl rfl rfl rfl rfl rfl rfl)

/-- A supply-good that is found asserted sets no latch (R188). -/
theorem Settled.settle_supplyGood {s : State} (h : Settled s) (i : Side) :
    Machine.settle s (s.setSidePower i { s.sidePower.get i with supplyGood := true }) =
      s.setSidePower i { s.sidePower.get i with supplyGood := true } := by
  obtain ⟨u, hu⟩ : ∃ u, u = s.setSidePower i { s.sidePower.get i with supplyGood := true } := ⟨_, rfl⟩
  have hl := h.latches
  have hfollow : u.link.latches.follow (latchConditions u) = u.link.latches := by
    have hlu : u.link = s.link := by rw [hu]; rfl
    rw [hlu]
    cases i with
    | a =>
      have e : s.link.latches.follow (latchConditions u) =
          { s.link.latches.follow (latchConditions s) with supplyGoodA := s.link.latches.supplyGoodA && true } := by rw [hu]; rfl
      rw [e, hl, Bool.and_true]
    | b =>
      have e : s.link.latches.follow (latchConditions u) =
          { s.link.latches.follow (latchConditions s) with supplyGoodB := s.link.latches.supplyGoodB && true } := by rw [hu]; rfl
      rw [e, hl, Bool.and_true]
  have hstill : StandsStill s u := by
    rw [hu]
    exact ⟨rfl, rfl, rfl, rfl, rfl, rfl, fun _ => ⟨rfl, rfl⟩, rfl⟩
  rw [← hu, h.settle_still hstill]
  have hlink : u.link.follows (latchConditions u) = u.link := by
    unfold Link.follows
    rw [hfollow]
    have e : u.link = s.link := by rw [hu]; rfl
    rw [e]
    exact h.link
  rw [hlink]
  rfl

/-- What taking the permit and supply-good write of an event, its frame and its notices included. -/
theorem settle_permitBlocks {i : Side} {s u : State} (hs : Settled s) (h : OnlyChanges (permitBlocks i) s u)
    (hm : u.power.mode = s.power.mode) : OnlyChanges (permitBlocks i ++ [.link]) s (settle s u) := by
  refine OnlyChanges.settle s hs (h.mono (by simp)) (by simp) (fun j _ => h.pendingDelivery (by simp) j) (fun _ => ⟨hm, ?_⟩)
  exact h .supplyFailInput (by simp)

/-- The display head of a side that has passed SUPPLY is as supply-good left it, its frame being in flight. -/
theorem SupplyTaken.display {i : Side} {old s t : State} (h : SupplyTaken i s t) :
    (settle old t).display.get i = t.display.get i := by
  rw [settle_display, startDisplay_silent (Display.owes_flight h.flight)]

/-- What supply-good's event tells, after what it told before (R157). -/
theorem SupplyTaken.tells {i : Side} {old w s t : State} {ns : List Notice} (h : SupplyTaken i s t) (hw : ToldAlike i w s)
    (hs : s.changes = ns.map .stage) (hn : ns.length ≤ 2) (hr : Room 6 t) :
    (∀ n ∈ ns, (settle old t).link.tells n) ∧ (settle old t).link.tells (w.stageTold i .heat .supplyGood) ∧
      (Machine.warm s i = true → (settle old t).link.tells (w.stageTold i .check .skipped)) := by
  have hc := h.changes w hw
  rw [hs, ← List.map_append] at hc
  have hroom : Room ((ns ++ if Machine.warm s i = true then [w.stageTold i .heat .supplyGood, w.stageTold i .check .skipped]
      else [w.stageTold i .heat .supplyGood]).length + 2) t := by
    refine hr.mono ?_
    rw [List.length_append]
    split
    · change ns.length + 2 + 2 ≤ 6
      omega
    · change ns.length + 1 + 2 ≤ 6
      omega
  refine ⟨fun n hm => settle_tellsStage hc (List.mem_append_left _ hm) hroom,
    settle_tellsStage hc (List.mem_append_right _ ?_) hroom, fun hwarm => settle_tellsStage hc (List.mem_append_right _ ?_) hroom⟩
  · split
    · exact List.mem_cons_self
    · exact List.mem_cons_self
  · rw [if_pos hwarm]
    exact List.mem_cons_of_mem _ List.mem_cons_self

theorem SupplyTaken.mode {i : Side} {s t : State} (h : SupplyTaken i s t) : t.power.mode = s.power.mode := by rw [h.power]

/-- The end of an event in which a side has gone to DOWN_FAULT. -/
theorem FallsTo.settle_controller {i : Side} {s t u : State} (h : FallsTo i s t) (old : State) (hu : u.display.get i = t.display.get i) :
    ((settle old u).display.get i).controller = .unpowered := by
  have hc : (u.display.get i).controller = .unpowered := by rw [hu, h.controller]
  rw [settle_display, startDisplay_unpowered hc, hc]

/-- Supply-good in SUPPLY (R166). -/
theorem supplyGood_stage (i : Side) {s : State} (hp : (s.sidePower.get i).state = .supply) :
    ∃ u, exec (.supplyGood i) s = .next (settle s u) ∧ SupplyTaken i (s.setSidePower i { s.sidePower.get i with supplyGood := true }) u := by
  refine ⟨_, ?_, takeSupplyGood_taken i _⟩
  have hg : supplyGood i s = takeSupplyGood i (s.setSidePower i { s.sidePower.get i with supplyGood := true }) := by
    refine if_pos ?_
    change ((s.setSidePower i _).sidePower.get i).state = _
    rw [State.setSidePower_sidePower, PerSide.get_set_same]
    exact hp
  rw [← hg]
  rfl

/-! ### The loss of supply-good -/

/-- The side with its supply-good input lost (R171). -/
def goodLost (i : Side) (s : State) : State := s.setSidePower i { s.sidePower.get i with supplyGood := false }

theorem goodLost_sidePower (i : Side) (s : State) :
    (goodLost i s).sidePower.get i = { s.sidePower.get i with supplyGood := false } := PerSide.get_set_same _ _ _

theorem goodLost_toldAlike (i : Side) (s : State) : ToldAlike i s (goodLost i s) :=
  .of_sides rfl (by rw [goodLost_sidePower]) (by rw [goodLost_sidePower]) (PerSide.get_set_other _ _ (by cases i <;> decide))

/-- The loss by the power state of the side (R162, R171). -/
theorem supplyGoodLoss_eq (i : Side) (s : State) : supplyGoodLoss i s =
    match (s.sidePower.get i).state with
    | .off => darkReport i (goodLost i s)
    | .supply | .downFault => goodLost i s
    | .heat | .check | .admitStage | .verify | .up => supplyLost i (goodLost i s) := by
  have h : ((goodLost i s).sidePower.get i).state = (s.sidePower.get i).state := by rw [goodLost_sidePower]
  rw [← h]
  rfl

theorem supplyGoodLoss_powered {i : Side} {s : State} (h : (s.sidePower.get i).state.powered = true) :
    supplyGoodLoss i s = supplyLost i (goodLost i s) := by
  rw [supplyGoodLoss_eq]
  revert h
  cases (s.sidePower.get i).state
  case off | supply | downFault => exact fun h => absurd h (by decide)
  all_goals exact fun _ => rfl

theorem PowerState.powered_of_ne {p : PowerState} (ho : p ≠ .off) (hs : p ≠ .supply) (hd : p ≠ .downFault) : p.powered = true := by
  revert ho hs hd
  cases p <;> decide

/-- A side outside a fill whose supply is lost is told by FAULT (R171). -/
def lossTold (i : Side) (s : State) : State := notifyFault (some i) .supply none none none none s

/-- A fill whose supply is lost is closed at once, and told by FAULT (R71, R171). -/
def lossClosed (i : Side) (s : State) : State :=
  notifyFault (some i) .supply none (saleNumber s i) none none (closeSale i (some (.fault .supply)) s)

theorem supplyLost_idle {i : Side} {s : State} (h : s.filling i = false) :
    supplyLost i s = downFault i .supplyLost (lossTold i s) := if_neg (ne_true_of_eq_false h)

theorem supplyLost_filling {i : Side} {s : State} (h : s.filling i = true) :
    supplyLost i s = nightIfLast (downFault i .supplyLost (lossClosed i s)) := if_pos h

/-- What closing the fill of a lost supply leaves (R64, R71). -/
structure LossClosed (i : Side) (s t : State) : Prop where
  fill : ∃ x, t.fill.get i =
    Fill.closed { s.fill.get i with sale := (s.fill.get i).sale.map (fun c => c.endedBy (some (.fault .supply))) } x
  idle : t.filling i = false
  changes : t.changes = s.changes
  keeps : s.link.Keeps t.link
  room : ∀ n, Room (n + 4) s → Room n t
  told : Room 4 s → t.link.tells (.fault (some i) .supply none (saleNumber s i) none none)
  only : OnlyChanges (closeBlocks i) s t

theorem lossClosed_closed {i : Side} {s : State} (h : s.filling i = true) : LossClosed i s (lossClosed i s) := by
  have C := closeSale_closedNow i (some (.fault .supply)) s
  obtain ⟨-, -, -, hidle⟩ := C.state h
  refine ⟨C.fill h, hidle, C.changes, C.keeps.trans (notifyFault_keeps _ _ _ _ _ _ _),
    fun n hr => notifyFault_room (C.room (n + 1) hr), fun hr => ?_, ?_⟩
  · exact (Link.setFault_keeps _ (some i)).tells _ (notify_tells (k := 0) _ (C.room 1 hr))
  · exact (closeSale_only i _ s).step (notifyFault_only _ _ _ _ _ _ _) (by simp)

theorem lossTold_tells {n : Nat} {i : Side} {s : State} (h : Room (n + 1) s) :
    (lossTold i s).link.tells (.fault (some i) .supply none none none none) :=
  (Link.setFault_keeps _ (some i)).tells _ (notify_tells (k := n) _ h)

/-- The end of a shut, with no bring-up that waits for it (R162). -/
theorem darkReport_ends {i : Side} {s : State} (h : (s.sidePower.get i).shutting = true) (hb : (s.sidePower.get i).bringUp = false) :
    darkReport i s = supplyOff i s := by
  have hn : ¬((supplyOff i s).sidePower.get i).bringUp = true := by
    rw [(supplyOff_cut i s).power]
    exact ne_true_of_eq_false hb
  exact (if_pos h).trans (if_neg hn)

theorem darkReport_none {i : Side} {s : State} (h : (s.sidePower.get i).shutting = false) : darkReport i s = s :=
  if_neg (ne_true_of_eq_false h)

/-- A loss that nothing follows (R171). -/
theorem supplyGoodLoss_quiet {i : Side} {s : State}
    (h : (s.sidePower.get i).state = .supply ∨ (s.sidePower.get i).state = .downFault ∨
      (s.sidePower.get i).state = .off ∧ (s.sidePower.get i).shutting = false) : supplyGoodLoss i s = goodLost i s := by
  rw [supplyGoodLoss_eq]
  rcases h with h | h | ⟨h, hsh⟩
  · rw [h]
  · rw [h]
  · rw [h]
    exact darkReport_none (by rw [goodLost_sidePower]; exact hsh)

theorem settle_port_state (old u : State) (i : Side) : ((settle old u).ports.get i).state = (u.ports.get i).state := by
  rw [settle_ports, startReader_state]

/-- What the loss of supply-good leaves of a powered side outside a fill (R171). -/
theorem supplyLost_idles {i : Side} {s : State} (hs : Settled s) (hp : (s.sidePower.get i).state.powered = true)
    (hf : s.filling i = false) : ∃ u, exec (.supplyGoodLoss i) s = .next (settle s u) ∧ GoesDown i .supplyLost (lossTold i (goodLost i s)) u ∧
      (Room 8 s → u.link.tells (.fault (some i) .supply none none none none)) ∧
      (Room 16 s → s.TellsDownFault (settle s u) i .supplyLost) := by
  have G := downFault_goesDown i .supplyLost (lossTold i (goodLost i s))
  have hal : ToldAlike i s (lossTold i (goodLost i s)) := (goodLost_toldAlike i s).trans (.of_eq rfl rfl)
  refine ⟨_, ?_, G, fun hr => G.falls.keeps.tells _ (lossTold_tells (n := 7) (s := goodLost i s) hr), fun hr => ?_⟩
  · rw [← supplyLost_idle (s := goodLost i s) hf, ← supplyGoodLoss_powered hp]
    rfl
  · have hr1 : Room 15 (lossTold i (goodLost i s)) := notifyFault_room (s := goodLost i s) hr
    exact G.told hal hs.changes rfl rfl (G.falls.room 6 (hr1.mono (by omega)))

/-- What it leaves of a side in a fill state, outside NIGHT_PENDING (R71, R171). -/
theorem supplyLost_closes {i : Side} {s : State} (hs : Settled s) (hp : (s.sidePower.get i).state.powered = true)
    (hf : s.filling i = true) (hm : s.power.mode ≠ .nightPending) : ∃ u, exec (.supplyGoodLoss i) s = .next (settle s u) ∧
      LossClosed i (goodLost i s) (lossClosed i (goodLost i s)) ∧ GoesDown i .supplyLost (lossClosed i (goodLost i s)) u ∧
      (Room 16 s → s.TellsDownFault (settle s u) i .supplyLost) := by
  have L : LossClosed i (goodLost i s) (lossClosed i (goodLost i s)) := lossClosed_closed hf
  have G := downFault_goesDown i .supplyLost (lossClosed i (goodLost i s))
  have hpow : (lossClosed i (goodLost i s)).power = s.power := L.only .power (by simp)
  have hal : ToldAlike i s (lossClosed i (goodLost i s)) := by
    have hsp (j : Side) : (lossClosed i (goodLost i s)).sidePower.get j = (goodLost i s).sidePower.get j :=
      L.only (.sidePower j) (by simp)
    exact (goodLost_toldAlike i s).trans ⟨by rw [hpow]; rfl, fun j => by rw [hsp], fun j => by rw [hsp], by rw [hsp]⟩
  have hmode : (downFault i .supplyLost (lossClosed i (goodLost i s))).power.mode ≠ .nightPending := by
    by_cases he : (lossClosed i (goodLost i s)).EndsWaking i
    · rw [(G.ends he).1]
      decide
    · rw [(G.stays he).1, hpow]
      exact hm
  refine ⟨_, ?_, L, G, fun hr => ?_⟩
  · rw [← nightIfLast_other hmode, ← supplyLost_filling (s := goodLost i s) hf, ← supplyGoodLoss_powered hp]
    rfl
  · have hr1 : Room 12 (lossClosed i (goodLost i s)) := L.room 12 hr
    exact G.told hal (L.changes.trans hs.changes) rfl rfl (G.falls.room 6 (hr1.mono (by omega)))

/-! ### SUPPLY's own limit and the hold -/

/-- What SUPPLY's own limit leaves (R166). -/
theorem supplyTimeout_falls {i : Side} {s : State} (hp : (s.sidePower.get i).state = .supply) (ht : (s.sidePower.get i).stageTimer ≠ none) :
    exec (.supplyStageTimeout i) s = .next (settle s (lossTold i (downFault i .supplyTimeout s))) := by
  have h : supplyTimeout i s = lossTold i (downFault i .supplyTimeout s) := by
    refine if_pos ?_
    unfold stageRuns
    rw [hp, Option.isSome_iff_ne_none.mpr ht]
    rfl
  rw [← h]
  rfl

theorem supplyTimeout_stopped {i : Side} {s : State}
    (h : (s.sidePower.get i).state ≠ .supply ∨ (s.sidePower.get i).stageTimer = none) : supplyTimeout i s = s := by
  refine if_neg (fun hr => ?_)
  unfold stageRuns at hr
  obtain ⟨h1, h2⟩ := Bool.and_eq_true_iff.mp hr
  rcases h with h | h
  · exact h (of_decide_eq_true h1)
  · rw [h] at h2
    exact absurd h2 (by decide)

/-- The permit released by its hold (R166). -/
def permitReleased (s : State) : State := s.setPower { s.power with holder := none, holdTimer := none }

theorem permitHold_releases {s : State} (h : s.power.holdTimer ≠ none) :
    exec .permitHoldExpiry s = .next (settle s (grantPermit (permitReleased s))) := by
  have e : permitHoldExpiry s = grantPermit (permitReleased s) := if_pos (Option.isSome_iff_ne_none.mpr h)
  rw [← e]
  rfl

/-- The head of the list with the permit that the hold has released (R166). -/
theorem permitReleased_taken {i : Side} {rest : List Side} {s : State} (hw : s.power.waiting = i :: rest) :
    (permitTaken i (permitReleased s)).power = { s.power with holder := some i, holdTimer := none, waiting := rest } ∧
      (permitTaken i (permitReleased s)).sidePower.get i =
        { s.sidePower.get i with state := .supply, supplyOn := true, stageTimer := some 2000 } ∧
      ToldAlike i s (permitTaken i (permitReleased s)) ∧
      (permitTaken i (permitReleased s)).changes = s.changes ++ [.stage (s.stageTold i .supply .permit)] := by
  have hal : ToldAlike i s (permitReleased s) := .of_eq rfl rfl
  obtain ⟨ha, hc⟩ := permitTaken_told hal
  refine ⟨?_, permitTaken_sidePower i (permitReleased s), ha, hc⟩
  rw [permitTaken_power]
  change { s.power with holder := some i, holdTimer := none, waiting := s.power.waiting.erase i } = _
  rw [hw, List.erase_cons_head]

/-- Settles O53: supply-good by `SupplyTaken`, its loss and its limit by `GoesDown`, the hold by what taking the permit leaves. -/
theorem suppliesComeAndGo : Obligations.SuppliesComeAndGo := by
  intro i s hs p closures isWarm down
  have hwarm (u : State) (hd : (u.display.get i).temperature = (s.display.get i).temperature) (hp : u.params = s.params) :
      isWarm ↔ warm u i = true := by rw [warm_iff, hd, hp]
  refine ⟨fun hp => ?_, fun hp => ?_, fun hp => ?_, fun ho hsh hb => ?_, fun h1 h2 h3 => ⟨fun hf => ?_, fun x hf hm hx => ?_⟩,
    fun hp ht => ?_, fun h => ?_, fun h => ?_, fun h hw => ?_, fun rest h hw hg => ?_, fun rest h hw hg => ?_⟩
  · have hg : supplyGood i s = s.setSidePower i { p with supplyGood := true } := by
      refine if_neg (fun h => hp ?_)
      rw [← h]
      change p.state = ((s.setSidePower i { p with supplyGood := true }).sidePower.get i).state
      rw [State.setSidePower_sidePower, PerSide.get_set_same]
    change Host.Outcome.next (settle s (supplyGood i s)) = _
    rw [hg]
    exact congrArg Host.Outcome.next (hs.settle_supplyGood i)
  · obtain ⟨u, hu, T⟩ := supplyGood_stage i hp
    obtain ⟨w, hw⟩ : ∃ w, w = s.setSidePower i { s.sidePower.get i with supplyGood := true } := ⟨_, rfl⟩
    rw [← hw] at T
    have hwp : w.sidePower.get i = { p with supplyGood := true } := by rw [hw]; exact PerSide.get_set_same _ _ _
    have hwd : w.display = s.display := by rw [hw]; rfl
    have hal : ToldAlike i s w := by
      rw [hw]
      refine .of_sides rfl ?_ ?_ (PerSide.get_set_other _ _ (by cases i <;> decide))
      · rw [State.setSidePower_sidePower, PerSide.get_set_same]
      · rw [State.setSidePower_sidePower, PerSide.get_set_same]
    have hiw := hwarm w (by rw [hwd]) (by rw [hw]; rfl)
    have ho : OnlyChanges (permitBlocks i) s u := by
      refine OnlyChanges.trans ?_ T.only
      rw [hw]
      exact (setSidePower_only s i _).mono (by simp)
    have hsets := settle_permitBlocks hs ho (T.mode.trans (by rw [hw]; rfl))
    refine ⟨settle s u, hu, ?_, ?_, fun hc ht => ?_, fun hn => ?_, fun hy => ?_, fun hr => ?_, hsets.mono (by simp)⟩
    · rw [settle_power, T.power, hw]
      rfl
    · rw [settle_fill, T.closures, hw]
      rfl
    · rw [T.display, ← hwd]
      exact T.frame (by rw [hwd]; exact hc) (by rw [hwd]; exact ht)
    · obtain ⟨c1, c2, c3⟩ := T.cold (eq_false_of_ne_true (fun x => hn (hiw.mpr x)))
      rw [T.display, settle_sidePower, c3, hwp]
      exact ⟨c1, c2, by rw [hw]; rfl⟩
    · obtain ⟨c1, c2⟩ := T.warm (hiw.mp hy)
      rw [T.display, settle_sidePower, c2, hwp]
      exact ⟨c1, rfl⟩
    · have hroom : Room 6 u := (hr.mono (by omega)).of_link (ho.link_eq)
      obtain ⟨-, t1, t2⟩ := T.tells (ns := []) (old := s) hal (by rw [hw]; exact hs.changes) (Nat.zero_le _) hroom
      exact ⟨t1, fun hy => t2 (hiw.mp hy)⟩
  · have hu : exec (.supplyGoodLoss i) s = .next (settle s (goodLost i s)) := by
      rw [← supplyGoodLoss_quiet hp]
      rfl
    refine ⟨_, hu, ?_, ?_⟩
    · rw [settle_sidePower, goodLost_sidePower]
    · have ho : OnlyChanges [.sidePower i] s (goodLost i s) := setSidePower_only s i _
      exact OnlyChanges.settle s hs (ho.mono (by simp)) (by simp) (fun j _ => ho.pendingDelivery (by simp) j) (fun _ => ⟨rfl, rfl⟩)
  · obtain ⟨w, hw⟩ : ∃ w, w = goodLost i s := ⟨_, rfl⟩
    have hwp : w.sidePower.get i = { p with supplyGood := false } := by rw [hw]; exact goodLost_sidePower i s
    have hu : exec (.supplyGoodLoss i) s = .next (settle s (supplyOff i w)) := by
      rw [← darkReport_ends (by rw [hwp]; exact hsh) (by rw [hwp]; exact hb)]
      have e : supplyGoodLoss i s = darkReport i w := by
        rw [supplyGoodLoss_eq, hw]
        have hst : (s.sidePower.get i).state = .off := ho
        rw [hst]
      rw [← e]
      rfl
    have C := supplyOff_cut i w
    have hon : OnlyChanges ([.sidePower i, .arbiter] ++ portBlocks i) s (supplyOff i w) := by
      refine OnlyChanges.trans ?_ C.only
      rw [hw]
      exact (setSidePower_only s i _).mono (by simp)
    refine ⟨_, hu, ?_, ?_, ?_, ?_⟩
    · rw [settle_sidePower, C.power, hwp]
    · rw [settle_display, startDisplay_unpowered C.controller, C.controller]
    · rw [settle_display, startDisplay_unpowered C.controller, C.transfer]
    · refine OnlyChanges.settle s hs (hon.mono (by simp)) (by simp) (fun j _ => hon.pendingDelivery (by simp) j) (fun _ => ⟨?_, ?_⟩)
      · rw [hon .power (by simp)]
      · exact hon .supplyFailInput (by simp)
  · obtain ⟨u, hu, G, hfault, hdown⟩ := supplyLost_idles hs (PowerState.powered_of_ne h1 h2 h3) hf
    refine ⟨_, hu, ?_, ?_, ?_, G.falls.settle_controller s rfl, fun hpt => ?_, fun hr => (settle_keeps _ _).tells _ (hfault hr), hdown⟩
    · rw [settle_sidePower, G.falls.power]
      change ((goodLost i s).sidePower.get i).fallen = _
      rw [goodLost_sidePower]
      rfl
    · rw [settle_sideState]
      exact G.falls.closed hf
    · rw [settle_fill]
      exact G.falls.closures
    · rw [settle_port_state]
      exact G.falls.port hpt
  · obtain ⟨u, hu, L, G, hdown⟩ := supplyLost_closes hs (PowerState.powered_of_ne h1 h2 h3) hf hm
    obtain ⟨y, hfill⟩ := L.fill
    have hn : saleNumber (goodLost i s) i = some x.number := by
      change ((s.fill.get i).sale).map (·.number) = _
      rw [hx]
      rfl
    refine ⟨_, hu, ?_, ?_, ?_, ?_, G.falls.settle_controller s rfl, fun hr => ?_, hdown⟩
    · have e : (lossClosed i (goodLost i s)).sidePower.get i = (goodLost i s).sidePower.get i := L.only (.sidePower i) (by simp)
      rw [settle_sidePower, G.falls.power, e, goodLost_sidePower]
      rfl
    · rw [settle_sideState]
      exact G.falls.closed L.idle
    · rw [settle_fill]
      rcases G.falls.slot with e | e
      · rw [e, hfill]
        rfl
      · exact e
    · rw [settle_fill, G.falls.sale, hfill]
      change (((s.fill.get i).sale.map (fun c => c.endedBy (some (.fault .supply)))).map (fun c => { c with running := false })) = _
      rw [hx]
      rfl
    · have ht := L.told (hr.mono (by omega))
      rw [hn] at ht
      exact (settle_keeps _ _).tells _ (G.falls.keeps.tells _ ht)
  · have G := downFault_goesDown i .supplyTimeout s
    obtain ⟨t, ht'⟩ : ∃ t, t = downFault i .supplyTimeout s := ⟨_, rfl⟩
    rw [← ht'] at G
    have hu := supplyTimeout_falls hp ht
    rw [← ht'] at hu
    have hroom (n : Nat) (hr : Room (n + 4) s) : Room n (lossTold i t) := notifyFault_room (G.falls.room (n + 1) hr)
    refine ⟨_, hu, ?_, ?_, fun hh hw => ?_, fun hr => ?_, fun hr => ?_, fun hh hw hoff hg => ?_⟩
    · rw [settle_sidePower]
      exact G.falls.power
    · rw [settle_fill]
      exact G.falls.closures
    · rw [settle_power]
      change t.power.holder = none
      rw [ht']
      exact downFault_frees _ hh hw
    · exact (settle_keeps _ _).tells _ (lossTold_tells (n := 8) (G.falls.room 9 hr))
    · exact G.told (.refl i s) hs.changes rfl rfl (hroom 6 (hr.mono (by omega)))
    · obtain ⟨g1, g2, g3, g4⟩ := downFault_grants .supplyTimeout hh hw hoff hg
      rw [← ht'] at g1 g2 g3 g4
      refine ⟨by rw [settle_power]; exact g1, by rw [settle_power]; exact g2, by rw [settle_sidePower]; exact g3, fun hr => ?_⟩
      have hc : (lossTold i t).changes = List.map PowerChange.stage
          [s.stageTold i .downFault .supplyTimeout, (s.setSidePower i p.fallen).stageTold i.other .supply .permit] := by
        change t.changes = _
        obtain ⟨-, -, -, hch⟩ := fallen_falls i .supplyTimeout s
        rw [g4, hch s (.refl i s), hs.changes]
        rfl
      exact settle_tellsStage hc (List.mem_cons_of_mem _ List.mem_cons_self) (hroom 4 (hr.mono (by omega)))
  · exact hs.event_none (supplyTimeout_stopped h)
  · exact hs.event_none (if_neg (by rw [h]; decide))
  · rw [permitHold_releases h, grantPermit_held (s := permitReleased s) (.inr hw)]
    exact congrArg Host.Outcome.next (hs.settle_setPower rfl)
  · obtain ⟨t1, t2, -, t4⟩ := permitReleased_taken hw
    have hu : exec .permitHoldExpiry s = .next (settle s (permitTaken i (permitReleased s))) := by
      rw [permitHold_releases h, grantPermit_head (s := permitReleased s) rfl hw, takePermit_waits (s := permitReleased s) hg]
    have ho : OnlyChanges [.power, .sidePower i] s (permitTaken i (permitReleased s)) :=
      ((setPower_only s _).mono (by simp)).trans (permitTaken_only i (permitReleased s))
    refine ⟨_, hu, by rw [settle_power]; exact t1, by rw [settle_sidePower]; exact t2, fun hr => ?_, ?_⟩
    · refine settle_tellsStage (ns := [s.stageTold i .supply .permit]) ?_ List.mem_cons_self ((hr.mono (j := 3) (by omega)).of_link rfl)
      rw [t4, hs.changes]
      rfl
    · exact OnlyChanges.settle s hs (ho.mono (by simp)) (by simp) (fun j _ => ho.pendingDelivery (by simp) j) (fun _ => ⟨rfl, rfl⟩)
  · obtain ⟨t1, t2, t3, t4⟩ := permitReleased_taken hw
    obtain ⟨w, hwd⟩ : ∃ w, w = permitTaken i (permitReleased s) := ⟨_, rfl⟩
    rw [← hwd] at t1 t2 t3 t4
    have hu : exec .permitHoldExpiry s = .next (settle s (takeSupplyGood i w)) := by
      rw [permitHold_releases h, grantPermit_head (s := permitReleased s) rfl hw, takePermit_passes (s := permitReleased s) hg, hwd]
    have T := takeSupplyGood_taken i w
    have how : OnlyChanges [.power, .sidePower i] s w := by
      rw [hwd]
      exact ((setPower_only s _).mono (by simp)).trans (permitTaken_only i (permitReleased s))
    have ho : OnlyChanges (permitBlocks i) s (takeSupplyGood i w) := (how.mono (by simp)).trans T.only
    have hiw := hwarm w (by rw [hwd]; rfl) (by rw [hwd]; rfl)
    have hsets := settle_permitBlocks hs ho (T.mode.trans (by rw [t1]))
    refine ⟨_, hu, by rw [settle_power, T.power, t1], ?_, fun hn => ?_, fun hy => ?_, fun hr => ?_, hsets.mono (by simp)⟩
    · rw [settle_fill, T.closures, how (.fill i) (by simp)]
    · obtain ⟨c1, c2, c3⟩ := T.cold (eq_false_of_ne_true (fun x => hn (hiw.mpr x)))
      rw [T.display, settle_sidePower, c3, t2]
      exact ⟨c1, c2, by rw [hwd]; rfl⟩
    · obtain ⟨c1, c2⟩ := T.warm (hiw.mp hy)
      rw [T.display, settle_sidePower, c2, t2]
      exact ⟨c1, rfl⟩
    · have hroom : Room 6 (takeSupplyGood i w) := (hr.mono (by omega)).of_link (ho.link_eq)
      obtain ⟨t5, t6, t7⟩ := T.tells (ns := [s.stageTold i .supply .permit]) (old := s) t3 (by rw [t4, hs.changes]; rfl) (Nat.le_succ 1) hroom
      exact ⟨t5 _ List.mem_cons_self, t6, fun hy => t7 (hiw.mp hy)⟩

end Sys2Proof.Machine

namespace Sys2Proof.Machine

open Sys2Proof

/-! ### The notice of a change of mode -/

/-- The one notice of a change of mode carries the part as the event leaves it (R157). -/
theorem settle_tellsModeNotice {old u : State} {c : PowerCause} (hc : u.changes.findSome? PowerChange.modeCause = some c) (hr : Room 3 u) :
    (settle old u).link.tells (powerNotice (changedSide old.sidePower u.sidePower) c u) := by
  have e : powerNotices old u = [powerNotice (changedSide old.sidePower u.sidePower) c u] := by
    unfold powerNotices
    rw [hc]
  exact settle_tellsPower (by rw [e]; exact List.mem_cons_self) (by rw [e]; exact hr)

/-! ### The beginning of a bring-up -/

/-- The notice of a clearing of ATTENDED where a bring-up begins (R157; notes/assumptions/34.md, 58.md). -/
def clearedTold (i : Side) (s : State) : Notice :=
  powerNotice none .admitted (s.setSidePower i { s.sidePower.get i with attended := false, cold := false })

/-- What the beginning of a bring-up leaves of a side in any state (R165). -/
structure BringsUp (i : Side) (s t : State) : Prop where
  power : t.sidePower.get i = { s.sidePower.get i with state := .off, bringUp := true, attended := false, cold := false }
  closures : (t.fill.get i).closures = { (s.fill.get i).closures with night := true }
  closed : s.filling i = false → t.sideState i = .closed
  fill : FillKept (s.fill.get i) (t.fill.get i)
  joins : (s.sidePower.get i).shutting = false → t.power = { s.power with waiting := s.power.waiting ++ [i] }
  shuts : (s.sidePower.get i).shutting = true → t.power = s.power
  changes : t.changes = s.changes ++ if (s.sidePower.get i).attended then [.stage (clearedTold i s)] else []
  service : t.link.service = s.link.service
  keeps : s.link.Keeps t.link
  room : ∀ n, Room (n + 1) s → Room n t
  only : OnlyChanges ([.sidePower i, .power] ++ closureBlocks i) s t

/-- The flags of a side cleared as its bring-up begins (R165). -/
def flagsCleared (i : Side) (s : State) : State := clearAttended i (editSide i (fun p => { p with cold := false }) s)

theorem flagsCleared_spec (i : Side) (s : State) :
    (flagsCleared i s).sidePower.get i = { s.sidePower.get i with attended := false, cold := false } ∧
      (flagsCleared i s).changes = s.changes ++ (if (s.sidePower.get i).attended then [.stage (clearedTold i s)] else []) ∧
      OnlyChanges [.sidePower i] s (flagsCleared i s) := by
  have hcold : (editSide i (fun p => { p with cold := false }) s).sidePower.get i = { s.sidePower.get i with cold := false } :=
    PerSide.get_set_same _ _ _
  refine ⟨?_, ?_, ((editSide_only i _ s).step (clearAttended_only i _) (List.Subset.refl _))⟩
  · unfold flagsCleared
    rw [clearAttended_sidePower, hcold]
  · unfold flagsCleared clearAttended
    rw [hcold]
    dsimp only
    split
    · have e : editSide i (fun p => { p with attended := false }) (editSide i (fun p => { p with cold := false }) s) =
          s.setSidePower i { s.sidePower.get i with attended := false, cold := false } := by
        unfold editSide
        rw [State.setSidePower_sidePower, PerSide.get_set_same]
        unfold State.setSidePower
        rw [PerSide.set_set]
      rw [e]
      rfl
    · exact (List.append_nil _).symm

theorem beginBringUp_bringsUp (i : Side) (s : State) : BringsUp i s (beginBringUp i s) := by
  obtain ⟨hfp, hfc, hfo⟩ := flagsCleared_spec i s
  obtain ⟨v, hv⟩ : ∃ v, v = editSide i (fun p => { p with state := .off, bringUp := true }) (flagsCleared i s) := ⟨_, rfl⟩
  obtain ⟨a, ha⟩ : ∃ a, a = addClosure i .night v := ⟨_, rfl⟩
  have he : beginBringUp i s = if (a.sidePower.get i).shutting then a else joinPermit i a := by rw [ha, hv]; rfl
  have ov : OnlyChanges [.sidePower i] s v := by rw [hv]; exact hfo.step (editSide_only i _ _) (List.Subset.refl _)
  have oa : OnlyChanges (closureBlocks i) v a := by rw [ha]; exact addClosure_only i .night v
  have hvp : v.sidePower.get i = { s.sidePower.get i with state := .off, bringUp := true, attended := false, cold := false } := by
    rw [hv]
    unfold editSide
    rw [State.setSidePower_sidePower, PerSide.get_set_same, hfp]
  have hap : a.sidePower.get i = v.sidePower.get i := oa (.sidePower i) (by simp)
  have hvf : v.fill.get i = s.fill.get i := ov (.fill i) (by simp)
  have hvl : v.link = s.link := ov.link_eq
  have hpw : a.power = s.power := (oa .power (by simp)).trans (ov .power (by simp))
  have C := addNight_carries i v
  rw [← ha] at C
  have hcl : (a.fill.get i).closures = { (s.fill.get i).closures with night := true } := by
    rw [ha, addClosure_closures, hvf]
    rfl
  have hch : a.changes = s.changes ++ if (s.sidePower.get i).attended then [.stage (clearedTold i s)] else [] := by
    rw [ha, addClosure_changes, hv]
    exact hfc
  have hclosed (h : s.filling i = false) : a.sideState i = .closed := by
    rw [ha]
    refine addClosure_sideState .night ?_
    rw [← h]
    unfold State.filling State.sideState
    rw [hvf]
  have hkeep : FillKept (s.fill.get i) (a.fill.get i) := by rw [← hvf]; exact C.fill i
  have hservice : a.link.service = s.link.service := by rw [ha, addClosure_service, hvl]
  have hkeeps : s.link.Keeps a.link := by rw [← hvl]; exact C.keeps
  have hroom (n : Nat) (h : Room (n + 1) s) : Room n a := C.room n (h.of_link hvl)
  have hshut : (a.sidePower.get i).shutting = (s.sidePower.get i).shutting := by rw [hap, hvp]
  have honly : OnlyChanges ([.sidePower i, .power] ++ closureBlocks i) s a := (ov.mono (by simp)).step oa (by simp)
  rw [he, hshut]
  split
  · next h =>
    exact ⟨hap.trans hvp, hcl, hclosed, hkeep, fun hn => absurd h (by rw [hn]; decide), fun _ => hpw, hch, hservice, hkeeps, hroom, honly⟩
  · next h =>
    refine ⟨hap.trans hvp, hcl, hclosed, hkeep, fun _ => ?_, fun hy => absurd hy h, hch, hservice, hkeeps,
      fun n hr => (hroom n hr).of_link rfl, honly.step (joinPermit_only i a) (by simp)⟩
    change { a.power with waiting := a.power.waiting ++ [i] } = _
    rw [hpw]

/-! ### WAKING -/

/-- The part as WAKING finds it (R164). -/
def wakingMode (c : PowerCause) (s : State) : State := setMode .waking c (s.setPower { s.power with verification := .none })

theorem wakingMode_only (c : PowerCause) (s : State) : OnlyChanges [.power] s (wakingMode c s) :=
  (setPower_only s _).step (setMode_only _ _ _) (List.Subset.refl _)

/-- The part in the dark of NIGHT: the permit free, and no shut running (R162). -/
structure Dark (s : State) : Prop where
  holder : s.power.holder = none
  waiting : s.power.waiting = []
  shutting : ∀ i, (s.sidePower.get i).shutting = false
  supplyGood : s.sidePower.a.supplyGood = false

/-- A side as its bring-up begins (R165). -/
def SidePower.begun (p : SidePower) : SidePower := { p with state := .off, bringUp := true, attended := false, cold := false }

/-- What waking from the dark leaves: both bring-ups begun, A first to the permit (R164 to R166). -/
structure Wakes (c : PowerCause) (s t : State) : Prop where
  power : t.power = { s.power with mode := .waking, verification := .none, holder := some .a, waiting := [.b] }
  first : t.sidePower.get .a = { (s.sidePower.get .a).begun with state := .supply, supplyOn := true, stageTimer := some 2000 }
  second : t.sidePower.get .b = (s.sidePower.get .b).begun
  closures : ∀ i, (t.fill.get i).closures = { (s.fill.get i).closures with night := true }
  closed : ∀ i, s.filling i = false → t.sideState i = .closed
  fill : ∀ i, FillKept (s.fill.get i) (t.fill.get i)
  cause : s.changes = [] → t.changes.findSome? PowerChange.modeCause = some c
  service : t.link.service = s.link.service
  keeps : s.link.Keeps t.link
  room : ∀ n, Room (n + 2) s → Room n t

theorem findSome_cause {c : PowerCause} {ss xs : List PowerChange} (h : ss = []) :
    (ss ++ [PowerChange.mode c] ++ xs).findSome? PowerChange.modeCause = some c := by
  rw [h]
  rfl

theorem wakingEntry_wakes {c : PowerCause} {s : State} (h : Dark s) : Wakes c s (wakingEntry c s) := by
  obtain ⟨m, hm⟩ : ∃ m, m = wakingMode c s := ⟨_, rfl⟩
  obtain ⟨a, ha⟩ : ∃ a, a = beginBringUp .a m := ⟨_, rfl⟩
  obtain ⟨b, hb⟩ : ∃ b, b = beginBringUp .b a := ⟨_, rfl⟩
  have he : wakingEntry c s = grantPermit b := by rw [hb, ha, hm]; rfl
  have om : OnlyChanges [.power] s m := by rw [hm]; exact wakingMode_only c s
  have A : BringsUp .a m a := by rw [ha]; exact beginBringUp_bringsUp .a m
  have B : BringsUp .b a b := by rw [hb]; exact beginBringUp_bringsUp .b a
  have hmp : m.power = { s.power with mode := .waking, verification := .none } := by rw [hm]; rfl
  have hms (i : Side) : m.sidePower.get i = s.sidePower.get i := om (.sidePower i) (by simp)
  have hmf (i : Side) : m.fill.get i = s.fill.get i := om (.fill i) (by simp)
  have hml : m.link = s.link := om.link_eq
  have hab : a.sidePower.get .b = m.sidePower.get .b := A.only (.sidePower .b) (by simp)
  have hba : b.sidePower.get .a = a.sidePower.get .a := B.only (.sidePower .a) (by simp)
  have hafb : a.fill.get .b = m.fill.get .b := A.only (.fill .b) (by simp)
  have hbfa : b.fill.get .a = a.fill.get .a := B.only (.fill .a) (by simp)
  have hbp : b.power = { s.power with mode := .waking, verification := .none, waiting := [.a, .b] } := by
    rw [B.joins (by rw [hab, hms]; exact h.shutting .b), A.joins (by rw [hms]; exact h.shutting .a), hmp, h.waiting]
    rfl
  have hbsa : b.sidePower.get .a = (s.sidePower.get .a).begun := by
    rw [hba, A.power, hms]
    rfl
  have ht : wakingEntry c s = permitTaken .a b := by
    rw [he, grantPermit_head (i := .a) (rest := [.b]) (by rw [hbp]; exact h.holder) (by rw [hbp]), takePermit_waits]
    rw [hbsa]
    exact h.supplyGood
  have ot : OnlyChanges [.power, .sidePower .a] b (permitTaken .a b) := permitTaken_only .a b
  have htl : (permitTaken .a b).link = b.link := ot.link_eq
  rw [ht]
  refine ⟨?_, ?_, ?_, fun i => ?_, fun i hf => ?_, fun i => ?_, fun hs => ?_, ?_, ?_, fun n hr => ?_⟩
  · rw [permitTaken_power, hbp]
    rfl
  · rw [permitTaken_sidePower, hbsa]
  · have e : (permitTaken .a b).sidePower.get .b = b.sidePower.get .b := ot (.sidePower .b) (by simp)
    rw [e, B.power, hab, hms]
    rfl
  · rw [ot (.fill i) (by simp)]
    cases i with
    | a => rw [hbfa, A.closures, hmf]
    | b => rw [B.closures, hafb, hmf]
  · have e : (permitTaken .a b).sideState i = b.sideState i := congrArg Fill.state (ot (.fill i) (by simp))
    have hmi : m.filling i = false := by
      rw [← hf]
      unfold State.filling State.sideState
      rw [hmf]
    rw [e]
    cases i with
    | a => exact (congrArg Fill.state hbfa).trans (A.closed hmi)
    | b =>
      refine B.closed ?_
      rw [← hmi]
      unfold State.filling State.sideState
      rw [hafb]
  · rw [ot (.fill i) (by simp), ← hmf]
    cases i with
    | a => rw [hbfa]; exact A.fill
    | b => rw [← hafb]; exact B.fill
  · rw [(permitTaken_told (.refl .a b)).2, B.changes, A.changes, List.append_assoc, List.append_assoc]
    have hmc : m.changes = s.changes ++ [.mode c] := by rw [hm]; rfl
    rw [hmc]
    exact findSome_cause hs
  · rw [htl, B.service, A.service, hml]
  · rw [htl, ← hml]
    exact A.keeps.trans B.keeps
  · exact (B.room n (A.room (n + 1) (hr.of_link hml))).of_link htl

end Sys2Proof.Machine

namespace Sys2Proof.Machine

open Sys2Proof

/-! ### A change of mode at the end of an event -/

/-- The end of an event that changes the mode of a part that has LOADED starts no store job. -/
theorem OnlyChanges.settle_mode {s u : State} {bs : List Block} (old : State) (h : Settled s) (hu : OnlyChanges bs s u)
    (hl : Block.link ∈ bs) (hr : Block.register ∉ bs) (hst : Block.store ∉ bs) (hf : Block.supplyFailInput ∉ bs)
    (hm : s.power.mode ≠ .loading) : OnlyChanges bs s (Machine.settle old u) := by
  have hwide : OnlyChanges (.store :: bs) s (Machine.settle old u) :=
    (hu.mono (List.subset_cons_self _ _)).settle old h (List.mem_cons_of_mem _ hl)
      (fun i _ => hu.pendingDelivery_eq hr i) (fun hn => absurd List.mem_cons_self hn)
  have hstore : u.store = s.store := hu .store hst
  have hrest : MainRests u := by
    rcases h.mainRests with hx | hx | hx
    · exact absurd hx hm
    · exact .inr (.inl (by rw [hstore]; exact hx))
    · exact .inr (.inr (by rw [hstore, hu .supplyFailInput hf]; exact hx))
  intro b hb
  by_cases hs : b = .store
  · subst hs
    change (Machine.settle old u).store = s.store
    rw [settle_store, hrest.startMain_eq, hstore]
    exact Store.startSave_rests _ h.saveRests
  · exact hwide b (fun hn => (List.mem_cons.mp hn).elim hs hb)

/-! ### WAKE in NIGHT_PENDING -/

theorem takePermit_verification (i : Side) (s : State) : (takePermit i s).power.verification = s.power.verification := by
  rcases hg : (s.sidePower.get i).supplyGood with _ | _
  · rw [takePermit_waits hg]
    rfl
  · rw [takePermit_passes hg, (takeSupplyGood_taken i _).power]
    rfl

theorem grantPermit_cases (s : State) : grantPermit s = s ∨ ∃ j ∈ s.power.waiting, grantPermit s = takePermit j s := by
  unfold grantPermit
  split
  · next j rest _ hw => exact .inr ⟨j, by rw [hw]; exact List.mem_cons_self, rfl⟩
  · exact .inl rfl

/-- What a free permit does when it is granted (R166). -/
structure Grants (s t : State) : Prop where
  mode : t.power.mode = s.power.mode
  verification : t.power.verification = s.power.verification
  marks : ∀ i, (t.sidePower.get i).bringUp = (s.sidePower.get i).bringUp
  side : ∀ i, i ∉ s.power.waiting → t.sidePower.get i = s.sidePower.get i
  fill : ∀ i, FillKept (s.fill.get i) (t.fill.get i)
  link : t.link = s.link
  changes : ∃ gs : List Notice, gs.length ≤ 3 ∧ t.changes = s.changes ++ gs.map .stage

theorem grantPermit_grants (s : State) : Grants s (grantPermit s) := by
  have H := grantPermit_advances s
  rcases grantPermit_cases s with h | ⟨j, hj, h⟩
  · rw [h]
    exact ⟨rfl, rfl, fun _ => rfl, fun _ _ => rfl, fun _ => .refl _, rfl, [], Nat.zero_le _, (List.append_nil _).symm⟩
  · obtain ⟨gs, hl, hc⟩ := takePermit_changes (.refl j s)
    rw [h] at H ⊢
    refine ⟨H.carries.mode, takePermit_verification j s, H.marks, fun i hi => ?_, H.carries.fill, (takePermit_clear j s).link_eq,
      s.stageTold j .supply .permit :: gs, Nat.succ_le_succ hl, hc⟩
    have hij : i ≠ j := by rintro rfl; exact hi hj
    exact takePermit_clear j s (.sidePower i) (by simp [hij])

/-- A bring-up begun where the side is OFF (R164). -/
def beginIf (b : Bool) (i : Side) (s : State) : State := if b then beginBringUp i s else s

/-- What it leaves (R164, R165). -/
structure BeginsIf (b : Bool) (i : Side) (s t : State) : Prop where
  mark : b = true → (t.sidePower.get i).bringUp = true
  stays : b = false → t.sidePower.get i = s.sidePower.get i
  other : t.sidePower.get i.other = s.sidePower.get i.other
  mode : t.power.mode = s.power.mode
  verification : t.power.verification = s.power.verification
  waiting : ∀ j ∈ t.power.waiting, j ∈ s.power.waiting ∨ j = i ∧ b = true
  service : t.link.service = s.link.service

theorem BringsUp.permit {i : Side} {s t : State} (h : BringsUp i s t) : t.power.mode = s.power.mode ∧
    t.power.verification = s.power.verification ∧ t.power.holder = s.power.holder ∧
    ∀ j ∈ t.power.waiting, j ∈ s.power.waiting ∨ j = i := by
  rcases hs : (s.sidePower.get i).shutting with _ | _
  · rw [h.joins hs]
    exact ⟨rfl, rfl, rfl, fun j hj => (List.mem_append.mp hj).imp id List.mem_singleton.mp⟩
  · rw [h.shuts hs]
    exact ⟨rfl, rfl, rfl, fun j hj => .inl hj⟩

theorem beginIf_begins (b : Bool) (i : Side) (s : State) : BeginsIf b i s (beginIf b i s) := by
  have hio : Block.sidePower i.other ∉ [Block.sidePower i, .power] ++ closureBlocks i := by cases i <;> decide
  cases b with
  | false => exact ⟨fun h => absurd h (by decide), fun _ => rfl, rfl, rfl, rfl, fun j hj => .inl hj, rfl⟩
  | true =>
    have H : BringsUp i s (beginIf true i s) := beginBringUp_bringsUp i s
    obtain ⟨hm, hv, -, hw⟩ := H.permit
    exact ⟨fun _ => by rw [H.power], fun h => absurd h (by decide), H.only (.sidePower i.other) hio, hm, hv,
      fun j hj => (hw j hj).imp id (fun e => ⟨e, rfl⟩), H.service⟩

/-- A side is OFF. -/
def isOff (s : State) (i : Side) : Bool := decide ((s.sidePower.get i).state = .off)

theorem cancelNight_none {s : State} (h : ∀ i, (s.sidePower.get i).state ≠ .off) : cancelNight s = setMode .run .wake s := by
  refine if_neg ?_
  have ha : decide (s.sidePower.a.state = .off) = false := decide_eq_false (h .a)
  have hb : decide (s.sidePower.b.state = .off) = false := decide_eq_false (h .b)
  rw [ha, hb]
  decide

theorem cancelNight_some {s : State} (h : ∃ i, (s.sidePower.get i).state = .off) :
    cancelNight s = grantPermit (beginIf (isOff s .b) .b (beginIf (isOff s .a) .a (wakingMode .wake s))) := by
  refine if_pos ?_
  obtain ⟨i, hi⟩ := h
  cases i with
  | a =>
    have ha : decide (s.sidePower.a.state = .off) = true := decide_eq_true hi
    rw [ha, Bool.true_or]
  | b =>
    have hb : decide (s.sidePower.b.state = .off) = true := decide_eq_true hi
    rw [hb, Bool.or_true]

/-- What a wake from NIGHT_PENDING with a side OFF leaves (R164). -/
theorem cancelNight_wakes {s : State} (h : ∃ i, (s.sidePower.get i).state = .off) :
    (cancelNight s).power.mode = .waking ∧ (cancelNight s).power.verification = .none ∧
      (cancelNight s).link.service = s.link.service ∧
      ∀ i, ((s.sidePower.get i).state = .off → ((cancelNight s).sidePower.get i).bringUp = true) ∧
        ((s.sidePower.get i).state ≠ .off → i ∉ s.power.waiting → (cancelNight s).sidePower.get i = s.sidePower.get i) := by
  obtain ⟨m, hm⟩ : ∃ m, m = wakingMode .wake s := ⟨_, rfl⟩
  have om : OnlyChanges [.power] s m := by rw [hm]; exact wakingMode_only .wake s
  have A := beginIf_begins (isOff s .a) .a m
  obtain ⟨a, ha⟩ : ∃ a, a = beginIf (isOff s .a) .a m := ⟨_, rfl⟩
  rw [← ha] at A
  have B := beginIf_begins (isOff s .b) .b a
  obtain ⟨b, hb⟩ : ∃ b, b = beginIf (isOff s .b) .b a := ⟨_, rfl⟩
  rw [← hb] at B
  have G := grantPermit_grants b
  have hs (i : Side) : m.sidePower.get i = s.sidePower.get i := om (.sidePower i) (by simp)
  have hwm : m.power.waiting = s.power.waiting := by rw [hm]; rfl
  have hwait (j : Side) (hj : j ∈ b.power.waiting) : j ∈ s.power.waiting ∨ isOff s j = true := by
    rcases B.waiting j hj with hja | ⟨hjb, hoff⟩
    · rcases A.waiting j hja with hjm | ⟨hja', hoff⟩
      · exact .inl (hwm ▸ hjm)
      · exact .inr (hja' ▸ hoff)
    · exact .inr (hjb ▸ hoff)
  have hoA : b.sidePower.get .a = a.sidePower.get .a := B.other
  have hoB : a.sidePower.get .b = m.sidePower.get .b := A.other
  have hmark (i : Side) (ho : isOff s i = true) : (b.sidePower.get i).bringUp = true := by
    cases i with
    | a => rw [hoA]; exact A.mark ho
    | b => exact B.mark ho
  have hstay (i : Side) (ho : isOff s i = false) : b.sidePower.get i = s.sidePower.get i := by
    cases i with
    | a => rw [hoA, A.stays ho, hs]
    | b => rw [B.stays ho, hoB, hs]
  have hmode : b.power.mode = .waking := by rw [B.mode, A.mode, hm]; rfl
  have hver : b.power.verification = .none := by rw [B.verification, A.verification, hm]; rfl
  rw [cancelNight_some h, ← hm, ← ha, ← hb]
  refine ⟨G.mode.trans hmode, G.verification.trans hver, ?_, fun i => ⟨fun ho => ?_, fun ho hw => ?_⟩⟩
  · rw [G.link, B.service, A.service, om.link_eq]
  · rw [G.marks]
    exact hmark i (decide_eq_true ho)
  · have hno : isOff s i = false := decide_eq_false ho
    rw [G.side i (fun hi => (hwait i hi).elim hw (fun x => absurd (hno.symm.trans x) (by decide))), hstay i hno]

/-! ### POWER_SIDE -/

/-- The part as an accepted POWER_SIDE finds it (R172). -/
def rerunFrom (s : State) : State := if verifyWaiting s then s else s.setPower { s.power with verification := .none }

theorem rerun_eq (i : Side) (s : State) : rerun i s =
    grantPermit ((beginBringUp i (rerunFrom s)).addChange (.stage (powerNotice (some i) .powerSide (beginBringUp i (rerunFrom s))))) := rfl

theorem rerunFrom_only (s : State) : OnlyChanges [.power] s (rerunFrom s) := OnlyChanges.ite (.refl _ _) (setPower_only s _)

theorem verifyWaiting_iff (s : State) : verifyWaiting s = true ↔ ∃ j, (s.sidePower.get j).state = .verify := by
  unfold verifyWaiting
  rw [decide_eq_true_iff]
  refine ⟨fun h => h.elim (fun x => ⟨.a, x⟩) (fun x => ⟨.b, x⟩), fun ⟨j, hj⟩ => ?_⟩
  cases j with
  | a => exact .inl hj
  | b => exact .inr hj

theorem rerunFrom_power (s : State) : (rerunFrom s).power.mode = s.power.mode ∧ (rerunFrom s).power.holder = s.power.holder ∧
    (rerunFrom s).power.waiting = s.power.waiting ∧ (rerunFrom s).changes = s.changes ∧
    ((∃ j, (s.sidePower.get j).state = .verify) → (rerunFrom s).power.verification = s.power.verification) ∧
    ((¬∃ j, (s.sidePower.get j).state = .verify) → (rerunFrom s).power.verification = .none) := by
  rw [← verifyWaiting_iff]
  unfold rerunFrom
  split
  · next h => exact ⟨rfl, rfl, rfl, rfl, fun _ => rfl, fun x => absurd h x⟩
  · next h => exact ⟨rfl, rfl, rfl, rfl, fun x => absurd x h, fun _ => rfl⟩

end Sys2Proof.Machine

namespace Sys2Proof.Machine

open Sys2Proof

/-! ### Answered requests on power -/

/-- A request whose effect keeps it in service is answered by it (R185). -/
theorem answers_served {s u : State} (old : State) {kind tag : Nat} (fields : List Field)
    (h : u.link.service = (s.serving kind tag).link.service) :
    (settle old (answer .ok fields u)).link.answers kind tag .ok fields :=
  settle_answers (r := { kind := kind, tag := tag, fields := [], restart := false }) old .ok fields h

theorem answer_room {k : Nat} {status : Status} {fields : List Field} {s : State} (h : Room k s) : Room k (answer status fields s) := h

theorem serving_room {k kind tag : Nat} {s : State} (h : Room k s) : Room k (s.serving kind tag) := h

/-- A part told otherwise as `s`, with one side's power state standing (R157). -/
theorem ToldAlike.stands {i : Side} {s w : State} (h : ToldAlike i s w) (c : PowerCause) {p : PowerState}
    (hp : (w.sidePower.get i).state = p) : Machine.powerNotice (some i) c w = s.stageTold i p c := by
  obtain ⟨hm, hat, hco, ho⟩ := h
  have a1 := hat .a
  have a2 := hat .b
  have c1 := hco .a
  have c2 := hco .b
  cases i <;> simp_all [Machine.powerNotice, State.stageTold, PerSide.set, PerSide.get, Side.other]

/-! ### POWER_SIDE accepted -/

theorem takePermit_night (j i : Side) (s : State) : ((takePermit j s).fill.get i).closures.night = (s.fill.get i).closures.night := by
  by_cases hij : i = j
  · subst hij
    have hf : (permitTaken i s).fill.get i = s.fill.get i := permitTaken_only i s (.fill i) (by simp)
    rcases hg : (s.sidePower.get i).supplyGood with _ | _
    · rw [takePermit_waits hg, hf]
    · rw [takePermit_passes hg, (takeSupplyGood_taken i _).closures, hf]
  · have e : (takePermit j s).fill.get i = s.fill.get i := takePermit_clear j s (.fill i) (by simp [hij])
    rw [e]

theorem grantPermit_night (i : Side) (s : State) : ((grantPermit s).fill.get i).closures.night = (s.fill.get i).closures.night := by
  rcases grantPermit_cases s with h | ⟨j, -, h⟩
  · rw [h]
  · rw [h, takePermit_night]

/-- The bring-up of an accepted POWER_SIDE begun and told, before the permit is granted (R157, R172). -/
def rerunBegun (i : Side) (s : State) : State :=
  (beginBringUp i (rerunFrom s)).addChange (.stage (powerNotice (some i) .powerSide (beginBringUp i (rerunFrom s))))

/-- The part with the flags of a side cleared, which the notices of a rerun start from (R165). -/
def unflagged (i : Side) (s : State) : State := s.setSidePower i { s.sidePower.get i with attended := false, cold := false }

theorem unflagged_sidePower (i : Side) (s : State) :
    (unflagged i s).sidePower.get i = { s.sidePower.get i with attended := false, cold := false } := PerSide.get_set_same _ _ _

/-- What the rerun's beginning leaves (R172). -/
structure Reruns (i : Side) (s t : State) : Prop where
  power : t.sidePower.get i = (s.sidePower.get i).begun
  closures : (t.fill.get i).closures = { (s.fill.get i).closures with night := true }
  closed : s.filling i = false → t.sideState i = .closed
  mode : t.power.mode = s.power.mode
  holder : t.power.holder = s.power.holder
  joins : (s.sidePower.get i).shutting = false → t.power.waiting = s.power.waiting ++ [i]
  waits : (∃ j, (s.sidePower.get j).state = .verify) → t.power.verification = s.power.verification
  restarts : (¬∃ j, (s.sidePower.get j).state = .verify) → t.power.verification = .none
  changes : t.changes = s.changes ++ ((if (s.sidePower.get i).attended then [clearedTold i s] else []) ++
    [(unflagged i s).stageTold i .off .powerSide]).map .stage
  alike : ToldAlike i (unflagged i s) t
  service : t.link.service = s.link.service
  room : ∀ n, Room (n + 1) s → Room n t

theorem rerunBegun_reruns (i : Side) (s : State) : Reruns i s (rerunBegun i s) := by
  obtain ⟨v, hv⟩ : ∃ v, v = rerunFrom s := ⟨_, rfl⟩
  obtain ⟨hvm, hvh, hvw, hvc, hvy, hvn⟩ := rerunFrom_power s
  have ov : OnlyChanges [.power] s v := by rw [hv]; exact rerunFrom_only s
  rw [← hv] at hvm hvh hvw hvc hvy hvn
  have hvs (j : Side) : v.sidePower.get j = s.sidePower.get j := ov (.sidePower j) (by simp)
  have hvf : v.fill.get i = s.fill.get i := ov (.fill i) (by simp)
  have hvl : v.link = s.link := ov.link_eq
  have B : BringsUp i v (beginBringUp i v) := beginBringUp_bringsUp i v
  obtain ⟨b, hb⟩ : ∃ b, b = beginBringUp i v := ⟨_, rfl⟩
  rw [← hb] at B
  obtain ⟨hbm, hbv, hbh, -⟩ := B.permit
  have hio : b.sidePower.get i.other = s.sidePower.get i.other :=
    (B.only (.sidePower i.other) (by cases i <;> decide)).trans (hvs _)
  have hbp : b.sidePower.get i = (s.sidePower.get i).begun := by
    rw [B.power, hvs]
    rfl
  have hal : ToldAlike i (unflagged i s) b := by
    refine .of_sides (hbm.trans hvm) (by rw [hbp, unflagged_sidePower]; rfl) (by rw [hbp, unflagged_sidePower]; rfl) ?_
    rw [hio]
    exact (PerSide.get_set_other _ _ (by cases i <;> decide)).symm
  have hcl : clearedTold i v = clearedTold i s := by
    have hsv : v.sidePower = s.sidePower := PerSide.ext_fields (hvs .a) (hvs .b)
    unfold clearedTold powerNotice
    rw [State.setSidePower_power, State.setSidePower_power, State.setSidePower_sidePower, State.setSidePower_sidePower, hsv, hvm]
  have he : rerunBegun i s = b.addChange (.stage (powerNotice (some i) .powerSide b)) := by rw [hb, hv]; rfl
  rw [he]
  refine ⟨hbp, B.closures.trans (by rw [hvf]), fun h => B.closed ?_, hbm.trans hvm, hbh.trans hvh, fun h => ?_, fun h => ?_, fun h => ?_,
    ?_, hal.trans (.of_eq rfl rfl), B.service.trans (by rw [hvl]), fun n h => (B.room n (h.of_link hvl)).of_link rfl⟩
  · rw [← h]
    unfold State.filling State.sideState
    rw [hvf]
  · change b.power.waiting = _
    rw [B.joins (by rw [hvs]; exact h), ← hvw]
  · exact hbv.trans (hvy h)
  · exact hbv.trans (hvn h)
  · change b.changes ++ [_] = _
    have hoff : (b.sidePower.get i).state = .off := by rw [hbp]; rfl
    rw [B.changes, hvc, hvs, hcl, hal.stands .powerSide hoff]
    split
    · simp
    · simp

/-- What a rerun tells: a clearing of ATTENDED, the change to OFF, and the stages of a permit that is taken at once (R157, R172). -/
theorem Reruns.told {i : Side} {s t u old : State} {gs : List Notice} (h : Reruns i s t) (hs : s.changes = []) (hg : gs.length ≤ 3)
    (hu : u.changes = t.changes ++ gs.map .stage) (hr : Room 8 u) :
    (settle old u).link.tells ((unflagged i s).stageTold i .off .powerSide) ∧
      ((s.sidePower.get i).attended = true → (settle old u).link.tells (clearedTold i s)) ∧
      ∀ n ∈ gs, (settle old u).link.tells n := by
  have hc := hu
  rw [h.changes, hs, List.nil_append, ← List.map_append] at hc
  have hroom : Room ((((if (s.sidePower.get i).attended then [clearedTold i s] else []) ++
      [(unflagged i s).stageTold i .off .powerSide]) ++ gs).length + 2) u := by
    refine hr.mono ?_
    rw [List.length_append, List.length_append, List.length_singleton]
    split
    · rw [List.length_singleton]
      omega
    · rw [List.length_nil]
      omega
  refine ⟨settle_tellsStage hc (List.mem_append_left _ (List.mem_append_right _ List.mem_cons_self)) hroom, fun ha => ?_,
    fun n hn => settle_tellsStage hc (List.mem_append_right _ hn) hroom⟩
  refine settle_tellsStage hc (List.mem_append_left _ (List.mem_append_left _ ?_)) hroom
  rw [if_pos ha]
  exact List.mem_cons_self

/-! ### WAKING at the end of its event -/

/-- What waking from the dark leaves of an event that began in `s` (R164). -/
theorem Wakes.settled {c : PowerCause} {s v t u : State} (W : Wakes c v t) (hp : v.power = s.power) (hsp : v.sidePower = s.sidePower)
    (hf : ∀ i, (v.fill.get i).closures = (s.fill.get i).closures ∧ v.sideState i = s.sideState i) (hc : v.changes = [])
    (hu : OnlyChanges [.link] t u) (huc : u.changes = t.changes) (hr : Room 16 s → Room 3 u) :
    (Room 16 s → ∃ j, (settle s u).link.tells (.powerStage .waking .supply .off j c false false false false)) ∧
      (settle s u).power = { s.power with mode := .waking, verification := .none, holder := some .a, waiting := [.b] } ∧
      (settle s u).sidePower.get .a = { (s.sidePower.get .a).begun with state := .supply, supplyOn := true, stageTimer := some 2000 } ∧
      (settle s u).sidePower.get .b = (s.sidePower.get .b).begun ∧
      ∀ i, ((settle s u).fill.get i).closures = { (s.fill.get i).closures with night := true } ∧
        (s.filling i = false → (settle s u).sideState i = .closed) := by
  have hup : u.power = t.power := hu .power (by simp)
  have hus (i : Side) : u.sidePower.get i = t.sidePower.get i := hu (.sidePower i) (by simp)
  have huf (i : Side) : u.fill.get i = t.fill.get i := hu (.fill i) (by simp)
  refine ⟨fun h => ?_, ?_, ?_, ?_, fun i => ⟨?_, fun hn => ?_⟩⟩
  · refine ⟨changedSide s.sidePower u.sidePower, ?_⟩
    have hcause : u.changes.findSome? PowerChange.modeCause = some c := by rw [huc]; exact W.cause hc
    have ht := settle_tellsModeNotice (old := s) hcause (hr h)
    have ha : u.sidePower.a = _ := (hus .a).trans W.first
    have hb : u.sidePower.b = _ := (hus .b).trans W.second
    unfold powerNotice at ht
    rw [ha, hb, hup, W.power] at ht
    exact ht
  · rw [settle_power, hup, W.power, hp]
  · rw [settle_sidePower, hus, W.first, hsp]
  · rw [settle_sidePower, hus, W.second, hsp]
  · rw [settle_fill, huf, W.closures, (hf i).1]
  · rw [settle_sideState]
    refine (congrArg Fill.state (huf i)).trans (W.closed i ?_)
    rw [← hn]
    unfold State.filling
    rw [(hf i).2]

theorem dark_of {s v : State} (hp : v.power = s.power) (hs : v.sidePower = s.sidePower)
    (h : s.power.holder = none ∧ s.power.waiting = [] ∧ (∀ i, (s.sidePower.get i).shutting = false) ∧
      s.sidePower.a.supplyGood = false) : Dark v := by
  obtain ⟨h1, h2, h3, h4⟩ := h
  exact ⟨by rw [hp, h1], by rw [hp, h2], fun i => by rw [hs, h3], by rw [hs, h4]⟩

/-! ### WAKE -/

theorem wake_taken {s : State} (hf : Free s) (tag : Nat) :
    exec (.wake tag (.fields ())) s = .next (settle s (takeWake (s.serving Kind.wake tag))) :=
  event_request hf Kind.wake tag () (fun _ s => takeWake s)

theorem takeWake_night {s : State} (h : s.power.mode = .night) : takeWake s = answerMode (wakingEntry .wake s) := by
  unfold takeWake
  rw [h]

theorem takeWake_pending {s : State} (h : s.power.mode = .nightPending) : takeWake s = answerMode (cancelNight s) := by
  unfold takeWake
  rw [h]

theorem wake_replied {s : State} (hs : Settled s) (hf : Free s) (tag : Nat) (status : Status) (fields : List Field)
    (ht : takeWake (s.serving Kind.wake tag) = answer status fields (s.serving Kind.wake tag)) :
    exec (.wake tag (.fields ())) s = .next (s.replied Kind.wake tag status fields) :=
  replied_of_answer hs hf Kind.wake tag () (fun _ s => takeWake s) status fields ht

/-- What a waking lift finds and leaves of the nozzles (R164). -/
theorem nozzleLift_wakes {i : Side} {n : Nozzle} {s : State} (hm : s.power.mode = .night) (hw : s.params.wakeOnNozzle ≠ 0)
    (hn : (s.fill.get i).nozzles.get n = .hung) : exec (.nozzleLift i n) s = .next (settle s (wakingEntry .nozzle
      (s.setFill i { s.fill.get i with nozzles := (s.fill.get i).nozzles.set n .spent }))) := by
  have e : nozzleLift i n s = wakingLift i n s := (if_pos hn).trans (if_pos ⟨hm, hw⟩)
  change Host.Outcome.next (settle s (nozzleLift i n s)) = _
  rw [e]
  rfl

/-! ### POWER_SIDE at the end of its event -/

theorem powerSide_replied {s : State} (hs : Settled s) (hf : Free s) (tag : Nat) (i : Side) (status : Status)
    (ht : takePowerSide i (s.serving Kind.powerSide tag) = refuse status (s.serving Kind.powerSide tag)) :
    exec (.powerSide tag (.fields (Side.number i))) s = .next (s.replied Kind.powerSide tag status []) :=
  replied_of_sideRefuse hs hf Kind.powerSide tag i takePowerSide status [] ht

theorem powerSide_accepted {s : State} (hf : Free s) (tag : Nat) (i : Side) (hm : s.power.mode ≠ .nightPending)
    (hd : (s.sidePower.get i).state = .downFault) : exec (.powerSide tag (.fields (Side.number i))) s =
      .next (settle s (answer .ok [] (rerun i (s.serving Kind.powerSide tag)))) := by
  have e : takePowerSide i (s.serving Kind.powerSide tag) = answer .ok [] (rerun i (s.serving Kind.powerSide tag)) :=
    (if_neg hm).trans (if_neg (not_not.mpr hd))
  rw [← e]
  exact event_sideRequest hf Kind.powerSide tag i takePowerSide

/-- Settles O57: WAKE and the waking lift by what waking from the dark leaves (`Wakes`), a wake from NIGHT_PENDING by the bring-ups that
it begins, POWER_SIDE by the rerun begun (`Reruns`) and the permit granted after it. -/
theorem theMorningBringsTheSidesUp : Obligations.TheMorningBringsTheSidesUp := by
  intro tag s hs c begun closed dark isWaking
  refine ⟨fun hf => ⟨fun hm => ?_, fun hm => ?_, fun hm hd => ?_, fun hm hno => ?_, fun hm hoff => ?_⟩, fun i n hm hw hn hd => ?_,
    fun i hf => ⟨fun hm => ?_, fun hm hd => ?_, fun hm hd => ?_⟩⟩
  · refine wake_replied hs hf tag .wrongState [] ?_
    unfold takeWake
    rw [show (s.serving Kind.wake tag).power.mode = .loading from hm]
    rfl
  · refine wake_replied hs hf tag .ok _ ?_
    have hm' : (s.serving Kind.wake tag).power.mode = .waking ∨ (s.serving Kind.wake tag).power.mode = .run := hm
    unfold takeWake
    rcases hm' with h | h
    · rw [h]
      rfl
    · rw [h]
      rfl
  · have W : Wakes .wake (s.serving Kind.wake tag) (wakingEntry .wake (s.serving Kind.wake tag)) := wakingEntry_wakes (dark_of rfl rfl hd)
    have hmode : (wakingEntry .wake (s.serving Kind.wake tag)).power.mode = .waking := by rw [W.power]
    refine ⟨_, (wake_taken hf tag).trans (by rw [takeWake_night (s := s.serving Kind.wake tag) hm]), ?_, ?_⟩
    · refine W.settled rfl rfl (fun i => ⟨rfl, rfl⟩) hs.changes (answer_only _ _ _) rfl (fun hr => ?_)
      exact answer_room (W.room 3 (serving_room (hr.mono (by omega))))
    · unfold answerMode
      rw [hmode]
      exact answers_served s _ W.service
  · have hmode : (s.serving Kind.wake tag).power.mode = .nightPending := hm
    obtain ⟨u, hu⟩ : ∃ u, u = answerMode (setMode .run .wake (s.serving Kind.wake tag)) := ⟨_, rfl⟩
    have ht : takeWake (s.serving Kind.wake tag) = u := by
      rw [takeWake_pending hmode, cancelNight_none (s := s.serving Kind.wake tag) hno, hu]
    have hup : u.power = { s.power with mode := .run } := by rw [hu]; rfl
    have hus : u.sidePower = s.sidePower := by rw [hu]; rfl
    have huc : u.changes = [.mode .wake] := by
      rw [hu]
      change s.changes ++ _ = _
      rw [hs.changes]
      rfl
    have hon : OnlyChanges [.power, .link] s u := by
      rw [hu]
      exact (((setLink_only s _).mono (by simp)).step (setMode_only _ _ _) (by simp)).step (answer_only _ _ _) (by simp)
    refine ⟨settle s u, (wake_taken hf tag).trans (by rw [ht]), by rw [settle_power, hup], ?_, fun hr => ?_,
      hon.settle_mode s hs (by simp) (by simp) (by simp) (by simp) (by rw [hm]; decide)⟩
    · rw [hu]
      exact answers_served s _ rfl
    · have hroom : Room 3 u := by
        rw [hu]
        exact answer_room (serving_room (hr.mono (by omega)))
      have hnote := settle_tellsModeNotice (old := s) (u := u) (c := .wake) (by rw [huc]; rfl) hroom
      have hside : changedSide s.sidePower u.sidePower = none := by
        rw [hus]
        unfold changedSide
        rw [decide_eq_true rfl, decide_eq_true rfl]
      unfold powerNotice at hnote
      rw [hside, hup, hus] at hnote
      exact hnote
  · obtain ⟨h1, h2, h3, h4⟩ := cancelNight_wakes (s := s.serving Kind.wake tag) hoff
    refine ⟨_, (wake_taken hf tag).trans (by rw [takeWake_pending (s := s.serving Kind.wake tag) hm]), by rw [settle_power]; exact h1,
      by rw [settle_power]; exact h2, ?_, fun i => ?_⟩
    · unfold answerMode
      rw [h1]
      exact answers_served s _ h3
    · rw [settle_sidePower]
      exact h4 i
  · obtain ⟨v, hv⟩ : ∃ v, v = s.setFill i { s.fill.get i with nozzles := (s.fill.get i).nozzles.set n .spent } := ⟨_, rfl⟩
    have W : Wakes .nozzle v (wakingEntry .nozzle v) := wakingEntry_wakes (dark_of (by rw [hv]; rfl) (by rw [hv]; rfl) hd)
    have hvi : v.fill.get i = { s.fill.get i with nozzles := (s.fill.get i).nozzles.set n .spent } := by
      rw [hv]
      exact PerSide.get_set_same _ _ _
    have hvf (j : Side) : (v.fill.get j).closures = (s.fill.get j).closures ∧ v.sideState j = s.sideState j := by
      by_cases hj : j = i
      · rw [hj]
        unfold State.sideState
        rw [hvi]
        exact ⟨rfl, rfl⟩
      · have e : v.fill.get j = s.fill.get j := by rw [hv]; exact PerSide.get_set_other _ _ hj
        unfold State.sideState
        rw [e]
        exact ⟨rfl, rfl⟩
    refine ⟨_, nozzleLift_wakes hm hw hn, ?_, ?_, ?_⟩
    · rw [← hv]
      refine W.settled (by rw [hv]; rfl) (by rw [hv]; rfl) hvf (by rw [hv]; exact hs.changes) (.refl _ _) rfl (fun hr => ?_)
      exact W.room 3 ((hr.mono (by omega)).of_link (by rw [hv]; rfl))
    · rw [settle_fill, ← hv, (W.fill i).nozzles, hvi]
    · rw [settle_fill, ← hv, (W.fill i).counted, hvi]
  · exact powerSide_replied hs hf tag i .night (if_pos hm)
  · exact powerSide_replied hs hf tag i .wrongState ((if_neg hm).trans (if_pos hd))
  · obtain ⟨w, hw⟩ : ∃ w, w = s.serving Kind.powerSide tag := ⟨_, rfl⟩
    have hwp : w.power = s.power := by rw [hw]; rfl
    have hws : w.sidePower = s.sidePower := by rw [hw]; rfl
    have hwf : w.fill = s.fill := by rw [hw]; rfl
    have hwfill (j : Side) : w.filling j = s.filling j := by unfold State.filling State.sideState; rw [hwf]
    obtain ⟨m, hmm⟩ : ∃ m, m = rerunBegun i w := ⟨_, rfl⟩
    have R : Reruns i w m := by rw [hmm]; exact rerunBegun_reruns i w
    have G := grantPermit_grants m
    have he : rerun i w = grantPermit m := by rw [rerun_eq, hmm]; rfl
    have hacc := powerSide_accepted hf tag i hm hd
    rw [← hw, he] at hacc
    have hroomw (hr : Room 16 s) : Room 16 w := by rw [hw]; exact serving_room hr
    have hroom (hr : Room 16 s) : Room 8 (answer .ok [] (grantPermit m)) :=
      answer_room ((R.room 8 ((hroomw hr).mono (by omega))).of_link G.link)
    obtain ⟨gs, hgl, hgc⟩ := G.changes
    have htold (hr : Room 16 s) := R.told (old := s) (u := answer .ok [] (grantPermit m)) (gs := gs) (by rw [hw]; exact hs.changes) hgl hgc
      (hroom hr)
    have hun : (s.setSidePower i { s.sidePower.get i with attended := false, cold := false }).stageTold i =
        (unflagged i w).stageTold i := by rw [hw]; rfl
    refine ⟨_, hacc, ?_, ?_, ?_, fun hr => ⟨?_, fun ha => ?_, fun hh hwt hsh => ?_⟩, fun hv => ?_, fun hv => ?_, fun hh hsh => ?_,
      fun hh hwt hsh hg => ?_⟩
    · exact answers_served s [] (by rw [G.link, R.service, hw])
    · rw [settle_power]
      exact (G.mode.trans R.mode).trans (by rw [hwp])
    · rw [settle_fill]
      change ((grantPermit m).fill.get i).closures.night = true
      rw [grantPermit_night, R.closures]
    · obtain ⟨t1, -, -⟩ := htold hr
      rw [hun]
      exact t1
    · obtain ⟨-, t2, -⟩ := htold hr
      have ht := t2 (by rw [hws]; exact ha)
      have hcl : clearedTold i w = .powerStage s.power.mode s.sidePower.a.state s.sidePower.b.state none .admitted
          (unflagged i s).sidePower.a.attended (unflagged i s).sidePower.a.cold (unflagged i s).sidePower.b.attended
          (unflagged i s).sidePower.b.cold := by
        rw [hw]
        cases i <;> rfl
      rw [hcl] at ht
      exact ht
    · have hgrant : grantPermit m = takePermit i m :=
        grantPermit_head (rest := []) (by rw [R.holder, hwp]; exact hh) (by rw [R.joins (by rw [hws]; exact hsh), hwp, hwt]; rfl)
      obtain ⟨xs, hxl, hxc⟩ := takePermit_changes R.alike
      have ht := R.told (old := s) (u := answer .ok [] (grantPermit m)) (gs := (unflagged i w).stageTold i .supply .permit :: xs)
        (by rw [hw]; exact hs.changes) (Nat.succ_le_succ hxl) (by rw [hgrant]; exact hxc) (hroom hr)
      rw [hun]
      exact ht.2.2 _ List.mem_cons_self
    · rw [settle_power]
      change (grantPermit m).power.verification = _
      rw [G.verification, R.waits (by rw [hws]; exact hv), hwp]
    · rw [settle_power]
      change (grantPermit m).power.verification = _
      rw [G.verification, R.restarts (by rw [hws]; exact hv)]
    · have hgrant : grantPermit m = m := grantPermit_held (.inl (by rw [R.holder, hwp]; exact hh))
      rw [hgrant]
      refine ⟨⟨?_, fun hn => ?_⟩, ?_, ?_⟩
      · rw [settle_fill]
        exact R.closures.trans (by rw [hwf])
      · rw [settle_sideState]
        exact R.closed (by rw [hwfill]; exact hn)
      · rw [settle_sidePower]
        exact R.power.trans (by rw [hws]; rfl)
      · rw [settle_power]
        exact (R.joins (by rw [hws]; exact hsh)).trans (by rw [hwp])
    · have hms : m.sidePower.get i = (s.sidePower.get i).begun := by rw [R.power, hws]
      have hgrant : grantPermit m = permitTaken i m := by
        rw [grantPermit_head (i := i) (rest := []) (by rw [R.holder, hwp]; exact hh)
          (by rw [R.joins (by rw [hws]; exact hsh), hwp, hwt]; rfl), takePermit_waits]
        rw [hms]
        exact hg
      have hmf : (permitTaken i m).fill.get i = m.fill.get i := permitTaken_only i m (.fill i) (by simp)
      rw [hgrant]
      refine ⟨⟨?_, fun hn => ?_⟩, ?_, ?_⟩
      · rw [settle_fill]
        change ((permitTaken i m).fill.get i).closures = _
        rw [hmf, R.closures, hwf]
      · rw [settle_sideState]
        exact (congrArg Fill.state hmf).trans (R.closed (by rw [hwfill]; exact hn))
      · rw [settle_power]
        rfl
      · rw [settle_sidePower]
        change (permitTaken i m).sidePower.get i = _
        rw [permitTaken_sidePower, hms]
        rfl

end Sys2Proof.Machine

namespace Sys2Proof.Machine

open Sys2Proof

/-! ### WAITING authorizations, and what their absence spares -/

/-- The slot holds no WAITING authorization. -/
def Fill.NoWaiting (f : Fill) : Prop := ∀ a, f.slot = some a → a.phase ≠ .waiting

theorem Fill.withoutWaiting_noWaiting (f : Fill) : f.withoutWaiting.NoWaiting := by
  intro a ha
  unfold Fill.withoutWaiting at ha
  split at ha
  · exact absurd ha (Option.some_ne_none a).symm
  · next h =>
    intro hw
    rw [ha] at h
    exact h (by simp [hw])

theorem Withdraws.noWaiting {f g : Fill} (h : Withdraws f g) (hf : f.NoWaiting) : g.NoWaiting := by
  intro a ha
  rcases h.slot with e | e
  · exact hf a (e ▸ ha)
  · rw [e] at ha
    exact absurd ha (Option.some_ne_none a).symm

/-- There is then nothing to remove (R54). -/
theorem removeWaiting_none {i : Side} {why : RemovalReason} {tell : Bool} {s : State} (h : (s.fill.get i).NoWaiting) :
    removeWaiting i why tell s = s := by
  unfold removeWaiting
  dsimp only
  split
  · next a ha =>
    split
    · rfl
    · next hp => exact absurd hp (h a ha)
  · rfl

theorem withdrawWaiting_none {i : Side} {why : RemovalReason} {tell : Bool} {s : State} (h : (s.fill.get i).NoWaiting) :
    withdrawWaiting i why tell s = s := by
  have hn : ¬((s.fill.get i).slot.any (fun a => a.phase = .waiting) = true ∧ (removeWaiting i why tell s).sideState i = .authorized) := by
    rintro ⟨hw, -⟩
    rcases hs : (s.fill.get i).slot with _ | a
    · rw [hs] at hw
      exact absurd hw (by decide)
    · rw [hs] at hw
      exact h a hs (by simpa using hw)
  exact (if_neg hn).trans (removeWaiting_none h)

/-- A disable then tells its port alone (R121, R129). -/
theorem disablePort_roomOne {n : Nat} {i : Side} {r : PortReason} {s : State} (h : (s.fill.get i).NoWaiting) (hr : Room (n + 1) s) :
    Room n (disablePort i r s) := by
  have hl (change : Port → Port) : Room n (leavePort i r change s) := by
    unfold leavePort
    dsimp only
    split
    · obtain ⟨w, hw⟩ : ∃ w, w = changePort i r (change (s.ports.get i).exited)
          { s with conversations := dropPort i s.conversations } := ⟨_, rfl⟩
      have hroom : Room n w := by
        rw [hw]
        exact notify_room _ (hr.of_link rfl)
      have hwn : (w.fill.get i).NoWaiting := by
        rw [hw]
        exact h
      rw [← hw]
      unfold readerLost
      split
      · rw [withdrawWaiting_none hwn]
        exact hroom
      · exact hroom
    · exact notify_room _ (hr.of_link rfl)
  unfold disablePort
  split
  · exact hr.mono (by omega)
  · exact hr.mono (by omega)
  all_goals exact hl _

theorem withdrawWaiting_service (i : Side) (why : RemovalReason) (tell : Bool) (s : State) :
    (withdrawWaiting i why tell s).link.service = s.link.service := by
  unfold withdrawWaiting
  dsimp only
  split
  · unfold enterImplied
    rw [enterState_link, removeWaiting_service]
  · exact removeWaiting_service i why tell s

theorem disablePort_service (i : Side) (r : PortReason) (s : State) : (disablePort i r s).link.service = s.link.service := by
  have hl (change : Port → Port) : (leavePort i r change s).link.service = s.link.service := by
    unfold leavePort
    dsimp only
    split
    · unfold readerLost
      split
      · rw [withdrawWaiting_service]
        exact notify_service _ _
      · exact notify_service _ _
    · exact notify_service _ _
  unfold disablePort
  split
  · rfl
  · rfl
  all_goals exact hl _

/-! ### Controllers with and without power -/

/-- Both heads have power, or neither (R108). -/
def PoweredAlike (d e : Display) : Prop := e.controller = .unpowered ↔ d.controller = .unpowered

theorem PoweredAlike.refl (d : Display) : PoweredAlike d d := Iff.rfl

theorem PoweredAlike.trans {d e f : Display} (h : PoweredAlike d e) (k : PoweredAlike e f) : PoweredAlike d f := Iff.trans k h

theorem PoweredAlike.of_eq {d e : Display} (h : e.controller = d.controller) : PoweredAlike d e := by
  unfold PoweredAlike
  rw [h]

theorem Display.sideChanged_poweredAlike (d : Display) (old new : SideState) (r : Nat) : PoweredAlike d (d.sideChanged old new r) := by
  unfold Display.sideChanged PoweredAlike
  split
  · split
    · exact Iff.rfl
    · exact Iff.rfl
  · next h =>
    split
    · rw [h]
      exact iff_of_false (fun x => ControllerState.noConfusion x) (fun x => ControllerState.noConfusion x)
    · exact Iff.rfl
  · exact Iff.rfl

theorem enterState_poweredAlike (i : Side) (new : SideState) (s : State) :
    PoweredAlike (s.display.get i) ((enterState i new s).display.get i) := by
  by_cases h : s.sideState i = new
  · rw [enterState_same h]
    exact .refl _
  · rw [enterState_other h]
    refine PoweredAlike.trans ?_ (.of_eq (sendDue_controller i _))
    rw [State.setDisplay_display, PerSide.get_set_same]
    exact Display.sideChanged_poweredAlike _ _ _ _

theorem withdrawWaiting_poweredAlike (i : Side) (why : RemovalReason) (tell : Bool) (s : State) :
    PoweredAlike (s.display.get i) ((withdrawWaiting i why tell s).display.get i) := by
  have hr : (removeWaiting i why tell s).display.get i = s.display.get i := removeWaiting_only i why tell s (.display i) (by simp)
  unfold withdrawWaiting
  dsimp only
  split
  · refine PoweredAlike.trans (.of_eq (congrArg Display.controller hr)) ?_
    exact enterState_poweredAlike i _ _
  · rw [hr]
    exact .refl _

theorem disablePort_poweredAlike (i : Side) (r : PortReason) (s : State) :
    PoweredAlike (s.display.get i) ((disablePort i r s).display.get i) := by
  have hl (change : Port → Port) : PoweredAlike (s.display.get i) ((leavePort i r change s).display.get i) := by
    unfold leavePort
    dsimp only
    split
    · unfold readerLost
      split
      · exact withdrawWaiting_poweredAlike i .linkLost false
          (changePort i r (change (s.ports.get i).exited) { s with conversations := dropPort i s.conversations })
      · exact .refl _
    · exact .refl _
  unfold disablePort
  split
  · exact .refl _
  · exact .refl _
  all_goals exact hl _

/-! ### Steps 1 and 2 of night entry -/

/-- What closing a side for the night leaves (R162). -/
structure ClosesForNight (i : Side) (s t : State) : Prop where
  closures : (t.fill.get i).closures = { (s.fill.get i).closures with night := true }
  closed : t.sideState i = .closed
  noWaiting : (t.fill.get i).NoWaiting
  slot : (t.fill.get i).slot = (s.fill.get i).slot ∨ (t.fill.get i).slot = none
  powered : PoweredAlike (s.display.get i) (t.display.get i)
  port : (t.ports.get i).state = (s.ports.get i).state
  changes : t.changes = s.changes
  service : t.link.service = s.link.service
  keeps : s.link.Keeps t.link
  room : ∀ n, Room (n + 1) s → Room n t
  only : OnlyChanges (closureBlocks i) s t

theorem nightClose_closes {i : Side} {s : State} (h : s.filling i = false) : ClosesForNight i s (nightClose i s) := by
  obtain ⟨r, hr⟩ : ∃ r, r = removeWaiting i .night true s := ⟨_, rfl⟩
  obtain ⟨v, hv⟩ : ∃ v, v = r.setFill i { r.fill.get i with closures := (r.fill.get i).closures.add .night } := ⟨_, rfl⟩
  have W : Withdraws (s.fill.get i) (r.fill.get i) := by rw [hr]; exact removeWaiting_withdraws i .night true s
  have hrn : (r.fill.get i).NoWaiting := by
    rw [hr, removeWaiting_fill]
    exact Fill.withoutWaiting_noWaiting _
  have hri : r.filling i = false := by
    rw [hr]
    exact (removeWaiting_carries i _ _ s).filling h
  have hvf : v.fill.get i = { r.fill.get i with closures := (r.fill.get i).closures.add .night } := by
    rw [hv]
    exact PerSide.get_set_same _ _ _
  have hvn : (v.fill.get i).NoWaiting := by
    rw [hvf]
    exact hrn
  have he : nightClose i s = enterState i .closed v := by
    have e1 : nightClose i s = addClosure i .night r := by rw [hr]; rfl
    rw [e1, addClosure_waiting .night hri, ← hv, removeWaiting_none hvn]
  have hfill : ∃ x y z, (enterState i .closed v).fill.get i =
      { v.fill.get i with state := .closed, noFlowTimer := x, quietTimer := y, afterFlowTimer := z } := by
    by_cases hs : v.sideState i = .closed
    · rw [enterState_same hs]
      refine ⟨(v.fill.get i).noFlowTimer, (v.fill.get i).quietTimer, (v.fill.get i).afterFlowTimer, ?_⟩
      have hst : (v.fill.get i).state = .closed := hs
      rw [← hst]
    · rw [enterState_fill hs]
      exact ⟨_, _, _, rfl⟩
  obtain ⟨x, y, z, hf⟩ := hfill
  have hvl : v.link = r.link := by rw [hv]; rfl
  have hlink : (enterState i .closed v).link = r.link := by rw [enterState_link, hvl]
  have C := removeWaiting_carries i .night true s
  rw [← hr] at C
  rw [he]
  refine ⟨?_, enterState_sideState _ _ _, ?_, ?_, ?_, ?_, ?_, ?_, ?_, fun n hn => (C.room n hn).of_link hlink, ?_⟩
  · rw [hf, hvf]
    change (r.fill.get i).closures.add .night = _
    rw [W.closures]
    rfl
  · rw [hf, hvf]
    exact hrn
  · rw [hf, hvf]
    exact W.slot
  · have hd : v.display.get i = s.display.get i := by
      rw [hv, hr]
      exact removeWaiting_only i .night true s (.display i) (by simp)
    rw [← hd]
    exact enterState_poweredAlike i _ v
  · rw [enterState_only i .closed v (.port i) (by simp), hv]
    change (r.ports.get i).state = _
    rw [hr, removeWaiting_portState]
  · rw [enterState_changes, hv]
    change r.changes = _
    rw [hr, removeWaiting_changes]
  · rw [hlink, hr, removeWaiting_service]
  · rw [hlink]
    exact C.keeps
  · rw [← he]
    exact nightClose_only i s

/-! ### Steps 3 to 5 -/

/-- The supply and the head of a side whose shut begins, by what they were (R108, R162). -/
structure Shuts (i : Side) (s t : State) : Prop where
  state : (t.sidePower.get i).state = (s.sidePower.get i).state
  bringUp : (t.sidePower.get i).bringUp = (s.sidePower.get i).bringUp
  attended : (t.sidePower.get i).attended = (s.sidePower.get i).attended
  cold : (t.sidePower.get i).cold = (s.sidePower.get i).cold
  dark : (s.sidePower.get i).supplyOn = true → (s.display.get i).controller ≠ .unpowered →
    (t.sidePower.get i).supplyOn = true ∧ (t.sidePower.get i).shutting = true ∧ (t.display.get i).controller = .shutting
  off : (s.sidePower.get i).supplyOn = true → (s.display.get i).controller = .unpowered →
    (t.sidePower.get i).supplyOn = false ∧ (t.sidePower.get i).shutting = false
  changes : t.changes = s.changes
  only : OnlyChanges [.sidePower i, .display i, .arbiter] s t

theorem beginShut_shuts {i : Side} {s : State} (hp : (s.ports.get i).state = .disabled ∨ (s.ports.get i).state = .tampered)
    (hb : (s.sidePower.get i).bringUp = false) : Shuts i s (beginShut i s) := by
  obtain ⟨v, hv⟩ : ∃ v, v = editSide i (fun p => { p with shutting := true }) s := ⟨_, rfl⟩
  have hvp : v.sidePower.get i = { s.sidePower.get i with shutting := true } := by rw [hv]; exact PerSide.get_set_same _ _ _
  have hvd : v.display = s.display := by rw [hv]; rfl
  have he : beginShut i s = if (s.sidePower.get i).supplyOn then
      (if (v.display.get i).controller = .unpowered then darkReport i v else sendDue i (v.setDisplay i (v.display.get i).toShutting))
    else s := by rw [hv]; rfl
  have ov : OnlyChanges [.sidePower i] s v := by rw [hv]; exact editSide_only i _ s
  rw [he]
  split
  · next hon =>
    split
    · next hu =>
      have hup : (s.display.get i).controller = .unpowered := by rw [← hvd]; exact hu
      have hoff : darkReport i v = unpowerDisplay i (editSide i (fun p => { p with supplyOn := false, shutting := false }) v) := by
        rw [darkReport_ends (by rw [hvp]) (by rw [hvp]; exact hb)]
        exact supplyOff_stopped (by rw [hv]; exact hp)
      obtain ⟨x, hx⟩ : ∃ x, x = editSide i (fun p => { p with supplyOn := false, shutting := false }) v := ⟨_, rfl⟩
      have hxp : (unpowerDisplay i x).sidePower.get i = { s.sidePower.get i with supplyOn := false, shutting := false } := by
        rw [unpowerDisplay_only i x (.sidePower i) (by simp), hx]
        refine (PerSide.get_set_same _ _ _).trans ?_
        rw [hvp]
      rw [hoff, ← hx]
      refine ⟨by rw [hxp], by rw [hxp], by rw [hxp], by rw [hxp], fun _ hn => absurd hup hn, fun _ _ => by rw [hxp]; exact ⟨rfl, rfl⟩,
        ?_, ?_⟩
      · rw [hx]
        exact (updateHeat_changes i _).trans (by rw [hv]; rfl)
      · rw [hx]
        exact ((ov.mono (by simp)).step (editSide_only i _ v) (by simp)).step (unpowerDisplay_only i _) (by simp)
    · next hu =>
      have hd : ((sendDue i (v.setDisplay i (v.display.get i).toShutting)).display.get i).controller = .shutting := by
        rw [sendDue_controller, State.setDisplay_display, PerSide.get_set_same]
        rfl
      have hsp : (sendDue i (v.setDisplay i (v.display.get i).toShutting)).sidePower.get i =
          { s.sidePower.get i with shutting := true } := hvp
      refine ⟨by rw [hsp], by rw [hsp], by rw [hsp], by rw [hsp], fun _ _ => ?_, fun _ hn => absurd (hvd ▸ hn) hu, by rw [hv]; rfl, ?_⟩
      · rw [hsp]
        exact ⟨hon, rfl, hd⟩
      · exact ((ov.mono (by simp)).step (setDisplay_only v i _) (by simp)).step (sendDue_only i _) (by simp)
  · next hoff =>
    exact ⟨rfl, rfl, rfl, rfl, fun h _ => absurd h hoff, fun h _ => absurd h hoff, rfl, .refl _ _⟩

/-- What stopping a side leaves (R162, R163). -/
structure StopsSide (i : Side) (s t : State) : Prop where
  off : (t.sidePower.get i).state = .off
  bringUp : (t.sidePower.get i).bringUp = false
  attended : (t.sidePower.get i).attended = (s.sidePower.get i).attended
  cold : (t.sidePower.get i).cold = (s.sidePower.get i).cold
  dark : (s.sidePower.get i).supplyOn = true → (s.display.get i).controller ≠ .unpowered →
    (t.sidePower.get i).supplyOn = true ∧ (t.sidePower.get i).shutting = true ∧ (t.display.get i).controller = .shutting
  supplyOff : (s.sidePower.get i).supplyOn = true → (s.display.get i).controller = .unpowered →
    (t.sidePower.get i).supplyOn = false ∧ (t.sidePower.get i).shutting = false
  fill : Withdraws (s.fill.get i) (t.fill.get i)
  port : (s.ports.get i).state ≠ .tampered → (t.ports.get i).state = .disabled
  power : t.power = (leavePermit i s).power
  changes : t.changes = s.changes
  service : t.link.service = s.link.service
  keeps : s.link.Keeps t.link
  room : (s.fill.get i).NoWaiting → ∀ n, Room (n + 1) s → Room n t
  roomTwo : ∀ n, Room (n + 2) s → Room n t
  only : OnlyChanges ([.sidePower i, .arbiter, .power] ++ portBlocks i) s t

theorem stopSide_stops (i : Side) (r : PortReason) (s : State) : StopsSide i s (stopSide i r s) := by
  obtain ⟨d, hd⟩ : ∃ d, d = disablePort i r s := ⟨_, rfl⟩
  obtain ⟨h, hh⟩ : ∃ h, h = setStageHeat i false d := ⟨_, rfl⟩
  obtain ⟨e, he⟩ : ∃ e, e = editSide i (fun p => { p.stopTimers with state := .off, bringUp := false }) h := ⟨_, rfl⟩
  obtain ⟨l, hl⟩ : ∃ l, l = leavePermit i e := ⟨_, rfl⟩
  have ht : stopSide i r s = beginShut i l := by rw [hl, he, hh, hd]; rfl
  have od : OnlyChanges (portBlocks i) s d := by rw [hd]; exact disablePort_only i r s
  have oh : OnlyChanges [.display i, .arbiter] d h := by rw [hh]; exact setStageHeat_only i false d
  have oe : OnlyChanges [.sidePower i] h e := by rw [he]; exact editSide_only i _ h
  have ol : OnlyChanges [.power] e l := by rw [hl]; exact leavePermit_only i e
  have hport : l.ports.get i = d.ports.get i := by rw [ol (.port i) (by simp), oe (.port i) (by simp), oh (.port i) (by simp)]
  have hstop : (l.ports.get i).state = .disabled ∨ (l.ports.get i).state = .tampered := by
    rw [hport, hd]
    exact disablePort_stops i r s
  have hsp : l.sidePower.get i = { (s.sidePower.get i).stopTimers with state := .off, bringUp := false } := by
    rw [ol (.sidePower i) (by simp), he]
    refine (PerSide.get_set_same _ _ _).trans ?_
    rw [oh (.sidePower i) (by simp), od (.sidePower i) (by simp)]
  have S : Shuts i l (beginShut i l) := beginShut_shuts hstop (by rw [hsp])
  have hpow : e.power = s.power := by rw [oe .power (by simp), oh .power (by simp), od .power (by simp)]
  have hlp : l.power = (leavePermit i s).power := by rw [hl, leavePermit_power, leavePermit_power, hpow]
  have hlf : l.fill.get i = d.fill.get i := by rw [ol (.fill i) (by simp), oe (.fill i) (by simp), oh (.fill i) (by simp)]
  have hlc : (l.display.get i).controller = (d.display.get i).controller := by
    rw [ol (.display i) (by simp), oe (.display i) (by simp), hh, setStageHeat_display]
  have hpa : PoweredAlike (s.display.get i) (l.display.get i) := by
    refine PoweredAlike.trans ?_ (.of_eq hlc)
    rw [hd]
    exact disablePort_poweredAlike i r s
  have hlink : (beginShut i l).link = d.link := by rw [S.only.link_eq, ol.link_eq, oe.link_eq, oh.link_eq]
  have C := disablePort_carries i r s
  rw [← hd] at C
  rw [ht]
  refine ⟨by rw [S.state, hsp], by rw [S.bringUp, hsp], by rw [S.attended, hsp]; rfl, by rw [S.cold, hsp]; rfl, fun hon hc => ?_,
    fun hon hc => ?_, ?_, fun hp => ?_, ?_, ?_, ?_, ?_, fun hn n hr => ?_, fun n hr => (C.room n hr).of_link hlink, ?_⟩
  · exact S.dark (by rw [hsp]; exact hon) (fun x => hc (hpa.mp x))
  · exact S.off (by rw [hsp]; exact hon) (hpa.mpr hc)
  · rw [S.only (.fill i) (by simp), hlf, hd]
    exact disablePort_withdraws i r s
  · rw [S.only (.port i) (by simp), hport, hd]
    exact disablePort_disables r hp
  · rw [S.only .power (by simp), hlp]
  · rw [S.changes, hl, leavePermit_changes, he]
    change h.changes = _
    rw [hh, setStageHeat_changes, hd, disablePort_changes]
  · rw [hlink, hd, disablePort_service]
  · rw [hlink]
    exact C.keeps
  · refine Room.of_link ?_ hlink
    rw [hd]
    exact disablePort_roomOne hn hr
  · exact (((((od.mono (by simp)).step oh (by simp)).step oe (by simp)).step ol (by simp)).step S.only (by simp))

end Sys2Proof.Machine

namespace Sys2Proof.Machine

open Sys2Proof

/-! ### Night entry for a side -/

/-- What night entry leaves of a side that was in no fill state (R162). -/
structure NightSide (i : Side) (s t : State) : Prop where
  closed : t.sideState i = .closed
  closures : (t.fill.get i).closures = { (s.fill.get i).closures with night := true }
  noWaiting : (t.fill.get i).NoWaiting
  slot : (t.fill.get i).slot = (s.fill.get i).slot ∨ (t.fill.get i).slot = none
  off : (t.sidePower.get i).state = .off
  bringUp : (t.sidePower.get i).bringUp = false
  attended : (t.sidePower.get i).attended = (s.sidePower.get i).attended
  cold : (t.sidePower.get i).cold = (s.sidePower.get i).cold
  dark : (s.sidePower.get i).supplyOn = true → (s.display.get i).controller ≠ .unpowered →
    (t.sidePower.get i).supplyOn = true ∧ (t.sidePower.get i).shutting = true ∧ (t.display.get i).controller = .shutting
  supplyOff : (s.sidePower.get i).supplyOn = true → (s.display.get i).controller = .unpowered →
    (t.sidePower.get i).supplyOn = false ∧ (t.sidePower.get i).shutting = false
  port : (s.ports.get i).state ≠ .tampered → (t.ports.get i).state = .disabled

/-- What it goes by and what it leaves is of the side's own blocks. -/
theorem NightSide.of_only {i : Side} {bs cs : List Block} {s s' t t' : State} (h : NightSide i s' t) (hs : OnlyChanges bs s s')
    (ht : OnlyChanges cs t t') (h1 : Block.fill i ∉ bs ∧ Block.sidePower i ∉ bs ∧ Block.display i ∉ bs ∧ Block.port i ∉ bs)
    (h2 : Block.fill i ∉ cs ∧ Block.sidePower i ∉ cs ∧ Block.display i ∉ cs ∧ Block.port i ∉ cs) : NightSide i s t' := by
  obtain ⟨f1, p1, d1, x1⟩ := h1
  obtain ⟨f2, p2, d2, x2⟩ := h2
  have ef : s'.fill.get i = s.fill.get i := hs (.fill i) f1
  have ep : s'.sidePower.get i = s.sidePower.get i := hs (.sidePower i) p1
  have ed : s'.display.get i = s.display.get i := hs (.display i) d1
  have ex : s'.ports.get i = s.ports.get i := hs (.port i) x1
  have gf : t'.fill.get i = t.fill.get i := ht (.fill i) f2
  have gp : t'.sidePower.get i = t.sidePower.get i := ht (.sidePower i) p2
  have gd : t'.display.get i = t.display.get i := ht (.display i) d2
  have gx : t'.ports.get i = t.ports.get i := ht (.port i) x2
  obtain ⟨n1, n2, n3, n4, n5, n6, n7, n8, n9, n10, n11⟩ := h
  rw [ef] at n2 n4
  rw [ep] at n7 n8 n9 n10
  rw [ed] at n9 n10
  rw [ex] at n11
  exact ⟨(congrArg Fill.state gf).trans n1, by rw [gf, n2], by rw [gf]; exact n3, by rw [gf]; exact n4, by rw [gp, n5], by rw [gp, n6],
    by rw [gp, n7], by rw [gp, n8], by rw [gp, gd]; exact n9, by rw [gp]; exact n10, by rw [gx]; exact n11⟩

/-- Night entry of one side, and what it tells (R162). -/
structure EntersNight (i : Side) (s t : State) : Prop where
  side : NightSide i s t
  power : t.power = (leavePermit i s).power
  changes : t.changes = s.changes
  service : t.link.service = s.link.service
  keeps : s.link.Keeps t.link
  room : ∀ n, Room (n + 2) s → Room n t
  only : OnlyChanges ([.sidePower i, .arbiter, .power] ++ portBlocks i) s t

theorem enterNight_side {i : Side} {s : State} (h : s.filling i = false) : EntersNight i s (stopSide i .night (nightClose i s)) := by
  have C := nightClose_closes h
  have S := stopSide_stops i .night (nightClose i s)
  have hsp : (nightClose i s).sidePower.get i = s.sidePower.get i := C.only (.sidePower i) (by simp)
  have hpow : (nightClose i s).power = s.power := C.only .power (by simp)
  obtain ⟨c1, c2, c3, c4, c5, c6, c7, c8, c9, c10, c11⟩ := C
  obtain ⟨s1, s2, s3, s4, s5, s6, s7, s8, s9, s10, s11, s12, s13, -, s14⟩ := S
  have hst := s7.state (by change (nightClose i s).sideState i ≠ _; rw [c2]; decide)
  rw [hsp] at s3 s4 s5 s6
  refine ⟨⟨?_, by rw [s7.closures, c1], s7.noWaiting c3, ?_, s1, s2, s3, s4, fun a b => s5 a (fun x => b (c5.mp x)),
    fun a b => s6 a (c5.mpr b), fun a => s8 (by rw [c6]; exact a)⟩, ?_, s10.trans c7, s11.trans c8, c9.trans s12,
    fun n hr => s13 c3 n (c10 (n + 1) hr), (c11.mono (by simp)).step s14 (by simp)⟩
  · exact hst.trans c2
  · rcases s7.slot with e | e
    · rw [e]
      exact c4
    · exact .inr e
  · rw [s9, leavePermit_power, leavePermit_power, hpow]

/-- NIGHT entry with no side filling (R162, R163). -/
structure NightEntered (c : PowerCause) (s t : State) : Prop where
  mode : t.power.mode = .night
  holder : t.power.holder = none
  waiting : t.power.waiting = []
  side : ∀ i, NightSide i s t
  changes : ∃ xs, t.changes = s.changes ++ [.mode c] ++ xs
  service : t.link.service = s.link.service
  keeps : s.link.Keeps t.link
  room : ∀ n, Room (n + 4) s → Room n t

theorem nightEntry_entered (c : PowerCause) {s : State} (h : ∀ i, s.filling i = false) : NightEntered c s (nightEntry c s) := by
  obtain ⟨a, ha⟩ : ∃ a, a = stopSide .a .night (nightClose .a s) := ⟨_, rfl⟩
  have A : EntersNight .a s a := by rw [ha]; exact enterNight_side (h .a)
  have hab : a.filling .b = false := by
    have e : a.fill.get .b = s.fill.get .b := A.only (.fill .b) (by simp)
    rw [← h .b]
    unfold State.filling State.sideState
    rw [e]
  obtain ⟨b, hb⟩ : ∃ b, b = stopSide .b .night (nightClose .b a) := ⟨_, rfl⟩
  have B : EntersNight .b a b := by rw [hb]; exact enterNight_side hab
  have hpower : b.power = { s.power with waiting := [], holder := none, holdTimer := b.power.holdTimer } := by
    rw [B.power, leavePermit_power, A.power, leavePermit_power]
    have hw : (s.power.waiting.filter (· ≠ .a)).filter (· ≠ .b) = [] := by
      rw [List.filter_filter, List.filter_eq_nil_iff]
      intro j _
      cases j <;> decide
    have hho : (if (if s.power.holder = some .a then none else s.power.holder) = some .b then none
        else if s.power.holder = some .a then none else s.power.holder) = (none : Option Side) := by
      rcases s.power.holder with _ | j
      · rfl
      · cases j <;> rfl
    dsimp only
    rw [hw, hho]
  have he : nightEntry c s = setMode .night c b := by
    have e1 : nightEntry c s = grantPermit (setMode .night c b) := by rw [hb, ha]; rfl
    rw [e1]
    refine grantPermit_held (.inr ?_)
    change b.power.waiting = []
    rw [hpower]
  have om : OnlyChanges [.power] b (setMode .night c b) := setMode_only .night c b
  rw [he]
  refine ⟨rfl, ?_, ?_, fun i => ?_, ⟨[], ?_⟩, ?_, ?_, fun n hr => ?_⟩
  · change b.power.holder = none
    rw [hpower]
  · change b.power.waiting = []
    rw [hpower]
  · cases i with
    | a => exact A.side.of_only (.refl [] s) (B.only.trans (om.mono (by simp))) (by simp) (by simp)
    | b => exact B.side.of_only A.only om (by simp) (by simp)
  · change b.changes ++ [.mode c] = _
    rw [B.changes, A.changes, List.append_nil]
  · exact B.service.trans A.service
  · exact A.keeps.trans B.keeps
  · exact (B.room n (A.room (n + 2) hr)).of_link rfl

end Sys2Proof.Machine

namespace Sys2Proof.Machine

open Sys2Proof

/-! ### The state that night entry starts from -/

/-- What an event that began in `s` leaves of a side before night entry: no fill, and no authorization that was not there (R64, R163). -/
structure ReadyForNight (i : Side) (s v : State) : Prop where
  idle : v.filling i = false
  slot : (v.fill.get i).slot = (s.fill.get i).slot ∨ (v.fill.get i).slot = none
  ended : s.filling i = true → (v.fill.get i).slot = none
  port : (s.ports.get i).state ≠ .tampered → (v.ports.get i).state ≠ .tampered

/-- Where its supply stands too (R163). -/
structure SuppliedForNight (i : Side) (s v : State) : Prop where
  ready : ReadyForNight i s v
  closures : (v.fill.get i).closures = (s.fill.get i).closures
  power : v.sidePower.get i = s.sidePower.get i
  powered : PoweredAlike (s.display.get i) (v.display.get i)

/-- What may follow night entry in its event. -/
abbrev afterNightBlocks : List Block := [.prices, .link, .store, .register]

theorem NightSide.slot_none {i : Side} {s v t : State} (N : NightSide i v t) (R : ReadyForNight i s v)
    (h : s.filling i = true ∨ ∀ a, (s.fill.get i).slot = some a → a.phase = .waiting) : (t.fill.get i).slot = none := by
  rcases N.slot with e | e
  · rcases h with h | h
    · rw [e, R.ended h]
    · rcases R.slot with e' | e'
      · by_contra hn
        obtain ⟨a, ha⟩ := Option.ne_none_iff_exists'.mp hn
        exact N.noWaiting a ha (h a (by rw [← e', ← e, ha]))
      · rw [e, e']
  · exact e

/-- A side in the night at the end of its event (R162, R163). -/
theorem NightSide.settled {i : Side} {s v t u : State} (old : State) (N : NightSide i v t) (L : SuppliedForNight i s v)
    (hu : OnlyChanges afterNightBlocks t u) :
    (settle old u).sideState i = .closed ∧
      ((settle old u).fill.get i).closures = { (s.fill.get i).closures with night := true } ∧
      (∀ a, (s.fill.get i).slot = some a → a.phase = .waiting → ((settle old u).fill.get i).slot = none) ∧
      ((settle old u).sidePower.get i).state = .off ∧ ((settle old u).sidePower.get i).bringUp = false ∧
      ((s.ports.get i).state ≠ .tampered → ((settle old u).ports.get i).state = .disabled) ∧
      ((s.sidePower.get i).supplyOn = true → (s.display.get i).controller ≠ .unpowered →
        ((settle old u).sidePower.get i).supplyOn = true ∧ ((settle old u).sidePower.get i).shutting = true ∧
          ((settle old u).display.get i).controller = .shutting) ∧
      ((s.sidePower.get i).supplyOn = true → (s.display.get i).controller = .unpowered →
        ((settle old u).sidePower.get i).supplyOn = false ∧ ((settle old u).sidePower.get i).shutting = false) := by
  have uf : u.fill.get i = t.fill.get i := hu (.fill i) (by simp)
  have us : u.sidePower.get i = t.sidePower.get i := hu (.sidePower i) (by simp)
  have ud : u.display.get i = t.display.get i := hu (.display i) (by simp)
  have up : u.ports.get i = t.ports.get i := hu (.port i) (by simp)
  have hc : ((settle old u).display.get i).controller = (t.display.get i).controller := by
    rw [settle_display, startDisplay_controller, ud]
  rw [settle_fill, settle_sidePower, settle_port_state, hc, settle_sideState, uf, us, up]
  refine ⟨(congrArg Fill.state uf).trans N.closed, by rw [N.closures, L.closures], fun a ha hw => ?_, N.off, N.bringUp,
    fun h => N.port (L.ready.port h), fun h1 h2 => ?_, fun h1 h2 => ?_⟩
  · exact N.slot_none L.ready (.inr (fun x hx => by rw [ha] at hx; rw [← Option.some.inj hx]; exact hw))
  · exact N.dark (by rw [L.power]; exact h1) (fun x => h2 (L.powered.mp x))
  · exact N.supplyOff (by rw [L.power]; exact h1) (L.powered.mpr h2)

/-- The mode and the permit at the end of the event of a night entry. -/
theorem NightEntered.settled {c : PowerCause} {v t u : State} (old : State) (N : NightEntered c v t) (hu : OnlyChanges afterNightBlocks t u) :
    (settle old u).power.mode = .night ∧ (settle old u).power.holder = none ∧ (settle old u).power.waiting = [] := by
  have e : u.power = t.power := hu .power (by simp)
  rw [settle_power, e]
  exact ⟨N.mode, N.holder, N.waiting⟩

/-- The one notice of a night entry (R157). -/
theorem NightEntered.told {c : PowerCause} {v t u : State} (old : State) (N : NightEntered c v t) (hu : OnlyChanges afterNightBlocks t u)
    (hc : u.changes = t.changes) (hv : v.changes.findSome? PowerChange.modeCause = none) (hr : Room 3 u) :
    ∃ j, (settle old u).link.tells (.powerStage .night .off .off j c (v.sidePower.get .a).attended (v.sidePower.get .a).cold
      (v.sidePower.get .b).attended (v.sidePower.get .b).cold) := by
  obtain ⟨xs, hx⟩ := N.changes
  have hcause : u.changes.findSome? PowerChange.modeCause = some c := by
    rw [hc, hx, List.findSome?_append, List.findSome?_append, hv]
    rfl
  have ht := settle_tellsModeNotice (old := old) hcause hr
  have us (i : Side) : u.sidePower.get i = t.sidePower.get i := hu (.sidePower i) (by simp)
  have hm : u.power.mode = .night := by rw [hu .power (by simp), N.mode]
  have hst (i : Side) : (u.sidePower.get i).state = .off := by rw [us, (N.side i).off]
  have hat (i : Side) : (u.sidePower.get i).attended = (v.sidePower.get i).attended := by rw [us, (N.side i).attended]
  have hco (i : Side) : (u.sidePower.get i).cold = (v.sidePower.get i).cold := by rw [us, (N.side i).cold]
  refine ⟨changedSide old.sidePower u.sidePower, ?_⟩
  have e : powerNotice (changedSide old.sidePower u.sidePower) c u = .powerStage .night .off .off
      (changedSide old.sidePower u.sidePower) c (v.sidePower.get .a).attended (v.sidePower.get .a).cold (v.sidePower.get .b).attended
      (v.sidePower.get .b).cold := by
    have s1 := hst .a
    have s2 := hst .b
    have a1 := hat .a
    have a2 := hat .b
    have c1 := hco .a
    have c2 := hco .b
    unfold powerNotice
    exact congr (congr (congr (congr (congrFun (congrFun (congr (congr (congrArg Notice.powerStage hm) s1) s2) _) _) a1) c1) a2) c2
  rw [e] at ht
  exact ht

/-! ### GO_NIGHT -/

theorem withdrawWaiting_noWaiting (i : Side) (why : RemovalReason) (tell : Bool) (s : State) :
    ((withdrawWaiting i why tell s).fill.get i).NoWaiting := by
  have hr : ((removeWaiting i why tell s).fill.get i).NoWaiting := by
    rw [removeWaiting_fill]
    exact Fill.withoutWaiting_noWaiting _
  unfold withdrawWaiting
  dsimp only
  split
  · unfold enterImplied
    by_cases h : (removeWaiting i why tell s).sideState i = ((removeWaiting i why tell s).fill.get i).impliedState
    · rw [enterState_same h]
      exact hr
    · rw [enterState_fill h]
      exact hr
  · exact hr

theorem Withdraws.isFill {f g : Fill} (h : Withdraws f g) (hi : f.state.isFill = false → g.state.isFill = false) :
    g.state.isFill = f.state.isFill := by
  rcases hf : f.state.isFill with _ | _
  · exact hi hf
  · rw [h.state (SideState.ne_authorized_of_isFill hf)]
    exact hf

/-- Both WAITING authorizations withdrawn as the night begins (R163). -/
def withdrawBoth (s : State) : State := withdrawWaiting .b .night true (withdrawWaiting .a .night true s)

/-- What that leaves (R54, R163). -/
structure BothWithdrawn (s v : State) : Prop where
  fill : ∀ i, Withdraws (s.fill.get i) (v.fill.get i)
  noWaiting : ∀ i, (v.fill.get i).NoWaiting
  filling : ∀ i, v.filling i = s.filling i
  powered : ∀ i, PoweredAlike (s.display.get i) (v.display.get i)
  port : ∀ i, (v.ports.get i).state = (s.ports.get i).state
  changes : v.changes = s.changes
  service : v.link.service = s.link.service
  room : ∀ n, Room (n + 2) s → Room n v
  only : OnlyChanges (closureBlocks .a ++ closureBlocks .b) s v

theorem withdrawBoth_withdrawn (s : State) : BothWithdrawn s (withdrawBoth s) := by
  obtain ⟨a, ha⟩ : ∃ a, a = withdrawWaiting .a .night true s := ⟨_, rfl⟩
  obtain ⟨b, hb⟩ : ∃ b, b = withdrawWaiting .b .night true a := ⟨_, rfl⟩
  have he : withdrawBoth s = b := by rw [hb, ha]; rfl
  have oa : OnlyChanges (closureBlocks .a) s a := by rw [ha]; exact withdrawWaiting_only .a _ _ s
  have ob : OnlyChanges (closureBlocks .b) a b := by rw [hb]; exact withdrawWaiting_only .b _ _ a
  have fa : a.fill.get .b = s.fill.get .b := oa (.fill .b) (by simp)
  have fb : b.fill.get .a = a.fill.get .a := ob (.fill .a) (by simp)
  have da : a.display.get .b = s.display.get .b := oa (.display .b) (by simp)
  have db : b.display.get .a = a.display.get .a := ob (.display .a) (by simp)
  have pa : a.ports.get .b = s.ports.get .b := oa (.port .b) (by simp)
  have pb : b.ports.get .a = a.ports.get .a := ob (.port .a) (by simp)
  have ca := withdrawWaiting_carries .a .night true s
  have cb := withdrawWaiting_carries .b .night true a
  have hfill (i : Side) : Withdraws (s.fill.get i) (b.fill.get i) := by
    cases i with
    | a => rw [fb, ha]; exact withdrawWaiting_withdraws .a .night true s
    | b => rw [← fa, hb]; exact withdrawWaiting_withdraws .b .night true a
  rw [he]
  refine ⟨hfill, fun i => ?_, fun i => ?_, fun i => ?_, fun i => ?_, ?_, ?_, fun n hr => ?_, (oa.mono (by simp)).step ob (by simp)⟩
  · cases i with
    | a => rw [fb, ha]; exact withdrawWaiting_noWaiting .a _ _ s
    | b => rw [hb]; exact withdrawWaiting_noWaiting .b _ _ a
  · refine (hfill i).isFill (fun h => ?_)
    rw [← ha] at ca
    rw [← hb] at cb
    exact cb.filling (i := i) (ca.filling (i := i) h)
  · cases i with
    | a => rw [db, ha]; exact withdrawWaiting_poweredAlike .a _ _ s
    | b => rw [← da, hb]; exact withdrawWaiting_poweredAlike .b _ _ a
  · cases i with
    | a => rw [pb, ha, withdrawWaiting_portState]
    | b => rw [hb, withdrawWaiting_portState, pa]
  · rw [hb, withdrawWaiting_changes, ha, withdrawWaiting_changes]
  · rw [hb, withdrawWaiting_service, ha, withdrawWaiting_service]
  · rw [hb]
    refine cb.room n ?_
    rw [ha]
    exact ca.room (n + 1) hr

theorem BothWithdrawn.sidePower {s v : State} (h : BothWithdrawn s v) (i : Side) : v.sidePower.get i = s.sidePower.get i :=
  h.only (.sidePower i) (by simp)

theorem BothWithdrawn.power {s v : State} (h : BothWithdrawn s v) : v.power = s.power := h.only .power (by simp)

theorem BothWithdrawn.supplied {s v : State} (h : BothWithdrawn s v) {i : Side} (hf : s.filling i = false) : SuppliedForNight i s v :=
  ⟨⟨(h.filling i).trans hf, (h.fill i).slot, fun x => absurd (hf.symm.trans x) (by decide), fun hp => by rw [h.port i]; exact hp⟩,
    (h.fill i).closures, h.sidePower i, h.powered i⟩

theorem anyFilling_false {s : State} (h : s.anyFilling = false) (i : Side) : s.filling i = false := by
  obtain ⟨ha, hb⟩ := Bool.or_eq_false_iff.mp h
  cases i with
  | a => exact ha
  | b => exact hb

theorem anyFilling_congr {s v : State} (h : ∀ i, v.filling i = s.filling i) : v.anyFilling = s.anyFilling := by
  unfold State.anyFilling
  rw [h, h]

theorem goNight_idle {c : PowerCause} {s : State} (h : s.anyFilling = false) : goNight c s = nightEntry c (withdrawBoth s) := by
  have hv : (withdrawBoth s).anyFilling = false := by rw [anyFilling_congr (withdrawBoth_withdrawn s).filling, h]
  exact if_neg (ne_true_of_eq_false hv)

/-- GO_NIGHT's bring-ups stopped, with a side filling (R163). -/
def pendingFrom (s : State) : State := stopBringUp .b (stopBringUp .a (withdrawBoth s))

theorem goNight_filling {c : PowerCause} {s : State} (h : s.anyFilling = true) :
    goNight c s = grantPermit (setMode .nightPending c (pendingFrom s)) := by
  have hv : (withdrawBoth s).anyFilling = true := by rw [anyFilling_congr (withdrawBoth_withdrawn s).filling, h]
  exact if_pos hv

/-- What stopping a running bring-up leaves (R163). -/
structure HaltsBringUp (i : Side) (s t : State) : Prop where
  off : (s.sidePower.get i).bringUp = true → (s.sidePower.get i).state ≠ .up →
    (t.sidePower.get i).state = .off ∧ (t.sidePower.get i).bringUp = false ∧ i ∉ t.power.waiting
  flags : (t.sidePower.get i).attended = (s.sidePower.get i).attended ∧ (t.sidePower.get i).cold = (s.sidePower.get i).cold
  fill : Withdraws (s.fill.get i) (t.fill.get i)
  waiting : ∀ j ∈ t.power.waiting, j ∈ s.power.waiting
  changes : t.changes = s.changes
  service : t.link.service = s.link.service
  room : ∀ n, Room (n + 2) s → Room n t
  only : OnlyChanges ([.sidePower i, .arbiter, .power] ++ portBlocks i) s t

theorem stopBringUp_halts (i : Side) (s : State) : HaltsBringUp i s (stopBringUp i s) := by
  by_cases hb : (s.sidePower.get i).bringUp = true ∧ (s.sidePower.get i).state ≠ .up
  · have e : stopBringUp i s = stopSide i .disabled s := if_pos hb
    have S := stopSide_stops i .disabled s
    rw [e]
    have hw : i ∉ (stopSide i .disabled s).power.waiting := by
      rw [S.power]
      exact leavePermit_waiting i s
    refine ⟨fun _ _ => ⟨S.off, S.bringUp, hw⟩, ⟨S.attended, S.cold⟩, S.fill, fun j hj => ?_, S.changes, S.service, S.roomTwo, S.only⟩
    rw [S.power, leavePermit_power] at hj
    exact List.mem_of_mem_filter hj
  · have e : stopBringUp i s = s := if_neg hb
    rw [e]
    exact ⟨fun h1 h2 => absurd ⟨h1, h2⟩ hb, ⟨rfl, rfl⟩, .refl _, fun _ h => h, rfl, rfl, fun n hr => hr.mono (by omega), .refl _ _⟩

end Sys2Proof.Machine

namespace Sys2Proof.Machine

open Sys2Proof

/-! ### What a granted permit leaves of the fills and the flags -/

theorem takeSupplyGood_fill (i : Side) (s : State) : (takeSupplyGood i s).fill.get i =
    (setClosures i { (s.fill.get i).closures with supply := false } s).fill.get i := by
  obtain ⟨c, hc⟩ : ∃ c, c = setClosures i { (s.fill.get i).closures with supply := false } s := ⟨_, rfl⟩
  obtain ⟨b, hb⟩ : ∃ b, b = sendDue i (c.setDisplay i (c.display.get i).toStandby) := ⟨_, rfl⟩
  obtain ⟨v, hv⟩ : ∃ v, v = (updateHeat i b).setPower { (updateHeat i b).power with holdTimer := some Const.permitHold } := ⟨_, rfl⟩
  have he : takeSupplyGood i s = enterHeat i v := by rw [hv, hb, hc]; rfl
  rw [he, (enterHeat_heats i v).only (.fill i) (by simp), hv, ← hc]
  exact (updateHeat_only i b (.fill i) (by simp)).trans (by rw [hb]; rfl)

theorem setClosures_slot (i : Side) (c : Closures) (s : State) : ((setClosures i c s).fill.get i).slot = (s.fill.get i).slot := by
  obtain ⟨v, hv⟩ : ∃ v, v = s.setFill i { s.fill.get i with closures := c } := ⟨_, rfl⟩
  have hvs : (v.fill.get i).slot = (s.fill.get i).slot := by rw [hv, State.setFill_fill, PerSide.get_set_same]
  have he : setClosures i c s = if v.sideState i = .closed ∧ c.isEmpty then enterImplied i v else v := by rw [hv]; rfl
  rw [he]
  split
  · unfold enterImplied
    by_cases h : v.sideState i = (v.fill.get i).impliedState
    · rw [enterState_same h, hvs]
    · rw [enterState_fill h]
      exact hvs
  · exact hvs

/-- What taking the permit leaves of the fill of any side and of its flags (R166). -/
structure PermitSpares (i : Side) (s t : State) : Prop where
  slot : (t.fill.get i).slot = (s.fill.get i).slot
  state : s.sideState i ≠ .closed → t.sideState i = s.sideState i
  attended : (t.sidePower.get i).attended = (s.sidePower.get i).attended
  cold : (t.sidePower.get i).cold = (s.sidePower.get i).cold

theorem PermitSpares.refl (i : Side) (s : State) : PermitSpares i s s := ⟨rfl, fun _ => rfl, rfl, rfl⟩

theorem takePermit_spares (j i : Side) (s : State) : PermitSpares i s (takePermit j s) := by
  by_cases hij : i = j
  · subst hij
    have hf : (permitTaken i s).fill.get i = s.fill.get i := permitTaken_only i s (.fill i) (by simp)
    have hp := permitTaken_sidePower i s
    rcases hg : (s.sidePower.get i).supplyGood with _ | _
    · rw [takePermit_waits hg]
      exact ⟨by rw [hf], fun _ => congrArg Fill.state hf, by rw [hp], by rw [hp]⟩
    · have T := takeSupplyGood_taken i (permitTaken i s)
      have hfill := takeSupplyGood_fill i (permitTaken i s)
      have hflags : ((takeSupplyGood i (permitTaken i s)).sidePower.get i).attended = (s.sidePower.get i).attended ∧
          ((takeSupplyGood i (permitTaken i s)).sidePower.get i).cold = (s.sidePower.get i).cold := by
        rcases hw : warm (permitTaken i s) i with _ | _
        · obtain ⟨-, -, e⟩ := T.cold hw
          rw [e, hp]
          exact ⟨rfl, rfl⟩
        · obtain ⟨-, e⟩ := T.warm hw
          rw [e, hp]
          exact ⟨rfl, rfl⟩
      rw [takePermit_passes hg]
      refine ⟨by rw [hfill, setClosures_slot, hf], fun hn => ?_, hflags.1, hflags.2⟩
      have hst : (permitTaken i s).sideState i = s.sideState i := congrArg Fill.state hf
      refine (congrArg Fill.state hfill).trans ?_
      rw [setClosures_stays _ (.inl (by rw [hst]; exact hn)), State.setFill_fill, PerSide.get_set_same]
      exact hst
  · have o := takePermit_clear j s
    have ef : (takePermit j s).fill.get i = s.fill.get i := o (.fill i) (by simp [hij])
    have ep : (takePermit j s).sidePower.get i = s.sidePower.get i := o (.sidePower i) (by simp [hij])
    exact ⟨by rw [ef], fun _ => congrArg Fill.state ef, by rw [ep], by rw [ep]⟩

theorem grantPermit_spares (i : Side) (s : State) : PermitSpares i s (grantPermit s) := by
  rcases grantPermit_cases s with h | ⟨j, -, h⟩
  · rw [h]
    exact .refl i s
  · rw [h]
    exact takePermit_spares j i s

/-! ### NIGHT_PENDING -/

/-- What GO_NIGHT leaves where a side is filling (R163). -/
structure PendingEntered (c : PowerCause) (s t : State) : Prop where
  mode : t.power.mode = .nightPending
  slot : ∀ i, (t.fill.get i).NoWaiting ∧ ((t.fill.get i).slot = (s.fill.get i).slot ∨ (t.fill.get i).slot = none)
  off : ∀ i, (s.sidePower.get i).bringUp = true → (s.sidePower.get i).state ≠ .up →
    (t.sidePower.get i).state = .off ∧ (t.sidePower.get i).bringUp = false
  filling : ∀ i, s.filling i = true → t.sideState i = s.sideState i
  attended : ∀ i, (t.sidePower.get i).attended = (s.sidePower.get i).attended
  cold : ∀ i, (t.sidePower.get i).cold = (s.sidePower.get i).cold
  cause : s.changes = [] → t.changes.findSome? PowerChange.modeCause = some c
  service : t.link.service = s.link.service
  room : ∀ n, Room (n + 6) s → Room n t

theorem goNight_pending {c : PowerCause} {s : State} (h : s.anyFilling = true) : PendingEntered c s (goNight c s) := by
  obtain ⟨v, hv⟩ : ∃ v, v = withdrawBoth s := ⟨_, rfl⟩
  obtain ⟨a, ha⟩ : ∃ a, a = stopBringUp .a v := ⟨_, rfl⟩
  obtain ⟨b, hb⟩ : ∃ b, b = stopBringUp .b a := ⟨_, rfl⟩
  obtain ⟨m, hm⟩ : ∃ m, m = setMode .nightPending c b := ⟨_, rfl⟩
  have he : goNight c s = grantPermit m := by rw [goNight_filling h, hm, hb, ha, hv]; rfl
  have W : BothWithdrawn s v := by rw [hv]; exact withdrawBoth_withdrawn s
  have A : HaltsBringUp .a v a := by rw [ha]; exact stopBringUp_halts .a v
  have B : HaltsBringUp .b a b := by rw [hb]; exact stopBringUp_halts .b a
  have om : OnlyChanges [.power] b m := by rw [hm]; exact setMode_only .nightPending c b
  have G := grantPermit_grants m
  have spa : a.sidePower.get .b = v.sidePower.get .b := A.only (.sidePower .b) (by simp)
  have spb : b.sidePower.get .a = a.sidePower.get .a := B.only (.sidePower .a) (by simp)
  have fa : a.fill.get .b = v.fill.get .b := A.only (.fill .b) (by simp)
  have fb : b.fill.get .a = a.fill.get .a := B.only (.fill .a) (by simp)
  have mp (i : Side) : m.sidePower.get i = b.sidePower.get i := om (.sidePower i) (by simp)
  have mf (i : Side) : m.fill.get i = b.fill.get i := om (.fill i) (by simp)
  have mw : m.power.waiting = b.power.waiting := by rw [hm]; rfl
  have hfill (i : Side) : Withdraws (v.fill.get i) (m.fill.get i) := by
    rw [mf]
    cases i with
    | a => rw [fb]; exact A.fill
    | b => rw [← fa]; exact B.fill
  have hoff (i : Side) (h1 : (s.sidePower.get i).bringUp = true) (h2 : (s.sidePower.get i).state ≠ .up) :
      (m.sidePower.get i).state = .off ∧ (m.sidePower.get i).bringUp = false ∧ i ∉ m.power.waiting := by
    rw [← W.sidePower i] at h1 h2
    rw [mp, mw]
    cases i with
    | a =>
      obtain ⟨x, y, z⟩ := A.off h1 h2
      rw [spb]
      exact ⟨x, y, fun hn => z (B.waiting _ hn)⟩
    | b => exact B.off (by rw [spa]; exact h1) (by rw [spa]; exact h2)
  have hflags (i : Side) : (m.sidePower.get i).attended = (s.sidePower.get i).attended ∧
      (m.sidePower.get i).cold = (s.sidePower.get i).cold := by
    rw [mp, ← W.sidePower i]
    cases i with
    | a => rw [spb]; exact A.flags
    | b => rw [← spa]; exact B.flags
  have hstate (i : Side) (hf : s.filling i = true) : m.sideState i = s.sideState i :=
    ((W.fill i).trans (hfill i)).state (SideState.ne_authorized_of_isFill hf)
  rw [he]
  refine ⟨G.mode.trans (by rw [hm]; rfl), fun i => ?_, fun i h1 h2 => ?_, fun i hf => ?_, fun i => ?_, fun i => ?_, fun hs => ?_, ?_,
    fun n hr => ?_⟩
  · have P := grantPermit_spares i m
    have hno := (hfill i).noWaiting (W.noWaiting i)
    refine ⟨fun x hx => hno x (by rw [← P.slot]; exact hx), ?_⟩
    rw [P.slot]
    exact ((W.fill i).trans (hfill i)).slot
  · obtain ⟨x, y, z⟩ := hoff i h1 h2
    rw [G.side i z]
    exact ⟨x, y⟩
  · have hst := hstate i hf
    have hnc : m.sideState i ≠ .closed := by
      rw [hst]
      intro hc
      unfold State.filling at hf
      rw [hc] at hf
      exact absurd hf (by decide)
    rw [(grantPermit_spares i m).state hnc, hst]
  · rw [(grantPermit_spares i m).attended, (hflags i).1]
  · rw [(grantPermit_spares i m).cold, (hflags i).2]
  · obtain ⟨gs, -, hg⟩ := G.changes
    have hmc : m.changes = s.changes ++ [.mode c] := by
      rw [hm]
      change b.changes ++ [.mode c] = _
      rw [B.changes, A.changes, W.changes]
    rw [hg, hmc]
    exact findSome_cause hs
  · rw [G.link, om.link_eq, B.service, A.service, W.service]
  · exact (B.room n (A.room (n + 2) (W.room (n + 4) hr))).of_link (by rw [G.link, om.link_eq])

/-- The one notice of NIGHT_PENDING (R157). -/
theorem PendingEntered.told {c : PowerCause} {s t u : State} (old : State) (P : PendingEntered c s t) (hu : OnlyChanges afterNightBlocks t u)
    (hc : u.changes = t.changes) (hs : s.changes = []) (hr : Room 3 u) :
    ∃ a b j, (settle old u).link.tells (.powerStage .nightPending a b j c s.sidePower.a.attended s.sidePower.a.cold
      s.sidePower.b.attended s.sidePower.b.cold) := by
  have ht := settle_tellsModeNotice (old := old) (by rw [hc]; exact P.cause hs) hr
  have us (i : Side) : u.sidePower.get i = t.sidePower.get i := hu (.sidePower i) (by simp)
  have hm : u.power.mode = .nightPending := by rw [hu .power (by simp), P.mode]
  have a1 : u.sidePower.a.attended = s.sidePower.a.attended := (congrArg SidePower.attended (us .a)).trans (P.attended .a)
  have a2 : u.sidePower.b.attended = s.sidePower.b.attended := (congrArg SidePower.attended (us .b)).trans (P.attended .b)
  have c1 : u.sidePower.a.cold = s.sidePower.a.cold := (congrArg SidePower.cold (us .a)).trans (P.cold .a)
  have c2 : u.sidePower.b.cold = s.sidePower.b.cold := (congrArg SidePower.cold (us .b)).trans (P.cold .b)
  unfold powerNotice at ht
  rw [hm, a1, a2, c1, c2] at ht
  exact ⟨_, _, _, ht⟩

/-! ### The schedule -/

theorem timedCommit_sets {t : Nat} {s : State} : (timedCommit t s).changes = s.changes ∧ (timedCommit t s).clock = s.clock ∧
    ∀ n, Room (n + 1) s → Room n (timedCommit t s) := by
  unfold timedCommit
  split
  · exact ⟨rfl, rfl, fun n hr => notify_room (s := s.setPrices _) _ hr⟩
  · exact ⟨rfl, rfl, fun n hr => hr.mono (by omega)⟩

/-- The part one second on, before the schedule acts (R160). -/
def ticked (s : State) : State := { s with clock := s.clock.tick }

theorem clockAdvance_acts {s : State} (hv : s.clock.valid = true) : exec .clockAdvance s =
    .next (settle s (timedCommit (timeOfDay s.clock.tick) (scheduleActs (timeOfDay s.clock.tick) (ticked s)))) := by
  have e : clockAdvance s = timedCommit (timeOfDay s.clock.tick) (scheduleActs (timeOfDay s.clock.tick) (ticked s)) := if_pos hv
  rw [← e]
  rfl

theorem scheduleActs_night {t : Nat} {s : State} (hn : s.power.nightAt = some t) (hd : s.power.mode = .waking ∨ s.power.mode = .run) :
    scheduleActs t s = goNight .schedule s := by
  have h1 : ¬(s.power.wakeAt = some t ∧ s.power.mode = .night) := by
    rintro ⟨-, h⟩
    rcases hd with x | x <;> rw [x] at h <;> exact absurd h (by decide)
  exact (if_neg h1).trans (if_pos ⟨hn, hd⟩)

theorem scheduleActs_wake {t : Nat} {s : State} (hw : s.power.wakeAt = some t) (hm : s.power.mode = .night) :
    scheduleActs t s = wakingEntry .schedule s := if_pos ⟨hw, hm⟩

/-- What waking leaves whatever the permit and the shuts are (R164, R165). -/
structure BeginsBoth (c : PowerCause) (s t : State) : Prop where
  mode : t.power.mode = .waking
  marks : ∀ i, (t.sidePower.get i).bringUp = true
  attended : ∀ i, (t.sidePower.get i).attended = false
  cold : ∀ i, (t.sidePower.get i).cold = false
  cause : s.changes = [] → t.changes.findSome? PowerChange.modeCause = some c
  room : ∀ n, Room (n + 2) s → Room n t

theorem wakingEntry_beginsBoth (c : PowerCause) (s : State) : BeginsBoth c s (wakingEntry c s) := by
  obtain ⟨m, hm⟩ : ∃ m, m = wakingMode c s := ⟨_, rfl⟩
  obtain ⟨a, ha⟩ : ∃ a, a = beginBringUp .a m := ⟨_, rfl⟩
  obtain ⟨b, hb⟩ : ∃ b, b = beginBringUp .b a := ⟨_, rfl⟩
  have he : wakingEntry c s = grantPermit b := by rw [hb, ha, hm]; rfl
  have om : OnlyChanges [.power] s m := by rw [hm]; exact wakingMode_only c s
  have A : BringsUp .a m a := by rw [ha]; exact beginBringUp_bringsUp .a m
  have B : BringsUp .b a b := by rw [hb]; exact beginBringUp_bringsUp .b a
  have hba : b.sidePower.get .a = a.sidePower.get .a := B.only (.sidePower .a) (by simp)
  have G := grantPermit_grants b
  have hside (i : Side) : ∃ p : SidePower, b.sidePower.get i = { p with state := .off, bringUp := true, attended := false, cold := false } := by
    cases i with
    | a => exact ⟨_, hba.trans A.power⟩
    | b => exact ⟨_, B.power⟩
  obtain ⟨am, -, -, -⟩ := A.permit
  obtain ⟨bm, -, -, -⟩ := B.permit
  rw [he]
  refine ⟨G.mode.trans (bm.trans (am.trans (by rw [hm]; rfl))), fun i => ?_, fun i => ?_, fun i => ?_, fun hs => ?_, fun n hr => ?_⟩
  · obtain ⟨p, hp⟩ := hside i
    rw [G.marks, hp]
  · obtain ⟨p, hp⟩ := hside i
    rw [(grantPermit_spares i b).attended, hp]
  · obtain ⟨p, hp⟩ := hside i
    rw [(grantPermit_spares i b).cold, hp]
  · obtain ⟨gs, -, hg⟩ := G.changes
    have hmc : m.changes = s.changes ++ [.mode c] := by rw [hm]; rfl
    rw [hg, B.changes, A.changes, hmc, List.append_assoc, List.append_assoc]
    exact findSome_cause hs
  · exact (B.room n (A.room (n + 1) (hr.of_link om.link_eq))).of_link G.link

end Sys2Proof.Machine

namespace Sys2Proof.Machine

open Sys2Proof

/-! ### The last close -/

theorem findSome_stages (ns : List Notice) : (ns.map PowerChange.stage).findSome? PowerChange.modeCause = none := by
  induction ns with
  | nil => rfl
  | cons n ns ih => exact ih

theorem closeSide_poweredAlike (i : Side) (s : State) : PoweredAlike (s.display.get i) ((closeSide i s).display.get i) := by
  have e : (closeSpent i s).display.get i = s.display.get i := closeSpent_only i s (.display i) (by simp)
  rw [closeSide_eq, zeroCreep_only i _ (.display i) (by simp), ← e]
  exact enterState_poweredAlike i _ _

theorem closeRecord_controller (i : Side) (c : SaleContext) (s : State) :
    ((closeRecord i c s).display.get i).controller = (s.display.get i).controller := by
  have hg : (recordGiven i c s).display.get i = s.display.get i := by
    have h1 : (recordGiven i c s).display.get i = (recordTaken i c s).display.get i := recordGiven_taken i c s (.display i) (by simp)
    rw [h1]
    exact takeRecord_only _ (finalized i s) (.display i) (by simp)
  obtain ⟨h, he⟩ : ∃ h, closeRecord i c s =
      (recordGiven i c s).setDisplay i { (recordGiven i c s).display.get i with hold := h } := ⟨_, rfl⟩
  rw [he, State.setDisplay_display, PerSide.get_set_same, hg]

theorem closeRecord_portState (i : Side) (c : SaleContext) (s : State) :
    ((closeRecord i c s).ports.get i).state = (s.ports.get i).state := by
  rw [closeRecord_port]
  split <;> rfl

theorem closeSale_poweredAlike (i : Side) (why : Option EndReason) (s : State) :
    PoweredAlike (s.display.get i) ((closeSale i why s).display.get i) := by
  rcases h : (s.fill.get i).sale with _ | c
  · rw [closeSale_none h]
    exact closeSide_poweredAlike i s
  · rw [closeSale_some h]
    exact PoweredAlike.trans (.of_eq (closeRecord_controller i _ (closing i why c s))) (closeSide_poweredAlike i _)

theorem closeSale_portState (i : Side) (why : Option EndReason) (s : State) :
    ((closeSale i why s).ports.get i).state = (s.ports.get i).state := by
  rcases h : (s.fill.get i).sale with _ | c
  · rw [closeSale_none h, closeSide_ports]
  · rw [closeSale_some h, closeSide_ports, closeRecord_portState]
    rfl

theorem closeSale_supplied {i : Side} {why : Option EndReason} {s : State} (h : s.filling i = true) :
    SuppliedForNight i s (closeSale i why s) := by
  obtain ⟨-, hc, hslot, hidle⟩ := (closeSale_closedNow i why s).state h
  exact ⟨⟨hidle, .inr hslot, fun _ => hslot, fun hp => by rw [closeSale_portState]; exact hp⟩, hc,
    closeSale_only i why s (.sidePower i) (by simp), closeSale_poweredAlike i why s⟩

/-- A side that an event has left alone is as ready for the night as it was. -/
theorem OnlyChanges.supplied {bs : List Block} {i : Side} {s v : State} (h : OnlyChanges bs s v) (hi : s.filling i = false)
    (hf : Block.fill i ∉ bs) (hs : Block.sidePower i ∉ bs) (hd : Block.display i ∉ bs) (hp : Block.port i ∉ bs) :
    SuppliedForNight i s v := by
  have ef : v.fill.get i = s.fill.get i := h (.fill i) hf
  have ed : v.display.get i = s.display.get i := h (.display i) hd
  have ep : v.ports.get i = s.ports.get i := h (.port i) hp
  refine ⟨⟨?_, .inl (by rw [ef]), fun x => absurd (hi.symm.trans x) (by decide), fun x => by rw [ep]; exact x⟩, by rw [ef],
    h (.sidePower i) hs, .of_eq (by rw [ed])⟩
  rw [← hi]
  unfold State.filling State.sideState
  rw [ef]

theorem closeBlocks_other (i : Side) : Block.fill i.other ∉ closeBlocks i ∧ Block.sidePower i.other ∉ closeBlocks i ∧
    Block.display i.other ∉ closeBlocks i ∧ Block.port i.other ∉ closeBlocks i := by cases i <;> decide

theorem Side.cases_other (i j : Side) : j = i ∨ j = i.other := by cases i <;> cases j <;> decide

theorem anyFilling_of_other {i : Side} {s : State} (h : s.filling i = false) (ho : s.filling i.other = false) : s.anyFilling = false := by
  unfold State.anyFilling
  cases i with
  | a => exact Bool.or_eq_false_iff.mpr ⟨h, ho⟩
  | b => exact Bool.or_eq_false_iff.mpr ⟨ho, h⟩

theorem anyFilling_of {i : Side} {s : State} (h : s.filling i = true) : s.anyFilling = true := by
  unfold State.anyFilling
  cases i with
  | a => rw [h, Bool.true_or]
  | b => rw [h, Bool.or_true]

theorem nightIfLast_enters {s : State} (hm : s.power.mode = .nightPending) (h : s.anyFilling = false) :
    nightIfLast s = nightEntry .lastClose s := if_pos ⟨hm, by rw [h]; rfl⟩

theorem nightIfLast_waits {s : State} (h : s.anyFilling = true) : nightIfLast s = s := if_neg (fun x => by
  have := x.2
  rw [h] at this
  exact absurd this (by decide))

/-- A night entry by the last close, at the end of its event (R64, R163). -/
structure EntersByClose (s T : State) : Prop where
  mode : T.power.mode = .night
  holder : T.power.holder = none
  waiting : T.power.waiting = []
  side : ∀ i, T.sideState i = .closed ∧ (T.fill.get i).closures.night = true ∧
    (s.filling i = true ∨ (∀ a, (s.fill.get i).slot = some a → a.phase = .waiting) → (T.fill.get i).slot = none) ∧
    (T.sidePower.get i).state = .off ∧ (T.sidePower.get i).bringUp = false ∧
    ((s.ports.get i).state ≠ .tampered → (T.ports.get i).state = .disabled)
  told : Room 16 s → ∃ j aa ca ab cb, T.link.tells (.powerStage .night .off .off j .lastClose aa ca ab cb)

theorem NightEntered.byClose {s v t : State} (N : NightEntered .lastClose v t) (R : ∀ i, ReadyForNight i s v)
    (hv : v.changes.findSome? PowerChange.modeCause = none) (hr : Room 16 s → Room 7 v) : EntersByClose s (settle s t) := by
  obtain ⟨h1, h2, h3⟩ := N.settled s (.refl _ t)
  refine ⟨h1, h2, h3, fun i => ?_, fun h => ?_⟩
  · have S := N.side i
    rw [settle_fill, settle_sidePower, settle_port_state, settle_sideState]
    exact ⟨S.closed, by rw [S.closures], S.slot_none (R i), S.off, S.bringUp, fun hp => S.port ((R i).port hp)⟩
  · obtain ⟨j, hj⟩ := N.told s (.refl _ t) rfl hv (N.room 3 (hr h))
    exact ⟨j, _, _, _, _, hj⟩

/-! ### Either expiry of ENDING -/

theorem exec_lastEnding {i : Side} {command : Instr} {s : State}
    (hc : command = .endingQuietExpiry i ∧ (s.fill.get i).quietTimer ≠ none ∨
      command = .afterFlowExpiry i ∧ (s.fill.get i).afterFlowTimer ≠ none) (he : s.sideState i = .ending) :
    exec command s = .next (settle s (nightIfLast (closeSale i none s))) := by
  rcases hc with ⟨rfl, ht⟩ | ⟨rfl, ht⟩
  · change event (fun s => if s.sideState i = .ending ∧ (s.fill.get i).quietTimer.isSome then nightIfLast (closeSale i none s) else s) s = _
    rw [event_next, if_pos ⟨he, Option.isSome_iff_ne_none.mpr ht⟩]
  · change event (fun s => if s.sideState i = .ending ∧ (s.fill.get i).afterFlowTimer.isSome then nightIfLast (closeSale i none s) else s)
      s = _
    rw [event_next, if_pos ⟨he, Option.isSome_iff_ne_none.mpr ht⟩]

theorem closeSale_suppliedBoth {i : Side} {why : Option EndReason} {s : State} (h : s.filling i = true) (ho : s.filling i.other = false)
    (j : Side) : SuppliedForNight j s (closeSale i why s) := by
  rcases Side.cases_other i j with rfl | rfl
  · exact closeSale_supplied h
  · obtain ⟨c1, c2, c3, c4⟩ := closeBlocks_other i
    exact (closeSale_only i why s).supplied ho c1 c2 c3 c4

/-! ### The supply-fail warning in NIGHT_PENDING -/

theorem ReadyForNight.step {i : Side} {s v w : State} (h : ReadyForNight i s v) (hi : w.filling i = false)
    (hs : (w.fill.get i).slot = (v.fill.get i).slot ∨ (w.fill.get i).slot = none)
    (hp : (w.ports.get i).state = (v.ports.get i).state) : ReadyForNight i s w := by
  refine ⟨hi, ?_, fun x => ?_, fun x => by rw [hp]; exact h.port x⟩
  · rcases hs with e | e
    · rw [e]
      exact h.slot
    · exact .inr e
  · rcases hs with e | e
    · rw [e, h.ended x]
    · exact e

theorem ReadyForNight.of_only {bs : List Block} {i : Side} {s v w : State} (h : ReadyForNight i s v) (ho : OnlyChanges bs v w)
    (hf : Block.fill i ∉ bs) (hp : Block.port i ∉ bs) : ReadyForNight i s w := by
  have ef : w.fill.get i = v.fill.get i := ho (.fill i) hf
  have ep : w.ports.get i = v.ports.get i := ho (.port i) hp
  refine h.step ?_ (.inl (by rw [ef])) (by rw [ep])
  rw [← h.idle]
  unfold State.filling State.sideState
  rw [ef]

/-- What closing a side at the warning leaves of it (R70). -/
theorem closeAtWarning_ready (i : Side) (s : State) : ReadyForNight i s (closeAtWarning i s) ∧ (closeAtWarning i s).changes = s.changes ∧
    (∀ n, Room (n + 3) s → Room n (closeAtWarning i s)) ∧ OnlyChanges (closeBlocks i) s (closeAtWarning i s) := by
  rcases h : s.filling i with _ | _
  · have e : closeAtWarning i s = s := if_neg (ne_true_of_eq_false h)
    rw [e]
    exact ⟨⟨h, .inl rfl, fun x => absurd (h.symm.trans x) (by decide), id⟩, rfl, fun n hr => hr.mono (by omega), .refl _ _⟩
  · have e : closeAtWarning i s = closeSale i (some .powerFail) s := if_pos h
    have C := closeSale_closedNow i (some .powerFail) s
    rw [e]
    exact ⟨(closeSale_supplied h).ready, C.changes, C.room, closeSale_only i _ s⟩

theorem addClosure_ready {i : Side} {s v : State} (r : ClosureReason) (h : ReadyForNight i s v) :
    ReadyForNight i s (addClosure i r v) := by
  refine h.step ?_ (addClosure_slot_or r v).2 (addClosure_portState i r v)
  unfold State.filling
  rw [addClosure_sideState r h.idle]
  rfl

end Sys2Proof.Machine

namespace Sys2Proof.Machine

open Sys2Proof

theorem ReadyForNight.base {bs : List Block} {i : Side} {s v w : State} (h : ReadyForNight i v w) (ho : OnlyChanges bs s v)
    (hf : Block.fill i ∉ bs) (hp : Block.port i ∉ bs) : ReadyForNight i s w := by
  have ef : v.fill.get i = s.fill.get i := ho (.fill i) hf
  have ep : v.ports.get i = s.ports.get i := ho (.port i) hp
  refine ⟨h.idle, by rw [← ef]; exact h.slot, fun x => h.ended ?_, fun x => h.port (by rw [ep]; exact x)⟩
  rw [← x]
  unfold State.filling State.sideState
  rw [ef]

/-- The same sides, met before a request or a second that touches none of them. -/
theorem SuppliedForNight.of_same {i : Side} {s w v : State} (h : SuppliedForNight i w v) (hf : w.fill = s.fill)
    (hs : w.sidePower = s.sidePower) (hd : w.display = s.display) (hp : w.ports = s.ports) : SuppliedForNight i s v := by
  obtain ⟨⟨h1, h2, h3, h4⟩, h5, h6, h7⟩ := h
  have hfill : w.filling i = s.filling i := by
    unfold State.filling State.sideState
    rw [hf]
  rw [hf] at h2 h5
  rw [hs] at h6
  rw [hd] at h7
  rw [hp] at h4
  rw [hfill] at h3
  exact ⟨⟨h1, h2, h3, h4⟩, h5, h6, h7⟩

/-! ### The warning, up to the Sale Register -/

/-- The fills closed by the assertion of the warning (R70). -/
def warnedClosed (s : State) : State := closeAtWarning .b (closeAtWarning .a { s with supplyFailInput := true })

/-- The part with the drivers off and both sides closed for it (R70, R115). -/
def warnedSides (s : State) : State := updateHeat .b (updateHeat .a (addClosureBoth .powerFail (driversOff (warnedClosed s))))

theorem supplyFailWarning_eq {s : State} (hi : s.supplyFailInput = false) (hm : (warnedSides s).power.mode ≠ .loading) :
    supplyFailWarning s = nightIfLast (takeWarning (warnedSides s)) := by
  have e : supplyFailWarning s = nightIfLast (if (warnedSides s).power.mode = .loading then warnedSides s else takeWarning (warnedSides s)) :=
    if_neg (ne_true_of_eq_false hi)
  rw [e, if_neg hm]

/-- What the warning leaves of the sides before the Sale Register takes it (R70). -/
structure WarnedSides (s v : State) : Prop where
  power : v.power = s.power
  changes : v.changes = s.changes
  ready : ∀ i, ReadyForNight i s v
  room : ∀ n, Room (n + 8) s → Room n v

theorem warnedSides_warned (s : State) : WarnedSides s (warnedSides s) := by
  obtain ⟨z, hz⟩ : ∃ z, z = ({ s with supplyFailInput := true } : State) := ⟨_, rfl⟩
  obtain ⟨a, ha⟩ : ∃ a, a = closeAtWarning .a z := ⟨_, rfl⟩
  obtain ⟨b, hb⟩ : ∃ b, b = closeAtWarning .b a := ⟨_, rfl⟩
  obtain ⟨d, hd⟩ : ∃ d, d = driversOff b := ⟨_, rfl⟩
  obtain ⟨x, hx⟩ : ∃ x, x = addClosure .a .powerFail d := ⟨_, rfl⟩
  obtain ⟨y, hy⟩ : ∃ y, y = addClosure .b .powerFail x := ⟨_, rfl⟩
  obtain ⟨w, hw⟩ : ∃ w, w = updateHeat .b (updateHeat .a y) := ⟨_, rfl⟩
  have he : warnedSides s = w := by rw [hw, hy, hx, hd, hb, ha, hz]; rfl
  obtain ⟨ra, ca, ma, oa⟩ := closeAtWarning_ready .a z
  obtain ⟨rb, cb, mb, ob⟩ := closeAtWarning_ready .b a
  rw [← ha] at ra ca ma oa
  rw [← hb] at rb cb mb ob
  have oz : OnlyChanges [.supplyFailInput] s z := by rw [hz]; exact setSupplyFail_only s true
  have od : OnlyChanges [.motor .lo, .motor .hi, .valves .a, .valves .b] b d := by rw [hd]; exact driversOff_only b
  have ox : OnlyChanges (closureBlocks .a) d x := by rw [hx]; exact addClosure_only .a _ d
  have oy : OnlyChanges (closureBlocks .b) x y := by rw [hy]; exact addClosure_only .b _ x
  have ow : OnlyChanges [.display .a, .display .b, .arbiter] y w := by
    rw [hw]
    exact ((updateHeat_only .a y).mono (by simp)).step (updateHeat_only .b _) (by simp)
  have hready (i : Side) : ReadyForNight i s d := by
    refine ReadyForNight.of_only ?_ od (by simp) (by simp)
    refine ReadyForNight.base ?_ oz (by simp) (by simp)
    cases i with
    | a => exact ra.of_only ob (by simp) (by simp)
    | b => exact rb.base oa (by simp) (by simp)
  have hclosed (i : Side) : ReadyForNight i s y := by
    cases i with
    | a =>
      have h1 : ReadyForNight .a s x := by rw [hx]; exact addClosure_ready .powerFail (hready .a)
      exact h1.of_only oy (by simp) (by simp)
    | b =>
      rw [hy]
      exact addClosure_ready .powerFail ((hready .b).of_only ox (by simp) (by simp))
  rw [he]
  refine ⟨?_, ?_, fun i => (hclosed i).of_only ow (by simp) (by simp), fun n hr => ?_⟩
  · rw [ow .power (by simp), oy .power (by simp), ox .power (by simp), od .power (by simp), ob .power (by simp), oa .power (by simp),
      oz .power (by simp)]
  · rw [hw, updateHeat_changes, updateHeat_changes, hy, addClosure_changes, hx, addClosure_changes, hd]
    change b.changes = _
    rw [cb, ca, hz]
  · have h1 : Room (n + 8) z := hr.of_link oz.link_eq
    have h2 : Room (n + 2) d := (mb (n + 2) (ma (n + 5) h1)).of_link od.link_eq
    have h3 : Room (n + 1) x := by rw [hx]; exact addClosure_room h2
    have h4 : Room n y := by rw [hy]; exact addClosure_room h3
    exact h4.of_link ow.link_eq

/-! ### The loss of supply-good in NIGHT_PENDING -/

/-- What a side's going to DOWN_FAULT spares of the other (R166, R171). -/
theorem downFault_spares (i : Side) (c : PowerCause) (s : State) :
    ((downFault i c s).fill.get i.other).slot = (s.fill.get i.other).slot ∧
      (downFault i c s).filling i.other = s.filling i.other ∧
      (downFault i c s).ports.get i.other = s.ports.get i.other := by
  obtain ⟨-, -, ho, -⟩ := fallen_falls i c s
  obtain ⟨r, hr⟩ : ∃ r, r = runTest c (fallen i c s) := ⟨_, rfl⟩
  have or : OnlyChanges (fallBlocks i) s r := by
    rw [hr]
    exact ho.step (runTest_only c _) (by simp)
  have ef : r.fill.get i.other = s.fill.get i.other := or (.fill i.other) (by cases i <;> decide)
  have ep : r.ports.get i.other = s.ports.get i.other := or (.port i.other) (by cases i <;> decide)
  have P := grantPermit_spares i.other r
  have hst : r.sideState i.other = s.sideState i.other := congrArg Fill.state ef
  rw [downFault_eq, ← hr]
  refine ⟨by rw [P.slot, ef], ?_, ?_⟩
  · rcases hf : s.filling i.other with _ | _
    · refine (grantPermit_advances r).carries.filling ?_
      unfold State.filling
      rw [hst]
      exact hf
    · have hn : r.sideState i.other ≠ .closed := by
        rw [hst]
        intro hc
        unfold State.filling at hf
        rw [hc] at hf
        exact absurd hf (by decide)
      unfold State.filling at hf ⊢
      rw [P.state hn, hst]
      exact hf
  · have hg : (grantPermit r).ports.get i.other = r.ports.get i.other := by
      rcases grantPermit_cases r with h | ⟨j, -, h⟩
      · rw [h]
      · rw [h]
        exact takePermit_clear j r (.port i.other) (by simp)
    rw [hg, ep]

/-- The state that the loss leaves in NIGHT_PENDING before a night entry that it may bring (R71, R171). -/
def lossFallen (i : Side) (s : State) : State := downFault i .supplyLost (lossClosed i (goodLost i s))

/-- What it leaves (R163, R171). -/
structure LossFallen (i : Side) (s u : State) : Prop where
  mode : u.power.mode = .nightPending
  state : (u.sidePower.get i).state = .downFault
  closed : u.sideState i = .closed
  ready : ReadyForNight i s u
  otherSlot : (u.fill.get i.other).slot = (s.fill.get i.other).slot
  otherFilling : u.filling i.other = s.filling i.other
  otherPort : u.ports.get i.other = s.ports.get i.other
  changes : u.changes.findSome? PowerChange.modeCause = none
  room : ∀ n, Room (n + 7) s → Room n u

theorem lossFallen_falls {i : Side} {s : State} (hs : s.changes = []) (hf : s.filling i = true) (hm : s.power.mode = .nightPending) :
    LossFallen i s (lossFallen i s) := by
  obtain ⟨v, hv⟩ : ∃ v, v = lossClosed i (goodLost i s) := ⟨_, rfl⟩
  have L : LossClosed i (goodLost i s) v := by rw [hv]; exact lossClosed_closed hf
  have he : lossFallen i s = downFault i .supplyLost v := by rw [hv]; rfl
  have G := downFault_goesDown i .supplyLost v
  have hpow : v.power = s.power := L.only .power (by simp)
  have hne : ¬v.EndsWaking i := by
    rintro ⟨h, -⟩
    rw [hpow, hm] at h
    exact absurd h (by decide)
  obtain ⟨hmode, hch⟩ := G.stays hne
  obtain ⟨x, hx⟩ := L.fill
  obtain ⟨o1, o2, o3⟩ := downFault_spares i .supplyLost v
  obtain ⟨c1, -, -, c4⟩ := closeBlocks_other i
  have ef : v.fill.get i.other = s.fill.get i.other := L.only (.fill i.other) c1
  have ep : v.ports.get i.other = s.ports.get i.other := L.only (.port i.other) c4
  have hclosed : (downFault i .supplyLost v).sideState i = .closed := G.falls.closed L.idle
  have hslot : ((downFault i .supplyLost v).fill.get i).slot = none := by
    rcases G.falls.slot with e | e
    · rw [e, hx]
      rfl
    · exact e
  have hport : (v.ports.get i).state = (s.ports.get i).state := by
    rw [hv]
    exact closeSale_portState i _ (goodLost i s)
  rw [he]
  refine ⟨by rw [hmode, hpow, hm], by rw [G.falls.power]; rfl, hclosed, ⟨?_, .inr hslot, fun _ => hslot, fun h => ?_⟩, by rw [o1, ef], ?_,
    by rw [o3, ep], ?_, fun n hr => G.falls.room n (L.room (n + 3) hr)⟩
  · unfold State.filling
    rw [hclosed]
    rfl
  · rw [G.falls.port (by rw [hport]; exact h)]
    decide
  · rw [o2]
    unfold State.filling State.sideState
    rw [ef]
  · obtain ⟨gs, -, hg⟩ := hch v (.refl i v)
    rw [hg, L.changes]
    change (s.changes ++ _).findSome? _ = _
    rw [hs, List.nil_append]
    exact findSome_stages _

theorem exec_lossPending {i : Side} {s : State} (hf : s.filling i = true) (hp : (s.sidePower.get i).state.powered = true) :
    exec (.supplyGoodLoss i) s = .next (settle s (nightIfLast (lossFallen i s))) := by
  have e : supplyGoodLoss i s = nightIfLast (lossFallen i s) := by
    rw [supplyGoodLoss_powered hp, supplyLost_filling (s := goodLost i s) hf]
    rfl
  rw [← e]
  rfl

/-! ### GO_NIGHT -/

theorem goNight_taken {s : State} (hf : Free s) (tag : Nat) :
    exec (.goNight tag (.fields ())) s = .next (settle s (takeGoNight (s.serving Kind.goNight tag))) :=
  event_request hf Kind.goNight tag () (fun _ s => takeGoNight s)

theorem takeGoNight_day {s : State} (h : s.power.mode = .waking ∨ s.power.mode = .run) :
    takeGoNight s = answerMode (goNight .goNight s) := by
  unfold takeGoNight
  rcases h with h | h
  · rw [h]
  · rw [h]

theorem goNight_replied {s : State} (hs : Settled s) (hf : Free s) (tag : Nat) (status : Status) (fields : List Field)
    (ht : takeGoNight (s.serving Kind.goNight tag) = answer status fields (s.serving Kind.goNight tag)) :
    exec (.goNight tag (.fields ())) s = .next (s.replied Kind.goNight tag status fields) :=
  replied_of_answer hs hf Kind.goNight tag () (fun _ s => takeGoNight s) status fields ht

/-- Settles O56: a night entry by what it leaves of each side (`NightSide`), from the state that each of its causes leaves; NIGHT_PENDING
by `PendingEntered`. -/
theorem theNightIsEntered : Obligations.TheNightIsEntered := by
  intro tag s hs c day isNight nightTold pendingTold
  -- night entry with no side filling, from a state told alike and as supplied as `s`
  have hnight (cause : PowerCause) (v t u : State) (N : NightEntered cause v t) (L : ∀ i, SuppliedForNight i s v)
      (hu : OnlyChanges afterNightBlocks t u) : isNight (settle s u) := by
    obtain ⟨h1, h2, h3⟩ := N.settled s hu
    exact ⟨h1, h2, h3, fun i => (N.side i).settled s (L i) hu⟩
  have htold (cause : PowerCause) (v t u : State) (N : NightEntered cause v t) (L : ∀ i, SuppliedForNight i s v)
      (hu : OnlyChanges afterNightBlocks t u) (hc : u.changes = t.changes) (hv : v.changes = []) (hr : Room 16 s → Room 3 u) :
      nightTold (settle s u) cause := by
    intro h
    obtain ⟨j, hj⟩ := N.told s hu hc (by rw [hv]; rfl) (hr h)
    rw [(L .a).power, (L .b).power] at hj
    exact ⟨j, hj⟩
  refine ⟨fun hf hm => ?_, fun hf hm => ?_, fun hf hd hn => ?_, fun hf hd hy => ?_, fun hv => ⟨fun hat hd hn => ?_, fun hat hd hy => ?_,
    fun hat hm => ?_⟩, fun hm => ⟨fun i command hc he => ⟨fun ho => ?_, fun ho => ?_⟩, fun hi hy => ?_, fun i hf hp => ⟨fun ho => ?_, fun ho => ?_⟩⟩⟩
  · refine goNight_replied hs hf tag .wrongState [] ?_
    unfold takeGoNight
    rw [show (s.serving Kind.goNight tag).power.mode = .loading from hm]
    rfl
  · refine goNight_replied hs hf tag .ok _ ?_
    have hm' : (s.serving Kind.goNight tag).power.mode = .night ∨ (s.serving Kind.goNight tag).power.mode = .nightPending := hm
    unfold takeGoNight
    rcases hm' with h | h
    · rw [h]
      rfl
    · rw [h]
      rfl
  · obtain ⟨w, hw⟩ : ∃ w, w = s.serving Kind.goNight tag := ⟨_, rfl⟩
    have W : BothWithdrawn w (withdrawBoth w) := withdrawBoth_withdrawn w
    have hidle (i : Side) : w.filling i = false := by rw [hw]; exact anyFilling_false hn i
    have hwn : w.anyFilling = false := by rw [hw]; exact hn
    have N := nightEntry_entered .goNight (s := withdrawBoth w) (fun i => (W.filling i).trans (hidle i))
    have L (i : Side) : SuppliedForNight i s (withdrawBoth w) :=
      (W.supplied (hidle i)).of_same (by rw [hw]; rfl) (by rw [hw]; rfl) (by rw [hw]; rfl) (by rw [hw]; rfl)
    have ht : takeGoNight w = answerMode (nightEntry .goNight (withdrawBoth w)) := by
      rw [takeGoNight_day (by rw [hw]; exact hd), goNight_idle hwn]
    have hu : OnlyChanges afterNightBlocks (nightEntry .goNight (withdrawBoth w)) (answerMode (nightEntry .goNight (withdrawBoth w))) :=
      (answer_only _ _ _).mono (by simp)
    refine ⟨_, (goNight_taken hf tag).trans (by rw [← hw, ht]), hnight _ _ _ _ N L hu, htold _ _ _ _ N L hu rfl ?_ (fun hr => ?_), ?_⟩
    · rw [W.changes, hw]
      exact hs.changes
    · have hrw : Room 16 w := by rw [hw]; exact serving_room hr
      exact answer_room (N.room 3 (W.room 7 (hrw.mono (by omega))))
    · unfold answerMode
      rw [N.mode]
      exact answers_served s _ (by rw [N.service, W.service, hw])
  · obtain ⟨w, hw⟩ : ∃ w, w = s.serving Kind.goNight tag := ⟨_, rfl⟩
    have P : PendingEntered .goNight w (goNight .goNight w) := goNight_pending (by rw [hw]; exact hy)
    have ht : takeGoNight w = answerMode (goNight .goNight w) := takeGoNight_day (by rw [hw]; exact hd)
    have hu : OnlyChanges afterNightBlocks (goNight .goNight w) (answerMode (goNight .goNight w)) := (answer_only _ _ _).mono (by simp)
    refine ⟨_, (goNight_taken hf tag).trans (by rw [← hw, ht]), ?_, fun hr => ?_, ?_, fun i => ⟨fun a ha hwt => ?_, fun h1 h2 => ?_,
      fun h => ?_⟩⟩
    · rw [settle_power]
      exact P.mode
    · have hrw : Room 16 w := by rw [hw]; exact serving_room hr
      have h := P.told s hu rfl (by rw [hw]; exact hs.changes) (answer_room (P.room 3 (hrw.mono (by omega))))
      rw [hw] at h ⊢
      exact h
    · unfold answerMode
      rw [P.mode]
      exact answers_served s _ (by rw [P.service, hw])
    · rw [settle_fill]
      change ((goNight .goNight w).fill.get i).slot = none
      obtain ⟨hno, e | e⟩ := P.slot i
      · exact absurd hwt (hno a (by rw [e, hw]; exact ha))
      · exact e
    · rw [settle_sidePower]
      exact P.off i (by rw [hw]; exact h1) (by rw [hw]; exact h2)
    · rw [settle_sideState]
      refine (P.filling i (by rw [hw]; exact h)).trans ?_
      rw [hw]
      rfl
  · obtain ⟨w, hw⟩ : ∃ w, w = ticked s := ⟨_, rfl⟩
    have W : BothWithdrawn w (withdrawBoth w) := withdrawBoth_withdrawn w
    have hidle (i : Side) : w.filling i = false := by rw [hw]; exact anyFilling_false hn i
    have N := nightEntry_entered .schedule (s := withdrawBoth w) (fun i => (W.filling i).trans (hidle i))
    have L (i : Side) : SuppliedForNight i s (withdrawBoth w) :=
      (W.supplied (hidle i)).of_same (by rw [hw]; rfl) (by rw [hw]; rfl) (by rw [hw]; rfl) (by rw [hw]; rfl)
    obtain ⟨hcc, hck, hcr⟩ := timedCommit_sets (t := timeOfDay s.clock.tick) (s := nightEntry .schedule (withdrawBoth w))
    have hacts : scheduleActs (timeOfDay s.clock.tick) w = nightEntry .schedule (withdrawBoth w) := by
      rw [scheduleActs_night (by rw [hw]; exact hat) (by rw [hw]; exact hd), goNight_idle (by rw [hw]; exact hn)]
    have hu : OnlyChanges afterNightBlocks (nightEntry .schedule (withdrawBoth w))
        (timedCommit (timeOfDay s.clock.tick) (nightEntry .schedule (withdrawBoth w))) := (timedCommit_only _ _).mono (by simp)
    refine ⟨_, (clockAdvance_acts hv).trans (by rw [← hw, hacts]), hnight _ _ _ _ N L hu, htold _ _ _ _ N L hu hcc ?_ (fun hr => ?_), ?_⟩
    · rw [W.changes, hw]
      exact hs.changes
    · have hrw : Room 16 w := hr.of_link (by rw [hw]; rfl)
      exact hcr 3 (N.room 4 (W.room 8 (hrw.mono (by omega))))
    · have hck2 : (nightEntry .schedule (withdrawBoth w)).clock = w.clock :=
        (nightEntry_only .schedule _ .clock (by simp)).trans (W.only .clock (by simp))
      rw [settle_clock, hck, hck2, hw]
      rfl
  · obtain ⟨w, hw⟩ : ∃ w, w = ticked s := ⟨_, rfl⟩
    have P : PendingEntered .schedule w (goNight .schedule w) := goNight_pending (by rw [hw]; exact hy)
    obtain ⟨hcc, -, hcr⟩ := timedCommit_sets (t := timeOfDay s.clock.tick) (s := goNight .schedule w)
    have hacts : scheduleActs (timeOfDay s.clock.tick) w = goNight .schedule w :=
      scheduleActs_night (by rw [hw]; exact hat) (by rw [hw]; exact hd)
    have hu : OnlyChanges afterNightBlocks (goNight .schedule w) (timedCommit (timeOfDay s.clock.tick) (goNight .schedule w)) :=
      (timedCommit_only _ _).mono (by simp)
    refine ⟨_, (clockAdvance_acts hv).trans (by rw [← hw, hacts]), ?_, fun hr => ?_⟩
    · rw [settle_power, hu .power (by simp)]
      exact P.mode
    · have hrw : Room 16 w := hr.of_link (by rw [hw]; rfl)
      have h := P.told s hu hcc (by rw [hw]; exact hs.changes) (hcr 3 (P.room 4 (hrw.mono (by omega))))
      rw [hw] at h ⊢
      exact h
  · obtain ⟨w, hw⟩ : ∃ w, w = ticked s := ⟨_, rfl⟩
    obtain ⟨b1, b2, b3, b4, b5, b6⟩ := wakingEntry_beginsBoth .schedule w
    obtain ⟨u, hu⟩ : ∃ u, u = timedCommit (timeOfDay s.clock.tick) (wakingEntry .schedule w) := ⟨_, rfl⟩
    have ho : OnlyChanges [.prices, .link, .store] (wakingEntry .schedule w) u := by rw [hu]; exact timedCommit_only _ _
    obtain ⟨hcc, -, hcr⟩ := timedCommit_sets (t := timeOfDay s.clock.tick) (s := wakingEntry .schedule w)
    rw [← hu] at hcc hcr
    have hacts : scheduleActs (timeOfDay s.clock.tick) w = wakingEntry .schedule w :=
      scheduleActs_wake (by rw [hw]; exact hat) (by rw [hw]; exact hm)
    have us (i : Side) : u.sidePower.get i = (wakingEntry .schedule w).sidePower.get i := ho (.sidePower i) (by simp)
    have um : u.power.mode = .waking := by rw [ho .power (by simp), b1]
    refine ⟨_, (clockAdvance_acts hv).trans (by rw [← hw, hacts, ← hu]), by rw [settle_power]; exact um, fun i => ?_, fun hr => ?_⟩
    · rw [settle_sidePower, us]
      exact b2 i
    · have hrw : Room 16 w := hr.of_link (by rw [hw]; rfl)
      have ht := settle_tellsModeNotice (old := s) (u := u) (c := .schedule) (by rw [hcc]; exact b5 (by rw [hw]; exact hs.changes))
        (hcr 3 (b6 4 (hrw.mono (by omega))))
      have a1 : u.sidePower.a.attended = false := (congrArg SidePower.attended (us .a)).trans (b3 .a)
      have a2 : u.sidePower.b.attended = false := (congrArg SidePower.attended (us .b)).trans (b3 .b)
      have c1 : u.sidePower.a.cold = false := (congrArg SidePower.cold (us .a)).trans (b4 .a)
      have c2 : u.sidePower.b.cold = false := (congrArg SidePower.cold (us .b)).trans (b4 .b)
      unfold powerNotice at ht
      rw [um, a1, a2, c1, c2] at ht
      exact ⟨_, _, _, ht⟩
  · have hf : s.filling i = true := by
      unfold State.filling
      rw [he]
      rfl
    have L := closeSale_suppliedBoth (why := none) hf ho
    have C := closeSale_closedNow i none s
    have N := nightEntry_entered .lastClose (s := closeSale i none s) (fun j => (L j).ready.idle)
    have hmode : (closeSale i none s).power.mode = .nightPending := by rw [closeSale_only i none s .power (by simp)]; exact hm
    have hentry : nightIfLast (closeSale i none s) = nightEntry .lastClose (closeSale i none s) :=
      nightIfLast_enters hmode (anyFilling_of_other (L i).ready.idle (L i.other).ready.idle)
    have E := N.byClose (s := s) (fun j => (L j).ready) (by rw [C.changes, hs.changes]; rfl) (fun hr => C.room 7 (hr.mono (by omega)))
    exact ⟨_, (exec_lastEnding hc he).trans (by rw [hentry]), hnight _ _ _ _ N L (.refl _ _), E.mode, E.holder, E.waiting, E.side, E.told⟩
  · have hf : s.filling i = true := by
      unfold State.filling
      rw [he]
      rfl
    have C := closeSale_closedNow i none s
    have hother : (closeSale i none s).filling i.other = true := by
      obtain ⟨c1, -, -, -⟩ := closeBlocks_other i
      have e : (closeSale i none s).fill.get i.other = s.fill.get i.other := closeSale_only i none s (.fill i.other) c1
      rw [← ho]
      unfold State.filling State.sideState
      rw [e]
    refine ⟨_, (exec_lastEnding hc he).trans (by rw [nightIfLast_waits (anyFilling_of hother)]), ?_, ?_⟩
    · rw [settle_power]
      exact closeSale_only i none s .power (by simp)
    · rw [settle_sideState]
      exact (C.state hf).1
  · have W := warnedSides_warned s
    have hmode : (warnedSides s).power.mode = .nightPending := by rw [W.power]; exact hm
    have ot := takeWarning_only (warnedSides s)
    have hready (i : Side) : ReadyForNight i s (takeWarning (warnedSides s)) := (W.ready i).of_only ot (by simp) (by simp)
    have N := nightEntry_entered .lastClose (s := takeWarning (warnedSides s)) (fun i => (hready i).idle)
    have hentry : supplyFailWarning s = nightEntry .lastClose (takeWarning (warnedSides s)) := by
      rw [supplyFailWarning_eq hi (by rw [hmode]; decide)]
      exact nightIfLast_enters hmode (anyFilling_of_other (i := .a) (hready .a).idle (hready .b).idle)
    have E := N.byClose (s := s) hready (by
      change (warnedSides s).changes.findSome? _ = _
      rw [W.changes, hs.changes]
      rfl) (fun hr => (W.room 7 (hr.mono (by omega))).of_link ot.link_eq)
    refine ⟨_, ?_, E.mode, E.holder, E.waiting, E.side, E.told⟩
    rw [← hentry]
    rfl
  · have F := lossFallen_falls hs.changes hf hm
    have hpow : (s.sidePower.get i).state.powered = true := by
      revert hp
      cases (s.sidePower.get i).state <;> decide
    have hready (j : Side) : ReadyForNight j s (lossFallen i s) := by
      rcases Side.cases_other i j with rfl | rfl
      · exact F.ready
      · exact ⟨F.otherFilling.trans ho, .inl F.otherSlot, fun x => absurd (ho.symm.trans x) (by decide), fun x => by rw [F.otherPort]; exact x⟩
    have N := nightEntry_entered .lastClose (s := lossFallen i s) (fun j => (hready j).idle)
    have hentry : nightIfLast (lossFallen i s) = nightEntry .lastClose (lossFallen i s) :=
      nightIfLast_enters F.mode (anyFilling_of_other F.ready.idle (hready i.other).idle)
    have E := N.byClose (s := s) hready F.changes (fun hr => F.room 7 (hr.mono (by omega)))
    exact ⟨_, (exec_lossPending hf hpow).trans (by rw [hentry]), E.mode, E.holder, E.waiting, E.side, E.told⟩
  · have F := lossFallen_falls hs.changes hf hm
    have hpow : (s.sidePower.get i).state.powered = true := by
      revert hp
      cases (s.sidePower.get i).state <;> decide
    refine ⟨_, (exec_lossPending hf hpow).trans (by rw [nightIfLast_waits (anyFilling_of (F.otherFilling.trans ho))]), ?_, ?_, ?_⟩
    · rw [settle_power, F.mode]
    · rw [settle_sidePower, F.state]
    · rw [settle_sideState, F.closed]

end Sys2Proof.Machine

namespace Sys2Proof.Machine

open Sys2Proof

/-! ### The save bank at the warning -/

/-- The save work of a side at the warning (R100, R101). -/
def Store.workOf (t : Store) (i : Side) (q : List SaleRecord) : List SaveOp :=
  (if (t.slots.get i).state = .erased ∨ t.saving.map (fun r => r.op) = some { kind := .erase, side := i } then []
    else [{ kind := .erase, side := i }]) ++
  (if q = [] then [] else [{ kind := .write, side := i }])

theorem Store.eraseRunning_iff (t : Store) (i : Side) :
    t.eraseRunning i = true ↔ t.saving.map (fun r => r.op) = some { kind := .erase, side := i } := by
  unfold Store.eraseRunning
  cases t.saving with
  | none => simp
  | some r => simp

theorem Store.saveWork_joins {t : Store} {i : Side} {q : List SaleRecord}
    (h : ({ kind := .erase, side := i } : SaveOp) ∉ t.saveWaiting) :
    t.saveWork i q.isEmpty = { t with saveWaiting := t.saveWaiting ++ t.workOf i q } := by
  have herase : (if (t.slots.get i).state = .erased then t else t.queueErase i) = { t with
      saveWaiting := t.saveWaiting ++ if (t.slots.get i).state = .erased ∨
        t.saving.map (fun r => r.op) = some { kind := .erase, side := i } then [] else [{ kind := .erase, side := i }] } := by
    by_cases hs : (t.slots.get i).state = .erased
    · rw [if_pos hs, if_pos (.inl hs), List.append_nil]
    · rw [if_neg hs]
      unfold Store.queueErase
      by_cases hr : t.saving.map (fun r => r.op) = some { kind := .erase, side := i }
      · rw [if_pos (.inl ((Store.eraseRunning_iff t i).mpr hr)), if_pos (.inr hr), List.append_nil]
      · rw [if_neg (not_or.mpr ⟨fun x => hr ((Store.eraseRunning_iff t i).mp x), h⟩), if_neg (not_or.mpr ⟨hs, hr⟩)]
  unfold Store.saveWork
  dsimp only
  rw [herase]
  unfold Store.workOf
  cases q with
  | nil => simp
  | cons r q => simp

theorem Store.warned_eq (t : Store) (p q : List SaleRecord) :
    t.warned p.isEmpty q.isEmpty = { t with saveWaiting := t.workOf .a p ++ t.workOf .b q } := by
  have ha : ({ t with saveWaiting := [] } : Store).saveWork .a p.isEmpty = { t with saveWaiting := t.workOf .a p } :=
    Store.saveWork_joins (t := { t with saveWaiting := [] }) List.not_mem_nil
  have hb : ({ kind := .erase, side := .b } : SaveOp) ∉ t.workOf .a p := by
    unfold Store.workOf
    rw [List.mem_append, not_or]
    constructor
    · split <;> simp
    · split <;> simp
  unfold Store.warned
  rw [ha, Store.saveWork_joins (t := { t with saveWaiting := t.workOf .a p }) hb]
  rfl

/-- What the save bank makes of its waiting work at the end of an event (R180). -/
structure SaveStarts (t u : Store) (q : PerSide (List SaleRecord)) : Prop where
  busy : t.saving ≠ none → u.saving = t.saving ∧ u.saveWaiting = t.saveWaiting
  works : t.saving = none → (u.saving.map (fun r => r.op)).toList ++ u.saveWaiting = t.saveWaiting
  rests : t.saving = none → u.saving = none → u.saveWaiting = []
  records : t.saving = none → ∀ r, u.saving = some r → r.op.kind = .write → r.records = q.get r.op.side

theorem Store.startSave_saveStarts (t : Store) (q : PerSide (List SaleRecord)) : SaveStarts t (t.startSave q) q := by
  unfold Store.startSave
  split
  · next o rest hs hw =>
    split
    · next hk =>
      refine ⟨fun h => absurd hs h, fun _ => by rw [hw]; rfl, fun _ h => absurd h (Option.some_ne_none _), fun _ r hr _ => ?_⟩
      rw [← Option.some.inj hr]
    · next hk =>
      refine ⟨fun h => absurd hs h, fun _ => by rw [hw]; rfl, fun _ h => absurd h (Option.some_ne_none _), fun _ r hr hwr => ?_⟩
      rw [← Option.some.inj hr] at hwr
      exact absurd (hk.symm.trans hwr) (by decide)
  · next hn =>
    have hempty (h : t.saving = none) : t.saveWaiting = [] := by
      rcases hw : t.saveWaiting with _ | ⟨o, rest⟩
      · rfl
      · exact absurd hw (hn o rest h)
    refine ⟨fun _ => ⟨rfl, rfl⟩, fun h => by rw [h]; rfl, fun h _ => hempty h, fun h r hr => ?_⟩
    rw [h] at hr
    exact absurd hr (Option.some_ne_none r).symm

theorem settle_saveStarts (old u : State) : SaveStarts u.store (settle old u).store u.register.queues := by
  obtain ⟨-, hsv, hw⟩ := startMain_save u
  obtain ⟨h1, h2, h3, h4⟩ := Store.startSave_saveStarts (startMain u) u.register.queues
  rw [hsv] at h1 h2 h3 h4
  rw [hw] at h1 h2
  rw [settle_store]
  exact ⟨h1, h2, h3, h4⟩

/-! ### A close at the warning, by its record -/

/-- What a close at the warning leaves of the Sale Register and the store, for the sale `c` (R92, R98, R101). -/
structure WarningRecord (i : Side) (c : SaleContext) (s t : State) : Prop where
  sold : ((s.figures.get i).finalize (s.meters.get i).lo.sale (s.meters.get i).hi.sale).displayed ≠ 0 → ∃ r : SaleRecord,
    r.number = c.number ∧ r.ended = .powerFail ∧ r.flags.restored = false ∧ r ∈ t.register.queues.get i ∧
    ((∀ x ∈ s.register.queues.get i, x.number ≠ c.number) → t.register.queues.get i = s.register.queues.get i ++ [r])
  empty : ((s.figures.get i).finalize (s.meters.get i).lo.sale (s.meters.get i).hi.sale).displayed = 0 →
    t.register.queues.get i = s.register.queues.get i
  awaits : t.store.Awaits .totalsWrite

/-- A record that ended by POWER_FAIL joins its queue, its totals deferred (R92, R98). -/
theorem takeRecord_deferred {r : SaleRecord} (s : State) (h : r.volume ≠ 0) (he : r.ended = .powerFail) :
    (takeRecord r s).register = { s.register with queues := s.register.queues.set r.side (s.register.queues.get r.side ++ [r]) } := by
  unfold takeRecord
  dsimp only
  rw [if_neg h, if_pos he]
  rfl

theorem closeRecord_register_deferred {i : Side} {c : SaleContext} {s : State} (hv : (formRecord (finalized i s) i c).volume ≠ 0)
    (he : (formRecord (finalized i s) i c).ended = .powerFail) :
    (closeRecord i c s).register = { s.register with
      queues := s.register.queues.set i
        (if c.source = .reader then flagDelivery (decide ((s.ports.get i).state = .tampered)) c.number
          (s.register.queues.get i ++ [formRecord (finalized i s) i c])
        else s.register.queues.get i ++ [formRecord (finalized i s) i c]) } := by
  have ht : (recordTaken i c s).register = { s.register with
      queues := s.register.queues.set i (s.register.queues.get i ++ [formRecord (finalized i s) i c]) } :=
    takeRecord_deferred (finalized i s) hv he
  rw [closeRecord_given i c s .register (by simp)]
  unfold recordGiven
  split
  · rw [handOver_sold _ hv]
    change { (recordTaken i c s).register with
      queues := (recordTaken i c s).register.queues.set i
        (flagDelivery (decide (((recordTaken i c s).ports.get i).state = PortState.tampered)) c.number
          ((recordTaken i c s).register.queues.get i)) } = _
    rw [ht, recordTaken_ports, PerSide.get_set_same, PerSide.set_set]
  · exact ht

theorem flagDelivery_single (tampered : Bool) {r : SaleRecord} (h : r.source = .reader) (hd : r.flags.deliveryPending = false)
    (hu : r.flags.undeliverable = false) : flagDelivery tampered r.number [r] = [r.handed tampered] :=
  flagDelivery_newest (q := []) tampered (fun _ hx => absurd hx List.not_mem_nil) h hd hu

/-- What a close leaves of the Sale Register but for its own queue, and of the store (R64, R97). -/
structure CloseSpares (i : Side) (s t : State) : Prop where
  totals : t.register.totals = s.register.totals
  next : t.register.next = s.register.next
  other : t.register.queues.get i.other = s.register.queues.get i.other
  slots : t.store.slots = s.store.slots
  saving : t.store.saving = s.store.saving
  running : t.store.running = s.store.running
  awaits : ∀ k, s.store.Awaits k → t.store.Awaits k

theorem CloseSpares.refl (i : Side) (s : State) : CloseSpares i s s := ⟨rfl, rfl, rfl, rfl, rfl, rfl, fun _ h => h⟩

theorem CloseSpares.of_eq {i : Side} {s t : State} (hr : t.register = s.register) (hs : t.store = s.store) : CloseSpares i s t :=
  ⟨by rw [hr], by rw [hr], by rw [hr], by rw [hs], by rw [hs], by rw [hs], fun k h => by rw [hs]; exact h⟩

/-- A close by POWER_FAIL of a side with a sale (R70, R92, R98). -/
theorem closeSale_powerFail {i : Side} {c : SaleContext} {s : State} (hc : (s.fill.get i).sale = some c) :
    WarningRecord i c s (closeSale i (some .powerFail) s) ∧ CloseSpares i s (closeSale i (some .powerFail) s) := by
  obtain ⟨v, hv⟩ : ∃ v, v = closing i (some .powerFail) c s := ⟨_, rfl⟩
  obtain ⟨d, hd⟩ : ∃ d, d = c.endedBy (some EndReason.powerFail) := ⟨_, rfl⟩
  have he : closeSale i (some .powerFail) s = closeSide i (closeRecord i d v) := by rw [closeSale_some hc, hd, hv]
  have hvr : v.register = s.register := by rw [hv]; rfl
  have hvs : v.store = s.store := by rw [hv]; rfl
  have hvf : v.figures = s.figures := by rw [hv]; rfl
  have hvm : v.meters = s.meters := by rw [hv]; rfl
  have hnum : d.number = c.number := by rw [hd]; rfl
  have hended : (formRecord (finalized i v) i d).ended = .powerFail := by rw [hd]; rfl
  have hvol : (formRecord (finalized i v) i d).volume =
      ((s.figures.get i).finalize (s.meters.get i).lo.sale (s.meters.get i).hi.sale).displayed := by
    rw [← hvf, ← hvm]
    exact congrArg Figures.displayed (finalized_figures i v)
  have hreg : (closeSale i (some .powerFail) s).register = (closeRecord i d v).register := by rw [he, closeSide_register]
  have hstore : (closeSale i (some .powerFail) s).store = { s.store with waiting := joinJob .totalsWrite false s.store.waiting } := by
    rw [he, closeSide_store, closeRecord_store, hvs]
  have hawaits : (closeSale i (some .powerFail) s).store.Awaits .totalsWrite := by
    obtain ⟨j, hj, hk, -⟩ := joinJob_mem .totalsWrite false s.store.waiting
    exact ⟨j, by rw [hstore]; exact hj, hk⟩
  have hregister : (closeRecord i d v).register.totals = s.register.totals ∧ (closeRecord i d v).register.next = s.register.next ∧
      (closeRecord i d v).register.queues.get i.other = s.register.queues.get i.other := by
    by_cases h0 : (formRecord (finalized i v) i d).volume = 0
    · rw [closeRecord_register_empty h0, hvr]
      exact ⟨rfl, rfl, rfl⟩
    · rw [closeRecord_register_deferred h0 hended, hvr]
      have hio : i.other ≠ i := by cases i <;> decide
      exact ⟨rfl, rfl, PerSide.get_set_other _ _ hio⟩
  obtain ⟨g1, g2, g3⟩ := hregister
  refine ⟨⟨fun hn => ?_, fun h0 => ?_, hawaits⟩, ⟨by rw [hreg, g1], by rw [hreg, g2], by rw [hreg, g3], by rw [hstore], by rw [hstore],
    by rw [hstore], fun k h => ?_⟩⟩
  · obtain ⟨r, hr⟩ : ∃ r, r = formRecord (finalized i v) i d := ⟨_, rfl⟩
    have hv0 : r.volume ≠ 0 := by rw [hr, hvol]; exact hn
    have hq : (closeSale i (some .powerFail) s).register.queues.get i =
        if d.source = .reader then flagDelivery (decide ((v.ports.get i).state = .tampered)) d.number (s.register.queues.get i ++ [r])
        else s.register.queues.get i ++ [r] := by
      rw [hreg, closeRecord_register_deferred (by rw [← hr]; exact hv0) hended, hvr, ← hr]
      exact PerSide.get_set_same _ _ _
    have hsrc : r.source = d.source := by rw [hr]; rfl
    have hrn : r.number = d.number := by rw [hr]; rfl
    have hdp : r.flags.deliveryPending = false := by rw [hr]; rfl
    have hun : r.flags.undeliverable = false := by rw [hr]; rfl
    have hrs : r.flags.restored = false := by rw [hr]; rfl
    refine ⟨r.handed (decide ((v.ports.get i).state = .tampered)), hrn.trans hnum, ?_, hrs, ?_, fun hfresh => ?_⟩
    · change r.ended = _
      rw [hr]
      exact hended
    · rw [hq]
      split
      · next h =>
        have happ : flagDelivery (decide ((v.ports.get i).state = .tampered)) d.number (s.register.queues.get i ++ [r]) =
            flagDelivery (decide ((v.ports.get i).state = .tampered)) d.number (s.register.queues.get i) ++
              [r.handed (decide ((v.ports.get i).state = .tampered))] := by
          rw [← flagDelivery_single _ (hsrc.trans h) hdp hun, ← hrn]
          exact List.map_append
        rw [happ]
        exact List.mem_append_right _ List.mem_cons_self
      · next h =>
        rw [SaleRecord.handed_host _ (by rw [hsrc]; exact h) hdp hun]
        exact List.mem_append_right _ List.mem_cons_self
    · rw [hq]
      split
      · next h =>
        rw [← hrn]
        exact flagDelivery_newest _ (fun x hx => by rw [hrn, hnum]; exact hfresh x hx) (hsrc.trans h) hdp hun
      · next h => rw [SaleRecord.handed_host _ (by rw [hsrc]; exact h) hdp hun]
  · rw [hreg, closeRecord_register_empty (hvol.trans h0), hvr]
  · obtain ⟨j, hj, hk⟩ := h
    obtain ⟨x, hx, hxk⟩ := joinJob_kinds (k := .totalsWrite) (b := false) hj
    exact ⟨x, by rw [hstore]; exact hx, hxk.trans hk⟩

end Sys2Proof.Machine

namespace Sys2Proof.Machine

open Sys2Proof

/-! ### The sides at the warning -/

theorem CloseSpares.trans {i : Side} {s t u : State} (h : CloseSpares i s t) (k : CloseSpares i t u) : CloseSpares i s u :=
  ⟨k.totals.trans h.totals, k.next.trans h.next, k.other.trans h.other, k.slots.trans h.slots, k.saving.trans h.saving,
    k.running.trans h.running, fun x a => k.awaits x (h.awaits x a)⟩

/-- A side once its fill has closed for the warning (R70, R92, R98). -/
structure ClosedByWarning (i : Side) (s t : State) : Prop where
  idle : t.filling i = false
  closures : (t.fill.get i).closures = (s.fill.get i).closures
  sold : ∀ c, s.filling i = true → (s.fill.get i).sale = some c →
    (t.fill.get i).sale = some { c with ended := some .powerFail, running := false } ∧ (t.fill.get i).slot = none ∧ WarningRecord i c s t
  queue : s.filling i = false → t.register.queues.get i = s.register.queues.get i

theorem closeAtWarning_closes (i : Side) (s : State) :
    ClosedByWarning i s (closeAtWarning i s) ∧ CloseSpares i s (closeAtWarning i s) := by
  rcases h : s.filling i with _ | _
  · have e : closeAtWarning i s = s := if_neg (ne_true_of_eq_false h)
    rw [e]
    exact ⟨⟨h, rfl, fun _ x => absurd (h.symm.trans x) (by decide), fun _ => rfl⟩, .refl i s⟩
  · have e : closeAtWarning i s = closeSale i (some .powerFail) s := if_pos h
    have C := closeSale_closedNow i (some .powerFail) s
    obtain ⟨-, hclosures, hslot, hidle⟩ := C.state h
    rw [e]
    refine ⟨⟨hidle, hclosures, fun c _ hc => ⟨?_, hslot, (closeSale_powerFail hc).1⟩, fun x => absurd (h.symm.trans x) (by decide)⟩, ?_⟩
    · obtain ⟨x, hx⟩ := C.fill h
      rw [hx]
      change ((s.fill.get i).sale.map _).map _ = _
      rw [hc]
      rfl
    · rcases hc : (s.fill.get i).sale with _ | c
      · rw [closeSale_none hc]
        exact .of_eq (closeSide_register i s) (closeSide_store i s)
      · exact (closeSale_powerFail hc).2

/-- A record stands by the side's own figures, meters and queue. -/
theorem WarningRecord.of_same {i : Side} {c : SaleContext} {s s' t t' : State} (h : WarningRecord i c s' t)
    (hf : s'.figures.get i = s.figures.get i) (hm : s'.meters.get i = s.meters.get i)
    (hq : s'.register.queues.get i = s.register.queues.get i) (hq' : t'.register.queues.get i = t.register.queues.get i)
    (ha : ∀ k, t.store.Awaits k → t'.store.Awaits k) : WarningRecord i c s t' := by
  obtain ⟨sold, empty, awaits⟩ := h
  rw [hf, hm, hq] at sold empty
  exact ⟨fun x => by rw [hq']; exact sold x, fun x => by rw [hq']; exact empty x, ha _ awaits⟩

theorem ClosedByWarning.base {bs : List Block} {i : Side} {s s' t : State} (h : ClosedByWarning i s' t) (ho : OnlyChanges bs s s')
    (hq : s'.register.queues.get i = s.register.queues.get i) (hf : Block.fill i ∉ bs) (hg : Block.figures i ∉ bs)
    (hl : Block.meter { side := i, product := .lo } ∉ bs) (hh : Block.meter { side := i, product := .hi } ∉ bs) :
    ClosedByWarning i s t := by
  have ef : s'.fill.get i = s.fill.get i := ho (.fill i) hf
  have efill : s'.filling i = s.filling i := by unfold State.filling State.sideState; rw [ef]
  obtain ⟨idle, closures, sold, queue⟩ := h
  rw [efill, ef] at sold
  rw [efill, hq] at queue
  refine ⟨idle, by rw [closures, ef], fun c x y => ?_, queue⟩
  obtain ⟨a, b, r⟩ := sold c x y
  exact ⟨a, b, r.of_same (ho (.figures i) hg) (ho.meters_eq i hl hh) hq rfl (fun _ k => k)⟩

theorem ClosedByWarning.after {bs : List Block} {i : Side} {s t t' : State} (h : ClosedByWarning i s t) (ho : OnlyChanges bs t t')
    (hf : Block.fill i ∉ bs) (hq : t'.register.queues.get i = t.register.queues.get i)
    (ha : ∀ k, t.store.Awaits k → t'.store.Awaits k) : ClosedByWarning i s t' := by
  have ef : t'.fill.get i = t.fill.get i := ho (.fill i) hf
  have efill : t'.filling i = t.filling i := by unfold State.filling State.sideState; rw [ef]
  obtain ⟨idle, closures, sold, queue⟩ := h
  refine ⟨efill.trans idle, by rw [ef, closures], fun c x y => ?_, fun x => hq.trans (queue x)⟩
  obtain ⟨a, b, r⟩ := sold c x y
  rw [ef]
  exact ⟨a, b, r.of_same rfl rfl rfl hq ha⟩

/-- What the two closes leave of the Sale Register and the store but for the queues and the waiting jobs. -/
structure RegisterSpares (s t : State) : Prop where
  totals : t.register.totals = s.register.totals
  next : t.register.next = s.register.next
  slots : t.store.slots = s.store.slots
  saving : t.store.saving = s.store.saving
  running : t.store.running = s.store.running

theorem warnedClosed_closes (s : State) : (∀ i, ClosedByWarning i s (warnedClosed s)) ∧ RegisterSpares s (warnedClosed s) ∧
    OnlyChanges (.supplyFailInput :: (closeBlocks .a ++ closeBlocks .b)) s (warnedClosed s) := by
  obtain ⟨z, hz⟩ : ∃ z, z = ({ s with supplyFailInput := true } : State) := ⟨_, rfl⟩
  obtain ⟨a, ha⟩ : ∃ a, a = closeAtWarning .a z := ⟨_, rfl⟩
  obtain ⟨b, hb⟩ : ∃ b, b = closeAtWarning .b a := ⟨_, rfl⟩
  have he : warnedClosed s = b := by rw [hb, ha, hz]; rfl
  obtain ⟨ca, ra⟩ := closeAtWarning_closes .a z
  obtain ⟨cb, rb⟩ := closeAtWarning_closes .b a
  have oa := closeAtWarning_only .a z
  have ob := closeAtWarning_only .b a
  rw [← ha] at ca ra oa
  rw [← hb] at cb rb ob
  have oz : OnlyChanges [.supplyFailInput] s z := by rw [hz]; exact setSupplyFail_only s true
  have hzr : z.register = s.register := by rw [hz]
  have hzs : z.store = s.store := by rw [hz]
  rw [he]
  refine ⟨fun i => ?_, ⟨?_, ?_, ?_, ?_, ?_⟩, ?_⟩
  · cases i with
    | a =>
      exact (ca.after ob (by simp) rb.other rb.awaits).base oz (by rw [hzr]) (by simp) (by simp) (by simp) (by simp)
    | b =>
      refine ClosedByWarning.base (cb.base oa ra.other (by simp) (by simp) (by simp) (by simp)) oz (by rw [hzr]) ?_ ?_ ?_ ?_
      all_goals simp
  · rw [rb.totals, ra.totals, hzr]
  · rw [rb.next, ra.next, hzr]
  · rw [rb.slots, ra.slots, hzs]
  · rw [rb.saving, ra.saving, hzs]
  · rw [rb.running, ra.running, hzs]
  · exact ((oz.mono (by simp)).step oa (by simp)).step ob (by simp)

/-- A side as the warning leaves it (R70, R115). -/
structure WarnedSide (i : Side) (s t : State) : Prop where
  valves : t.valves.get i = { lo := 0, hi := 0 }
  closed : t.sideState i = .closed
  heatWant : (t.display.get i).heatWant = false
  closures : (t.fill.get i).closures = { (s.fill.get i).closures with powerFail := true }
  sold : ∀ c, s.filling i = true → (s.fill.get i).sale = some c →
    (t.fill.get i).sale = some { c with ended := some .powerFail, running := false } ∧ (t.fill.get i).slot = none ∧ WarningRecord i c s t
  queue : s.filling i = false → t.register.queues.get i = s.register.queues.get i

/-- POWER_FAIL at a side that is in no fill, its valves shut (R47, R67). -/
theorem addClosure_shuts {i : Side} {r : ClosureReason} {s : State} (h : s.filling i = false)
    (hv : s.valves.get i = { lo := 0, hi := 0 }) : (addClosure i r s).valves.get i = { lo := 0, hi := 0 } := by
  rw [addClosure_waiting r h]
  exact enterState_shut rfl ((removeWaiting_only i _ _ _ (.valves i) (by simp)).trans hv)

/-- Under the warning no side wants heat (R115). -/
theorem heatWanted_warned {s : State} (i : Side) (h : s.supplyFailInput = true) : heatWanted s i = false := by
  unfold heatWanted
  dsimp only
  rw [h]
  exact Bool.and_false _

theorem updateHeat_bothDisplays (s : State) : ((updateHeat .b (updateHeat .a s)).display.get .a).heatWant = heatWanted s .a ∧
    ((updateHeat .b (updateHeat .a s)).display.get .b).heatWant = heatWanted (updateHeat .a s) .b := by
  have h : (updateHeat .b (updateHeat .a s)).display.get .a = (updateHeat .a s).display.get .a :=
    updateHeat_only .b (updateHeat .a s) (.display .a) (by simp)
  exact ⟨by rw [h, updateHeat_display], by rw [updateHeat_display]⟩

/-- What the warning leaves before the Sale Register takes it (R70). -/
structure SidesWarned (s t : State) : Prop where
  side : ∀ i, WarnedSide i s t
  motors : ∀ p, t.motors.get p = Motor.stopped
  spares : RegisterSpares s t
  input : t.supplyFailInput = true
  only : OnlyChanges [.supplyFailInput, .register, .store, .prices, .arbiter, .link, .motor .lo, .motor .hi, .fill .a, .fill .b, .valves .a,
    .valves .b, .blend .a, .blend .b, .figures .a, .figures .b, .display .a, .display .b, .port .a, .port .b,
    .meter { side := .a, product := .lo }, .meter { side := .a, product := .hi }, .meter { side := .b, product := .lo },
    .meter { side := .b, product := .hi }] s t

theorem warnedSides_sides (s : State) : SidesWarned s (warnedSides s) := by
  obtain ⟨C, R, oc⟩ := warnedClosed_closes s
  obtain ⟨b, hb⟩ : ∃ b, b = warnedClosed s := ⟨_, rfl⟩
  obtain ⟨d, hd⟩ : ∃ d, d = driversOff b := ⟨_, rfl⟩
  obtain ⟨x, hx⟩ : ∃ x, x = addClosure .a .powerFail d := ⟨_, rfl⟩
  obtain ⟨y, hy⟩ : ∃ y, y = addClosure .b .powerFail x := ⟨_, rfl⟩
  obtain ⟨w, hw⟩ : ∃ w, w = updateHeat .b (updateHeat .a y) := ⟨_, rfl⟩
  have he : warnedSides s = w := by rw [hw, hy, hx, hd, hb]; rfl
  rw [← hb] at C R oc
  have od : OnlyChanges [.motor .lo, .motor .hi, .valves .a, .valves .b] b d := by rw [hd]; exact driversOff_only b
  have ox : OnlyChanges (closureBlocks .a) d x := by rw [hx]; exact addClosure_only .a _ d
  have oy : OnlyChanges (closureBlocks .b) x y := by rw [hy]; exact addClosure_only .b _ x
  have ow : OnlyChanges [.display .a, .display .b, .arbiter] y w := by
    rw [hw]
    exact ((updateHeat_only .a y).mono (by simp)).step (updateHeat_only .b _) (by simp)
  have ody : OnlyChanges (closureBlocks .a ++ closureBlocks .b) d y := (ox.mono (by simp)).step oy (by simp)
  have odw : OnlyChanges (.arbiter :: (closureBlocks .a ++ closureBlocks .b)) d w := (ody.mono (by simp)).step ow (by simp)
  have obw : OnlyChanges ([.motor .lo, .motor .hi, .arbiter] ++ closureBlocks .a ++ closureBlocks .b) b w :=
    (od.mono (by simp)).step odw (by simp)
  have hreg : w.register = b.register := obw .register (by simp)
  have hstore : w.store = b.store := obw .store (by simp)
  have hshutD (i : Side) : d.valves.get i = { lo := 0, hi := 0 } := by rw [hd]; cases i <;> rfl
  have hidle (i : Side) : d.filling i = false := by
    have e : d.filling i = b.filling i := by rw [hd]; rfl
    exact e.trans (C i).idle
  have hidleX : x.filling .b = false := by
    have e : x.fill.get .b = d.fill.get .b := ox (.fill .b) (by simp)
    rw [← hidle .b]
    unfold State.filling State.sideState
    rw [e]
  have hfd (i : Side) : d.fill.get i = b.fill.get i := od (.fill i) (by simp)
  have hyw (i : Side) : w.fill.get i = y.fill.get i := ow (.fill i) (by simp)
  have hcl (i : Side) : y.valves.get i = { lo := 0, hi := 0 } ∧ y.sideState i = .closed ∧
      (y.fill.get i).closures = (b.fill.get i).closures.add .powerFail ∧ (y.fill.get i).sale = (b.fill.get i).sale ∧
      ((y.fill.get i).slot = (b.fill.get i).slot ∨ (y.fill.get i).slot = none) := by
    rw [← hfd]
    cases i with
    | a =>
      have ev : y.valves.get .a = x.valves.get .a := oy (.valves .a) (by simp)
      have ef : y.fill.get .a = x.fill.get .a := oy (.fill .a) (by simp)
      have est : y.sideState .a = x.sideState .a := congrArg Fill.state ef
      rw [ev, est, ef, hx]
      obtain ⟨hsale, hslot⟩ := addClosure_slot_or (i := .a) .powerFail d
      exact ⟨addClosure_shuts (hidle .a) (hshutD .a), addClosure_sideState .powerFail (hidle .a), addClosure_closures .a .powerFail d,
        hsale, hslot⟩
    | b =>
      have ev : x.valves.get .b = d.valves.get .b := ox (.valves .b) (by simp)
      have ef : x.fill.get .b = d.fill.get .b := ox (.fill .b) (by simp)
      obtain ⟨hsale, hslot⟩ := addClosure_slot_or (i := .b) .powerFail x
      rw [← ef, hy]
      exact ⟨addClosure_shuts hidleX (ev.trans (hshutD .b)), addClosure_sideState .powerFail hidleX, addClosure_closures .b .powerFail x,
        hsale, hslot⟩
  have hin : y.supplyFailInput = true := by
    have e1 : y.supplyFailInput = b.supplyFailInput := Eq.trans (ody .supplyFailInput (by simp)) (od .supplyFailInput (by simp))
    rw [e1, hb]
    have e2 := closeAtWarning_only .a { s with supplyFailInput := true } .supplyFailInput (by simp)
    have e3 := closeAtWarning_only .b (closeAtWarning .a { s with supplyFailInput := true }) .supplyFailInput (by simp)
    exact Eq.trans e3 e2
  have hheat (i : Side) : (w.display.get i).heatWant = false := by
    obtain ⟨h1, h2⟩ := updateHeat_bothDisplays y
    rw [hw]
    cases i with
    | a => exact h1.trans (heatWanted_warned .a hin)
    | b => exact h2.trans (heatWanted_warned .b ((updateHeat_only .a y .supplyFailInput (by simp)).trans hin))
  rw [he]
  refine ⟨fun i => ?_, fun p => ?_, ⟨?_, ?_, ?_, ?_, ?_⟩, ?_, ?_⟩
  · obtain ⟨hv, hst, hclo, hsale, hslot⟩ := hcl i
    refine ⟨(ow (.valves i) (by simp)).trans hv, (congrArg Fill.state (hyw i)).trans hst, hheat i, ?_, fun c h1 h2 => ?_, fun h => ?_⟩
    · rw [hyw, hclo, (C i).closures]
      rfl
    · obtain ⟨k1, k2, k3⟩ := (C i).sold c h1 h2
      rw [hyw, hsale]
      refine ⟨k1, ?_, k3.of_same rfl rfl rfl (by rw [hreg]) (fun k a => by rw [hstore]; exact a)⟩
      rcases hslot with e | e
      · rw [e, k2]
      · exact e
    · rw [hreg]
      exact (C i).queue h
  · have hm : d.motors.get p = Motor.stopped := by rw [hd]; cases p <;> rfl
    exact Eq.trans (odw (.motor p) (by simp)) hm
  · rw [hreg, R.totals]
  · rw [hreg, R.next]
  · rw [hstore, R.slots]
  · rw [hstore, R.saving]
  · rw [hstore, R.running]
  · exact (ow .supplyFailInput (by simp)).trans hin
  · exact (oc.mono (by simp)).step obw (by simp)

end Sys2Proof.Machine

namespace Sys2Proof.Machine

open Sys2Proof

/-! ### The release of the warning -/

/-- What queuing erases leaves of the store (R180). -/
structure ErasesQueued (t u : Store) : Prop where
  saving : u.saving = t.saving
  slots : u.slots = t.slots
  main : u.running = t.running ∧ u.waiting = t.waiting
  keeps : ∀ o ∈ t.saveWaiting, o ∈ u.saveWaiting
  joins : ∀ o ∈ u.saveWaiting, o ∈ t.saveWaiting ∨ o.kind = .erase

theorem ErasesQueued.refl (t : Store) : ErasesQueued t t := ⟨rfl, rfl, ⟨rfl, rfl⟩, fun _ h => h, fun _ h => .inl h⟩

theorem ErasesQueued.trans {t u v : Store} (h : ErasesQueued t u) (k : ErasesQueued u v) : ErasesQueued t v :=
  ⟨k.saving.trans h.saving, k.slots.trans h.slots, ⟨k.main.1.trans h.main.1, k.main.2.trans h.main.2⟩,
    fun o x => k.keeps o (h.keeps o x), fun o x => (k.joins o x).elim (h.joins o) .inr⟩

theorem Store.queueErase_erases (t : Store) (i : Side) : ErasesQueued t (t.queueErase i) ∧
    ({ kind := .erase, side := i } ∈ (t.queueErase i).saveWaiting ∨ t.eraseRunning i = true) := by
  unfold Store.queueErase
  split
  · next h => exact ⟨.refl t, h.symm⟩
  · refine ⟨⟨rfl, rfl, ⟨rfl, rfl⟩, fun o h => List.mem_append_left _ h, fun o h => ?_⟩, .inl (List.mem_append_right _ List.mem_cons_self)⟩
    rcases List.mem_append.mp h with h | h
    · exact .inl h
    · rw [List.mem_singleton.mp h]
      exact .inr rfl

/-- A slot that is not ERASED is queued for erase (R103, R104). -/
theorem Store.eraseWritten_erases (t : Store) (i : Side) :
    let u := if (t.slots.get i).state = .erased then t else t.queueErase i
    ErasesQueued t u ∧ ((t.slots.get i).state ≠ .erased → { kind := .erase, side := i } ∈ u.saveWaiting ∨ t.eraseRunning i = true) := by
  intro u
  by_cases h : (t.slots.get i).state = .erased
  · have e : u = t := if_pos h
    rw [e]
    exact ⟨.refl t, fun n => absurd h n⟩
  · have e : u = t.queueErase i := if_neg h
    obtain ⟨h1, h2⟩ := t.queueErase_erases i
    rw [e]
    exact ⟨h1, fun _ => h2⟩

/-- What the release leaves of the save bank (R103, R181). -/
structure SaveReleased (t u : Store) : Prop where
  saving : u.saving = t.saving
  main : u.running = t.running ∧ u.waiting = t.waiting
  erases : ∀ o ∈ u.saveWaiting, o.kind = .erase
  unerased : ∀ i, (t.slots.get i).state ≠ .erased → { kind := .erase, side := i } ∈ u.saveWaiting ∨ t.eraseRunning i = true

theorem Store.released_releases (t : Store) : SaveReleased t t.released := by
  obtain ⟨p, hp⟩ : ∃ p, p = ({ t with saveWaiting := t.saveWaiting.filter (fun o => o.kind = .erase) } : Store) := ⟨_, rfl⟩
  obtain ⟨q, hq⟩ : ∃ q, q = if (p.slots.get .a).state = .erased then p else p.queueErase .a := ⟨_, rfl⟩
  obtain ⟨r, hr⟩ : ∃ r, r = if (q.slots.get .b).state = .erased then q else q.queueErase .b := ⟨_, rfl⟩
  have he : t.released = r := by rw [hr, hq, hp]; rfl
  obtain ⟨ea, wa⟩ := p.eraseWritten_erases .a
  obtain ⟨eb, wb⟩ := q.eraseWritten_erases .b
  rw [← hq] at ea wa
  rw [← hr] at eb wb
  have E := ea.trans eb
  have hps : p.slots = t.slots := by rw [hp]
  have hpr (i : Side) : p.eraseRunning i = t.eraseRunning i := by rw [hp]; rfl
  rw [he]
  refine ⟨E.saving.trans (by rw [hp]), ⟨E.main.1.trans (by rw [hp]), E.main.2.trans (by rw [hp])⟩, fun o ho => ?_, fun i hi => ?_⟩
  · rcases E.joins o ho with h | h
    · rw [hp] at h
      exact of_decide_eq_true (List.mem_filter.mp h).2
    · exact h
  · rw [← hps] at hi
    rw [← hpr]
    cases i with
    | a => exact (wa hi).imp (eb.keeps _) id
    | b =>
      rw [← ea.slots] at hi
      refine (wb hi).imp id (fun h => ?_)
      unfold Store.eraseRunning at h ⊢
      rw [← ea.saving]
      exact h

/-- The deferred totals, applied (R98, R103). -/
structure DeferredApplied (s t : State) : Prop where
  register : t.register = { s.register with
    totals := (s.register.totals.addOwed s.register.queues.a).addOwed s.register.queues.b
    queues := { a := restoreOwed s.register.queues.a, b := restoreOwed s.register.queues.b } }
  saves : t.store.saving = s.store.saving ∧ t.store.slots = s.store.slots ∧ t.store.running = s.store.running
  owed : (s.register.queues.a ++ s.register.queues.b).filter SaleRecord.owed ≠ [] → t.store.Awaits .totalsWrite

theorem applyDeferred_applied (s : State) : DeferredApplied s (applyDeferred s) := by
  obtain ⟨v, hv⟩ : ∃ v, v = s.setRegister { s.register with
    totals := (s.register.totals.addOwed s.register.queues.a).addOwed s.register.queues.b
    queues := { a := restoreOwed s.register.queues.a, b := restoreOwed s.register.queues.b } } := ⟨_, rfl⟩
  have he : applyDeferred s =
      if s.register.queues.a.any SaleRecord.owed || s.register.queues.b.any SaleRecord.owed then queueJob .totalsWrite v else v := by
    rw [hv]
    rfl
  rw [he]
  split
  · rw [hv]
    exact ⟨rfl, ⟨rfl, rfl, rfl⟩, fun _ => queueJob_awaits .totalsWrite _⟩
  · next h =>
    rw [hv]
    refine ⟨rfl, ⟨rfl, rfl, rfl⟩, fun hn => absurd ?_ h⟩
    obtain ⟨r, hr⟩ := List.exists_mem_of_ne_nil _ hn
    obtain ⟨hmem, ho⟩ := List.mem_filter.mp hr
    rw [← List.any_append]
    exact List.any_eq_true.mpr ⟨r, hmem, ho⟩

/-- The part with the warning released, before the Sale Register takes it (R103, R115). -/
def releasedSides (s : State) : State := updateHeat .b (updateHeat .a { s with supplyFailInput := false })

theorem releasedSides_only (s : State) : OnlyChanges [.supplyFailInput, .display .a, .display .b, .arbiter] s (releasedSides s) :=
  (((setSupplyFail_only s false).mono (by simp)).step (updateHeat_only .a _) (by simp)).step (updateHeat_only .b _) (by simp)

theorem releasedSides_input (s : State) : (releasedSides s).supplyFailInput = false :=
  Eq.trans (updateHeat_only .b (updateHeat .a { s with supplyFailInput := false }) .supplyFailInput (by simp))
    (updateHeat_only .a { s with supplyFailInput := false } .supplyFailInput (by simp))

/-- What the release makes of the Sale Register, the store and the rest (R98, R103). -/
structure WarningReleased (s t : State) : Prop where
  input : t.supplyFailInput = false
  fill : ∀ i, t.fill.get i = s.fill.get i
  register : t.register = { s.register with
    warning := false
    totals := (s.register.totals.addOwed s.register.queues.a).addOwed s.register.queues.b
    queues := { a := restoreOwed s.register.queues.a, b := restoreOwed s.register.queues.b } }
  owed : (s.register.queues.a ++ s.register.queues.b).filter SaleRecord.owed ≠ [] → t.store.Awaits .totalsWrite
  running : t.store.running = s.store.running
  saving : t.store.saving = s.store.saving
  erases : ∀ o ∈ t.store.saveWaiting, o.kind = .erase
  unerased : ∀ i, (s.store.slots.get i).state ≠ .erased →
    { kind := .erase, side := i } ∈ t.store.saveWaiting ∨ s.store.eraseRunning i = true

theorem supplyFailRelease_released {s : State} (hi : s.supplyFailInput = true) (hm : s.power.mode ≠ .loading) :
    WarningReleased s (supplyFailRelease s) := by
  obtain ⟨v, hv⟩ : ∃ v, v = releasedSides s := ⟨_, rfl⟩
  obtain ⟨x, hx⟩ : ∃ x, x = v.setRegister { v.register with warning := false } := ⟨_, rfl⟩
  obtain ⟨w, hw⟩ : ∃ w, w = applyDeferred x := ⟨_, rfl⟩
  have ov : OnlyChanges [.supplyFailInput, .display .a, .display .b, .arbiter] s v := by rw [hv]; exact releasedSides_only s
  have hreg : v.register = s.register := ov .register (by simp)
  have hstore : v.store = s.store := ov .store (by simp)
  have hmode : v.power.mode ≠ .loading := by
    rw [ov .power (by simp)]
    exact hm
  have he : supplyFailRelease s = w.setStore w.store.released := by
    have e1 : supplyFailRelease s = if v.power.mode = .loading then v
        else w.setStore w.store.released := by rw [hw, hx, hv]; exact if_pos hi
    rw [e1, if_neg hmode]
  have D : DeferredApplied x w := by rw [hw]; exact applyDeferred_applied x
  have R := w.store.released_releases
  have ow : OnlyChanges [.register, .store] v w := by
    rw [hw, hx]
    exact ((setRegister_only v _).mono (by simp)).step (applyDeferred_only _) (by simp)
  have hxq : x.register = { s.register with warning := false } := by
    rw [hx]
    change { v.register with warning := false } = _
    rw [hreg]
  have hxs : x.store = s.store := by
    rw [hx]
    exact hstore
  obtain ⟨d1, d2, d3⟩ := D.saves
  have howed := D.owed
  have hregister := D.register
  rw [hxq] at howed hregister
  rw [hxs] at d1 d2 d3
  rw [he]
  refine ⟨?_, ?_, hregister, fun h => ?_, R.main.1.trans d3, R.saving.trans d1, R.erases, fun i h => ?_⟩
  · have h1 : w.supplyFailInput = v.supplyFailInput := ow .supplyFailInput (by simp)
    refine h1.trans ?_
    rw [hv]
    exact releasedSides_input s
  · intro i
    exact Eq.trans (ow (.fill i) (by simp)) (ov (.fill i) (by simp))
  · obtain ⟨j, hj, hk⟩ := howed h
    refine ⟨j, ?_, hk⟩
    change j ∈ w.store.released.waiting
    rw [R.main.2]
    exact hj
  · refine (R.unerased i (by rw [d2]; exact h)).imp id (fun k => ?_)
    unfold Store.eraseRunning at k ⊢
    rw [← d1]
    exact k

/-! ### The save bank at the end of the event -/

/-- An erase that waits or runs in the effect does so at the end of the event (R180). -/
theorem settle_willErase_running {s u : State} {i : Side} (hs : u.store.saving = s.store.saving)
    (h : { kind := .erase, side := i } ∈ u.store.saveWaiting ∨ s.store.eraseRunning i = true) : (settle s u).store.willErase i := by
  rcases h with h | h
  · exact settle_willErase s h
  · have hr := (Store.eraseRunning_iff s.store i).mp h
    obtain ⟨r, hsv, hop⟩ := Option.map_eq_some_iff.mp hr
    have hn : u.store.saving ≠ none := by rw [hs, hsv]; exact Option.some_ne_none r
    refine .inr ⟨r, ?_, hop⟩
    rw [((settle_saveStarts s u).busy hn).1, hs, hsv]

/-- Where only erases wait, only erases start (R103, R180). -/
theorem settle_erases {old u : State} (h : ∀ o ∈ u.store.saveWaiting, o.kind = .erase) :
    (∀ o ∈ (settle old u).store.saveWaiting, o.kind = .erase) ∧
      ∀ o, (settle old u).store.saving = some o → u.store.saving = none → o.op.kind = .erase := by
  have S := settle_saveStarts old u
  by_cases hn : u.store.saving = none
  · have hall (o : SaveOp) (ho : o ∈ ((settle old u).store.saving.map (fun r => r.op)).toList ++ (settle old u).store.saveWaiting) :
        o.kind = .erase := h o (by rw [← S.works hn]; exact ho)
    refine ⟨fun o ho => hall o (List.mem_append_right _ ho), fun o ho _ => hall o.op (List.mem_append_left _ ?_)⟩
    rw [ho]
    exact List.mem_cons_self
  · refine ⟨fun o ho => h o ?_, fun o _ x => absurd x hn⟩
    rw [← (S.busy hn).2]
    exact ho

/-! ### The two events -/

theorem Settled.supplyFailRelease_event {s : State} (hs : Settled s) (hi : s.supplyFailInput = true) (hm : s.power.mode ≠ .loading) :
    let isOwed (r : SaleRecord) : Prop := r.ended = .powerFail ∧ r.flags.restored = false
    let owed : List SaleRecord := (s.register.queues.a ++ s.register.queues.b).filter (fun r => decide (isOwed r))
    ∃ t, exec .supplyFailRelease s = .next t ∧ t.supplyFailInput = false ∧ t.register.warning = false ∧
      (∀ i, t.fill.get i = s.fill.get i ∧ t.register.queues.get i = (s.register.queues.get i).map
        (fun r => if isOwed r then { r with flags := { r.flags with restored := true } } else r)) ∧
      s.register.totals.AddedFrom t.register.totals owed ∧ t.register.next = s.register.next ∧
      (owed ≠ [] → s.store.HasQueued t.store .totalsWrite) ∧
      (∀ i, (s.store.slots.get i).state ≠ .erased → t.store.willErase i) ∧
      (∀ o ∈ t.store.saveWaiting, o.kind = .erase) ∧
      (∀ o, t.store.saving = some o → s.store.saving = none → o.op.kind = .erase) ∧
      OnlyChanges [.supplyFailInput, .register, .store, .display .a, .display .b, .arbiter, .link, .port .a, .port .b] s t := by
  intro isOwed owed
  obtain ⟨u, hu⟩ : ∃ u, u = supplyFailRelease s := ⟨_, rfl⟩
  have W : WarningReleased s u := by rw [hu]; exact supplyFailRelease_released hi hm
  have howed : owed = (s.register.queues.a ++ s.register.queues.b).filter SaleRecord.owed := owed_filter _
  have hreg : (settle s u).register = u.register := settle_register s u
  obtain ⟨hwait, hstart⟩ := settle_erases (old := s) W.erases
  refine ⟨settle s u, by rw [hu]; rfl, by rw [settle_supplyFailInput, W.input], by rw [hreg, W.register], fun i => ⟨?_, ?_⟩, ?_, ?_,
    fun h => ?_, fun i h => settle_willErase_running W.saving (W.unerased i h), hwait, fun o ho hn => hstart o ho (W.saving.trans hn), ?_⟩
  · rw [settle_fill, W.fill]
  · rw [hreg, W.register]
    cases i with
    | a => exact restoreOwed_eq _
    | b => exact restoreOwed_eq _
  · rw [hreg, W.register, howed]
    exact Totals.addOwed_addedFrom _ _ _
  · rw [hreg, W.register]
  · rw [howed] at h
    obtain ⟨j, hj, hk⟩ := W.owed h
    rw [← hk]
    exact settle_hasQueued s hj W.running
  · have ou : OnlyChanges releaseBlocks s u := by rw [hu]; exact supplyFailRelease_only s
    exact (ou.mono (by simp)).settle s hs (by simp) (fun i h => absurd (by cases i <;> simp) h) (fun h => absurd (by simp) h)

/-- What the Sale Register and the store are once they take the warning (R100, R101). -/
theorem takeWarning_takes (v : State) : (takeWarning v).register = { v.register with warning := true } ∧
    (takeWarning v).store = { v.store with
      saveWaiting := v.store.workOf .a v.register.queues.a ++ v.store.workOf .b v.register.queues.b } :=
  ⟨rfl, Store.warned_eq _ _ _⟩

/-- The save work goes by the slots and the running operation alone. -/
theorem Store.workOf_same {t u : Store} (hs : u.slots = t.slots) (hr : u.saving = t.saving) (i : Side) (q : List SaleRecord) :
    u.workOf i q = t.workOf i q := by
  unfold Store.workOf
  rw [hs, hr]

/-- Settles O39: `warnedSides_sides` gives the sides and drivers, `takeWarning_takes` the Sale Register and the save work, and
`settle_saveStarts` what the save bank starts of it. -/
theorem theSupplyFailWarningClosesEverySale : Obligations.TheSupplyFailWarningClosesEverySale := by
  intro s hs
  refine ⟨fun h => hs.event_none (if_pos h), fun h => hs.event_none (if_neg (ne_true_of_eq_false h)), fun hi hm hn => ?_,
    fun hi hm => hs.supplyFailRelease_event hi hm⟩
  obtain ⟨v, hv⟩ : ∃ v, v = warnedSides s := ⟨_, rfl⟩
  obtain ⟨u, hu⟩ : ∃ u, u = takeWarning v := ⟨_, rfl⟩
  have S : SidesWarned s v := by rw [hv]; exact warnedSides_sides s
  have hpow : v.power = s.power := by rw [hv]; exact (warnedSides_warned s).power
  have ou : OnlyChanges [.register, .store] v u := by rw [hu]; exact takeWarning_only v
  have he : supplyFailWarning s = u := by
    rw [supplyFailWarning_eq hi (by rw [← hv, hpow]; exact hm), ← hv, ← hu]
    refine nightIfLast_other ?_
    rw [ou .power (by simp), hpow]
    exact hn
  obtain ⟨hur, hus⟩ := takeWarning_takes v
  rw [← hu] at hur hus
  have hreg : (settle s u).register = { v.register with warning := true } := (settle_register s u).trans hur
  have hrunning : u.store.running = s.store.running := by rw [hus]; exact S.spares.running
  have hsaving : u.store.saving = s.store.saving := by rw [hus]; exact S.spares.saving
  have hwork : u.store.saveWaiting = s.store.workOf .a (v.register.queues.get .a) ++ s.store.workOf .b (v.register.queues.get .b) := by
    rw [hus, ← Store.workOf_same S.spares.slots S.spares.saving, ← Store.workOf_same S.spares.slots S.spares.saving]
    rfl
  obtain ⟨busy, works, rests, records⟩ := settle_saveStarts s u
  rw [hsaving] at busy works rests records
  rw [hwork] at busy works
  refine ⟨settle s u, congrArg Host.Outcome.next (by rw [← he]), ?_, by rw [hreg], by rw [hreg]; exact S.spares.totals,
    by rw [hreg]; exact S.spares.next, ?_, fun p => ?_, ?_, fun i => ?_⟩
  · rw [settle_supplyFailInput]
    exact (ou .supplyFailInput (by simp)).trans S.input
  · rw [hreg]
    intro work
    refine ⟨fun h => busy h, fun h => ⟨works h, rests h, fun r hr hk => ?_⟩⟩
    have := records h r hr hk
    rw [hur] at this
    exact this
  · rw [settle_motors]
    exact (ou (.motor p) (by simp)).trans (S.motors p)
  · exact (S.only.step ou (by simp)).settle s hs (by simp) (fun i h => absurd (by cases i <;> simp) h) (fun h => absurd (by simp) h)
  · have W := S.side i
    have hfill : (settle s u).fill.get i = v.fill.get i := by
      rw [settle_fill]
      exact ou (.fill i) (by simp)
    refine ⟨?_, (congrArg Fill.state hfill).trans W.closed, ?_, by rw [hfill]; exact W.closures, fun c h1 h2 => ?_, fun h => ?_⟩
    · rw [settle_valves]
      exact (ou (.valves i) (by simp)).trans W.valves
    · rw [settle_display, (startDisplay_keepsHead i u).heatWant, ou (.display i) (by simp)]
      exact W.heatWant
    · obtain ⟨hsale, hslot, sold, empty, awaits⟩ := W.sold c h1 h2
      rw [hfill, hreg]
      refine ⟨hsale, hslot, ?_, sold, empty⟩
      obtain ⟨j, hj, hk⟩ := awaits
      rw [← hk]
      exact settle_hasQueued s (by rw [hus]; exact hj) hrunning
    · rw [hreg]
      exact W.queue h

end Sys2Proof.Machine
